-- ==== Sys2Proof/Word.lean ====
section
/-! DEFINITION. The word types of the UHL4800: the 40-bit register word, the byte, and the plainest arithmetic on them. -/

namespace Sys2Proof

/-- A register word: every register and field is numbered [39:0] (00_scope.md, Notation). -/
abbrev Word := BitVec 40

/-- A byte of DRAM, of the Landing, of the flash or of the Stump store. -/
abbrev Byte := BitVec 8

/-- A 40-bit word from a number, modulo 2^40. -/
abbrev Word.of (n : Nat) : Word := BitVec.ofNat 40 n

end Sys2Proof
end

