-- ==== Sys2Proof/Syntax.lean ====
section
/-! DEFINITION. The commands of the UHL4800: one constructor for each row of spec/opcode_table.json, with the operands the
row's rule gives it.

Operands that recur: `o` is the origin of a register access (host or Warden); `w` the word a register write carries, in
which the bits the row is about count as the row says; `p` a Kerf port or a probe, `n` a channel, a camera port or an axis,
`st` a decode stream, `e` an encode stream or a bar port (0 east, 1 west), `l` a lane (0 to 7 host, 8 to 11 bar), `q` a DRAM
subchannel, `b` a block, a bus or a bank, `c` a lamp or copy channel, `d` a display output or a power domain, `k` a
slot, a pipeline or a rectangle. `dt`, `delay` and `age` are CK_CORE cycles, `dly` microseconds, `gap` seconds since the
last takeover. `hseq`, `orig` and `hop` are the header fields of a bar message (Table 11-2), `seq` the sequence number
of a host-link packet (Table 12-4) and `words` its body without the CRC word. What a memory's check code or a packet's
check word reports is an operand too: the environment, not the block, decides it. -/

namespace Sys2Proof

/-- The origin of a register access (R154): the host, the active Warden core, the configuration loader. -/
inductive Origin where
  | host | warden | loader
  deriving DecidableEq, Repr

/-- Who sends a register command: the host (through the link or the debug port) or the active Warden core. -/
inductive Sender where
  | host | warden
  deriving DecidableEq, Repr

/-- What the SFDP header and the Basic Flash Parameter Table say (R282): where the table starts and its length in 32-bit
words, log2 of the flash size in bytes, the dummy cycles and mode clocks of 1-4-4 fast read where it is offered, those of
1-1-4, the QER field. -/
structure Sfdp where
  ptr : BitVec 24
  dwords : BitVec 8
  dens : BitVec 8
  fast144 : Option (BitVec 5 × BitVec 3)
  fast114 : BitVec 5 × BitVec 3
  qer : Fin 8
  deriving DecidableEq, Repr

/-- What the loader has read when PASS1_DONE comes: the SFDP tables, no SFDP signature, or the bytes of the slot whose
turn it is (R282, R288). -/
inductive LoadEv where
  | sfdp (t : Sfdp)
  | noSfdp
  | image (img : List Byte)
  deriving DecidableEq, Repr

/-- The origin of a sender's accesses. -/
def Sender.origin : Sender → Origin
  | .host => .host
  | .warden => .warden

/-- What a host-link packet meets on its way in (R257): nothing; a body CRC mismatch; a header with LEN = 0, so that no body
word follows; or that its class's credit for `n` blocks of earlier packets has not been returned yet (R260). -/
inductive PktFault where
  | none | crc | empty
  | behind (n : Nat)
  deriving DecidableEq, Repr

/-- What the memories report while a block is decoded: an uncorrectable error in the stream's context, in the remap
table, in a calibration bank, and a corrected one there. -/
structure DecFaults where
  ctxEcc : Bool
  rmapEcc : Bool
  bankEcc : Bool
  bankCorr : Bool
  deriving DecidableEq, Repr

/-- What the memories read in the assembly of a line report: an uncorrectable error in a row or in the delay table
(port and channel), a corrected one, and the same for a bank word. -/
structure LineFaults where
  lbEcc : Option (Nat × Nat)
  lbCorr : Bool
  bankEcc : Bool
  bankCorr : Bool
  deriving DecidableEq, Repr

/-- The first failing memory bit of a domain under BIST: instance, word address, bit. -/
structure MemFail where
  inst : Nat
  addr : Nat
  bitNo : Nat
  deriving DecidableEq, Repr

/-- A command: one constructor for each row of the table, those with operands first (Lean's runtime numbers at most 244
constructors with operands). -/
inductive Instr where
  /-- REGISTER_WRITE (R4): A write to a register that has no row of its own acts on each field under its access
  code. -/
  | registerWrite (o : Sender) (a : BitVec 24) (w : Word)
  /-- JOBDESC (R256): A JOBDESC packet is performed by placing its descriptor in the job queue. -/
  | jobdesc (seq : BitVec 8) (words : List Word) (f : PktFault)
  /-- JOBQ_RELEASE (R20): A write of SYS_JOBQ_REL.REL_IDX one past a job descriptor releases that job. -/
  | jobqRelease (o : Sender) (w : Word)
  /-- JOBQ_FLUSH (R24): SYS_JOBQ_CTL.FLUSH discards every entry from RD_IDX and fails a job in progress with
  cause 0x0A. -/
  | jobqFlush (o : Sender) (w : Word)
  /-- JOBQ_ENABLE (R24): A write of SYS_JOBQ_CTL.ENABLE lets the data path start released jobs or holds it after
  the current job. -/
  | jobqEnable (o : Sender) (w : Word)
  /-- LINE_DECISION (R97): The decision position reaches half a sixteenth before line n and the firing engine
  decides line n. -/
  | lineDecision (dt : Nat) (f : LineFaults)
  /-- PORT_GO (R97): A port's fire position reaches the line target and the port sends GO for line n. -/
  | portGo (p : Fin 48)
  /-- STROBE_ISSUE (R100): A port's fire position reaches phase k of a launched line and it issues the STROBE
  slot. -/
  | strobeIssue (p : Fin 48)
  /-- KERF_ACK (R108): An ACK packet is received on a Kerf return lane for a LINE, TABLE, WAVE or CMD packet. -/
  | kerfAck (p : Fin 48) (kind : BitVec 8) (ref : BitVec 24) (status : BitVec 8)
  /-- TEMP_PACKET (R111): A TEMP packet updates temperatures, valid sets and head status of a port. -/
  | tempPacket (p : Fin 48) (t0 t1 : BitVec 16) (ready supply hot : Bool) (wvalid : BitVec 8)
  /-- TEST_PACKET (R112): A TEST packet segment is written to the self-test bitmap, and after eight segments
  TEST_DONE is set. -/
  | testPacket (p : Fin 48) (seg : Fin 8) (bytes : List Byte)
  /-- TEL_CRC (R108): A return packet with a bad CRC or reserved TYPE is discarded and TEL_CRC is set. -/
  | telCrc (p : Fin 48)
  /-- TABLE_ACK_TIMEOUT (R107): No ACK for a TABLE packet arrives within 100 µs and the attempt counts as failed.
  -/
  | tableAckTimeout (p : Fin 48) (code : BitVec 8)
  /-- WAVE_ACK_TIMEOUT (R103): No ACK for a WAVE packet arrives within 100 µs and the load ends with WLOAD_ERR.
  -/
  | waveAckTimeout (p : Fin 48)
  /-- TEST_TIMEOUT (R112): Self-test segments are missing 50 ms after the command and TEST_REJ is set. -/
  | testTimeout (p : Fin 48)
  /-- TEL_LOST (R111): A port's telemetry AGE exceeds TIMEOUT, TEL_LOST is set and TEL_ACT applies. -/
  | telLost (p : Fin 48)
  /-- WLOAD_GO (R103): FIRE_WLOAD.GO starts a waveform load of NSEG segments or refuses it with WLOAD_REJ. -/
  | wloadGo (o : Sender) (p : Fin 48) (w : Word)
  /-- FIRE_TEST_GO (R112): FIRE_TEST.GO sends CMD 0x01 to start the head self-test, only in IDLE. -/
  | fireTestGo (o : Sender) (p : Fin 48)
  /-- LINK_EN (R110): A write of FIRE_PORTCTL.LINK_EN starts training from OFF or returns the port to OFF. -/
  | linkEn (o : Sender) (p : Fin 48) (w : Word)
  /-- KERF_RUN (R110): A write of FIRE_PORTCTL.RUN requests entry to RUN or returns the port to IDLE after the
  line in progress. -/
  | kerfRun (o : Sender) (p : Fin 48) (w : Word)
  /-- HEN (R113): A write of FIRE_PORTCTL.HEN requests the head enable, and a 1 clears the HEAD_FAULT latch. -/
  | hen (o : Sender) (p : Fin 48) (w : Word)
  /-- KERF_RUN_ENTER (R110): A port enters RUN once RUN is set, HEAD_EN has been high for SETTLE µs and the head
  reports READY. -/
  | kerfRunEnter (p : Fin 48)
  /-- TRAIN_FAIL (R110): A Kerf port spends 1 ms in TRAIN, sets TRAIN_FAIL and restarts training. -/
  | trainFail (p : Fin 48)
  /-- LINK_DOWN (R110): Kerf return-lane alignment is lost, LINK_DOWN is set, HEAD_EN falls and the port
  retrains. -/
  | linkDown (p : Fin 48)
  /-- DLY_WRITE (R94): A write of FIRE_DLYDATA writes three delay-table entries or is refused with DLY_REJ. -/
  | dlyWrite (o : Sender) (p : Fin 48) (w : Word)
  /-- ENCODER_EDGE (R34): An accepted change on an encoder A or B input is decoded into a count. -/
  | encoderEdge (n : Fin 2) (a b : Bool) (dt : Nat)
  /-- INDEX_EVENT (R37): An index event, a Z rise or tooth gap, is checked against PERIOD and applies IDX_ACT on
  a mismatch. -/
  | indexEvent (n : Fin 2)
  /-- WIRE_DISAGREEMENT (R31): A pair stays in wire disagreement beyond WIRE_DLY cycles, sets WIRE and holds the
  input. -/
  | wireDisagreement (n : Fin 2) (pair : Fin 3)
  /-- POS_ENABLE (R41): A write of POS_CTL.ENABLE starts the position unit in ACQUIRE or freezes it in OFF. -/
  | posEnable (o : Sender) (w : Word)
  /-- REARM (R41): POS_CTL.REARM leaves FAULTY unless a wire disagreement is held. -/
  | rearm (o : Sender) (w : Word)
  /-- PROBE_EDGE (R44): A filtered probe edge latches a position stamp into the probe FIFO. -/
  | probeEdge (p : Fin 4) (falling : Bool)
  /-- PROBE_FIFO_POP (R48): A read of POS_PROBEFIFO returns and pops the oldest stamp. -/
  | probeFifoPop (o : Sender) (p : Fin 4)
  /-- BLOCK_RELEASE (R81): A fetched block is released to the codec when the forward position reaches L −
  DEC_AHEAD. -/
  | blockRelease (st : Fin 56)
  /-- BLOCK_DECODE (R67): An idle engine loads the context, decodes a block into the line buffer and saves the
  context. -/
  | blockDecode (st : Fin 56) (f : DecFaults)
  /-- CTX_XFER_GO (R66): CODEC_CTXXFER.GO starts a context save or load, or refuses it with CTX_BUSY. -/
  | ctxXferGo (o : Sender) (w : Word)
  /-- ENC_CFG_WRITE (R69): A write of CODEC_ENCCFG configures an encode stream, resetting pool use on ENABLE or
  refusing RATIO 0. -/
  | encCfgWrite (o : Sender) (e : Fin 8) (w : Word)
  /-- BAND_NEXT (R69): CODEC_ENCCFG.BAND_NEXT makes the next encoded block open a band. -/
  | bandNext (o : Sender) (e : Fin 8) (w : Word)
  /-- ENC_BLOCK (R68): The encoder codes eight input lines into a block, spilling to its pool. -/
  | encBlock (e : Fin 8)
  /-- DESCRIPTOR_READ (R76): A Skidder descriptor read returns and an owned descriptor is checked. -/
  | descriptorRead (st : Fin 56)
  /-- DESCRIPTOR_POLL (R75): An unowned descriptor is re-read every POLL lines. -/
  | descriptorPoll (st : Fin 56)
  /-- FETCH_DEADLINE (R81): The forward position reaches a block's fetch deadline and its raster presence is
  decided. -/
  | fetchDeadline (st : Fin 56)
  /-- SLOT_FETCH_DONE (R81): The slot and spill data of a block have been fetched from DRAM. -/
  | slotFetchDone (st : Fin 56)
  /-- LATE (R82): A block's line 7 is not in the line buffer when the forward position reaches L. -/
  | late (st : Fin 56)
  /-- DESC_WRITEBACK (R74): The Skidder writes back a descriptor once its blocks are decoded and any barrier
  condition holds. -/
  | descWriteback (st : Fin 56)
  /-- RMAP_WRITE (R87): A write of SKID_RMAPDATA writes a remap word or is refused with RMAP_REJ or RMAP_RANGE.
  -/
  | rmapWrite (o : Sender) (w : Word)
  /-- CAL_BANK_WRITE (R145): A write of CAL_BANKDATA writes the shadow bank or is refused with BANK_REJ. -/
  | calBankWrite (o : Sender) (w : Word)
  /-- LOG_REJ (R151): A write of CAL_LOGBASE or CAL_LOGCFG with entries outstanding is ignored and sets LOG_REJ.
  -/
  | logRej (o : Sender) (cfg : Bool) (w : Word)
  /-- TXN_BEGIN (R159): TXN_CMD.BEGIN opens a transaction in the issuer's context or sets CMD_SEQ. -/
  | txnBegin (o : Sender)
  /-- TXN_ROLLBACK (R169): TXN_CMD.ROLLBACK discards the issuer's open transaction. -/
  | txnRollback (o : Sender)
  /-- TXN_STAGE_WRITE (R160): A write to an RWS register inside an open transaction is staged or rejected with
  STAGE_REJ. -/
  | txnStageWrite (o : Sender) (a : BitVec 24) (w : Word) (parity : Bool)
  /-- TXN_ARM (R162): TXN_ARM.GO gives the transaction a sequence number, makes the arming checks and arms or
  aborts it. -/
  | txnArm (o : Sender) (w : Word) (parity : Bool)
  /-- TXN_SLOT_CANCEL (R169): TXN_SLOTCMD.CANCEL aborts an armed transaction before preparation or is refused. -/
  | txnSlotCancel (o : Sender) (k : Fin 16)
  /-- TXN_TIME_TRIGGER (R166): A time-mode trigger commits at once when quiet or resolves to line D + 1. -/
  | txnTimeTrigger (k : Fin 16)
  /-- RLOG_REJ (R175): A write of TXN_RLOGBASE or TXN_RLOGCFG with records outstanding is ignored and sets
  RLOG_REJ. -/
  | rlogRej (o : Sender) (cfg : Bool) (w : Word)
  /-- TALLY_SNAPSHOT (R158): TALLY_SNAPCTL.GO copies all counters into the snapshot store with a stamp. -/
  | tallySnapshot (o : Sender)
  /-- SNAPDATA_READ (R434): A read of TALLY_SNAPDATA returns a snapshot value and advances the index under
  AUTOINC. -/
  | snapdataRead (o : Sender)
  /-- FRAME_START (R183): A CSI-2 frame start opens a frame, pops the trigger FIFO and may make a settings
  activation. -/
  | frameStart (n : Fin 8) (vc : Fin 4) (hdr : Fin 3)
  /-- LINE_PACKET (R180): A CSI-2 long packet carrying one line enters the port's staging store. -/
  | linePacket (n : Fin 8) (vc : Fin 4) (dt : BitVec 6) (hdr : Fin 3) (crcOk : Bool) (pixels : List (BitVec 14))
  /-- FRAME_END (R180): A CSI-2 frame end closes the frame after HEIGHT lines or drops it. -/
  | frameEnd (n : Fin 8) (vc : Fin 4) (hdr : Fin 3)
  /-- LANE_ERR (R180): A D-PHY sync error or failed deskew discards the packet. -/
  | laneErr (n : Fin 8)
  /-- TRIGGER_CROSS (R181): A port's trigger position crosses its target and a trigger pulse and strobe request
  are made or skipped. -/
  | triggerCross (n : Fin 8) (cycles : Nat)
  /-- TRIGGER_PULSE_END (R182): A camera trigger pulse ends after WIDTH µs. -/
  | triggerPulseEnd (n : Fin 8)
  /-- PIPE_LINE (R185): A pipeline takes a staged line and processes it into DRAM, the Scaler and the statistics.
  -/
  | pipeLine (k : Fin 4) (err : Fin 3)
  /-- PUBLISHED (R193): All lines of a frame are processed and the frame is published with its header. -/
  | published (n : Fin 8) (ecc : List Nat) (lost : List (Nat × Nat))
  /-- PORT_ENABLE (R179): A write of VIS_PORTCFG.EN enables a camera port or is refused with CFG_REJ. -/
  | portEnable (o : Sender) (n : Fin 8) (w : Word)
  /-- PIPE_CFG_WRITE (R185): A write of VIS_PIPECFG sets a pipeline's mode and inputs or is refused. -/
  | pipeCfgWrite (o : Sender) (k : Fin 4) (w : Word)
  /-- FF_WRITE (R190): A write of VIS_FFDATA writes flat-field gains or is refused with FF_REJ. -/
  | ffWrite (o : Sender) (n : Fin 8) (w : Word)
  /-- CCI_CMD (R200): VIS_CCICMD.GO issues one transfer on a camera control bus. -/
  | cciCmd (o : Sender) (b : Fin 4) (w : Word)
  /-- CCI_TRANSFER_DONE (R197): A control-bus transfer completes, acknowledged or with SENS_NAK. -/
  | cciTransferDone (b : Fin 4) (ack : Bool) (data : BitVec 16)
  /-- REF_ROW_WRITE (R204): A reference row is complete and written to the reference ring. -/
  | refRowWrite (row : Nat)
  /-- SCALER_ENABLE (R207): A write of VIS_SCCFG.EN = 1 starts the Scaler and clears the health map. -/
  | scalerEnable (o : Sender) (w : Word)
  /-- HM_WRITE (R208): A write of VIS_HMDATA writes a health-map entry or is refused with CFG_REJ. -/
  | hmWrite (o : Sender) (w : Word)
  /-- HM_FIFO_POP (R208): A read of VIS_HMFIFO returns and pops the oldest change entry. -/
  | hmFifoPop (o : Sender)
  /-- BEACON (R223): A follower takes a BEACON message and resets its position state. -/
  | beacon (e : Fin 2) (hseq : BitVec 8) (orig hop : Fin 16) (w0 w1 w2 : Word) (delay : Nat)
  /-- PMARK (R225): A follower takes a PMARK and uses it as a page-mark stamp. -/
  | pmark (e : Fin 2) (hseq : BitVec 8) (orig hop : Fin 16) (t : Word)
  /-- WRITES (R227): A WRITES message delivers distributed staged writes, kept when the mask names this chip. -/
  | writes (e : Fin 2) (hseq : BitVec 8) (orig hop : Fin 16) (ws : List Word)
  /-- PREP (R228): A member takes PREP, stages its share, checks it and floods a VOTE. -/
  | prep (e : Fin 2) (hseq : BitVec 8) (orig hop : Fin 16) (w0 w1 w2 : Word)
  /-- VOTE (R228): A VOTE is taken, and the exchange arms on all YES votes or aborts on a NO. -/
  | vote (e : Fin 2) (hseq : BitVec 8) (orig hop : Fin 16) (w : Word)
  /-- TRIG (R230): A TRIG turns a distributed network-time transaction into a commit at line m. -/
  | trig (e : Fin 2) (hseq : BitVec 8) (orig hop : Fin 16) (w : Word)
  /-- ARRIVE (R233): An ARRIVE is taken, and the barrier completes once every member has arrived. -/
  | arrive (e : Fin 2) (hseq : BitVec 8) (orig hop : Fin 16) (jobId pageNo : BitVec 16)
  /-- GOP (R234): A GOP message starts a bar-wide snapshot or reset on the member. -/
  | gop (e : Fin 2) (hseq : BitVec 8) (orig hop : Fin 16) (op : BitVec 2) (l : BitVec 24)
  /-- MAP (R236): A MAP message updates membership and may move the chip to FOLLOW, ALONE or ISOLATED. -/
  | map (e : Fin 2) (hseq : BitVec 8) (orig hop : Fin 16) (ids : BitVec 16) (gen : BitVec 8)
  /-- JOIN (R235): The leader takes a JOIN and adds the chip in a new MAP. -/
  | join (e : Fin 2) (hseq : BitVec 8) (orig hop : Fin 16)
  /-- LEAVE (R235): The leader takes a LEAVE and removes the chip in a new MAP. -/
  | leave (e : Fin 2) (hseq : BitVec 8) (orig hop : Fin 16)
  /-- BREAK (R232): A BREAK is taken, armed distributed transactions are cancelled and the leader prunes members.
  -/
  | breakMsg (e : Fin 2) (hseq : BitVec 8) (orig hop : Fin 16) (west : Bool)
  /-- TIME (R239): A follower in SRC = BAR takes a TIME message and loads and corrects its network time. -/
  | time (e : Fin 2) (hseq : BitVec 8) (orig hop : Fin 16) (w0 w1 w2 : Word) (delay : Nat)
  /-- BAR_ACK (R221): An ACK on a bar hop acknowledges held messages. -/
  | barAck (e : Fin 2) (hseq : BitVec 8)
  /-- MSG_CRC (R221): A bar message with a bad CRC or reserved TYPE is discarded. -/
  | msgCrc (e : Fin 2) (hdr : Word) (body : List Word)
  /-- HOP_RETRY (R221): No ACK after 100 ns resends unacknowledged messages, and a fourth failure takes the port
  down. -/
  | hopRetry (e : Fin 2)
  /-- BAR_PORT_ALIGN (R219): A bar port becomes aligned and measures HOPDLY by ECHO exchanges. -/
  | barPortAlign (e : Fin 2) (skew0 skew1 : Nat) (echoes : List (Nat × Nat)) (nbr : Fin 16)
  /-- BEACON_SEND (R222): The leader's forward position crosses a line boundary and it sends a BEACON. -/
  | beaconSend (age : Nat)
  /-- BEACON_KEEPALIVE (R222): The leader sends a keep-alive BEACON after 8,192 cycles without one. -/
  | beaconKeepalive (age : Nat)
  /-- BAR_EN (R236): A write of BAR_CTL.EN takes the chip into LEAD or JOINING, or back to ALONE. -/
  | barEn (o : Sender) (w : Word)
  /-- BAR_LEAVE (R236): BAR_CTL.LEAVE sends LEAVE and waits for a MAP without the chip's ID. -/
  | barLeave (o : Sender) (w : Word)
  /-- REJOIN (R236): BAR_CTL.REJOIN sends JOIN from ISOLATED for a follower. -/
  | rejoin (o : Sender) (w : Word)
  /-- SNAPSHOT_AT_LINE (R234): BAR_GOP OP 0b00 floods a GOP for a Tally snapshot at line m. -/
  | snapshotAtLine (o : Sender)
  /-- SNAPSHOT_NOW (R234): BAR_GOP OP 0b01 floods a GOP for an immediate Tally snapshot. -/
  | snapshotNow (o : Sender)
  /-- BAR_RESET (R234): BAR_GOP OP 0b10 floods a GOP for a bar-wide system reset. -/
  | barReset (o : Sender)
  /-- TIME_SEND (R239): The leader sends a TIME message every IVL ms. -/
  | timeSend (age : Nat)
  /-- TIME_S_READ (R238): A read of ETH_TIME_S returns seconds and latches the whole counter. -/
  | timeSRead (o : Sender)
  /-- TIME_S_WRITE (R238): A write of ETH_TIME_S sets the held seconds value. -/
  | timeSWrite (o : Sender) (w : Word)
  /-- TIME_NS_WRITE (R238): A write of ETH_TIME_NS loads the network time counter. -/
  | timeNsWrite (o : Sender) (w : Word)
  /-- TIME_STEP (R238): A write of ETH_TSTEP adds a signed step to network time. -/
  | timeStep (o : Sender) (w : Word)
  /-- SCHEDULED_LAUNCH (R240): Network time reaches a queued launch time and the frame is sent. -/
  | scheduledLaunch (sec : BitVec 48) (ns : BitVec 32) (frame : List Byte)
  /-- ONE_STEP_INSERT (R240): A Sync or Delay_Req frame leaves with network time inserted in originTimestamp. -/
  | oneStepInsert (frame : List Byte)
  /-- BLOCK_LOCK (R251): A lane sees 64 consecutive valid headers and becomes block-locked. -/
  | blockLock (l : Fin 12)
  /-- LOCK_LOST_LANE (R251): 16 invalid headers within 64 blocks take the lane out of lock. -/
  | lockLostLane (l : Fin 12) (errs : Nat) (lost : Bool)
  /-- STUFF_ERR (R246): A stuffed bit of the wrong value is dropped and its block's header is invalid. -/
  | stuffErr (l : Fin 12)
  /-- TRAIN (R252): A TRAIN control block is received and drives host-link training. -/
  | train (remote : BitVec 8) (conf : Bool) (width : Fin 4) (srst : Bool) (skews : List Nat)
  /-- FILLER (R249): A FILLER column is received and the elastic store deletes or inserts a column. -/
  | filler (g : Fin 3) (level : Fin 33) (fseq skews : List Nat)
  /-- EB_ERR (R249): The elastic store overflows or underflows and the link retrains. -/
  | ebErr (g : Fin 3)
  /-- ACK (R258): An ACK control block acknowledges upstream packets. -/
  | ack (seq : BitVec 8)
  /-- NAK (R259): A NAK control block triggers a replay of unacknowledged upstream packets. -/
  | nak (seq : BitVec 8)
  /-- CREDIT (R260): A CREDIT block raises a class's cumulative limit. -/
  | credit (cls : Fin 4) (limit : BitVec 30)
  /-- REG_WR (R255): A REG_WR packet performs its writes and returns a REG_RESP. -/
  | regWr (seq : BitVec 8) (words : List Word) (f : PktFault)
  /-- REG_RD (R255): A REG_RD packet performs its reads and returns a REG_RESP with the data. -/
  | regRd (seq : BitVec 8) (words : List Word) (f : PktFault)
  /-- RASTER (R256): A RASTER packet writes its bytes to DRAM and is performed when committed. -/
  | raster (seq : BitVec 8) (words : List Word) (f : PktFault)
  /-- HLNK_EN (R252): A write of HLNK_CTL.EN starts host-link training or takes the link DOWN. -/
  | hlnkEn (o : Sender) (w : Word)
  /-- RETRAIN (R252): HLNK_CTL.RETRAIN takes the link to TRAIN. -/
  | retrain (o : Sender) (w : Word)
  /-- PRBS_CTL (R253): A write of HLNK_LPRBS starts or stops the PRBS31 generator and checker or is refused. -/
  | prbsCtl (o : Sender) (l : Fin 12) (w : Word)
  /-- ERR_INJ (R253): HLNK_LPRBS.ERR_INJ inverts one transmitted PRBS bit. -/
  | errInj (o : Sender) (l : Fin 12) (w : Word)
  /-- DRAM_WRITE_REQUEST (R272): A client write enters the write queues and is committed, or is discarded. -/
  | dramWriteRequest (client : Fin 12) (addr : BitVec 40) (bytes : List Byte)
  /-- DRAM_READ_REQUEST (R272): A client read enters its read queue, after draining matching writes. -/
  | dramReadRequest (client : Fin 12) (addr : BitVec 40) (n : Nat)
  /-- DRAM_READ_COMPLETE (R268): Read data is decoded and delivered clean, corrected or poisoned. -/
  | dramReadComplete (q : Fin 4) (busy : List Nat) (errs : List (Nat × Nat))
  /-- SCRUB (R271): Every INTERVAL µs the scrubber reads one burst per subchannel. -/
  | scrub (errs : List (Nat × Nat))
  /-- REFRESH (R275): A same-bank refresh falls due, and a fifth postponed one is forced. -/
  | refresh (q : Fin 4) (rank : Fin 2) (draining : Bool)
  /-- MR4_POLL (R275): Every POLL ms MR4 is read and the refresh rate adjusted. -/
  | mr4Poll (rr0 rr1 rr2 rr3 : Fin 8) (above1x hot : Bool)
  /-- PAGE_IDLE_CLOSE (R274): An open row idle for IDLE cycles is closed. -/
  | pageIdleClose (q : Fin 4) (rank : Fin 2) (group : Fin 8) (bank : Fin 4)
  /-- DRAM_INIT (R278): DRAM_CTL.INIT starts initialisation or a retained start, or fails it. -/
  | dramInit (o : Sender) (w : Word)
  /-- DRAM_CHECK_DONE (R278): The check comparisons end and the controller enters ZERO, RUN or FAILED. -/
  | dramCheckDone (failq : BitVec 4)
  /-- PASS1_DONE (R288): Pass 1 of a slot ends, accepting it for pass 2 or rejecting it. -/
  | pass1Done (e : LoadEv)
  /-- REGSET (R286): A REGSET record writes its registers through the loader origin. -/
  | regset (varmask : BitVec 8) (l : List (BitVec 24 × Word))
  /-- TRAIN_RECORD (R286): A TRAIN record writes the DRAM training registers. -/
  | trainRecord (varmask : BitVec 8) (ws : List Word)
  /-- EQ (R286): An EQ record writes the lane equalisation registers. -/
  | eq (varmask : BitVec 8) (ws : List Word)
  /-- REMAP (R286): A REMAP record loads remap entries through the remap window. -/
  | remap (varmask : BitVec 8) (first : Nat) (ws : List Word)
  /-- DELAY (R286): A DELAY record loads delay-table words through the delay window. -/
  | delay (varmask : BitVec 8) (p : Fin 48) (first : Nat) (ws : List Word)
  /-- CALBANK (R287): A CALBANK record loads bank words through the CAL bank window. -/
  | calbank (varmask : BitVec 8) (p : Fin 48) (table : Fin 4) (first : Nat) (ws : List Word)
  /-- DRAMDATA (R290): A DRAMDATA record writes bytes to DRAM once the controller is in RUN. -/
  | dramdata (varmask : BitVec 8) (unit : BitVec 32) (bytes : List Byte)
  /-- FWPATCH (R335): A FWPATCH record places a patch image in the patch store. -/
  | fwpatch (varmask : BitVec 8) (id : BitVec 16) (bytes : List Byte)
  /-- END (R292): The END record completes pass 2, and on a match the loader releases HEAD_EN and Warden A. -/
  | loadEnd (varmask : BitVec 8) (check : BitVec 32) (patchOk : Bool)
  /-- RELOAD (R293): CFG_CTL.RELOAD applies a system reset with cause 0x05 and a new load. -/
  | reload (o : Sender) (w : Word)
  /-- FROM_B (R289): CFG_CTL.FROM_B with RELOAD skips slot A once at the next load. -/
  | fromB (o : Sender)
  /-- FLASH_CMD (R296): CFG_FLCMD.GO sends one flash command or is refused with FL_REJ. -/
  | flashCmd (o : Sender) (w : Word)
  /-- FL_DONE (R296): A flash command ends and FL_DONE is set. -/
  | flDone (bytes : List Byte)
  /-- STUMP_READ (R299): CFG_STCMD OP read reads one Stump store word. -/
  | stumpRead (o : Sender) (a : BitVec 13) (ecc : Fin 3) (raw : BitVec 64)
  /-- STUMP_PROGRAM (R299): CFG_STCMD OP program starts a 40 µs program pulse or is refused. -/
  | stumpProgram (o : Sender) (a : BitVec 13) (unlock : BitVec 8)
  /-- STUMP_ERASE (R299): CFG_STCMD OP erase starts a 2.5 ms sector erase or is refused. -/
  | stumpErase (o : Sender) (a : BitVec 13) (unlock : BitVec 8)
  /-- SYS_RESET_CMD (R302): SYS_RSTCMD.SYS with KEY 0x5A requests a system reset of cause 0x04. -/
  | sysResetCmd (o : Sender) (w : Word)
  /-- CORE_RESET_CMD (R306): SYS_RSTCMD.CORE with KEY 0x5A starts a core reset of the Warden cores. -/
  | coreResetCmd (o : Sender) (w : Word)
  /-- SYSTEM_RESET_APPLY (R305): 1.0 µs after the request, or at the end of a Stump pulse, the system reset is
  applied. -/
  | systemResetApply (dly : Nat)
  /-- RESET_RELEASE (R315): The system reset is released with every block held and the loader starts. -/
  | resetRelease (barId : Fin 16) (var : Fin 8) (bistLow : Bool)
  /-- CORE_RESET_RELEASE (R306): After 64 cycles the active Warden core is released with its checkpoint. -/
  | coreResetRelease (dly : Nat) (patchOk : Bool)
  /-- BLOCK_RESET_ASSERT (R308): A SYS_BLKRST bit written 1 isolates the block and drains its transfers. -/
  | blockResetAssert (o : Sender) (b : Fin 70)
  /-- BLOCK_RESET_DRAINED (R308): No transfer is outstanding and the block's reset is asserted. -/
  | blockResetDrained (b : Fin 70) (n : Nat)
  /-- BLOCK_RELEASE_REQUEST (R309): A SYS_BLKRST bit written 0 requests release and sets SYS_RSTPEND. -/
  | blockReleaseRequest (o : Sender) (b : Fin 70)
  /-- RST_STALL (R309): A release still pending after 100 µs sets RST_STALL. -/
  | rstStall (b : Fin 70)
  /-- LANE_PLL_LOCK (R320): A lane PLL locks. -/
  | lanePllLock (g : Fin 15)
  /-- LPLL_LOST (R321): A lane PLL loses lock and its lanes lose alignment. -/
  | lpllLost (g : Fin 15)
  /-- LREF_MEASURE (R322): Each 1 ms window the lane-reference cycle count is checked. -/
  | lrefMeasure (r : Fin 2) (count : BitVec 18)
  /-- SUP_LOST (R325): A monitored rail is lost for 2 µs, and its blocks are held or a reset is requested. -/
  | supLost (r : Fin 8)
  /-- RAIL_VALID (R414): A rail stays above its rising threshold for 2 µs and is reported valid. -/
  | railValid (r : Fin 8)
  /-- PD_SWITCH_REQUEST (R327): A SYS_PDCTL write with KEY 0xC3 requests domain switches or is refused. -/
  | pdSwitchRequest (o : Sender) (w : Word)
  /-- PD_RAIL_GOOD (R328): A switching-on domain's rail is good, its SRAMs are cleared and it turns ON. -/
  | pdRailGood (d : Fin 10)
  /-- PD_OFF_DONE (R328): A switching-off domain's rail falls below 0.1 V and it is OFF. -/
  | pdOffDone (d : Fin 10)
  /-- PD_FAIL (R328): A domain's rail is not good 100 µs after switch-on and the switch is opened. -/
  | pdFail (d : Fin 10)
  /-- HEARTBEAT (R336): A WARD_HB write from the active core is accepted or is a sequence error. -/
  | heartbeat (token : BitVec 16) (gap : Nat)
  /-- HEARTBEAT_MISSED (R337): The heartbeat deadline passes, a failover trigger arises and the Spotter takes
  over or escalates. -/
  | heartbeatMissed (gap : Nat)
  /-- CORE_ERR (R337): The active core signals an uncorrectable error or lock-up, a failover trigger. -/
  | coreErr (gap : Nat)
  /-- REL_STALL (R337): A job descriptor unreleased for REL_TMO ms is a failover trigger. -/
  | relStall (gap : Nat)
  /-- BUS_STALL (R337): A register bus access uncompleted for 20 µs is marked a stall. -/
  | busStall (present : Bool)
  /-- TAKEOVER_RELEASE (R340): With the standby domain ON, ACTIVE changes and the incoming core is released. -/
  | takeoverRelease (dly : Nat) (patchOk : Bool)
  /-- ISO_DONE (R341): The outgoing wrapper has drained and the overlap window ends. -/
  | isoDone (ws : List (BitVec 24 × Word))
  /-- CKPT_READY (R344): Both checkpoint copies are verified and the newer valid one is chosen. -/
  | ckptReady (ecc0 ecc1 : Bool)
  /-- SEAL (R343): WARD_CKPT.SEAL starts sealing a checkpoint copy or is refused. -/
  | seal (copy : Fin 2)
  /-- SEAL_DONE (R343): After 27.3 µs the copy's CRC is stored and VALID is set. -/
  | sealDone (copy : Fin 2)
  /-- SWAP (R346): WARD_SWAP OP SWAP tests the standby and requests a hand-over. -/
  | swap (key : BitVec 8)
  /-- TEST (R346): WARD_SWAP OP TEST runs BIST and standby check on the standby. -/
  | test (key : BitVec 8)
  /-- WARD_REARM (R346): WARD_SWAP OP REARM leaves HALTED and resumes watching. -/
  | wardRearm (key : BitVec 8)
  /-- SELFRST (R348): WARD_CTL.SELFRST with KEY from the active core starts a core reset. -/
  | selfrst (key : BitVec 8)
  /-- SBCHK_RESULT (R345): The standby-check core writes RESULT and SB_STATE becomes READY or FAILED. -/
  | sbchkResult (r : BitVec 8)
  /-- LANDING_READ (R434): A read of WARD_LDATA returns Landing data and advances under AUTOINC. -/
  | landingRead (o : Sender)
  /-- MOVE_PUSH (R353): A write of MOT_QW2 pushes a move or is discarded. -/
  | movePush (o : Sender) (n : Fin 8) (w : Word)
  /-- MOT_GO (R358): MOT_CMD.GO is a start event for a HOLD move or is held pending. -/
  | motGo (o : Sender) (n : Fin 8)
  /-- HALT (R360): MOT_CMD.HALT finishes the move in progress and flushes the queue. -/
  | halt (o : Sender) (n : Fin 8)
  /-- STOP (R360): MOT_CMD.STOP stops the axis within one cycle. -/
  | stop (o : Sender) (n : Fin 8)
  /-- SYNC (R359): MOT_CMD.SYNC takes enc0 and pos0 and clears SUSPECT. -/
  | sync (o : Sender) (n : Fin 8)
  /-- AXIS_ENABLE (R361): A write of MOT_AXCFG.EN enables or disables an axis. -/
  | axisEnable (o : Sender) (n : Fin 8) (w : Word)
  /-- MOT_POS_WRITE (R352): A write of MOT_POS sets the commanded position in IDLE or is refused. -/
  | motPosWrite (o : Sender) (n : Fin 8) (w : Word)
  /-- STEP (R354): An axis interval elapses and one step is issued. -/
  | step (n : Fin 8)
  /-- MOVE_DONE (R358): SETTLE µs after a MARK move's last step the move-complete report is made. -/
  | moveDone (n : Fin 8)
  /-- SWATH_RESUME (R124): FIRE_SCANCTL.RESUME arms a swath from HELD. -/
  | swathResume (o : Sender)
  /-- PASS_WRITE (R127): A write of FIRE_PASSDATA writes a pass entry or is refused with PASS_REJ. -/
  | passWrite (o : Sender) (w : Word)
  /-- MASK_WRITE (R127): A write of FIRE_MASKDATA writes mask bits or is refused with MASK_REJ. -/
  | maskWrite (o : Sender) (w : Word)
  /-- OVSP_FIFO_POP (R131): A read of FIRE_OVSP_FIFO returns and pops the oldest suppressed stamp. -/
  | ovspFifoPop (o : Sender)
  /-- CURRENT_REDUCE (R355): After STBY_DLY ms at standstill the current ramps to HOLD. -/
  | currentReduce (n : Fin 8)
  /-- STALL (R359): |dev| exceeds WINDOW for FILT ticks and STALL_ACT applies. -/
  | stall (n : Fin 8)
  /-- OVERCUR (R362): Phase sense above OC_THR turns the bridges off and enters FAULT. -/
  | overcur (n : Fin 8)
  /-- BRIDGE_FLT (R362): MOT_FLT_N low for 1 µs enters FAULT. -/
  | bridgeFlt (n : Fin 8) (low : Bool)
  /-- OPEN_MOTOR (R362): A phase fails to reach upper in 64 drive phases and enters FAULT. -/
  | openMotor (n : Fin 8)
  /-- LIMIT (R362): MOT_LIM active while stepping in LIM_DIR stops the axis. -/
  | limit (n : Fin 8) (high : Bool)
  /-- LITE_TARGET_CROSS (R368): A STROBE_POS channel's position crosses its target and a pulse is requested. -/
  | liteTargetCross (c : Fin 16)
  /-- STROBE_DELAY_END (R367): DLY cycles elapse and LITE_EN goes active. -/
  | strobeDelayEnd (c : Fin 16)
  /-- STROBE_WIDTH_END (R369): WIDTH cycles elapse, LITE_EN falls and the sense check is made. -/
  | strobeWidthEnd (c : Fin 16) (code : BitVec 10)
  /-- RECOVER_END (R367): MIN_OFF µs elapse and the channel returns to IDLE with any pending dac. -/
  | recoverEnd (c : Fin 16)
  /-- CONT_CHECK (R369): Every 1 µs a CONT channel's sense is checked for open or short. -/
  | contCheck (c : Fin 16) (code : BitVec 10)
  /-- TEMP_SAMPLE (R370): Every 1 ms each lamp temperature input is converted and derating updated. -/
  | tempSample (g : Fin 4) (code : BitVec 10)
  /-- LITE_CH_WRITE (R365): A write of LITE_CH sets a channel's mode, leaving OFF or FAULT. -/
  | liteChWrite (o : Sender) (c : Fin 16) (w : Word)
  /-- MATRIX_SWAP (R374): LITE_MXCTL.SWAP sets PEND for a shadow copy at the next matrix frame. -/
  | matrixSwap (o : Sender) (w : Word)
  /-- DISP_FRAME_START (R380): A display frame start latches layer and rectangle fields. -/
  | dispFrameStart (d : Fin 2)
  /-- DISP_ENABLE (R378): A write of DISP_CTL.EN starts an output or is refused with TIM_BAD. -/
  | dispEnable (o : Sender) (d : Fin 2) (w : Word)
  /-- LAYER_BASE_WRITE (R380): A write of DISP_LBASE sets LAYER_INUSE until the next frame start. -/
  | layerBaseWrite (o : Sender) (d : Fin 2) (l : Fin 4) (w : Word)
  /-- CRC_MISM (R382): At a rectangle's last line its CRC is stored and compared. -/
  | crcMism (d : Fin 2) (k : Fin 4)
  /-- DISP_UNDERRUN (R383): Layer data missing in time shows BG for the rest of the line. -/
  | dispUnderrun (d : Fin 2) (y x : BitVec 16)
  /-- BIST_START (R389): BIST_CTL.GO with KEY starts a run over DMASK or is refused. -/
  | bistStart (o : Sender) (w : Word)
  /-- BIST_ABORT (R393): BIST_CTL.ABORT ends the run after the domain under test. -/
  | bistAbort (o : Sender) (key : BitVec 8)
  /-- BIST_DOMAIN_DONE (R386): A domain's logic and memory BIST end and its result is recorded. -/
  | bistDomainDone (sig : Word) (mf : Option MemFail)
  /-- PARKED (R406): SYS_HPCTL.PARKED with the park axes idle moves PARK to DISABLE. -/
  | parked (o : Sender)
  /-- RESUME (R406): SYS_HPCTL.RESUME in SAFE with the request inactive returns to NORMAL. -/
  | resume (o : Sender)
  /-- GDMA_GO (R431): GDMA_CHCTL.GO starts a channel on its segments or is refused. -/
  | gdmaGo (o : Sender) (c : Fin 16) (w : Word)
  /-- GDMA_ABORT (R432): GDMA_CHCTL.ABORT ends a channel after the unit in progress. -/
  | gdmaAbort (o : Sender) (c : Fin 16)
  /-- GDMA_DISABLE (R432): Clearing GDMA_CTL.EN aborts every running channel. -/
  | gdmaDisable (o : Sender)
  /-- GDMA_UNIT (R431): A channel copies or fills one 16-byte unit, ending early on poison or a refused request.
  -/
  | gdmaUnit (c : Fin 16) (ecc : Bool)
  /-- GDMA_DONE (R431): Every write of the last segment is committed and the channel is done. -/
  | gdmaDone (c : Fin 16)
  /-- EXTEST (R404): TAP instruction EXTEST drives covered outputs from the boundary-scan register. -/
  | extest (sampled shifted : List Bool)
  /-- SAMPLE_PRELOAD (R404): TAP instruction SAMPLE/PRELOAD captures and preloads the boundary-scan register. -/
  | samplePreload (sampled shifted : List Bool)
  /-- DEBUG (R404): TAP instruction DEBUG opens the debug port as a host origin. -/
  | debugPort (l : List (BitVec 24 × Option Word))
  /-- BYPASS (R404): TAP instruction BYPASS, or any other code, selects the bypass register. -/
  | bypass (code : BitVec 8) (bits : List Bool)
  /-- LINK_CHG (R241): The RGMII receive clock or in-band link status appears or disappears, ETH_STAT.LINK
  changes and ETH_FLAG.LINK_CHG is set. -/
  | linkChg (up : Bool)
  /-- RESERVED_TYPE_PACKET (R257): A downstream host packet of reserved or upstream TYPE is discarded and
  acknowledged, and PKT_BAD is set with WHY 0x3. -/
  | reservedTypePacket (type : BitVec 4) (seq : BitVec 8) (words : List Word) (f : PktFault)
  /-- MOT_ENCODER_EDGE (R359): An accepted edge on a motion axis's MOTn_QA or MOTn_QB input is decoded ×4 into
  MOT_ENCCNT. -/
  | motEncoderEdge (n : Fin 8) (a b : Bool)
  /-- CHOPPER_THRESHOLD (R357): A BRIDGE-mode phase's current sense reaches upper, or falls to lower after
  TOFF_MIN, the bridge switches between drive and decay, and the adaptive offset is updated. -/
  | chopperThreshold (n : Fin 8) (phase : Fin 2) (upper : Bool) (t : Nat)
  /-- WIRE_DISAGREEMENT_END (R31): A wire disagreement ends, the disagreement is no longer held against REARM,
  and the input resumes at its next edge. -/
  | wireDisagreementEnd (n : Fin 2) (pair : Fin 3) (level : Bool)
  /-- PRBS_LOCK (R253): With RX_EN = 1 the PRBS31 checker sees 64 error-free bits and reports PRBS_LOCK. -/
  | prbsLock (l : Fin 12) (bits errs : Nat)
  /-- PRBS_LOCK_LOSS (R253): A locked PRBS31 checker sees 256 errors within 1,024 bits and relocks. -/
  | prbsLockLoss (l : Fin 12) (bits errs : Nat)
  /-- UNDERRUN (R22): The next page descriptor is not released by its deadline, so the job fails with cause 0x07.
  -/
  | underrun
  /-- LOOP_UPDATE (R38): Every 64 CK_CORE cycles the tracking loop updates est and vel and tests lock. -/
  | loopUpdate
  /-- PM_MISSING (R46): No mark is accepted WIN lines past the previous page and PM_MISSING is set. -/
  | pmMissing
  /-- CTX_XFER_DONE (R66): A context transfer ends and XFER_BUSY clears. -/
  | ctxXferDone
  /-- ROW_CLEAR (R92): At line E + C_max + 256 every row of the ended job is set EMPTY. -/
  | rowClear
  /-- SUBST_LOG_WRITE (R150): The substitution log entries of a committed calibration change reach DRAM and
  CAL_LOGWR.IDX advances. -/
  | substLogWrite
  /-- COMMIT_RECORD_WRITE (R174): A commit record reaches DRAM and TXN_RLOGWR.IDX advances. -/
  | commitRecordWrite
  /-- BEACON_LOST (R224): No beacon for BTIMEOUT µs declares the encoder faulty on a follower. -/
  | beaconLost
  /-- DX_TIMEOUT (R228): Votes are incomplete DX_TIMEOUT µs after PREP and the exchange aborts with 0x0D. -/
  | dxTimeout
  /-- BAR_RESET_APPLY (R234): 2 µs after a reset GOP, the member applies a system reset of cause 0x07. -/
  | barResetApply
  /-- CTL_BAD (R247): A reserved link control block is discarded and CTL_BAD is set. -/
  | ctlBad
  /-- HDR_CRC (R257): A host packet header fails HCRC, blocks up to the next header are discarded and NAK is
  sent. -/
  | hdrCrc
  /-- REPLAY (R259): No advancing ACK for RPL_TMO µs replays upstream packets, and eight replays retrain. -/
  | replay
  /-- EVENT_SEND (R262): A queued EVENT packet is sent when the link is UP and class 3 has credit. -/
  | eventSend
  /-- HLNK_TRAIN_TIMEOUT (R252): TRAIN_TMO µs pass in TRAIN or CONFIG and TRAIN_FAIL is set. -/
  | hlnkTrainTimeout
  /-- ZQ_CAL (R275): Every 128 ms ZQ calibration runs. -/
  | zqCal
  /-- DRAM_ZQ_DONE (R278): ZQ completes in INIT and the check patterns are written and read. -/
  | dramZqDone
  /-- DRAM_ZERO_DONE (R278): The last zero burst is committed and the controller enters RUN. -/
  | dramZeroDone
  /-- WIP_TIMEOUT (R282): The flash WIP does not clear in 2 s and both slots fail with cause 0x1. -/
  | wipTimeout
  /-- DRAM_SKIP (R290): DRAM does not reach RUN in 2.0 s and every DRAMDATA record is skipped. -/
  | dramSkip
  /-- ST_DONE (R300): A Stump store pulse ends, ST_DONE is set and a delayed reset may apply. -/
  | stDone
  /-- POWER_ON_RESET (R302): VAON falls below its monitor and a power-on reset clears all state. -/
  | powerOnReset
  /-- AON_POR_RELEASE (R312): The AON RC timer releases the power-on reset 1 to 2 ms after VAON is valid. -/
  | aonPorRelease
  /-- RST_N (R302): RST_N held low for 1 µs requests a system reset of cause 0x03. -/
  | rstN (low : Bool)
  /-- ROOT_PLL_LOCK (R315): The ROOT PLL locks and the dividers start. -/
  | rootPllLock
  /-- CLOCK_GOOD (R318): 32 CK_SLOW cycles after divider start, every clock good rises. -/
  | clockGood
  /-- ROOT_PLL_LOSS (R319): ROOT PLL lock is lost, HEAD_EN is held and system reset cause 0x09 is requested. -/
  | rootPllLoss
  /-- OSC_OK (R323): After 1,024 clean cycles the 32.768 kHz oscillator reports OSC_OK. -/
  | oscOk
  /-- OSC_FAIL (R323): No oscillator edge for 125 µs clears OSC_OK and sets OSC_FAIL. -/
  | oscFail
  /-- HB_LATE (R337): TIME/2 µs without a heartbeat warms the standby domain. -/
  | hbLate
  /-- HANDOVER (R346): WARD_CTL.HANDOVER starts a commanded takeover with REASON 0x5. -/
  | handover
  /-- HANDOVER_TIMEOUT (R346): No HANDOVER within FIRST ms sets SWAP_FAIL. -/
  | handoverTimeout
  /-- SBCHK_TIMEOUT (R345): No passing RESULT within 10 ms fails the standby check. -/
  | sbchkTimeout
  /-- FAULT_LOG_WRITE (R349): A queued fault log entry is written to the Stump store ring. -/
  | faultLogWrite
  /-- ROW_SLOT (R373): A status matrix row slot of ROW_T µs begins with pre-charge and drives its row. -/
  | rowSlot
  /-- HP_REQ (R406): The filtered removal request becomes active and the quiesce begins. -/
  | hpReq
  /-- HP_PRINT_END (R407): Print end is reached and every axis is halted. -/
  | hpPrintEnd
  /-- HP_END_TMO (R407): Print end not reached in END_TMO ms is forced as LINE. -/
  | hpEndTmo
  /-- HP_PARK_TMO (R406): PARK_TMO ms in PARK moves to DISABLE unparked. -/
  | hpParkTmo
  /-- HP_BAR_LEAVE_TIMEOUT (R406): A follower in BAR_LEAVE waits 200 µs or a MAP and enters SAFE. -/
  | hpBarLeaveTimeout
  /-- HP_CANCEL (R406): The removal request becomes inactive during the quiesce and CANCEL is set. -/
  | hpCancel
  /-- HP_INSERT (R406): The request is inactive for 100 ms in INSERTING and the state becomes NORMAL. -/
  | hpInsert
  /-- IDCODE (R404): TAP instruction IDCODE selects the identification register. -/
  | idcode
  /-- ID_DUP (R236): A chip in JOINING that has taken no MAP listing its own ID for 100 µs sets ID_DUP, casts no
  votes and enters ISOLATED. -/
  | idDup
  deriving DecidableEq, Repr

end Sys2Proof
end

