-- ==== Sys2Proof/Decode.lean ====
section
/-! DEFINITION. The commands that the bits of spec/opcode_table.json spell. -/

namespace Sys2Proof

/-- The command a word spells by the table's bits: the table gives no row any bits, so no word spells one. -/
def decodeTableWord (_nbits _w : Nat) : Option Instr := none

end Sys2Proof
end

