-- ==== Sys2Proof/Config.lean ====
section
/-! DEFINITION. The free values: constants without a body, so that nothing in Lean can evaluate them. A value the spec
leaves open is one of these applied to a counter of State or to the operands; a statement about it holds for every
value. -/

namespace Sys2Proof

/-- The `k`-th free value the machine draws: a word the spec leaves undefined.
(DESIGN CHOICE, log entry 7.) -/
opaque Config.freeWord : Nat → BitVec 64

/-- The bytes the DRAM devices hold after an initialisation with ZERO = 0 (R278): era, byte address.
(DESIGN CHOICE, log entry 7; DESIGN CHOICE, log entry 13.) -/
opaque Config.dramByte : Nat → Nat → BitVec 8

/-- How an unwritten code word decodes after an initialisation with ZERO = 0 (R278): era, code word; 0 clean, 1 or 2
corrected bits, more: uncorrectable.
(DESIGN CHOICE, log entry 7; DESIGN CHOICE, log entry 13.) -/
opaque Config.dramDecode : Nat → Nat → Nat

/-- How a display expands a 5-bit and a 6-bit channel of an RGB565 pixel to 8 bits (R379 states no expansion).
(DESIGN CHOICE, log entry 7; DESIGN CHOICE, log entry 18.) -/
opaque Config.expand5 : BitVec 5 → BitVec 8

/-- Whether entry `θ` of the first quarter of the sine table (R352) is the sine rounded up and not down; the spec states no
rounding.
(DESIGN CHOICE, log entry 7; DESIGN CHOICE, log entry 175.) -/
opaque Config.sinUp : Nat → Bool

/-- The expansion of the 6-bit green channel.
(DESIGN CHOICE, log entry 7; DESIGN CHOICE, log entry 18.) -/
opaque Config.expand6 : BitVec 6 → BitVec 8

end Sys2Proof
end

