-- ==== Sys2Proof/Machine/RegMap.lean ====
section
/-! DEFINITION. The register map: one constant per register name and per field, from the field tables and address
maps of spec/ (Table 24-2 names them), the access codes of Table 00-3, and the word each register holds at reset. -/

namespace Sys2Proof.Machine

/-- The access codes of Table 00-3 (R4). -/
inductive Access where
  | rw | ro | w1c | wo | rws | rwl
  deriving DecidableEq, Repr

/-- A register name of Table 24-2: the word address of its first element and the counts and strides of its indices
(1 and 0 where the name has no such index). A banked register (R427) has its origin as first index, the copies
standing 2^24 apart, beyond the 24-bit addresses. -/
structure Reg where
  base : Nat
  n1 : Nat
  s1 : Nat
  n2 : Nat
  s2 : Nat
  deriving DecidableEq, Repr

/-- The word address of element `i`, `j` of a register. -/
def Reg.at (r : Reg) (i : Nat) (j : Nat := 0) : Nat := r.base + i * r.s1 + j * r.s2

/-- A field of a register: its bits, its access code. -/
structure Fld where
  reg : Reg
  hi : Nat
  lo : Nat
  acc : Access
  deriving DecidableEq, Repr

/-- The number of bits of a field. -/
def Fld.width (f : Fld) : Nat := f.hi + 1 - f.lo

/-- A row of the register index: a register, its fields, and the word it holds at reset. -/
structure RegRow where
  reg : Reg
  fields : List Fld
  rst : Nat
  deriving DecidableEq, Repr

/-! ### SYS -/

/-- SYS_ID, 00_scope.md, Table 00-1: Device identification. -/
def SYS_ID : Reg := ⟨0x000000, 1, 0x0, 1, 0x0⟩
def SYS_ID.PART : Fld := ⟨SYS_ID, 39, 24, .ro⟩
def SYS_ID.REV : Fld := ⟨SYS_ID, 23, 16, .ro⟩
def SYS_ID.GRADE : Fld := ⟨SYS_ID, 15, 8, .ro⟩

/-- SYS_RSTCMD, 15_reset_startup.md, Table 15-8: System and core reset commands. -/
def SYS_RSTCMD : Reg := ⟨0x000010, 1, 0x0, 1, 0x0⟩
def SYS_RSTCMD.SYS : Fld := ⟨SYS_RSTCMD, 39, 39, .wo⟩
def SYS_RSTCMD.CORE : Fld := ⟨SYS_RSTCMD, 38, 38, .wo⟩
def SYS_RSTCMD.KEY : Fld := ⟨SYS_RSTCMD, 37, 30, .wo⟩

/-- SYS_RSTCAUSE, 15_reset_startup.md, Table 15-8: Last system reset. -/
def SYS_RSTCAUSE : Reg := ⟨0x000011, 1, 0x0, 1, 0x0⟩
def SYS_RSTCAUSE.CAUSE : Fld := ⟨SYS_RSTCAUSE, 39, 35, .ro⟩
def SYS_RSTCAUSE.STDLY : Fld := ⟨SYS_RSTCAUSE, 34, 34, .ro⟩
def SYS_RSTCAUSE.DLY : Fld := ⟨SYS_RSTCAUSE, 33, 22, .ro⟩
def SYS_RSTCAUSE.SKIP : Fld := ⟨SYS_RSTCAUSE, 21, 20, .ro⟩
def SYS_RSTCAUSE.NRESET : Fld := ⟨SYS_RSTCAUSE, 19, 4, .ro⟩

/-- SYS_RSTSTAMP, 15_reset_startup.md, Table 15-8: Hold count at that reset. -/
def SYS_RSTSTAMP : Reg := ⟨0x000012, 1, 0x0, 1, 0x0⟩
def SYS_RSTSTAMP.HOLD : Fld := ⟨SYS_RSTSTAMP, 39, 0, .ro⟩

/-- SYS_CORECAUSE, 15_reset_startup.md, Table 15-8: Last core reset. -/
def SYS_CORECAUSE : Reg := ⟨0x000013, 1, 0x0, 1, 0x0⟩
def SYS_CORECAUSE.CAUSE : Fld := ⟨SYS_CORECAUSE, 39, 37, .ro⟩
def SYS_CORECAUSE.STDLY : Fld := ⟨SYS_CORECAUSE, 36, 36, .ro⟩
def SYS_CORECAUSE.DLY : Fld := ⟨SYS_CORECAUSE, 35, 24, .ro⟩
def SYS_CORECAUSE.NCORE : Fld := ⟨SYS_CORECAUSE, 23, 8, .ro⟩

/-- SYS_BLKRST0, 15_reset_startup.md, Table 15-8: Block reset bits. -/
def SYS_BLKRST0 : Reg := ⟨0x000014, 1, 0x0, 1, 0x0⟩
def SYS_BLKRST0.HOLD : Fld := ⟨SYS_BLKRST0, 39, 0, .rw⟩

/-- SYS_BLKRST1, 15_reset_startup.md, Table 15-8: Block reset bits. -/
def SYS_BLKRST1 : Reg := ⟨0x000015, 1, 0x0, 1, 0x0⟩
def SYS_BLKRST1.HOLD : Fld := ⟨SYS_BLKRST1, 29, 0, .rw⟩

/-- SYS_RSTPEND0, 15_reset_startup.md, Table 15-8: Pending releases. -/
def SYS_RSTPEND0 : Reg := ⟨0x000016, 1, 0x0, 1, 0x0⟩
def SYS_RSTPEND0.PEND : Fld := ⟨SYS_RSTPEND0, 39, 0, .ro⟩

/-- SYS_RSTPEND1, 15_reset_startup.md, Table 15-8: Pending releases. -/
def SYS_RSTPEND1 : Reg := ⟨0x000017, 1, 0x0, 1, 0x0⟩
def SYS_RSTPEND1.PEND : Fld := ⟨SYS_RSTPEND1, 29, 0, .ro⟩

/-- SYS_FLAG, 15_reset_startup.md, Table 15-8: Flags. -/
def SYS_FLAG : Reg := ⟨0x000018, 1, 0x0, 1, 0x0⟩
def SYS_FLAG.RESET_SEEN : Fld := ⟨SYS_FLAG, 4, 4, .w1c⟩
def SYS_FLAG.RWL_REJ : Fld := ⟨SYS_FLAG, 3, 3, .w1c⟩
def SYS_FLAG.CMD_REJ : Fld := ⟨SYS_FLAG, 2, 2, .w1c⟩
def SYS_FLAG.RST_STALL : Fld := ⟨SYS_FLAG, 1, 1, .w1c⟩
def SYS_FLAG.ISO_ERR : Fld := ⟨SYS_FLAG, 0, 0, .w1c⟩

/-- SYS_FLAGEN, 15_reset_startup.md, Table 15-8: Event enables. -/
def SYS_FLAGEN : Reg := ⟨0x000019, 1, 0x0, 1, 0x0⟩
def SYS_FLAGEN.RESET_SEEN : Fld := ⟨SYS_FLAGEN, 4, 4, .rw⟩
def SYS_FLAGEN.RWL_REJ : Fld := ⟨SYS_FLAGEN, 3, 3, .rw⟩
def SYS_FLAGEN.CMD_REJ : Fld := ⟨SYS_FLAGEN, 2, 2, .rw⟩
def SYS_FLAGEN.RST_STALL : Fld := ⟨SYS_FLAGEN, 1, 1, .rw⟩
def SYS_FLAGEN.ISO_ERR : Fld := ⟨SYS_FLAGEN, 0, 0, .rw⟩

/-- SYS_RWL_REJECT, 15_reset_startup.md, Table 15-8: Refused RWL write. -/
def SYS_RWL_REJECT : Reg := ⟨0x00001A, 1, 0x0, 1, 0x0⟩
def SYS_RWL_REJECT.ADDR : Fld := ⟨SYS_RWL_REJECT, 39, 16, .ro⟩
def SYS_RWL_REJECT.ORIGIN : Fld := ⟨SYS_RWL_REJECT, 15, 14, .ro⟩

/-- SYS_CLKSTAT, 16_clocks_power.md, Table 16-8: PLL locks, clock good, references. -/
def SYS_CLKSTAT : Reg := ⟨0x000020, 1, 0x0, 1, 0x0⟩
def SYS_CLKSTAT.ROOT_LOCK : Fld := ⟨SYS_CLKSTAT, 39, 39, .ro⟩
def SYS_CLKSTAT.CKGOOD : Fld := ⟨SYS_CLKSTAT, 38, 34, .ro⟩
def SYS_CLKSTAT.LPLL_LOCK : Fld := ⟨SYS_CLKSTAT, 33, 19, .ro⟩
def SYS_CLKSTAT.LREF_OK : Fld := ⟨SYS_CLKSTAT, 18, 17, .ro⟩
def SYS_CLKSTAT.OSC_OK : Fld := ⟨SYS_CLKSTAT, 16, 16, .ro⟩

/-- SYS_LREFMEAS[r], 16_clocks_power.md, Table 16-8: Lane reference counts, r = 0, 1. -/
def SYS_LREFMEAS : Reg := ⟨0x000021, 2, 0x1, 1, 0x0⟩
def SYS_LREFMEAS.COUNT : Fld := ⟨SYS_LREFMEAS, 39, 22, .ro⟩

/-- SYS_PDCTL, 16_clocks_power.md, Table 16-8: Domain switch requests. -/
def SYS_PDCTL : Reg := ⟨0x000023, 1, 0x0, 1, 0x0⟩
def SYS_PDCTL.REQ : Fld := ⟨SYS_PDCTL, 39, 34, .rw⟩
def SYS_PDCTL.KEY : Fld := ⟨SYS_PDCTL, 33, 26, .wo⟩

/-- SYS_PDSTAT, 16_clocks_power.md, Table 16-8: Domain states. -/
def SYS_PDSTAT : Reg := ⟨0x000024, 1, 0x0, 1, 0x0⟩
def SYS_PDSTAT.STATE : Fld := ⟨SYS_PDSTAT, 39, 20, .ro⟩

/-- SYS_PWRFLAG, 16_clocks_power.md, Table 16-8: Flags. -/
def SYS_PWRFLAG : Reg := ⟨0x000025, 1, 0x0, 1, 0x0⟩
def SYS_PWRFLAG.PD_REJ : Fld := ⟨SYS_PWRFLAG, 6, 6, .w1c⟩
def SYS_PWRFLAG.PD_FAIL : Fld := ⟨SYS_PWRFLAG, 5, 5, .w1c⟩
def SYS_PWRFLAG.SUP_LOST : Fld := ⟨SYS_PWRFLAG, 4, 4, .w1c⟩
def SYS_PWRFLAG.LPLL_LOST : Fld := ⟨SYS_PWRFLAG, 3, 3, .w1c⟩
def SYS_PWRFLAG.LREF_BAD : Fld := ⟨SYS_PWRFLAG, 2, 2, .w1c⟩
def SYS_PWRFLAG.OSC_FAIL : Fld := ⟨SYS_PWRFLAG, 1, 1, .w1c⟩
def SYS_PWRFLAG.PD_DONE : Fld := ⟨SYS_PWRFLAG, 0, 0, .w1c⟩

/-- SYS_PWRFLAGEN, 16_clocks_power.md, Table 16-8: Event enables. -/
def SYS_PWRFLAGEN : Reg := ⟨0x000026, 1, 0x0, 1, 0x0⟩
def SYS_PWRFLAGEN.PD_REJ : Fld := ⟨SYS_PWRFLAGEN, 6, 6, .rw⟩
def SYS_PWRFLAGEN.PD_FAIL : Fld := ⟨SYS_PWRFLAGEN, 5, 5, .rw⟩
def SYS_PWRFLAGEN.SUP_LOST : Fld := ⟨SYS_PWRFLAGEN, 4, 4, .rw⟩
def SYS_PWRFLAGEN.LPLL_LOST : Fld := ⟨SYS_PWRFLAGEN, 3, 3, .rw⟩
def SYS_PWRFLAGEN.LREF_BAD : Fld := ⟨SYS_PWRFLAGEN, 2, 2, .rw⟩
def SYS_PWRFLAGEN.OSC_FAIL : Fld := ⟨SYS_PWRFLAGEN, 1, 1, .rw⟩
def SYS_PWRFLAGEN.PD_DONE : Fld := ⟨SYS_PWRFLAGEN, 0, 0, .rw⟩

/-- SYS_PDERR, 16_clocks_power.md, Table 16-8: First refusal or failure. -/
def SYS_PDERR : Reg := ⟨0x000027, 1, 0x0, 1, 0x0⟩
def SYS_PDERR.DOMAIN : Fld := ⟨SYS_PDERR, 39, 36, .ro⟩
def SYS_PDERR.WHY : Fld := ⟨SYS_PDERR, 35, 32, .ro⟩

/-- SYS_SUPSTAT, 16_clocks_power.md, Table 16-8: Rail monitors. -/
def SYS_SUPSTAT : Reg := ⟨0x000028, 1, 0x0, 1, 0x0⟩
def SYS_SUPSTAT.RAIL_OK : Fld := ⟨SYS_SUPSTAT, 39, 32, .ro⟩

/-- SYS_AONCTL, 16_clocks_power.md, Table 16-8: 32.768 kHz oscillator (PD0). -/
def SYS_AONCTL : Reg := ⟨0x000029, 1, 0x0, 1, 0x0⟩
def SYS_AONCTL.OSC_EN : Fld := ⟨SYS_AONCTL, 39, 39, .rw⟩
def SYS_AONCTL.OSC_BYP : Fld := ⟨SYS_AONCTL, 38, 38, .rw⟩

/-- SYS_HOLD, 16_clocks_power.md, Table 16-8: Hold count (PD0). -/
def SYS_HOLD : Reg := ⟨0x00002A, 1, 0x0, 1, 0x0⟩
def SYS_HOLD.COUNT : Fld := ⟨SYS_HOLD, 39, 0, .ro⟩

/-- SYS_HPCFG, 22_pins_hot_plug.md, Table 22-8: Print-end policy, park, timeouts. -/
def SYS_HPCFG : Reg := ⟨0x000030, 1, 0x0, 1, 0x0⟩
def SYS_HPCFG.END : Fld := ⟨SYS_HPCFG, 39, 38, .rw⟩
def SYS_HPCFG.PARK_AXES : Fld := ⟨SYS_HPCFG, 37, 30, .rw⟩
def SYS_HPCFG.PARK_TMO : Fld := ⟨SYS_HPCFG, 29, 16, .rw⟩
def SYS_HPCFG.END_TMO : Fld := ⟨SYS_HPCFG, 15, 2, .rw⟩

/-- SYS_HPCTL, 22_pins_hot_plug.md, Table 22-8: Resume, park done. -/
def SYS_HPCTL : Reg := ⟨0x000031, 1, 0x0, 1, 0x0⟩
def SYS_HPCTL.RESUME : Fld := ⟨SYS_HPCTL, 39, 39, .wo⟩
def SYS_HPCTL.PARKED : Fld := ⟨SYS_HPCTL, 38, 38, .wo⟩

/-- SYS_HPSTAT, 22_pins_hot_plug.md, Table 22-8: State, ball levels. -/
def SYS_HPSTAT : Reg := ⟨0x000032, 1, 0x0, 1, 0x0⟩
def SYS_HPSTAT.HSTATE : Fld := ⟨SYS_HPSTAT, 39, 37, .ro⟩
def SYS_HPSTAT.REQ : Fld := ⟨SYS_HPSTAT, 36, 36, .ro⟩
def SYS_HPSTAT.SAFE_OUT : Fld := ⟨SYS_HPSTAT, 35, 35, .ro⟩

/-- SYS_HPFLAG, 22_pins_hot_plug.md, Table 22-8: Flags. -/
def SYS_HPFLAG : Reg := ⟨0x000033, 1, 0x0, 1, 0x0⟩
def SYS_HPFLAG.INSERT : Fld := ⟨SYS_HPFLAG, 5, 5, .w1c⟩
def SYS_HPFLAG.CANCEL : Fld := ⟨SYS_HPFLAG, 4, 4, .w1c⟩
def SYS_HPFLAG.END_TMO : Fld := ⟨SYS_HPFLAG, 3, 3, .w1c⟩
def SYS_HPFLAG.PARK_TMO : Fld := ⟨SYS_HPFLAG, 2, 2, .w1c⟩
def SYS_HPFLAG.SAFE : Fld := ⟨SYS_HPFLAG, 1, 1, .w1c⟩
def SYS_HPFLAG.REQ : Fld := ⟨SYS_HPFLAG, 0, 0, .w1c⟩

/-- SYS_HPFLAGEN, 22_pins_hot_plug.md, Table 22-8: Event enables. -/
def SYS_HPFLAGEN : Reg := ⟨0x000034, 1, 0x0, 1, 0x0⟩
def SYS_HPFLAGEN.INSERT : Fld := ⟨SYS_HPFLAGEN, 5, 5, .rw⟩
def SYS_HPFLAGEN.CANCEL : Fld := ⟨SYS_HPFLAGEN, 4, 4, .rw⟩
def SYS_HPFLAGEN.END_TMO : Fld := ⟨SYS_HPFLAGEN, 3, 3, .rw⟩
def SYS_HPFLAGEN.PARK_TMO : Fld := ⟨SYS_HPFLAGEN, 2, 2, .rw⟩
def SYS_HPFLAGEN.SAFE : Fld := ⟨SYS_HPFLAGEN, 1, 1, .rw⟩
def SYS_HPFLAGEN.REQ : Fld := ⟨SYS_HPFLAGEN, 0, 0, .rw⟩

/-- SYS_HPLOGWR, 22_pins_hot_plug.md, Table 22-8: Log index (PD0). -/
def SYS_HPLOGWR : Reg := ⟨0x000035, 1, 0x0, 1, 0x0⟩
def SYS_HPLOGWR.NEXT : Fld := ⟨SYS_HPLOGWR, 39, 37, .ro⟩
def SYS_HPLOGWR.COUNT : Fld := ⟨SYS_HPLOGWR, 36, 21, .ro⟩

/-- SYS_HPLOG[i], 22_pins_hot_plug.md, Table 22-8: Log entries (PD0). -/
def SYS_HPLOG : Reg := ⟨0x000038, 8, 0x1, 1, 0x0⟩
def SYS_HPLOG.KIND : Fld := ⟨SYS_HPLOG, 39, 36, .ro⟩
def SYS_HPLOG.HOLD : Fld := ⟨SYS_HPLOG, 35, 0, .ro⟩

/-- SYS_JOBQ_CTL, 01_architecture.md, Table 01-6: Job queue. -/
def SYS_JOBQ_CTL : Reg := ⟨0x000040, 1, 0x0, 1, 0x0⟩
def SYS_JOBQ_CTL.FLUSH : Fld := ⟨SYS_JOBQ_CTL, 1, 1, .wo⟩
def SYS_JOBQ_CTL.ENABLE : Fld := ⟨SYS_JOBQ_CTL, 0, 0, .rw⟩

/-- SYS_JOBQ_REL, 01_architecture.md, Table 01-7: Job queue. -/
def SYS_JOBQ_REL : Reg := ⟨0x000041, 1, 0x0, 1, 0x0⟩
def SYS_JOBQ_REL.REL_IDX : Fld := ⟨SYS_JOBQ_REL, 6, 0, .rw⟩

/-- SYS_JOBQ_STAT, 01_architecture.md, Table 01-7: Job queue. -/
def SYS_JOBQ_STAT : Reg := ⟨0x000042, 1, 0x0, 1, 0x0⟩
def SYS_JOBQ_STAT.WR_IDX : Fld := ⟨SYS_JOBQ_STAT, 39, 33, .ro⟩
def SYS_JOBQ_STAT.RD_IDX : Fld := ⟨SYS_JOBQ_STAT, 32, 26, .ro⟩
def SYS_JOBQ_STAT.CUR_JOB : Fld := ⟨SYS_JOBQ_STAT, 25, 10, .ro⟩
def SYS_JOBQ_STAT.FILL : Fld := ⟨SYS_JOBQ_STAT, 9, 3, .ro⟩
def SYS_JOBQ_STAT.STATE : Fld := ⟨SYS_JOBQ_STAT, 2, 0, .ro⟩

/-- SYS_JOBQ_FLAG, 01_architecture.md, Table 01-8: Job queue. -/
def SYS_JOBQ_FLAG : Reg := ⟨0x000043, 1, 0x0, 1, 0x0⟩
def SYS_JOBQ_FLAG.JOB_DONE : Fld := ⟨SYS_JOBQ_FLAG, 4, 4, .w1c⟩
def SYS_JOBQ_FLAG.JOB_FAILED : Fld := ⟨SYS_JOBQ_FLAG, 3, 3, .w1c⟩
def SYS_JOBQ_FLAG.UNDERRUN : Fld := ⟨SYS_JOBQ_FLAG, 2, 2, .w1c⟩
def SYS_JOBQ_FLAG.DESC_INVALID : Fld := ⟨SYS_JOBQ_FLAG, 1, 1, .w1c⟩
def SYS_JOBQ_FLAG.OVERRUN : Fld := ⟨SYS_JOBQ_FLAG, 0, 0, .w1c⟩

/-- SYS_JOBQ_FAIL, 01_architecture.md, Table 01-8: Job queue. -/
def SYS_JOBQ_FAIL : Reg := ⟨0x000044, 1, 0x0, 1, 0x0⟩
def SYS_JOBQ_FAIL.CAUSE : Fld := ⟨SYS_JOBQ_FAIL, 39, 32, .ro⟩
def SYS_JOBQ_FAIL.JOB_ID : Fld := ⟨SYS_JOBQ_FAIL, 31, 16, .ro⟩
def SYS_JOBQ_FAIL.PAGE_NO : Fld := ⟨SYS_JOBQ_FAIL, 15, 0, .ro⟩

/-- SYS_JOBQ_FAILPOS, 01_architecture.md, Table 01-8: Job queue. -/
def SYS_JOBQ_FAILPOS : Reg := ⟨0x000045, 1, 0x0, 1, 0x0⟩
def SYS_JOBQ_FAILPOS.STAMP : Fld := ⟨SYS_JOBQ_FAILPOS, 39, 0, .ro⟩

/-- SYS_JOBQ_FLAGEN, 24_register_reference.md, R428: Event enables. -/
def SYS_JOBQ_FLAGEN : Reg := ⟨0x000046, 1, 0x0, 1, 0x0⟩
def SYS_JOBQ_FLAGEN.JOB_DONE : Fld := ⟨SYS_JOBQ_FLAGEN, 4, 4, .rw⟩
def SYS_JOBQ_FLAGEN.JOB_FAILED : Fld := ⟨SYS_JOBQ_FLAGEN, 3, 3, .rw⟩
def SYS_JOBQ_FLAGEN.UNDERRUN : Fld := ⟨SYS_JOBQ_FLAGEN, 2, 2, .rw⟩
def SYS_JOBQ_FLAGEN.DESC_INVALID : Fld := ⟨SYS_JOBQ_FLAGEN, 1, 1, .rw⟩
def SYS_JOBQ_FLAGEN.OVERRUN : Fld := ⟨SYS_JOBQ_FLAGEN, 0, 0, .rw⟩

/-- SYS_ISOCNT[b], 15_reset_startup.md, Table 15-8: Isolation wrapper counts. -/
def SYS_ISOCNT : Reg := ⟨0x000100, 70, 0x1, 1, 0x0⟩
def SYS_ISOCNT.COUNT : Fld := ⟨SYS_ISOCNT, 39, 0, .ro⟩

/-- The registers of SYS. -/
def rowsSYS : List RegRow :=
  [
    ⟨SYS_ID, [SYS_ID.PART, SYS_ID.REV, SYS_ID.GRADE], 0x4800100100⟩,
    ⟨SYS_RSTCMD, [SYS_RSTCMD.SYS, SYS_RSTCMD.CORE, SYS_RSTCMD.KEY], 0x0⟩,
    ⟨SYS_RSTCAUSE, [SYS_RSTCAUSE.CAUSE, SYS_RSTCAUSE.STDLY, SYS_RSTCAUSE.DLY, SYS_RSTCAUSE.SKIP, SYS_RSTCAUSE.NRESET], 0x800000000⟩,
    ⟨SYS_RSTSTAMP, [SYS_RSTSTAMP.HOLD], 0x0⟩,
    ⟨SYS_CORECAUSE, [SYS_CORECAUSE.CAUSE, SYS_CORECAUSE.STDLY, SYS_CORECAUSE.DLY, SYS_CORECAUSE.NCORE], 0x0⟩,
    ⟨SYS_BLKRST0, [SYS_BLKRST0.HOLD], 0xFFFFFFFFFF⟩,
    ⟨SYS_BLKRST1, [SYS_BLKRST1.HOLD], 0x3FFFFFFF⟩,
    ⟨SYS_RSTPEND0, [SYS_RSTPEND0.PEND], 0x0⟩,
    ⟨SYS_RSTPEND1, [SYS_RSTPEND1.PEND], 0x0⟩,
    ⟨SYS_FLAG, [SYS_FLAG.RESET_SEEN, SYS_FLAG.RWL_REJ, SYS_FLAG.CMD_REJ, SYS_FLAG.RST_STALL, SYS_FLAG.ISO_ERR], 0x0⟩,
    ⟨SYS_FLAGEN, [SYS_FLAGEN.RESET_SEEN, SYS_FLAGEN.RWL_REJ, SYS_FLAGEN.CMD_REJ, SYS_FLAGEN.RST_STALL, SYS_FLAGEN.ISO_ERR], 0x10⟩,
    ⟨SYS_RWL_REJECT, [SYS_RWL_REJECT.ADDR, SYS_RWL_REJECT.ORIGIN], 0x0⟩,
    ⟨SYS_CLKSTAT, [SYS_CLKSTAT.ROOT_LOCK, SYS_CLKSTAT.CKGOOD, SYS_CLKSTAT.LPLL_LOCK, SYS_CLKSTAT.LREF_OK, SYS_CLKSTAT.OSC_OK], 0x0⟩,
    ⟨SYS_LREFMEAS, [SYS_LREFMEAS.COUNT], 0x0⟩,
    ⟨SYS_PDCTL, [SYS_PDCTL.REQ, SYS_PDCTL.KEY], 0xFC00000000⟩,
    ⟨SYS_PDSTAT, [SYS_PDSTAT.STATE], 0x9255500000⟩,
    ⟨SYS_PWRFLAG, [SYS_PWRFLAG.PD_REJ, SYS_PWRFLAG.PD_FAIL, SYS_PWRFLAG.SUP_LOST, SYS_PWRFLAG.LPLL_LOST, SYS_PWRFLAG.LREF_BAD, SYS_PWRFLAG.OSC_FAIL, SYS_PWRFLAG.PD_DONE], 0x0⟩,
    ⟨SYS_PWRFLAGEN, [SYS_PWRFLAGEN.PD_REJ, SYS_PWRFLAGEN.PD_FAIL, SYS_PWRFLAGEN.SUP_LOST, SYS_PWRFLAGEN.LPLL_LOST, SYS_PWRFLAGEN.LREF_BAD, SYS_PWRFLAGEN.OSC_FAIL, SYS_PWRFLAGEN.PD_DONE], 0x0⟩,
    ⟨SYS_PDERR, [SYS_PDERR.DOMAIN, SYS_PDERR.WHY], 0x0⟩,
    ⟨SYS_SUPSTAT, [SYS_SUPSTAT.RAIL_OK], 0x0⟩,
    ⟨SYS_AONCTL, [SYS_AONCTL.OSC_EN, SYS_AONCTL.OSC_BYP], 0x8000000000⟩,
    ⟨SYS_HOLD, [SYS_HOLD.COUNT], 0x0⟩,
    ⟨SYS_HPCFG, [SYS_HPCFG.END, SYS_HPCFG.PARK_AXES, SYS_HPCFG.PARK_TMO, SYS_HPCFG.END_TMO], 0x4007D09C40⟩,
    ⟨SYS_HPCTL, [SYS_HPCTL.RESUME, SYS_HPCTL.PARKED], 0x0⟩] ++
  [
    ⟨SYS_HPSTAT, [SYS_HPSTAT.HSTATE, SYS_HPSTAT.REQ, SYS_HPSTAT.SAFE_OUT], 0x800000000⟩,
    ⟨SYS_HPFLAG, [SYS_HPFLAG.INSERT, SYS_HPFLAG.CANCEL, SYS_HPFLAG.END_TMO, SYS_HPFLAG.PARK_TMO, SYS_HPFLAG.SAFE, SYS_HPFLAG.REQ], 0x0⟩,
    ⟨SYS_HPFLAGEN, [SYS_HPFLAGEN.INSERT, SYS_HPFLAGEN.CANCEL, SYS_HPFLAGEN.END_TMO, SYS_HPFLAGEN.PARK_TMO, SYS_HPFLAGEN.SAFE, SYS_HPFLAGEN.REQ], 0x0⟩,
    ⟨SYS_HPLOGWR, [SYS_HPLOGWR.NEXT, SYS_HPLOGWR.COUNT], 0x0⟩,
    ⟨SYS_HPLOG, [SYS_HPLOG.KIND, SYS_HPLOG.HOLD], 0x0⟩,
    ⟨SYS_JOBQ_CTL, [SYS_JOBQ_CTL.FLUSH, SYS_JOBQ_CTL.ENABLE], 0x0⟩,
    ⟨SYS_JOBQ_REL, [SYS_JOBQ_REL.REL_IDX], 0x0⟩,
    ⟨SYS_JOBQ_STAT, [SYS_JOBQ_STAT.WR_IDX, SYS_JOBQ_STAT.RD_IDX, SYS_JOBQ_STAT.CUR_JOB, SYS_JOBQ_STAT.FILL, SYS_JOBQ_STAT.STATE], 0x0⟩,
    ⟨SYS_JOBQ_FLAG, [SYS_JOBQ_FLAG.JOB_DONE, SYS_JOBQ_FLAG.JOB_FAILED, SYS_JOBQ_FLAG.UNDERRUN, SYS_JOBQ_FLAG.DESC_INVALID, SYS_JOBQ_FLAG.OVERRUN], 0x0⟩,
    ⟨SYS_JOBQ_FAIL, [SYS_JOBQ_FAIL.CAUSE, SYS_JOBQ_FAIL.JOB_ID, SYS_JOBQ_FAIL.PAGE_NO], 0x0⟩,
    ⟨SYS_JOBQ_FAILPOS, [SYS_JOBQ_FAILPOS.STAMP], 0x0⟩,
    ⟨SYS_JOBQ_FLAGEN, [SYS_JOBQ_FLAGEN.JOB_DONE, SYS_JOBQ_FLAGEN.JOB_FAILED, SYS_JOBQ_FLAGEN.UNDERRUN, SYS_JOBQ_FLAGEN.DESC_INVALID, SYS_JOBQ_FLAGEN.OVERRUN], 0x0⟩,
    ⟨SYS_ISOCNT, [SYS_ISOCNT.COUNT], 0x0⟩]

/-! ### CFG -/

/-- CFG_CTL, 14_configuration_image.md, Table 14-9: Reload. -/
def CFG_CTL : Reg := ⟨0x010000, 1, 0x0, 1, 0x0⟩
def CFG_CTL.RELOAD : Fld := ⟨CFG_CTL, 39, 39, .wo⟩
def CFG_CTL.FROM_B : Fld := ⟨CFG_CTL, 38, 38, .wo⟩

/-- CFG_STAT, 14_configuration_image.md, Table 14-9: Loader state and source. -/
def CFG_STAT : Reg := ⟨0x010001, 1, 0x0, 1, 0x0⟩
def CFG_STAT.STATE : Fld := ⟨CFG_STAT, 39, 37, .ro⟩
def CFG_STAT.SRC : Fld := ⟨CFG_STAT, 36, 35, .ro⟩
def CFG_STAT.VAR : Fld := ⟨CFG_STAT, 34, 32, .ro⟩
def CFG_STAT.SERIAL : Fld := ⟨CFG_STAT, 31, 0, .ro⟩

/-- CFG_FLAG, 14_configuration_image.md, Table 14-9: Flags. -/
def CFG_FLAG : Reg := ⟨0x010002, 1, 0x0, 1, 0x0⟩
def CFG_FLAG.ST_CORR : Fld := ⟨CFG_FLAG, 11, 11, .w1c⟩
def CFG_FLAG.ST_ECC : Fld := ⟨CFG_FLAG, 10, 10, .w1c⟩
def CFG_FLAG.ST_DONE : Fld := ⟨CFG_FLAG, 9, 9, .w1c⟩
def CFG_FLAG.ST_REJ : Fld := ⟨CFG_FLAG, 8, 8, .w1c⟩
def CFG_FLAG.FL_DONE : Fld := ⟨CFG_FLAG, 7, 7, .w1c⟩
def CFG_FLAG.FL_REJ : Fld := ⟨CFG_FLAG, 6, 6, .w1c⟩
def CFG_FLAG.TRIM_BAD : Fld := ⟨CFG_FLAG, 5, 5, .w1c⟩
def CFG_FLAG.DRAM_SKIP : Fld := ⟨CFG_FLAG, 4, 4, .w1c⟩
def CFG_FLAG.WR_ERR : Fld := ⟨CFG_FLAG, 3, 3, .w1c⟩
def CFG_FLAG.RETRY : Fld := ⟨CFG_FLAG, 2, 2, .w1c⟩
def CFG_FLAG.SLOT_BAD : Fld := ⟨CFG_FLAG, 1, 1, .w1c⟩
def CFG_FLAG.DEFAULTED : Fld := ⟨CFG_FLAG, 0, 0, .w1c⟩

/-- CFG_FLAGEN, 14_configuration_image.md, Table 14-9: Event enables. -/
def CFG_FLAGEN : Reg := ⟨0x010003, 1, 0x0, 1, 0x0⟩
def CFG_FLAGEN.ST_CORR : Fld := ⟨CFG_FLAGEN, 11, 11, .rw⟩
def CFG_FLAGEN.ST_ECC : Fld := ⟨CFG_FLAGEN, 10, 10, .rw⟩
def CFG_FLAGEN.ST_DONE : Fld := ⟨CFG_FLAGEN, 9, 9, .rw⟩
def CFG_FLAGEN.ST_REJ : Fld := ⟨CFG_FLAGEN, 8, 8, .rw⟩
def CFG_FLAGEN.FL_DONE : Fld := ⟨CFG_FLAGEN, 7, 7, .rw⟩
def CFG_FLAGEN.FL_REJ : Fld := ⟨CFG_FLAGEN, 6, 6, .rw⟩
def CFG_FLAGEN.TRIM_BAD : Fld := ⟨CFG_FLAGEN, 5, 5, .rw⟩
def CFG_FLAGEN.DRAM_SKIP : Fld := ⟨CFG_FLAGEN, 4, 4, .rw⟩
def CFG_FLAGEN.WR_ERR : Fld := ⟨CFG_FLAGEN, 3, 3, .rw⟩
def CFG_FLAGEN.RETRY : Fld := ⟨CFG_FLAGEN, 2, 2, .rw⟩
def CFG_FLAGEN.SLOT_BAD : Fld := ⟨CFG_FLAGEN, 1, 1, .rw⟩
def CFG_FLAGEN.DEFAULTED : Fld := ⟨CFG_FLAGEN, 0, 0, .rw⟩

/-- CFG_ERRINFO, 14_configuration_image.md, Table 14-9: Slot causes. -/
def CFG_ERRINFO : Reg := ⟨0x010004, 1, 0x0, 1, 0x0⟩
def CFG_ERRINFO.CAUSE_A : Fld := ⟨CFG_ERRINFO, 39, 36, .ro⟩
def CFG_ERRINFO.CAUSE_B : Fld := ⟨CFG_ERRINFO, 35, 32, .ro⟩
def CFG_ERRINFO.OFFSET : Fld := ⟨CFG_ERRINFO, 31, 0, .ro⟩

/-- CFG_WERR, 14_configuration_image.md, Table 14-9: Failed loader writes. -/
def CFG_WERR : Reg := ⟨0x010005, 1, 0x0, 1, 0x0⟩
def CFG_WERR.ADDR : Fld := ⟨CFG_WERR, 39, 16, .ro⟩
def CFG_WERR.COUNT : Fld := ⟨CFG_WERR, 15, 0, .ro⟩

/-- CFG_FLINFO, 14_configuration_image.md, Table 14-9: Flash parameters. -/
def CFG_FLINFO : Reg := ⟨0x010006, 1, 0x0, 1, 0x0⟩
def CFG_FLINFO.DENS : Fld := ⟨CFG_FLINFO, 39, 32, .ro⟩
def CFG_FLINFO.ADDR4 : Fld := ⟨CFG_FLINFO, 31, 31, .ro⟩
def CFG_FLINFO.MODE : Fld := ⟨CFG_FLINFO, 30, 29, .ro⟩
def CFG_FLINFO.DUMMY : Fld := ⟨CFG_FLINFO, 28, 24, .ro⟩

/-- CFG_BOARD, 14_configuration_image.md, Table 14-9: Board tag. -/
def CFG_BOARD : Reg := ⟨0x010007, 1, 0x0, 1, 0x0⟩
def CFG_BOARD.BOARD : Fld := ⟨CFG_BOARD, 39, 8, .ro⟩

/-- CFG_FLCMD, 14_configuration_image.md, Table 14-9: Flash command. -/
def CFG_FLCMD : Reg := ⟨0x010010, 1, 0x0, 1, 0x0⟩
def CFG_FLCMD.GO : Fld := ⟨CFG_FLCMD, 39, 39, .wo⟩
def CFG_FLCMD.BUSY : Fld := ⟨CFG_FLCMD, 38, 38, .ro⟩
def CFG_FLCMD.OPCODE : Fld := ⟨CFG_FLCMD, 37, 30, .rw⟩
def CFG_FLCMD.ALEN : Fld := ⟨CFG_FLCMD, 29, 28, .rw⟩
def CFG_FLCMD.DIR : Fld := ⟨CFG_FLCMD, 27, 27, .rw⟩
def CFG_FLCMD.NBYTES : Fld := ⟨CFG_FLCMD, 26, 18, .rw⟩
def CFG_FLCMD.DUMMY : Fld := ⟨CFG_FLCMD, 17, 13, .rw⟩
def CFG_FLCMD.LANES : Fld := ⟨CFG_FLCMD, 12, 11, .rw⟩

/-- CFG_FLADDR, 14_configuration_image.md, Table 14-9: Flash address. -/
def CFG_FLADDR : Reg := ⟨0x010011, 1, 0x0, 1, 0x0⟩
def CFG_FLADDR.ADDR : Fld := ⟨CFG_FLADDR, 31, 0, .rw⟩

/-- CFG_FLBUF[i], 14_configuration_image.md, Table 14-9: Flash data, 5 bytes each. -/
def CFG_FLBUF : Reg := ⟨0x010020, 52, 0x1, 1, 0x0⟩
def CFG_FLBUF.DATA : Fld := ⟨CFG_FLBUF, 39, 0, .rw⟩

/-- CFG_STCMD, 14_configuration_image.md, Table 14-9: Stump store command. -/
def CFG_STCMD : Reg := ⟨0x010060, 1, 0x0, 1, 0x0⟩
def CFG_STCMD.GO : Fld := ⟨CFG_STCMD, 39, 39, .wo⟩
def CFG_STCMD.BUSY : Fld := ⟨CFG_STCMD, 38, 38, .ro⟩
def CFG_STCMD.OP : Fld := ⟨CFG_STCMD, 37, 36, .rw⟩
def CFG_STCMD.WORD : Fld := ⟨CFG_STCMD, 35, 23, .rw⟩
def CFG_STCMD.UNLOCK : Fld := ⟨CFG_STCMD, 22, 15, .rw⟩

/-- CFG_STDATAH, 14_configuration_image.md, Table 14-9: Word bits [63:32]. -/
def CFG_STDATAH : Reg := ⟨0x010061, 1, 0x0, 1, 0x0⟩
def CFG_STDATAH.DATA : Fld := ⟨CFG_STDATAH, 39, 8, .rw⟩

/-- CFG_STDATAL, 14_configuration_image.md, Table 14-9: Word bits [31:0]. -/
def CFG_STDATAL : Reg := ⟨0x010062, 1, 0x0, 1, 0x0⟩
def CFG_STDATAL.DATA : Fld := ⟨CFG_STDATAL, 39, 8, .rw⟩

/-- The registers of CFG. -/
def rowsCFG : List RegRow :=
  [
    ⟨CFG_CTL, [CFG_CTL.RELOAD, CFG_CTL.FROM_B], 0x0⟩,
    ⟨CFG_STAT, [CFG_STAT.STATE, CFG_STAT.SRC, CFG_STAT.VAR, CFG_STAT.SERIAL], 0x0⟩,
    ⟨CFG_FLAG, [CFG_FLAG.ST_CORR, CFG_FLAG.ST_ECC, CFG_FLAG.ST_DONE, CFG_FLAG.ST_REJ, CFG_FLAG.FL_DONE, CFG_FLAG.FL_REJ, CFG_FLAG.TRIM_BAD, CFG_FLAG.DRAM_SKIP, CFG_FLAG.WR_ERR, CFG_FLAG.RETRY, CFG_FLAG.SLOT_BAD, CFG_FLAG.DEFAULTED], 0x0⟩,
    ⟨CFG_FLAGEN, [CFG_FLAGEN.ST_CORR, CFG_FLAGEN.ST_ECC, CFG_FLAGEN.ST_DONE, CFG_FLAGEN.ST_REJ, CFG_FLAGEN.FL_DONE, CFG_FLAGEN.FL_REJ, CFG_FLAGEN.TRIM_BAD, CFG_FLAGEN.DRAM_SKIP, CFG_FLAGEN.WR_ERR, CFG_FLAGEN.RETRY, CFG_FLAGEN.SLOT_BAD, CFG_FLAGEN.DEFAULTED], 0x0⟩,
    ⟨CFG_ERRINFO, [CFG_ERRINFO.CAUSE_A, CFG_ERRINFO.CAUSE_B, CFG_ERRINFO.OFFSET], 0x0⟩,
    ⟨CFG_WERR, [CFG_WERR.ADDR, CFG_WERR.COUNT], 0x0⟩,
    ⟨CFG_FLINFO, [CFG_FLINFO.DENS, CFG_FLINFO.ADDR4, CFG_FLINFO.MODE, CFG_FLINFO.DUMMY], 0x0⟩,
    ⟨CFG_BOARD, [CFG_BOARD.BOARD], 0x0⟩,
    ⟨CFG_FLCMD, [CFG_FLCMD.GO, CFG_FLCMD.BUSY, CFG_FLCMD.OPCODE, CFG_FLCMD.ALEN, CFG_FLCMD.DIR, CFG_FLCMD.NBYTES, CFG_FLCMD.DUMMY, CFG_FLCMD.LANES], 0x0⟩,
    ⟨CFG_FLADDR, [CFG_FLADDR.ADDR], 0x0⟩,
    ⟨CFG_FLBUF, [CFG_FLBUF.DATA], 0x0⟩,
    ⟨CFG_STCMD, [CFG_STCMD.GO, CFG_STCMD.BUSY, CFG_STCMD.OP, CFG_STCMD.WORD, CFG_STCMD.UNLOCK], 0x0⟩,
    ⟨CFG_STDATAH, [CFG_STDATAH.DATA], 0x0⟩,
    ⟨CFG_STDATAL, [CFG_STDATAL.DATA], 0x0⟩]

/-! ### TXN -/

/-- TXN_CMD, 08_registers_transactions.md, Table 08-8: Begin, roll back. -/
def TXN_CMD : Reg := ⟨0x020000, 3, 0x1000000, 1, 0x0⟩
def TXN_CMD.BEGIN : Fld := ⟨TXN_CMD, 39, 39, .wo⟩
def TXN_CMD.ROLLBACK : Fld := ⟨TXN_CMD, 38, 38, .wo⟩

/-- TXN_ARM, 08_registers_transactions.md, Table 08-8: Arm with mode. -/
def TXN_ARM : Reg := ⟨0x020001, 3, 0x1000000, 1, 0x0⟩
def TXN_ARM.GO : Fld := ⟨TXN_ARM, 39, 39, .wo⟩
def TXN_ARM.MODE : Fld := ⟨TXN_ARM, 38, 36, .rw⟩
def TXN_ARM.GEN : Fld := ⟨TXN_ARM, 35, 35, .rw⟩
def TXN_ARM.DIST : Fld := ⟨TXN_ARM, 34, 34, .rw⟩

/-- TXN_TGT, 08_registers_transactions.md, Table 08-8: Commit target. -/
def TXN_TGT : Reg := ⟨0x020002, 3, 0x1000000, 1, 0x0⟩
def TXN_TGT.TARGET : Fld := ⟨TXN_TGT, 39, 0, .rw⟩

/-- TXN_TGTNS, 08_registers_transactions.md, Table 08-8: Network-time nanoseconds. -/
def TXN_TGTNS : Reg := ⟨0x020003, 3, 0x1000000, 1, 0x0⟩
def TXN_TGTNS.NS : Fld := ⟨TXN_TGTNS, 31, 0, .rw⟩

/-- TXN_OSTAT, 08_registers_transactions.md, Table 08-8: Own context state. -/
def TXN_OSTAT : Reg := ⟨0x020004, 3, 0x1000000, 1, 0x0⟩
def TXN_OSTAT.OSTATE : Fld := ⟨TXN_OSTAT, 39, 38, .ro⟩
def TXN_OSTAT.DOOMED : Fld := ⟨TXN_OSTAT, 37, 37, .ro⟩
def TXN_OSTAT.DCAUSE : Fld := ⟨TXN_OSTAT, 36, 29, .ro⟩
def TXN_OSTAT.COUNT : Fld := ⟨TXN_OSTAT, 28, 18, .ro⟩

/-- TXN_RESULT, 08_registers_transactions.md, Table 08-8: Outcome of own last arming. -/
def TXN_RESULT : Reg := ⟨0x020005, 3, 0x1000000, 1, 0x0⟩
def TXN_RESULT.SEQ : Fld := ⟨TXN_RESULT, 39, 24, .ro⟩
def TXN_RESULT.OUT : Fld := ⟨TXN_RESULT, 23, 22, .ro⟩
def TXN_RESULT.CAUSE : Fld := ⟨TXN_RESULT, 21, 14, .ro⟩

/-- TXN_GEN, 08_registers_transactions.md, Table 08-8: Configuration generation. -/
def TXN_GEN : Reg := ⟨0x020008, 1, 0x0, 1, 0x0⟩
def TXN_GEN.GEN : Fld := ⟨TXN_GEN, 39, 24, .ro⟩

/-- TXN_STORE, 08_registers_transactions.md, Table 08-8: Store and slot use. -/
def TXN_STORE : Reg := ⟨0x020009, 1, 0x0, 1, 0x0⟩
def TXN_STORE.FREE : Fld := ⟨TXN_STORE, 39, 27, .ro⟩
def TXN_STORE.ARMED : Fld := ⟨TXN_STORE, 26, 22, .ro⟩

/-- TXN_FLAG, 08_registers_transactions.md, Table 08-8: Flags. -/
def TXN_FLAG : Reg := ⟨0x02000A, 1, 0x0, 1, 0x0⟩
def TXN_FLAG.DIRECT_WR : Fld := ⟨TXN_FLAG, 10, 10, .w1c⟩
def TXN_FLAG.ADDR_ERR : Fld := ⟨TXN_FLAG, 9, 9, .w1c⟩
def TXN_FLAG.RLOG_REJ : Fld := ⟨TXN_FLAG, 8, 8, .w1c⟩
def TXN_FLAG.OPEN_LOST : Fld := ⟨TXN_FLAG, 7, 7, .w1c⟩
def TXN_FLAG.RESET_LOSS : Fld := ⟨TXN_FLAG, 6, 6, .w1c⟩
def TXN_FLAG.CANCEL_REJ : Fld := ⟨TXN_FLAG, 5, 5, .w1c⟩
def TXN_FLAG.OVERLAP : Fld := ⟨TXN_FLAG, 4, 4, .w1c⟩
def TXN_FLAG.CMD_SEQ : Fld := ⟨TXN_FLAG, 3, 3, .w1c⟩
def TXN_FLAG.STAGE_REJ : Fld := ⟨TXN_FLAG, 2, 2, .w1c⟩
def TXN_FLAG.ABORT : Fld := ⟨TXN_FLAG, 1, 1, .w1c⟩
def TXN_FLAG.COMMIT : Fld := ⟨TXN_FLAG, 0, 0, .w1c⟩

/-- TXN_FLAGEN, 08_registers_transactions.md, Table 08-8: Event enables. -/
def TXN_FLAGEN : Reg := ⟨0x02000B, 1, 0x0, 1, 0x0⟩
def TXN_FLAGEN.DIRECT_WR : Fld := ⟨TXN_FLAGEN, 10, 10, .rw⟩
def TXN_FLAGEN.ADDR_ERR : Fld := ⟨TXN_FLAGEN, 9, 9, .rw⟩
def TXN_FLAGEN.RLOG_REJ : Fld := ⟨TXN_FLAGEN, 8, 8, .rw⟩
def TXN_FLAGEN.OPEN_LOST : Fld := ⟨TXN_FLAGEN, 7, 7, .rw⟩
def TXN_FLAGEN.RESET_LOSS : Fld := ⟨TXN_FLAGEN, 6, 6, .rw⟩
def TXN_FLAGEN.CANCEL_REJ : Fld := ⟨TXN_FLAGEN, 5, 5, .rw⟩
def TXN_FLAGEN.OVERLAP : Fld := ⟨TXN_FLAGEN, 4, 4, .rw⟩
def TXN_FLAGEN.CMD_SEQ : Fld := ⟨TXN_FLAGEN, 3, 3, .rw⟩
def TXN_FLAGEN.STAGE_REJ : Fld := ⟨TXN_FLAGEN, 2, 2, .rw⟩
def TXN_FLAGEN.ABORT : Fld := ⟨TXN_FLAGEN, 1, 1, .rw⟩
def TXN_FLAGEN.COMMIT : Fld := ⟨TXN_FLAGEN, 0, 0, .rw⟩

/-- TXN_ABORTINFO, 08_registers_transactions.md, Table 08-8: First abort. -/
def TXN_ABORTINFO : Reg := ⟨0x02000C, 1, 0x0, 1, 0x0⟩
def TXN_ABORTINFO.SEQ : Fld := ⟨TXN_ABORTINFO, 39, 24, .ro⟩
def TXN_ABORTINFO.CAUSE : Fld := ⟨TXN_ABORTINFO, 23, 16, .ro⟩
def TXN_ABORTINFO.ORIGIN : Fld := ⟨TXN_ABORTINFO, 15, 14, .ro⟩

/-- TXN_LASTCOM, 08_registers_transactions.md, Table 08-8: Last commit. -/
def TXN_LASTCOM : Reg := ⟨0x02000D, 1, 0x0, 1, 0x0⟩
def TXN_LASTCOM.SEQ : Fld := ⟨TXN_LASTCOM, 39, 24, .ro⟩
def TXN_LASTCOM.MODE : Fld := ⟨TXN_LASTCOM, 23, 21, .ro⟩
def TXN_LASTCOM.IDLE : Fld := ⟨TXN_LASTCOM, 20, 20, .ro⟩

/-- TXN_LASTPOS, 08_registers_transactions.md, Table 08-8: Stamp of last commit. -/
def TXN_LASTPOS : Reg := ⟨0x02000E, 1, 0x0, 1, 0x0⟩
def TXN_LASTPOS.STAMP : Fld := ⟨TXN_LASTPOS, 39, 0, .ro⟩

/-- TXN_DIRADDR, 08_registers_transactions.md, Table 08-8: First refused direct write. -/
def TXN_DIRADDR : Reg := ⟨0x02000F, 1, 0x0, 1, 0x0⟩
def TXN_DIRADDR.ADDR : Fld := ⟨TXN_DIRADDR, 39, 16, .ro⟩
def TXN_DIRADDR.ORIGIN : Fld := ⟨TXN_DIRADDR, 15, 14, .ro⟩

/-- TXN_RLOGBASE, 08_registers_transactions.md, Table 08-8: Record ring base. -/
def TXN_RLOGBASE : Reg := ⟨0x020010, 1, 0x0, 1, 0x0⟩
def TXN_RLOGBASE.ADDR : Fld := ⟨TXN_RLOGBASE, 35, 0, .rw⟩

/-- TXN_RLOGCFG, 08_registers_transactions.md, Table 08-8: Ring size, enable. -/
def TXN_RLOGCFG : Reg := ⟨0x020011, 1, 0x0, 1, 0x0⟩
def TXN_RLOGCFG.LOG2 : Fld := ⟨TXN_RLOGCFG, 39, 35, .rw⟩
def TXN_RLOGCFG.EN : Fld := ⟨TXN_RLOGCFG, 34, 34, .rw⟩
def TXN_RLOGCFG.FULL : Fld := ⟨TXN_RLOGCFG, 33, 33, .rw⟩

/-- TXN_RLOGWR, 08_registers_transactions.md, Table 08-8: Write index. -/
def TXN_RLOGWR : Reg := ⟨0x020012, 1, 0x0, 1, 0x0⟩
def TXN_RLOGWR.IDX : Fld := ⟨TXN_RLOGWR, 39, 16, .ro⟩

/-- TXN_RLOGRD, 08_registers_transactions.md, Table 08-8: Read index. -/
def TXN_RLOGRD : Reg := ⟨0x020013, 1, 0x0, 1, 0x0⟩
def TXN_RLOGRD.IDX : Fld := ⟨TXN_RLOGRD, 39, 16, .rw⟩

/-- TXN_RLOGSTAT, 08_registers_transactions.md, Table 08-8: Reserved units. -/
def TXN_RLOGSTAT : Reg := ⟨0x020014, 1, 0x0, 1, 0x0⟩
def TXN_RLOGSTAT.RESV : Fld := ⟨TXN_RLOGSTAT, 39, 16, .ro⟩

/-- TXN_CTXSTAT[c], 08_registers_transactions.md, Table 08-8: Context state; c = 0 host, 1 Warden, 2 bar. -/
def TXN_CTXSTAT : Reg := ⟨0x020018, 3, 0x1, 1, 0x0⟩

/-- TXN_SLOTSTAT[k], 08_registers_transactions.md, Table 08-8: Armed slot state. -/
def TXN_SLOTSTAT : Reg := ⟨0x020040, 16, 0x4, 1, 0x0⟩
def TXN_SLOTSTAT.STATE : Fld := ⟨TXN_SLOTSTAT, 39, 38, .ro⟩
def TXN_SLOTSTAT.SEQ : Fld := ⟨TXN_SLOTSTAT, 37, 22, .ro⟩
def TXN_SLOTSTAT.MODE : Fld := ⟨TXN_SLOTSTAT, 21, 19, .ro⟩
def TXN_SLOTSTAT.GEN : Fld := ⟨TXN_SLOTSTAT, 18, 18, .ro⟩
def TXN_SLOTSTAT.DIST : Fld := ⟨TXN_SLOTSTAT, 17, 17, .ro⟩
def TXN_SLOTSTAT.ORIGIN : Fld := ⟨TXN_SLOTSTAT, 16, 15, .ro⟩
def TXN_SLOTSTAT.NWR : Fld := ⟨TXN_SLOTSTAT, 14, 4, .ro⟩

/-- TXN_SLOTTGT[k], 08_registers_transactions.md, Table 08-8: Armed slot target. -/
def TXN_SLOTTGT : Reg := ⟨0x020041, 16, 0x4, 1, 0x0⟩
def TXN_SLOTTGT.TARGET : Fld := ⟨TXN_SLOTTGT, 39, 0, .ro⟩

/-- TXN_SLOTCMD[k], 08_registers_transactions.md, Table 08-8: Cancel. -/
def TXN_SLOTCMD : Reg := ⟨0x020042, 16, 0x4, 1, 0x0⟩
def TXN_SLOTCMD.CANCEL : Fld := ⟨TXN_SLOTCMD, 39, 39, .wo⟩

/-- The registers of TXN. -/
def rowsTXN : List RegRow :=
  [
    ⟨TXN_CMD, [TXN_CMD.BEGIN, TXN_CMD.ROLLBACK], 0x0⟩,
    ⟨TXN_ARM, [TXN_ARM.GO, TXN_ARM.MODE, TXN_ARM.GEN, TXN_ARM.DIST], 0x0⟩,
    ⟨TXN_TGT, [TXN_TGT.TARGET], 0x0⟩,
    ⟨TXN_TGTNS, [TXN_TGTNS.NS], 0x0⟩,
    ⟨TXN_OSTAT, [TXN_OSTAT.OSTATE, TXN_OSTAT.DOOMED, TXN_OSTAT.DCAUSE, TXN_OSTAT.COUNT], 0x0⟩,
    ⟨TXN_RESULT, [TXN_RESULT.SEQ, TXN_RESULT.OUT, TXN_RESULT.CAUSE], 0x0⟩,
    ⟨TXN_GEN, [TXN_GEN.GEN], 0x0⟩,
    ⟨TXN_STORE, [TXN_STORE.FREE, TXN_STORE.ARMED], 0x8000000000⟩,
    ⟨TXN_FLAG, [TXN_FLAG.DIRECT_WR, TXN_FLAG.ADDR_ERR, TXN_FLAG.RLOG_REJ, TXN_FLAG.OPEN_LOST, TXN_FLAG.RESET_LOSS, TXN_FLAG.CANCEL_REJ, TXN_FLAG.OVERLAP, TXN_FLAG.CMD_SEQ, TXN_FLAG.STAGE_REJ, TXN_FLAG.ABORT, TXN_FLAG.COMMIT], 0x0⟩,
    ⟨TXN_FLAGEN, [TXN_FLAGEN.DIRECT_WR, TXN_FLAGEN.ADDR_ERR, TXN_FLAGEN.RLOG_REJ, TXN_FLAGEN.OPEN_LOST, TXN_FLAGEN.RESET_LOSS, TXN_FLAGEN.CANCEL_REJ, TXN_FLAGEN.OVERLAP, TXN_FLAGEN.CMD_SEQ, TXN_FLAGEN.STAGE_REJ, TXN_FLAGEN.ABORT, TXN_FLAGEN.COMMIT], 0x0⟩,
    ⟨TXN_ABORTINFO, [TXN_ABORTINFO.SEQ, TXN_ABORTINFO.CAUSE, TXN_ABORTINFO.ORIGIN], 0x0⟩,
    ⟨TXN_LASTCOM, [TXN_LASTCOM.SEQ, TXN_LASTCOM.MODE, TXN_LASTCOM.IDLE], 0x0⟩,
    ⟨TXN_LASTPOS, [TXN_LASTPOS.STAMP], 0x0⟩,
    ⟨TXN_DIRADDR, [TXN_DIRADDR.ADDR, TXN_DIRADDR.ORIGIN], 0x0⟩,
    ⟨TXN_RLOGBASE, [TXN_RLOGBASE.ADDR], 0x0⟩,
    ⟨TXN_RLOGCFG, [TXN_RLOGCFG.LOG2, TXN_RLOGCFG.EN, TXN_RLOGCFG.FULL], 0x6200000000⟩,
    ⟨TXN_RLOGWR, [TXN_RLOGWR.IDX], 0x0⟩,
    ⟨TXN_RLOGRD, [TXN_RLOGRD.IDX], 0x0⟩,
    ⟨TXN_RLOGSTAT, [TXN_RLOGSTAT.RESV], 0x0⟩,
    ⟨TXN_CTXSTAT, [], 0x0⟩,
    ⟨TXN_SLOTSTAT, [TXN_SLOTSTAT.STATE, TXN_SLOTSTAT.SEQ, TXN_SLOTSTAT.MODE, TXN_SLOTSTAT.GEN, TXN_SLOTSTAT.DIST, TXN_SLOTSTAT.ORIGIN, TXN_SLOTSTAT.NWR], 0x0⟩,
    ⟨TXN_SLOTTGT, [TXN_SLOTTGT.TARGET], 0x0⟩,
    ⟨TXN_SLOTCMD, [TXN_SLOTCMD.CANCEL], 0x0⟩]

/-! ### TALLY -/

/-- TALLY_CNT[i], 08_registers_transactions.md, Table 08-9: Event counters. -/
def TALLY_CNT : Reg := ⟨0x030000, 2048, 0x1, 1, 0x0⟩
def TALLY_CNT.COUNT : Fld := ⟨TALLY_CNT, 39, 0, .ro⟩

/-- TALLY_SNAPCTL, 08_registers_transactions.md, Table 08-9: Snapshot command. -/
def TALLY_SNAPCTL : Reg := ⟨0x030800, 1, 0x0, 1, 0x0⟩
def TALLY_SNAPCTL.GO : Fld := ⟨TALLY_SNAPCTL, 39, 39, .wo⟩

/-- TALLY_SNAPIDX, 08_registers_transactions.md, Table 08-9: Snapshot window index. -/
def TALLY_SNAPIDX : Reg := ⟨0x030801, 1, 0x0, 1, 0x0⟩
def TALLY_SNAPIDX.IDX : Fld := ⟨TALLY_SNAPIDX, 39, 29, .rw⟩
def TALLY_SNAPIDX.AUTOINC : Fld := ⟨TALLY_SNAPIDX, 28, 28, .rw⟩

/-- TALLY_SNAPDATA, 08_registers_transactions.md, Table 08-9: Snapshot window data. -/
def TALLY_SNAPDATA : Reg := ⟨0x030802, 1, 0x0, 1, 0x0⟩
def TALLY_SNAPDATA.COUNT : Fld := ⟨TALLY_SNAPDATA, 39, 0, .ro⟩

/-- TALLY_SNAPPOS, 08_registers_transactions.md, Table 08-9: Snapshot stamp. -/
def TALLY_SNAPPOS : Reg := ⟨0x030803, 1, 0x0, 1, 0x0⟩
def TALLY_SNAPPOS.STAMP : Fld := ⟨TALLY_SNAPPOS, 39, 0, .ro⟩

/-- The registers of TALLY. -/
def rowsTALLY : List RegRow :=
  [
    ⟨TALLY_CNT, [TALLY_CNT.COUNT], 0x0⟩,
    ⟨TALLY_SNAPCTL, [TALLY_SNAPCTL.GO], 0x0⟩,
    ⟨TALLY_SNAPIDX, [TALLY_SNAPIDX.IDX, TALLY_SNAPIDX.AUTOINC], 0x0⟩,
    ⟨TALLY_SNAPDATA, [TALLY_SNAPDATA.COUNT], 0x0⟩,
    ⟨TALLY_SNAPPOS, [TALLY_SNAPPOS.STAMP], 0x0⟩]

/-! ### POS -/

/-- POS_CTL, 02_web_position.md, Table 02-5: Enable, source, rearm. -/
def POS_CTL : Reg := ⟨0x040000, 1, 0x0, 1, 0x0⟩
def POS_CTL.SRC : Fld := ⟨POS_CTL, 3, 2, .rws⟩
def POS_CTL.REARM : Fld := ⟨POS_CTL, 1, 1, .wo⟩
def POS_CTL.ENABLE : Fld := ⟨POS_CTL, 0, 0, .rw⟩

/-- POS_STAT, 02_web_position.md, Table 02-5: State, fault cause. -/
def POS_STAT : Reg := ⟨0x040001, 1, 0x0, 1, 0x0⟩
def POS_STAT.LOCKED : Fld := ⟨POS_STAT, 39, 39, .ro⟩
def POS_STAT.FAULTY : Fld := ⟨POS_STAT, 38, 38, .ro⟩
def POS_STAT.UNCERTAIN : Fld := ⟨POS_STAT, 37, 37, .ro⟩
def POS_STAT.DIR : Fld := ⟨POS_STAT, 36, 36, .ro⟩
def POS_STAT.STATE : Fld := ⟨POS_STAT, 35, 34, .ro⟩
def POS_STAT.FCAUSE : Fld := ⟨POS_STAT, 33, 31, .ro⟩

/-- POS_FLAG, 02_web_position.md, Table 02-5: Loop, probe and page-mark flags. -/
def POS_FLAG : Reg := ⟨0x040002, 1, 0x0, 1, 0x0⟩
def POS_FLAG.PM_OVF : Fld := ⟨POS_FLAG, 11, 11, .w1c⟩
def POS_FLAG.PROBE_OVF : Fld := ⟨POS_FLAG, 10, 7, .w1c⟩
def POS_FLAG.PM_MISSING : Fld := ⟨POS_FLAG, 6, 6, .w1c⟩
def POS_FLAG.PM_LATE : Fld := ⟨POS_FLAG, 5, 5, .w1c⟩
def POS_FLAG.PM_EARLY : Fld := ⟨POS_FLAG, 4, 4, .w1c⟩
def POS_FLAG.REVERSE : Fld := ⟨POS_FLAG, 3, 3, .w1c⟩
def POS_FLAG.LOCK_LOST : Fld := ⟨POS_FLAG, 2, 2, .w1c⟩
def POS_FLAG.ENC_FAULT : Fld := ⟨POS_FLAG, 1, 1, .w1c⟩

/-- POS_FLAGEN, 02_web_position.md, Table 02-5: Event enables for POS_FLAG. -/
def POS_FLAGEN : Reg := ⟨0x040003, 1, 0x0, 1, 0x0⟩
def POS_FLAGEN.PM_OVF : Fld := ⟨POS_FLAGEN, 11, 11, .rw⟩
def POS_FLAGEN.PROBE_OVF : Fld := ⟨POS_FLAGEN, 10, 7, .rw⟩
def POS_FLAGEN.PM_MISSING : Fld := ⟨POS_FLAGEN, 6, 6, .rw⟩
def POS_FLAGEN.PM_LATE : Fld := ⟨POS_FLAGEN, 5, 5, .rw⟩
def POS_FLAGEN.PM_EARLY : Fld := ⟨POS_FLAGEN, 4, 4, .rw⟩
def POS_FLAGEN.REVERSE : Fld := ⟨POS_FLAGEN, 3, 3, .rw⟩
def POS_FLAGEN.LOCK_LOST : Fld := ⟨POS_FLAGEN, 2, 2, .rw⟩
def POS_FLAGEN.ENC_FAULT : Fld := ⟨POS_FLAGEN, 1, 1, .rw⟩

/-- POS_NOW, 02_web_position.md, Table 02-5: Current web position. -/
def POS_NOW : Reg := ⟨0x040004, 1, 0x0, 1, 0x0⟩
def POS_NOW.POS : Fld := ⟨POS_NOW, 39, 0, .ro⟩

/-- POS_FWD, 02_web_position.md, Table 02-5: Forward position. -/
def POS_FWD : Reg := ⟨0x040005, 1, 0x0, 1, 0x0⟩
def POS_FWD.POS : Fld := ⟨POS_FWD, 39, 0, .ro⟩

/-- POS_SPEED, 02_web_position.md, Table 02-5: Line rate and edge rate. -/
def POS_SPEED : Reg := ⟨0x040006, 1, 0x0, 1, 0x0⟩
def POS_SPEED.LINE_RATE : Fld := ⟨POS_SPEED, 39, 20, .ro⟩
def POS_SPEED.EDGE_RATE : Fld := ⟨POS_SPEED, 19, 0, .ro⟩

/-- POS_EVTPOS, 02_web_position.md, Table 02-5: Stamp of last lock loss or fault. -/
def POS_EVTPOS : Reg := ⟨0x040007, 1, 0x0, 1, 0x0⟩
def POS_EVTPOS.STAMP : Fld := ⟨POS_EVTPOS, 39, 0, .ro⟩

/-- POS_RATIO, 02_web_position.md, Table 02-5: Lines per count. -/
def POS_RATIO : Reg := ⟨0x040008, 1, 0x0, 1, 0x0⟩
def POS_RATIO.INT : Fld := ⟨POS_RATIO, 39, 32, .rws⟩
def POS_RATIO.FRAC : Fld := ⟨POS_RATIO, 31, 0, .rws⟩

/-- POS_LOOP, 02_web_position.md, Table 02-5: Bandwidth and lock threshold. -/
def POS_LOOP : Reg := ⟨0x040009, 1, 0x0, 1, 0x0⟩
def POS_LOOP.BW : Fld := ⟨POS_LOOP, 39, 27, .rws⟩
def POS_LOOP.LOCK_THR : Fld := ⟨POS_LOOP, 26, 11, .rws⟩

/-- POS_POLICY, 02_web_position.md, Table 02-5: Fault policies and limits. -/
def POS_POLICY : Reg := ⟨0x04000A, 1, 0x0, 1, 0x0⟩
def POS_POLICY.QI_LIMIT : Fld := ⟨POS_POLICY, 39, 32, .rws⟩
def POS_POLICY.IDX_ACT : Fld := ⟨POS_POLICY, 31, 30, .rws⟩
def POS_POLICY.LOCK_ACT : Fld := ⟨POS_POLICY, 29, 29, .rws⟩
def POS_POLICY.WIRE_ACT : Fld := ⟨POS_POLICY, 28, 28, .rws⟩
def POS_POLICY.REV_LIMIT : Fld := ⟨POS_POLICY, 27, 16, .rws⟩

/-- POS_LATCOMP, 02_web_position.md, Table 02-5: Latency compensation. -/
def POS_LATCOMP : Reg := ⟨0x04000B, 1, 0x0, 1, 0x0⟩
def POS_LATCOMP.EXTRA : Fld := ⟨POS_LATCOMP, 5, 0, .rw⟩

/-- POS_PM, 02_web_position.md, Table 02-5: Page-mark source, blanking, window. -/
def POS_PM : Reg := ⟨0x04000C, 1, 0x0, 1, 0x0⟩
def POS_PM.PROBE : Fld := ⟨POS_PM, 39, 38, .rws⟩
def POS_PM.WIN : Fld := ⟨POS_PM, 37, 16, .rws⟩
def POS_PM.BLANK : Fld := ⟨POS_PM, 15, 0, .rws⟩

/-- POS_ENCCFG[n], 02_web_position.md, Table 02-5: Channel mode, filter, wire delay. -/
def POS_ENCCFG : Reg := ⟨0x040010, 2, 0x10, 1, 0x0⟩
def POS_ENCCFG.MODE : Fld := ⟨POS_ENCCFG, 39, 38, .rws⟩
def POS_ENCCFG.INVERT : Fld := ⟨POS_ENCCFG, 37, 37, .rws⟩
def POS_ENCCFG.FILT : Fld := ⟨POS_ENCCFG, 36, 33, .rws⟩
def POS_ENCCFG.WIRE_DLY : Fld := ⟨POS_ENCCFG, 32, 25, .rws⟩
def POS_ENCCFG.Z_EN : Fld := ⟨POS_ENCCFG, 24, 24, .rws⟩

/-- POS_ENCCNT[n], 02_web_position.md, Table 02-5: Count, low 40 bits. -/
def POS_ENCCNT : Reg := ⟨0x040011, 2, 0x10, 1, 0x0⟩
def POS_ENCCNT.COUNT : Fld := ⟨POS_ENCCNT, 39, 0, .ro⟩

/-- POS_ENCSTAT[n], 02_web_position.md, Table 02-5: Illegal level, uncertainty, pending correction. -/
def POS_ENCSTAT : Reg := ⟨0x040012, 2, 0x10, 1, 0x0⟩
def POS_ENCSTAT.QI_LEVEL : Fld := ⟨POS_ENCSTAT, 39, 32, .ro⟩
def POS_ENCSTAT.UNCERT : Fld := ⟨POS_ENCSTAT, 31, 16, .ro⟩
def POS_ENCSTAT.CORR_PEND : Fld := ⟨POS_ENCSTAT, 15, 15, .ro⟩

/-- POS_ENCFLAG[n], 02_web_position.md, Table 02-5: Channel flags. -/
def POS_ENCFLAG : Reg := ⟨0x040013, 2, 0x10, 1, 0x0⟩
def POS_ENCFLAG.WIRE_Z : Fld := ⟨POS_ENCFLAG, 4, 4, .w1c⟩
def POS_ENCFLAG.WIRE_B : Fld := ⟨POS_ENCFLAG, 3, 3, .w1c⟩
def POS_ENCFLAG.WIRE_A : Fld := ⟨POS_ENCFLAG, 2, 2, .w1c⟩
def POS_ENCFLAG.INDEX_MISMATCH : Fld := ⟨POS_ENCFLAG, 1, 1, .w1c⟩
def POS_ENCFLAG.QUAD_ILLEGAL : Fld := ⟨POS_ENCFLAG, 0, 0, .w1c⟩

/-- POS_ENCFLAGEN[n], 02_web_position.md, Table 02-5: Event enables for POS_ENCFLAG. -/
def POS_ENCFLAGEN : Reg := ⟨0x040014, 2, 0x10, 1, 0x0⟩
def POS_ENCFLAGEN.WIRE_Z : Fld := ⟨POS_ENCFLAGEN, 4, 4, .rw⟩
def POS_ENCFLAGEN.WIRE_B : Fld := ⟨POS_ENCFLAGEN, 3, 3, .rw⟩
def POS_ENCFLAGEN.WIRE_A : Fld := ⟨POS_ENCFLAGEN, 2, 2, .rw⟩
def POS_ENCFLAGEN.INDEX_MISMATCH : Fld := ⟨POS_ENCFLAGEN, 1, 1, .rw⟩
def POS_ENCFLAGEN.QUAD_ILLEGAL : Fld := ⟨POS_ENCFLAGEN, 0, 0, .rw⟩

/-- POS_IDXCFG[n], 02_web_position.md, Table 02-5: Index period. -/
def POS_IDXCFG : Reg := ⟨0x040015, 2, 0x10, 1, 0x0⟩
def POS_IDXCFG.PERIOD : Fld := ⟨POS_IDXCFG, 39, 16, .rws⟩

/-- POS_IDXSTAT[n], 02_web_position.md, Table 02-5: Last mismatch difference. -/
def POS_IDXSTAT : Reg := ⟨0x040016, 2, 0x10, 1, 0x0⟩
def POS_IDXSTAT.DIFF : Fld := ⟨POS_IDXSTAT, 39, 16, .ro⟩

/-- POS_IDXPOS[n], 02_web_position.md, Table 02-5: Stamp of last mismatch. -/
def POS_IDXPOS : Reg := ⟨0x040017, 2, 0x10, 1, 0x0⟩
def POS_IDXPOS.STAMP : Fld := ⟨POS_IDXPOS, 39, 0, .ro⟩

/-- POS_TOOTH[n], 02_web_position.md, Table 02-5: Tooth-wheel parameters. -/
def POS_TOOTH : Reg := ⟨0x040018, 2, 0x10, 1, 0x0⟩
def POS_TOOTH.TEETH : Fld := ⟨POS_TOOTH, 39, 28, .rws⟩
def POS_TOOTH.MISS : Fld := ⟨POS_TOOTH, 27, 26, .rws⟩
def POS_TOOTH.GAP_NUM : Fld := ⟨POS_TOOTH, 25, 22, .rws⟩
def POS_TOOTH.EXTRA_NUM : Fld := ⟨POS_TOOTH, 21, 18, .rws⟩
def POS_TOOTH.DIR_SRC : Fld := ⟨POS_TOOTH, 17, 16, .rws⟩

/-- POS_PROBECFG[p], 02_web_position.md, Table 02-5: Probe edge, filter, offset. -/
def POS_PROBECFG : Reg := ⟨0x040040, 4, 0x8, 1, 0x0⟩
def POS_PROBECFG.EDGE : Fld := ⟨POS_PROBECFG, 39, 38, .rw⟩
def POS_PROBECFG.FILT : Fld := ⟨POS_PROBECFG, 37, 34, .rw⟩
def POS_PROBECFG.OFFSET : Fld := ⟨POS_PROBECFG, 33, 10, .rws⟩

/-- POS_PROBEFIFO[p], 02_web_position.md, Table 02-5: Head stamp; a read pops it. -/
def POS_PROBEFIFO : Reg := ⟨0x040041, 4, 0x8, 1, 0x0⟩
def POS_PROBEFIFO.STAMP : Fld := ⟨POS_PROBEFIFO, 39, 0, .ro⟩

/-- POS_PROBESTAT[p], 02_web_position.md, Table 02-5: FIFO level and edge of the head entry. -/
def POS_PROBESTAT : Reg := ⟨0x040042, 4, 0x8, 1, 0x0⟩
def POS_PROBESTAT.LEVEL : Fld := ⟨POS_PROBESTAT, 39, 36, .ro⟩
def POS_PROBESTAT.HEAD_EDGE : Fld := ⟨POS_PROBESTAT, 35, 35, .ro⟩

/-- The registers of POS. -/
def rowsPOS : List RegRow :=
  [
    ⟨POS_CTL, [POS_CTL.SRC, POS_CTL.REARM, POS_CTL.ENABLE], 0x0⟩,
    ⟨POS_STAT, [POS_STAT.LOCKED, POS_STAT.FAULTY, POS_STAT.UNCERTAIN, POS_STAT.DIR, POS_STAT.STATE, POS_STAT.FCAUSE], 0x0⟩,
    ⟨POS_FLAG, [POS_FLAG.PM_OVF, POS_FLAG.PROBE_OVF, POS_FLAG.PM_MISSING, POS_FLAG.PM_LATE, POS_FLAG.PM_EARLY, POS_FLAG.REVERSE, POS_FLAG.LOCK_LOST, POS_FLAG.ENC_FAULT], 0x0⟩,
    ⟨POS_FLAGEN, [POS_FLAGEN.PM_OVF, POS_FLAGEN.PROBE_OVF, POS_FLAGEN.PM_MISSING, POS_FLAGEN.PM_LATE, POS_FLAGEN.PM_EARLY, POS_FLAGEN.REVERSE, POS_FLAGEN.LOCK_LOST, POS_FLAGEN.ENC_FAULT], 0x0⟩,
    ⟨POS_NOW, [POS_NOW.POS], 0x0⟩,
    ⟨POS_FWD, [POS_FWD.POS], 0x0⟩,
    ⟨POS_SPEED, [POS_SPEED.LINE_RATE, POS_SPEED.EDGE_RATE], 0x0⟩,
    ⟨POS_EVTPOS, [POS_EVTPOS.STAMP], 0x0⟩,
    ⟨POS_RATIO, [POS_RATIO.INT, POS_RATIO.FRAC], 0x100000000⟩,
    ⟨POS_LOOP, [POS_LOOP.BW, POS_LOOP.LOCK_THR], 0x640800000⟩,
    ⟨POS_POLICY, [POS_POLICY.QI_LIMIT, POS_POLICY.IDX_ACT, POS_POLICY.LOCK_ACT, POS_POLICY.WIRE_ACT, POS_POLICY.REV_LIMIT], 0x1010080000⟩,
    ⟨POS_LATCOMP, [POS_LATCOMP.EXTRA], 0x9⟩,
    ⟨POS_PM, [POS_PM.PROBE, POS_PM.WIN, POS_PM.BLANK], 0x0⟩,
    ⟨POS_ENCCFG, [POS_ENCCFG.MODE, POS_ENCCFG.INVERT, POS_ENCCFG.FILT, POS_ENCCFG.WIRE_DLY, POS_ENCCFG.Z_EN], 0x1080000000⟩,
    ⟨POS_ENCCNT, [POS_ENCCNT.COUNT], 0x0⟩,
    ⟨POS_ENCSTAT, [POS_ENCSTAT.QI_LEVEL, POS_ENCSTAT.UNCERT, POS_ENCSTAT.CORR_PEND], 0x0⟩,
    ⟨POS_ENCFLAG, [POS_ENCFLAG.WIRE_Z, POS_ENCFLAG.WIRE_B, POS_ENCFLAG.WIRE_A, POS_ENCFLAG.INDEX_MISMATCH, POS_ENCFLAG.QUAD_ILLEGAL], 0x0⟩,
    ⟨POS_ENCFLAGEN, [POS_ENCFLAGEN.WIRE_Z, POS_ENCFLAGEN.WIRE_B, POS_ENCFLAGEN.WIRE_A, POS_ENCFLAGEN.INDEX_MISMATCH, POS_ENCFLAGEN.QUAD_ILLEGAL], 0x0⟩,
    ⟨POS_IDXCFG, [POS_IDXCFG.PERIOD], 0x0⟩,
    ⟨POS_IDXSTAT, [POS_IDXSTAT.DIFF], 0x0⟩,
    ⟨POS_IDXPOS, [POS_IDXPOS.STAMP], 0x0⟩,
    ⟨POS_TOOTH, [POS_TOOTH.TEETH, POS_TOOTH.MISS, POS_TOOTH.GAP_NUM, POS_TOOTH.EXTRA_NUM, POS_TOOTH.DIR_SRC], 0x3140000⟩,
    ⟨POS_PROBECFG, [POS_PROBECFG.EDGE, POS_PROBECFG.FILT, POS_PROBECFG.OFFSET], 0x2000000000⟩,
    ⟨POS_PROBEFIFO, [POS_PROBEFIFO.STAMP], 0x0⟩] ++
  [
    ⟨POS_PROBESTAT, [POS_PROBESTAT.LEVEL, POS_PROBESTAT.HEAD_EDGE], 0x0⟩]

/-! ### FIRE -/

/-- FIRE_PORTCTL[p], 05_line_buffers_firing.md, Table 05-10: Link, run, head enable, telemetry policy. -/
def FIRE_PORTCTL : Reg := ⟨0x080000, 48, 0x400, 1, 0x0⟩
def FIRE_PORTCTL.TEL_ACT : Fld := ⟨FIRE_PORTCTL, 3, 3, .rw⟩
def FIRE_PORTCTL.RUN : Fld := ⟨FIRE_PORTCTL, 2, 2, .rw⟩
def FIRE_PORTCTL.HEN : Fld := ⟨FIRE_PORTCTL, 1, 1, .rw⟩
def FIRE_PORTCTL.LINK_EN : Fld := ⟨FIRE_PORTCTL, 0, 0, .rw⟩

/-- FIRE_PORTSTAT[p], 05_line_buffers_firing.md, Table 05-10: Link state, HEAD_EN, bank, sets. -/
def FIRE_PORTSTAT : Reg := ⟨0x080001, 48, 0x400, 1, 0x0⟩
def FIRE_PORTSTAT.LSTATE : Fld := ⟨FIRE_PORTSTAT, 39, 38, .ro⟩
def FIRE_PORTSTAT.HEN_OUT : Fld := ⟨FIRE_PORTSTAT, 37, 37, .ro⟩
def FIRE_PORTSTAT.HEN_CAUSE : Fld := ⟨FIRE_PORTSTAT, 36, 34, .ro⟩
def FIRE_PORTSTAT.READY : Fld := ⟨FIRE_PORTSTAT, 33, 33, .ro⟩
def FIRE_PORTSTAT.WVALID : Fld := ⟨FIRE_PORTSTAT, 32, 25, .ro⟩
def FIRE_PORTSTAT.BANK : Fld := ⟨FIRE_PORTSTAT, 24, 24, .ro⟩
def FIRE_PORTSTAT.BANK_PEND : Fld := ⟨FIRE_PORTSTAT, 23, 23, .ro⟩
def FIRE_PORTSTAT.WSET : Fld := ⟨FIRE_PORTSTAT, 22, 20, .ro⟩
def FIRE_PORTSTAT.WLOAD_BUSY : Fld := ⟨FIRE_PORTSTAT, 19, 19, .ro⟩

/-- FIRE_PORTFLAG[p], 05_line_buffers_firing.md, Table 05-10: Port flags. -/
def FIRE_PORTFLAG : Reg := ⟨0x080002, 48, 0x400, 1, 0x0⟩
def FIRE_PORTFLAG.WSET_INVALID : Fld := ⟨FIRE_PORTFLAG, 13, 13, .w1c⟩
def FIRE_PORTFLAG.TEST_REJ : Fld := ⟨FIRE_PORTFLAG, 12, 12, .w1c⟩
def FIRE_PORTFLAG.TEST_DONE : Fld := ⟨FIRE_PORTFLAG, 11, 11, .w1c⟩
def FIRE_PORTFLAG.TRIM_RANGE : Fld := ⟨FIRE_PORTFLAG, 10, 10, .w1c⟩
def FIRE_PORTFLAG.TBL_ERR : Fld := ⟨FIRE_PORTFLAG, 9, 9, .w1c⟩
def FIRE_PORTFLAG.WLOAD_REJ : Fld := ⟨FIRE_PORTFLAG, 8, 8, .w1c⟩
def FIRE_PORTFLAG.WLOAD_ERR : Fld := ⟨FIRE_PORTFLAG, 7, 7, .w1c⟩
def FIRE_PORTFLAG.WLOAD_DONE : Fld := ⟨FIRE_PORTFLAG, 6, 6, .w1c⟩
def FIRE_PORTFLAG.HEAD_FAULT : Fld := ⟨FIRE_PORTFLAG, 5, 5, .w1c⟩
def FIRE_PORTFLAG.TEL_CRC : Fld := ⟨FIRE_PORTFLAG, 4, 4, .w1c⟩
def FIRE_PORTFLAG.TEL_LOST : Fld := ⟨FIRE_PORTFLAG, 3, 3, .w1c⟩
def FIRE_PORTFLAG.TRAIN_FAIL : Fld := ⟨FIRE_PORTFLAG, 2, 2, .w1c⟩
def FIRE_PORTFLAG.LINK_DOWN : Fld := ⟨FIRE_PORTFLAG, 1, 1, .w1c⟩
def FIRE_PORTFLAG.NAK : Fld := ⟨FIRE_PORTFLAG, 0, 0, .w1c⟩

/-- FIRE_PORTFLAGEN[p], 05_line_buffers_firing.md, Table 05-10: Event enables. -/
def FIRE_PORTFLAGEN : Reg := ⟨0x080003, 48, 0x400, 1, 0x0⟩
def FIRE_PORTFLAGEN.WSET_INVALID : Fld := ⟨FIRE_PORTFLAGEN, 13, 13, .rw⟩
def FIRE_PORTFLAGEN.TEST_REJ : Fld := ⟨FIRE_PORTFLAGEN, 12, 12, .rw⟩
def FIRE_PORTFLAGEN.TEST_DONE : Fld := ⟨FIRE_PORTFLAGEN, 11, 11, .rw⟩
def FIRE_PORTFLAGEN.TRIM_RANGE : Fld := ⟨FIRE_PORTFLAGEN, 10, 10, .rw⟩
def FIRE_PORTFLAGEN.TBL_ERR : Fld := ⟨FIRE_PORTFLAGEN, 9, 9, .rw⟩
def FIRE_PORTFLAGEN.WLOAD_REJ : Fld := ⟨FIRE_PORTFLAGEN, 8, 8, .rw⟩
def FIRE_PORTFLAGEN.WLOAD_ERR : Fld := ⟨FIRE_PORTFLAGEN, 7, 7, .rw⟩
def FIRE_PORTFLAGEN.WLOAD_DONE : Fld := ⟨FIRE_PORTFLAGEN, 6, 6, .rw⟩
def FIRE_PORTFLAGEN.HEAD_FAULT : Fld := ⟨FIRE_PORTFLAGEN, 5, 5, .rw⟩
def FIRE_PORTFLAGEN.TEL_CRC : Fld := ⟨FIRE_PORTFLAGEN, 4, 4, .rw⟩
def FIRE_PORTFLAGEN.TEL_LOST : Fld := ⟨FIRE_PORTFLAGEN, 3, 3, .rw⟩
def FIRE_PORTFLAGEN.TRAIN_FAIL : Fld := ⟨FIRE_PORTFLAGEN, 2, 2, .rw⟩
def FIRE_PORTFLAGEN.LINK_DOWN : Fld := ⟨FIRE_PORTFLAGEN, 1, 1, .rw⟩
def FIRE_PORTFLAGEN.NAK : Fld := ⟨FIRE_PORTFLAGEN, 0, 0, .rw⟩

/-- FIRE_KLAT[p], 05_line_buffers_firing.md, Table 05-10: Strobe latency compensation. -/
def FIRE_KLAT : Reg := ⟨0x080004, 48, 0x400, 1, 0x0⟩
def FIRE_KLAT.LAT : Fld := ⟨FIRE_KLAT, 39, 30, .rws⟩

/-- FIRE_TRIM[p], 05_line_buffers_firing.md, Table 05-10: Stitch and skew trim. -/
def FIRE_TRIM : Reg := ⟨0x080005, 48, 0x400, 1, 0x0⟩
def FIRE_TRIM.OFS : Fld := ⟨FIRE_TRIM, 39, 28, .rws⟩
def FIRE_TRIM.SKEW : Fld := ⟨FIRE_TRIM, 27, 8, .rws⟩

/-- FIRE_WAVE[p], 05_line_buffers_firing.md, Table 05-10: Waveform set selection. -/
def FIRE_WAVE : Reg := ⟨0x080006, 48, 0x400, 1, 0x0⟩
def FIRE_WAVE.SET : Fld := ⟨FIRE_WAVE, 39, 37, .rws⟩
def FIRE_WAVE.COOL : Fld := ⟨FIRE_WAVE, 36, 34, .rws⟩

/-- FIRE_WLOAD[p], 05_line_buffers_firing.md, Table 05-10: Waveform load command. -/
def FIRE_WLOAD : Reg := ⟨0x080007, 48, 0x400, 1, 0x0⟩
def FIRE_WLOAD.GO : Fld := ⟨FIRE_WLOAD, 39, 39, .wo⟩
def FIRE_WLOAD.TARGET : Fld := ⟨FIRE_WLOAD, 38, 36, .rw⟩
def FIRE_WLOAD.NSEG : Fld := ⟨FIRE_WLOAD, 35, 29, .rw⟩

/-- FIRE_WADDR[p], 05_line_buffers_firing.md, Table 05-10: Waveform image address. -/
def FIRE_WADDR : Reg := ⟨0x080008, 48, 0x400, 1, 0x0⟩
def FIRE_WADDR.ADDR : Fld := ⟨FIRE_WADDR, 35, 0, .rw⟩

/-- FIRE_DLYIDX[p], 05_line_buffers_firing.md, Table 05-10: Delay table index. -/
def FIRE_DLYIDX : Reg := ⟨0x080009, 48, 0x400, 1, 0x0⟩
def FIRE_DLYIDX.WORD : Fld := ⟨FIRE_DLYIDX, 39, 29, .rw⟩
def FIRE_DLYIDX.AUTOINC : Fld := ⟨FIRE_DLYIDX, 28, 28, .rw⟩

/-- FIRE_DLYDATA[p], 05_line_buffers_firing.md, Table 05-10: Delay table data. -/
def FIRE_DLYDATA : Reg := ⟨0x08000A, 48, 0x400, 1, 0x0⟩
def FIRE_DLYDATA.ENT0 : Fld := ⟨FIRE_DLYDATA, 35, 24, .rw⟩
def FIRE_DLYDATA.ENT1 : Fld := ⟨FIRE_DLYDATA, 23, 12, .rw⟩
def FIRE_DLYDATA.ENT2 : Fld := ⟨FIRE_DLYDATA, 11, 0, .rw⟩

/-- FIRE_TEMP[p], 05_line_buffers_firing.md, Table 05-10: Head temperature. -/
def FIRE_TEMP : Reg := ⟨0x08000B, 48, 0x400, 1, 0x0⟩
def FIRE_TEMP.T0 : Fld := ⟨FIRE_TEMP, 39, 28, .ro⟩
def FIRE_TEMP.T1 : Fld := ⟨FIRE_TEMP, 27, 16, .ro⟩
def FIRE_TEMP.AGE : Fld := ⟨FIRE_TEMP, 15, 0, .ro⟩

/-- FIRE_HEADCFG[p], 05_line_buffers_firing.md, Table 05-10: Settle, telemetry interval, timeout. -/
def FIRE_HEADCFG : Reg := ⟨0x08000C, 48, 0x400, 1, 0x0⟩
def FIRE_HEADCFG.SETTLE : Fld := ⟨FIRE_HEADCFG, 39, 30, .rw⟩
def FIRE_HEADCFG.INTERVAL : Fld := ⟨FIRE_HEADCFG, 29, 16, .rw⟩
def FIRE_HEADCFG.TIMEOUT : Fld := ⟨FIRE_HEADCFG, 15, 0, .rw⟩

/-- FIRE_TEST[p], 05_line_buffers_firing.md, Table 05-10: Self-test command. -/
def FIRE_TEST : Reg := ⟨0x08000D, 48, 0x400, 1, 0x0⟩
def FIRE_TEST.GO : Fld := ⟨FIRE_TEST, 39, 39, .wo⟩

/-- FIRE_TADDR[p], 05_line_buffers_firing.md, Table 05-10: Self-test bitmap address. -/
def FIRE_TADDR : Reg := ⟨0x08000E, 48, 0x400, 1, 0x0⟩
def FIRE_TADDR.ADDR : Fld := ⟨FIRE_TADDR, 35, 0, .rw⟩

/-- FIRE_ERRPOS[p], 05_line_buffers_firing.md, Table 05-10: Stamp of first port error. -/
def FIRE_ERRPOS : Reg := ⟨0x08000F, 48, 0x400, 1, 0x0⟩
def FIRE_ERRPOS.STAMP : Fld := ⟨FIRE_ERRPOS, 39, 0, .ro⟩

/-- FIRE_LSTAT[p], 05_line_buffers_firing.md, Table 05-10: Line count. -/
def FIRE_LSTAT : Reg := ⟨0x080010, 48, 0x400, 1, 0x0⟩
def FIRE_LSTAT.LINES : Fld := ⟨FIRE_LSTAT, 39, 16, .ro⟩

/-- FIRE_GCTL, 05_line_buffers_firing.md, Table 05-10: Line decision policy. -/
def FIRE_GCTL : Reg := ⟨0x08C000, 1, 0x0, 1, 0x0⟩
def FIRE_GCTL.NAK_ACT : Fld := ⟨FIRE_GCTL, 0, 0, .rws⟩

/-- FIRE_GFLAG, 05_line_buffers_firing.md, Table 05-10: Shared flags. -/
def FIRE_GFLAG : Reg := ⟨0x08C001, 1, 0x0, 1, 0x0⟩
def FIRE_GFLAG.DLY_REJ : Fld := ⟨FIRE_GFLAG, 6, 6, .w1c⟩
def FIRE_GFLAG.TRIM_LATE : Fld := ⟨FIRE_GFLAG, 5, 5, .w1c⟩
def FIRE_GFLAG.PORT_LOST : Fld := ⟨FIRE_GFLAG, 4, 4, .w1c⟩
def FIRE_GFLAG.LINE_NAK : Fld := ⟨FIRE_GFLAG, 3, 3, .w1c⟩
def FIRE_GFLAG.LB_CORR : Fld := ⟨FIRE_GFLAG, 2, 2, .w1c⟩
def FIRE_GFLAG.LB_ECC : Fld := ⟨FIRE_GFLAG, 1, 1, .w1c⟩
def FIRE_GFLAG.ROW_MISS : Fld := ⟨FIRE_GFLAG, 0, 0, .w1c⟩

/-- FIRE_GFLAGEN, 05_line_buffers_firing.md, Table 05-10: Event enables. -/
def FIRE_GFLAGEN : Reg := ⟨0x08C002, 1, 0x0, 1, 0x0⟩
def FIRE_GFLAGEN.DLY_REJ : Fld := ⟨FIRE_GFLAGEN, 6, 6, .rw⟩
def FIRE_GFLAGEN.TRIM_LATE : Fld := ⟨FIRE_GFLAGEN, 5, 5, .rw⟩
def FIRE_GFLAGEN.PORT_LOST : Fld := ⟨FIRE_GFLAGEN, 4, 4, .rw⟩
def FIRE_GFLAGEN.LINE_NAK : Fld := ⟨FIRE_GFLAGEN, 3, 3, .rw⟩
def FIRE_GFLAGEN.LB_CORR : Fld := ⟨FIRE_GFLAGEN, 2, 2, .rw⟩
def FIRE_GFLAGEN.LB_ECC : Fld := ⟨FIRE_GFLAGEN, 1, 1, .rw⟩
def FIRE_GFLAGEN.ROW_MISS : Fld := ⟨FIRE_GFLAGEN, 0, 0, .rw⟩

/-- FIRE_GINFO, 05_line_buffers_firing.md, Table 05-10: First decision failure. -/
def FIRE_GINFO : Reg := ⟨0x08C003, 1, 0x0, 1, 0x0⟩
def FIRE_GINFO.CHECK : Fld := ⟨FIRE_GINFO, 39, 37, .ro⟩
def FIRE_GINFO.PORT : Fld := ⟨FIRE_GINFO, 36, 31, .ro⟩
def FIRE_GINFO.CHAN : Fld := ⟨FIRE_GINFO, 30, 19, .ro⟩

/-- FIRE_GPOS, 05_line_buffers_firing.md, Table 05-10: Stamp of first decision failure. -/
def FIRE_GPOS : Reg := ⟨0x08C004, 1, 0x0, 1, 0x0⟩
def FIRE_GPOS.STAMP : Fld := ⟨FIRE_GPOS, 39, 0, .ro⟩

/-- FIRE_MAXRATE, 06_passes_overspeed_thermal.md, Table 06-5: Head line-rate limit. -/
def FIRE_MAXRATE : Reg := ⟨0x08C010, 1, 0x0, 1, 0x0⟩
def FIRE_MAXRATE.RATE : Fld := ⟨FIRE_MAXRATE, 39, 22, .rws⟩

/-- FIRE_OVSP_LIMIT, 06_passes_overspeed_thermal.md, Table 06-5: Limit and policy. -/
def FIRE_OVSP_LIMIT : Reg := ⟨0x08C011, 1, 0x0, 1, 0x0⟩
def FIRE_OVSP_LIMIT.LIMIT : Fld := ⟨FIRE_OVSP_LIMIT, 39, 24, .rws⟩
def FIRE_OVSP_LIMIT.ACT : Fld := ⟨FIRE_OVSP_LIMIT, 23, 23, .rws⟩

/-- FIRE_OVSP_FLAG, 06_passes_overspeed_thermal.md, Table 06-5: Overspeed flags. -/
def FIRE_OVSP_FLAG : Reg := ⟨0x08C012, 1, 0x0, 1, 0x0⟩
def FIRE_OVSP_FLAG.FIFO_OVF : Fld := ⟨FIRE_OVSP_FLAG, 2, 2, .w1c⟩
def FIRE_OVSP_FLAG.SUPPRESS : Fld := ⟨FIRE_OVSP_FLAG, 1, 1, .w1c⟩
def FIRE_OVSP_FLAG.WARN : Fld := ⟨FIRE_OVSP_FLAG, 0, 0, .w1c⟩

/-- FIRE_OVSP_FLAGEN, 06_passes_overspeed_thermal.md, Table 06-5: Event enables. -/
def FIRE_OVSP_FLAGEN : Reg := ⟨0x08C013, 1, 0x0, 1, 0x0⟩
def FIRE_OVSP_FLAGEN.FIFO_OVF : Fld := ⟨FIRE_OVSP_FLAGEN, 2, 2, .rw⟩
def FIRE_OVSP_FLAGEN.SUPPRESS : Fld := ⟨FIRE_OVSP_FLAGEN, 1, 1, .rw⟩
def FIRE_OVSP_FLAGEN.WARN : Fld := ⟨FIRE_OVSP_FLAGEN, 0, 0, .rw⟩

/-- FIRE_OVSP_STAT, 06_passes_overspeed_thermal.md, Table 06-5: Page count, FIFO level. -/
def FIRE_OVSP_STAT : Reg := ⟨0x08C014, 1, 0x0, 1, 0x0⟩
def FIRE_OVSP_STAT.PAGE_CNT : Fld := ⟨FIRE_OVSP_STAT, 39, 16, .ro⟩
def FIRE_OVSP_STAT.LEVEL : Fld := ⟨FIRE_OVSP_STAT, 15, 11, .ro⟩

/-- FIRE_OVSP_FIFO, 06_passes_overspeed_thermal.md, Table 06-5: Suppressed-line stamps; a read pops. -/
def FIRE_OVSP_FIFO : Reg := ⟨0x08C015, 1, 0x0, 1, 0x0⟩
def FIRE_OVSP_FIFO.STAMP : Fld := ⟨FIRE_OVSP_FIFO, 39, 0, .ro⟩

/-- FIRE_OVSP_FIRST, 06_passes_overspeed_thermal.md, Table 06-5: First suppressed stamp. -/
def FIRE_OVSP_FIRST : Reg := ⟨0x08C016, 1, 0x0, 1, 0x0⟩
def FIRE_OVSP_FIRST.STAMP : Fld := ⟨FIRE_OVSP_FIRST, 39, 0, .ro⟩

/-- FIRE_SCANCFG, 06_passes_overspeed_thermal.md, Table 06-5: Spans, feed check, axis. -/
def FIRE_SCANCFG : Reg := ⟨0x08C020, 1, 0x0, 1, 0x0⟩
def FIRE_SCANCFG.CSPAN : Fld := ⟨FIRE_SCANCFG, 39, 24, .rws⟩
def FIRE_SCANCFG.REV_SPAN : Fld := ⟨FIRE_SCANCFG, 23, 12, .rws⟩
def FIRE_SCANCFG.FEED_TOL : Fld := ⟨FIRE_SCANCFG, 11, 4, .rws⟩
def FIRE_SCANCFG.FEED_AXIS : Fld := ⟨FIRE_SCANCFG, 3, 1, .rws⟩

/-- FIRE_FEEDRATIO, 06_passes_overspeed_thermal.md, Table 06-5: Counts per media row. -/
def FIRE_FEEDRATIO : Reg := ⟨0x08C021, 1, 0x0, 1, 0x0⟩
def FIRE_FEEDRATIO.INT : Fld := ⟨FIRE_FEEDRATIO, 39, 32, .rws⟩
def FIRE_FEEDRATIO.FRAC : Fld := ⟨FIRE_FEEDRATIO, 31, 0, .rws⟩

/-- FIRE_SCANCTL, 06_passes_overspeed_thermal.md, Table 06-5: Feed policy, resume. -/
def FIRE_SCANCTL : Reg := ⟨0x08C022, 1, 0x0, 1, 0x0⟩
def FIRE_SCANCTL.RESUME : Fld := ⟨FIRE_SCANCTL, 1, 1, .wo⟩
def FIRE_SCANCTL.FEED_ACT : Fld := ⟨FIRE_SCANCTL, 0, 0, .rws⟩

/-- FIRE_SCANSTAT, 06_passes_overspeed_thermal.md, Table 06-5: Pass, state, Y. -/
def FIRE_SCANSTAT : Reg := ⟨0x08C023, 1, 0x0, 1, 0x0⟩
def FIRE_SCANSTAT.PASS : Fld := ⟨FIRE_SCANSTAT, 39, 32, .ro⟩
def FIRE_SCANSTAT.SSTATE : Fld := ⟨FIRE_SCANSTAT, 31, 29, .ro⟩
def FIRE_SCANSTAT.Y : Fld := ⟨FIRE_SCANSTAT, 28, 5, .ro⟩

/-- FIRE_SCANFLAG, 06_passes_overspeed_thermal.md, Table 06-5: Scan flags. -/
def FIRE_SCANFLAG : Reg := ⟨0x08C024, 1, 0x0, 1, 0x0⟩
def FIRE_SCANFLAG.ARM_LATE : Fld := ⟨FIRE_SCANFLAG, 6, 6, .w1c⟩
def FIRE_SCANFLAG.PORTS : Fld := ⟨FIRE_SCANFLAG, 5, 5, .w1c⟩
def FIRE_SCANFLAG.REUSE_IGN : Fld := ⟨FIRE_SCANFLAG, 4, 4, .w1c⟩
def FIRE_SCANFLAG.PASS_REJ : Fld := ⟨FIRE_SCANFLAG, 3, 3, .w1c⟩
def FIRE_SCANFLAG.MASK_REJ : Fld := ⟨FIRE_SCANFLAG, 2, 2, .w1c⟩
def FIRE_SCANFLAG.FEED_LATE : Fld := ⟨FIRE_SCANFLAG, 1, 1, .w1c⟩
def FIRE_SCANFLAG.FEED_ERR : Fld := ⟨FIRE_SCANFLAG, 0, 0, .w1c⟩

/-- FIRE_SCANFLAGEN, 06_passes_overspeed_thermal.md, Table 06-5: Event enables. -/
def FIRE_SCANFLAGEN : Reg := ⟨0x08C025, 1, 0x0, 1, 0x0⟩
def FIRE_SCANFLAGEN.ARM_LATE : Fld := ⟨FIRE_SCANFLAGEN, 6, 6, .rw⟩
def FIRE_SCANFLAGEN.PORTS : Fld := ⟨FIRE_SCANFLAGEN, 5, 5, .rw⟩
def FIRE_SCANFLAGEN.REUSE_IGN : Fld := ⟨FIRE_SCANFLAGEN, 4, 4, .rw⟩
def FIRE_SCANFLAGEN.PASS_REJ : Fld := ⟨FIRE_SCANFLAGEN, 3, 3, .rw⟩
def FIRE_SCANFLAGEN.MASK_REJ : Fld := ⟨FIRE_SCANFLAGEN, 2, 2, .rw⟩
def FIRE_SCANFLAGEN.FEED_LATE : Fld := ⟨FIRE_SCANFLAGEN, 1, 1, .rw⟩
def FIRE_SCANFLAGEN.FEED_ERR : Fld := ⟨FIRE_SCANFLAGEN, 0, 0, .rw⟩

/-- FIRE_SCANPOS, 06_passes_overspeed_thermal.md, Table 06-5: Stamp of first FEED_ERR or ARM_LATE. -/
def FIRE_SCANPOS : Reg := ⟨0x08C026, 1, 0x0, 1, 0x0⟩
def FIRE_SCANPOS.STAMP : Fld := ⟨FIRE_SCANPOS, 39, 0, .ro⟩

/-- FIRE_PASSIDX, 06_passes_overspeed_thermal.md, Table 06-5: Pass-table index. -/
def FIRE_PASSIDX : Reg := ⟨0x08C027, 1, 0x0, 1, 0x0⟩
def FIRE_PASSIDX.ENTRY : Fld := ⟨FIRE_PASSIDX, 39, 32, .rw⟩
def FIRE_PASSIDX.WORD : Fld := ⟨FIRE_PASSIDX, 31, 31, .rw⟩
def FIRE_PASSIDX.AUTOINC : Fld := ⟨FIRE_PASSIDX, 30, 30, .rw⟩

/-- FIRE_PASSDATA, 06_passes_overspeed_thermal.md, Table 06-5: Pass-table data. -/
def FIRE_PASSDATA : Reg := ⟨0x08C028, 1, 0x0, 1, 0x0⟩
def FIRE_PASSDATA.DATA : Fld := ⟨FIRE_PASSDATA, 39, 0, .rw⟩

/-- FIRE_MASKIDX, 06_passes_overspeed_thermal.md, Table 06-5: Mask index. -/
def FIRE_MASKIDX : Reg := ⟨0x08C029, 1, 0x0, 1, 0x0⟩
def FIRE_MASKIDX.MASK : Fld := ⟨FIRE_MASKIDX, 39, 36, .rw⟩
def FIRE_MASKIDX.ROW : Fld := ⟨FIRE_MASKIDX, 35, 31, .rw⟩
def FIRE_MASKIDX.AUTOINC : Fld := ⟨FIRE_MASKIDX, 30, 30, .rw⟩

/-- FIRE_MASKDATA, 06_passes_overspeed_thermal.md, Table 06-5: Mask data. -/
def FIRE_MASKDATA : Reg := ⟨0x08C02A, 1, 0x0, 1, 0x0⟩
def FIRE_MASKDATA.BITS : Fld := ⟨FIRE_MASKDATA, 31, 0, .rw⟩

/-- FIRE_THFIRST, 06_passes_overspeed_thermal.md, Table 06-5: First thermal action. -/
def FIRE_THFIRST : Reg := ⟨0x08C030, 1, 0x0, 1, 0x0⟩
def FIRE_THFIRST.PORT : Fld := ⟨FIRE_THFIRST, 39, 34, .ro⟩
def FIRE_THFIRST.ACTION : Fld := ⟨FIRE_THFIRST, 33, 32, .ro⟩

/-- FIRE_THPOS, 06_passes_overspeed_thermal.md, Table 06-5: Its stamp. -/
def FIRE_THPOS : Reg := ⟨0x08C031, 1, 0x0, 1, 0x0⟩
def FIRE_THPOS.STAMP : Fld := ⟨FIRE_THPOS, 39, 0, .ro⟩

/-- FIRE_THCFG[p], 06_passes_overspeed_thermal.md, Table 06-5: Thermal policy per port. -/
def FIRE_THCFG : Reg := ⟨0x08C040, 48, 0x1, 1, 0x0⟩
def FIRE_THCFG.HI : Fld := ⟨FIRE_THCFG, 39, 28, .rws⟩
def FIRE_THCFG.LO : Fld := ⟨FIRE_THCFG, 27, 16, .rws⟩
def FIRE_THCFG.ACT : Fld := ⟨FIRE_THCFG, 15, 14, .rws⟩
def FIRE_THCFG.FALLBACK : Fld := ⟨FIRE_THCFG, 13, 13, .rws⟩
def FIRE_THCFG.AUTO_REL : Fld := ⟨FIRE_THCFG, 12, 12, .rws⟩
def FIRE_THCFG.PARTNER : Fld := ⟨FIRE_THCFG, 11, 6, .rws⟩
def FIRE_THCFG.STANDBY : Fld := ⟨FIRE_THCFG, 5, 5, .rws⟩
def FIRE_THCFG.REL : Fld := ⟨FIRE_THCFG, 4, 4, .rws⟩

/-- FIRE_THSTAT[p], 06_passes_overspeed_thermal.md, Table 06-5: Thermal state per port. -/
def FIRE_THSTAT : Reg := ⟨0x08C070, 48, 0x1, 1, 0x0⟩
def FIRE_THSTAT.TSTATE : Fld := ⟨FIRE_THSTAT, 39, 38, .ro⟩
def FIRE_THSTAT.FIRING : Fld := ⟨FIRE_THSTAT, 37, 37, .ro⟩
def FIRE_THSTAT.TMAX : Fld := ⟨FIRE_THSTAT, 36, 25, .ro⟩

/-- FIRE_THFLAG[p], 06_passes_overspeed_thermal.md, Table 06-5: Thermal flags per port. -/
def FIRE_THFLAG : Reg := ⟨0x08C0A0, 48, 0x1, 1, 0x0⟩
def FIRE_THFLAG.NO_ALT : Fld := ⟨FIRE_THFLAG, 3, 3, .w1c⟩
def FIRE_THFLAG.RELEASED : Fld := ⟨FIRE_THFLAG, 2, 2, .w1c⟩
def FIRE_THFLAG.ACTION : Fld := ⟨FIRE_THFLAG, 1, 1, .w1c⟩
def FIRE_THFLAG.LIMIT : Fld := ⟨FIRE_THFLAG, 0, 0, .w1c⟩

/-- FIRE_THFLAGEN[p], 06_passes_overspeed_thermal.md, Table 06-5: Event enables. -/
def FIRE_THFLAGEN : Reg := ⟨0x08C0D0, 48, 0x1, 1, 0x0⟩
def FIRE_THFLAGEN.NO_ALT : Fld := ⟨FIRE_THFLAGEN, 3, 3, .rw⟩
def FIRE_THFLAGEN.RELEASED : Fld := ⟨FIRE_THFLAGEN, 2, 2, .rw⟩
def FIRE_THFLAGEN.ACTION : Fld := ⟨FIRE_THFLAGEN, 1, 1, .rw⟩
def FIRE_THFLAGEN.LIMIT : Fld := ⟨FIRE_THFLAGEN, 0, 0, .rw⟩

/-- The registers of FIRE. -/
def rowsFIRE : List RegRow :=
  [
    ⟨FIRE_PORTCTL, [FIRE_PORTCTL.TEL_ACT, FIRE_PORTCTL.RUN, FIRE_PORTCTL.HEN, FIRE_PORTCTL.LINK_EN], 0x0⟩,
    ⟨FIRE_PORTSTAT, [FIRE_PORTSTAT.LSTATE, FIRE_PORTSTAT.HEN_OUT, FIRE_PORTSTAT.HEN_CAUSE, FIRE_PORTSTAT.READY, FIRE_PORTSTAT.WVALID, FIRE_PORTSTAT.BANK, FIRE_PORTSTAT.BANK_PEND, FIRE_PORTSTAT.WSET, FIRE_PORTSTAT.WLOAD_BUSY], 0x400000000⟩,
    ⟨FIRE_PORTFLAG, [FIRE_PORTFLAG.WSET_INVALID, FIRE_PORTFLAG.TEST_REJ, FIRE_PORTFLAG.TEST_DONE, FIRE_PORTFLAG.TRIM_RANGE, FIRE_PORTFLAG.TBL_ERR, FIRE_PORTFLAG.WLOAD_REJ, FIRE_PORTFLAG.WLOAD_ERR, FIRE_PORTFLAG.WLOAD_DONE, FIRE_PORTFLAG.HEAD_FAULT, FIRE_PORTFLAG.TEL_CRC, FIRE_PORTFLAG.TEL_LOST, FIRE_PORTFLAG.TRAIN_FAIL, FIRE_PORTFLAG.LINK_DOWN, FIRE_PORTFLAG.NAK], 0x0⟩,
    ⟨FIRE_PORTFLAGEN, [FIRE_PORTFLAGEN.WSET_INVALID, FIRE_PORTFLAGEN.TEST_REJ, FIRE_PORTFLAGEN.TEST_DONE, FIRE_PORTFLAGEN.TRIM_RANGE, FIRE_PORTFLAGEN.TBL_ERR, FIRE_PORTFLAGEN.WLOAD_REJ, FIRE_PORTFLAGEN.WLOAD_ERR, FIRE_PORTFLAGEN.WLOAD_DONE, FIRE_PORTFLAGEN.HEAD_FAULT, FIRE_PORTFLAGEN.TEL_CRC, FIRE_PORTFLAGEN.TEL_LOST, FIRE_PORTFLAGEN.TRAIN_FAIL, FIRE_PORTFLAGEN.LINK_DOWN, FIRE_PORTFLAGEN.NAK], 0x0⟩,
    ⟨FIRE_KLAT, [FIRE_KLAT.LAT], 0x8C0000000⟩,
    ⟨FIRE_TRIM, [FIRE_TRIM.OFS, FIRE_TRIM.SKEW], 0x0⟩,
    ⟨FIRE_WAVE, [FIRE_WAVE.SET, FIRE_WAVE.COOL], 0x0⟩,
    ⟨FIRE_WLOAD, [FIRE_WLOAD.GO, FIRE_WLOAD.TARGET, FIRE_WLOAD.NSEG], 0x0⟩,
    ⟨FIRE_WADDR, [FIRE_WADDR.ADDR], 0x0⟩,
    ⟨FIRE_DLYIDX, [FIRE_DLYIDX.WORD, FIRE_DLYIDX.AUTOINC], 0x0⟩,
    ⟨FIRE_DLYDATA, [FIRE_DLYDATA.ENT0, FIRE_DLYDATA.ENT1, FIRE_DLYDATA.ENT2], 0x0⟩,
    ⟨FIRE_TEMP, [FIRE_TEMP.T0, FIRE_TEMP.T1, FIRE_TEMP.AGE], 0xFFFF⟩,
    ⟨FIRE_HEADCFG, [FIRE_HEADCFG.SETTLE, FIRE_HEADCFG.INTERVAL, FIRE_HEADCFG.TIMEOUT], 0x19006403E8⟩,
    ⟨FIRE_TEST, [FIRE_TEST.GO], 0x0⟩,
    ⟨FIRE_TADDR, [FIRE_TADDR.ADDR], 0x0⟩,
    ⟨FIRE_ERRPOS, [FIRE_ERRPOS.STAMP], 0x0⟩,
    ⟨FIRE_LSTAT, [FIRE_LSTAT.LINES], 0x0⟩,
    ⟨FIRE_GCTL, [FIRE_GCTL.NAK_ACT], 0x1⟩,
    ⟨FIRE_GFLAG, [FIRE_GFLAG.DLY_REJ, FIRE_GFLAG.TRIM_LATE, FIRE_GFLAG.PORT_LOST, FIRE_GFLAG.LINE_NAK, FIRE_GFLAG.LB_CORR, FIRE_GFLAG.LB_ECC, FIRE_GFLAG.ROW_MISS], 0x0⟩,
    ⟨FIRE_GFLAGEN, [FIRE_GFLAGEN.DLY_REJ, FIRE_GFLAGEN.TRIM_LATE, FIRE_GFLAGEN.PORT_LOST, FIRE_GFLAGEN.LINE_NAK, FIRE_GFLAGEN.LB_CORR, FIRE_GFLAGEN.LB_ECC, FIRE_GFLAGEN.ROW_MISS], 0x0⟩,
    ⟨FIRE_GINFO, [FIRE_GINFO.CHECK, FIRE_GINFO.PORT, FIRE_GINFO.CHAN], 0x0⟩,
    ⟨FIRE_GPOS, [FIRE_GPOS.STAMP], 0x0⟩,
    ⟨FIRE_MAXRATE, [FIRE_MAXRATE.RATE], 0x7530000000⟩,
    ⟨FIRE_OVSP_LIMIT, [FIRE_OVSP_LIMIT.LIMIT, FIRE_OVSP_LIMIT.ACT], 0x800000⟩] ++
  [
    ⟨FIRE_OVSP_FLAG, [FIRE_OVSP_FLAG.FIFO_OVF, FIRE_OVSP_FLAG.SUPPRESS, FIRE_OVSP_FLAG.WARN], 0x0⟩,
    ⟨FIRE_OVSP_FLAGEN, [FIRE_OVSP_FLAGEN.FIFO_OVF, FIRE_OVSP_FLAGEN.SUPPRESS, FIRE_OVSP_FLAGEN.WARN], 0x0⟩,
    ⟨FIRE_OVSP_STAT, [FIRE_OVSP_STAT.PAGE_CNT, FIRE_OVSP_STAT.LEVEL], 0x0⟩,
    ⟨FIRE_OVSP_FIFO, [FIRE_OVSP_FIFO.STAMP], 0x0⟩,
    ⟨FIRE_OVSP_FIRST, [FIRE_OVSP_FIRST.STAMP], 0x0⟩,
    ⟨FIRE_SCANCFG, [FIRE_SCANCFG.CSPAN, FIRE_SCANCFG.REV_SPAN, FIRE_SCANCFG.FEED_TOL, FIRE_SCANCFG.FEED_AXIS], 0x0⟩,
    ⟨FIRE_FEEDRATIO, [FIRE_FEEDRATIO.INT, FIRE_FEEDRATIO.FRAC], 0x0⟩,
    ⟨FIRE_SCANCTL, [FIRE_SCANCTL.RESUME, FIRE_SCANCTL.FEED_ACT], 0x1⟩,
    ⟨FIRE_SCANSTAT, [FIRE_SCANSTAT.PASS, FIRE_SCANSTAT.SSTATE, FIRE_SCANSTAT.Y], 0x0⟩,
    ⟨FIRE_SCANFLAG, [FIRE_SCANFLAG.ARM_LATE, FIRE_SCANFLAG.PORTS, FIRE_SCANFLAG.REUSE_IGN, FIRE_SCANFLAG.PASS_REJ, FIRE_SCANFLAG.MASK_REJ, FIRE_SCANFLAG.FEED_LATE, FIRE_SCANFLAG.FEED_ERR], 0x0⟩,
    ⟨FIRE_SCANFLAGEN, [FIRE_SCANFLAGEN.ARM_LATE, FIRE_SCANFLAGEN.PORTS, FIRE_SCANFLAGEN.REUSE_IGN, FIRE_SCANFLAGEN.PASS_REJ, FIRE_SCANFLAGEN.MASK_REJ, FIRE_SCANFLAGEN.FEED_LATE, FIRE_SCANFLAGEN.FEED_ERR], 0x0⟩,
    ⟨FIRE_SCANPOS, [FIRE_SCANPOS.STAMP], 0x0⟩,
    ⟨FIRE_PASSIDX, [FIRE_PASSIDX.ENTRY, FIRE_PASSIDX.WORD, FIRE_PASSIDX.AUTOINC], 0x0⟩,
    ⟨FIRE_PASSDATA, [FIRE_PASSDATA.DATA], 0x0⟩,
    ⟨FIRE_MASKIDX, [FIRE_MASKIDX.MASK, FIRE_MASKIDX.ROW, FIRE_MASKIDX.AUTOINC], 0x0⟩,
    ⟨FIRE_MASKDATA, [FIRE_MASKDATA.BITS], 0x0⟩,
    ⟨FIRE_THFIRST, [FIRE_THFIRST.PORT, FIRE_THFIRST.ACTION], 0x0⟩,
    ⟨FIRE_THPOS, [FIRE_THPOS.STAMP], 0x0⟩,
    ⟨FIRE_THCFG, [FIRE_THCFG.HI, FIRE_THCFG.LO, FIRE_THCFG.ACT, FIRE_THCFG.FALLBACK, FIRE_THCFG.AUTO_REL, FIRE_THCFG.PARTNER, FIRE_THCFG.STANDBY, FIRE_THCFG.REL], 0x7FF5002000⟩,
    ⟨FIRE_THSTAT, [FIRE_THSTAT.TSTATE, FIRE_THSTAT.FIRING, FIRE_THSTAT.TMAX], 0x2000000000⟩,
    ⟨FIRE_THFLAG, [FIRE_THFLAG.NO_ALT, FIRE_THFLAG.RELEASED, FIRE_THFLAG.ACTION, FIRE_THFLAG.LIMIT], 0x0⟩,
    ⟨FIRE_THFLAGEN, [FIRE_THFLAGEN.NO_ALT, FIRE_THFLAGEN.RELEASED, FIRE_THFLAGEN.ACTION, FIRE_THFLAGEN.LIMIT], 0x0⟩]

/-! ### SKID -/

/-- SKID_CTL, 04_skidder_remap.md, Table 04-9: Enable, decode window, poll interval. -/
def SKID_CTL : Reg := ⟨0x0C0000, 1, 0x0, 1, 0x0⟩
def SKID_CTL.DEC_AHEAD : Fld := ⟨SKID_CTL, 39, 34, .rws⟩
def SKID_CTL.POLL : Fld := ⟨SKID_CTL, 33, 26, .rw⟩
def SKID_CTL.ENABLE : Fld := ⟨SKID_CTL, 0, 0, .rw⟩

/-- SKID_FLAG, 04_skidder_remap.md, Table 04-9: Flags. -/
def SKID_FLAG : Reg := ⟨0x0C0002, 1, 0x0, 1, 0x0⟩
def SKID_FLAG.JOB_HELD : Fld := ⟨SKID_FLAG, 10, 10, .w1c⟩
def SKID_FLAG.DESC_DONE : Fld := ⟨SKID_FLAG, 9, 9, .w1c⟩
def SKID_FLAG.RMAP_ECC : Fld := ⟨SKID_FLAG, 8, 8, .w1c⟩
def SKID_FLAG.DESC_ECC : Fld := ⟨SKID_FLAG, 7, 7, .w1c⟩
def SKID_FLAG.RMAP_REJ : Fld := ⟨SKID_FLAG, 6, 6, .w1c⟩
def SKID_FLAG.RMAP_RANGE : Fld := ⟨SKID_FLAG, 5, 5, .w1c⟩
def SKID_FLAG.COLLIDE : Fld := ⟨SKID_FLAG, 4, 4, .w1c⟩
def SKID_FLAG.STALE : Fld := ⟨SKID_FLAG, 3, 3, .w1c⟩
def SKID_FLAG.DESC_BAD : Fld := ⟨SKID_FLAG, 2, 2, .w1c⟩
def SKID_FLAG.LATE : Fld := ⟨SKID_FLAG, 1, 1, .w1c⟩
def SKID_FLAG.STARVE : Fld := ⟨SKID_FLAG, 0, 0, .w1c⟩

/-- SKID_FLAGEN, 04_skidder_remap.md, Table 04-9: Event enables for SKID_FLAG. -/
def SKID_FLAGEN : Reg := ⟨0x0C0003, 1, 0x0, 1, 0x0⟩
def SKID_FLAGEN.JOB_HELD : Fld := ⟨SKID_FLAGEN, 10, 10, .rw⟩
def SKID_FLAGEN.DESC_DONE : Fld := ⟨SKID_FLAGEN, 9, 9, .rw⟩
def SKID_FLAGEN.RMAP_ECC : Fld := ⟨SKID_FLAGEN, 8, 8, .rw⟩
def SKID_FLAGEN.DESC_ECC : Fld := ⟨SKID_FLAGEN, 7, 7, .rw⟩
def SKID_FLAGEN.RMAP_REJ : Fld := ⟨SKID_FLAGEN, 6, 6, .rw⟩
def SKID_FLAGEN.RMAP_RANGE : Fld := ⟨SKID_FLAGEN, 5, 5, .rw⟩
def SKID_FLAGEN.COLLIDE : Fld := ⟨SKID_FLAGEN, 4, 4, .rw⟩
def SKID_FLAGEN.STALE : Fld := ⟨SKID_FLAGEN, 3, 3, .rw⟩
def SKID_FLAGEN.DESC_BAD : Fld := ⟨SKID_FLAGEN, 2, 2, .rw⟩
def SKID_FLAGEN.LATE : Fld := ⟨SKID_FLAGEN, 1, 1, .rw⟩
def SKID_FLAGEN.STARVE : Fld := ⟨SKID_FLAGEN, 0, 0, .rw⟩

/-- SKID_FAULTINFO, 04_skidder_remap.md, Table 04-9: First fault: code, stream, block. -/
def SKID_FAULTINFO : Reg := ⟨0x0C0004, 1, 0x0, 1, 0x0⟩
def SKID_FAULTINFO.CODE : Fld := ⟨SKID_FAULTINFO, 39, 32, .ro⟩
def SKID_FAULTINFO.STREAM : Fld := ⟨SKID_FAULTINFO, 31, 26, .ro⟩
def SKID_FAULTINFO.BLK : Fld := ⟨SKID_FAULTINFO, 25, 5, .ro⟩

/-- SKID_FAULTPOS, 04_skidder_remap.md, Table 04-9: Stamp of the first fault. -/
def SKID_FAULTPOS : Reg := ⟨0x0C0005, 1, 0x0, 1, 0x0⟩
def SKID_FAULTPOS.STAMP : Fld := ⟨SKID_FAULTPOS, 39, 0, .ro⟩

/-- SKID_DBADINFO, 04_skidder_remap.md, Table 04-9: First invalid descriptor. -/
def SKID_DBADINFO : Reg := ⟨0x0C0006, 1, 0x0, 1, 0x0⟩
def SKID_DBADINFO.STREAM : Fld := ⟨SKID_DBADINFO, 39, 34, .ro⟩
def SKID_DBADINFO.DIDX : Fld := ⟨SKID_DBADINFO, 33, 18, .ro⟩
def SKID_DBADINFO.WHY : Fld := ⟨SKID_DBADINFO, 17, 14, .ro⟩

/-- SKID_COLLINFO, 04_skidder_remap.md, Table 04-9: First collision. -/
def SKID_COLLINFO : Reg := ⟨0x0C0007, 1, 0x0, 1, 0x0⟩
def SKID_COLLINFO.PORT : Fld := ⟨SKID_COLLINFO, 39, 34, .ro⟩
def SKID_COLLINFO.CHAN : Fld := ⟨SKID_COLLINFO, 33, 22, .ro⟩

/-- SKID_COLLPOS, 04_skidder_remap.md, Table 04-9: Stamp of the first collision. -/
def SKID_COLLPOS : Reg := ⟨0x0C0008, 1, 0x0, 1, 0x0⟩
def SKID_COLLPOS.STAMP : Fld := ⟨SKID_COLLPOS, 39, 0, .ro⟩

/-- SKID_RMAPIDX, 04_skidder_remap.md, Table 04-9: Remap window index. -/
def SKID_RMAPIDX : Reg := ⟨0x0C000A, 1, 0x0, 1, 0x0⟩
def SKID_RMAPIDX.PORT : Fld := ⟨SKID_RMAPIDX, 39, 34, .rw⟩
def SKID_RMAPIDX.COL : Fld := ⟨SKID_RMAPIDX, 33, 22, .rw⟩
def SKID_RMAPIDX.WORD : Fld := ⟨SKID_RMAPIDX, 21, 21, .rw⟩
def SKID_RMAPIDX.AUTOINC : Fld := ⟨SKID_RMAPIDX, 20, 20, .rw⟩

/-- SKID_RMAPDATA, 04_skidder_remap.md, Table 04-9: Remap window data. -/
def SKID_RMAPDATA : Reg := ⟨0x0C000B, 1, 0x0, 1, 0x0⟩
def SKID_RMAPDATA.DATA : Fld := ⟨SKID_RMAPDATA, 39, 0, .rw⟩

/-- SKID_ROWGRP[g], 04_skidder_remap.md, Table 04-9: Coarse offset per row group. -/
def SKID_ROWGRP : Reg := ⟨0x0C0010, 16, 0x1, 1, 0x0⟩
def SKID_ROWGRP.COARSE : Fld := ⟨SKID_ROWGRP, 39, 24, .rws⟩

/-- SKID_PORTCFG[p], 04_skidder_remap.md, Table 04-9: Port stream enable and row group. -/
def SKID_PORTCFG : Reg := ⟨0x0C0040, 48, 0x1, 1, 0x0⟩
def SKID_PORTCFG.EN : Fld := ⟨SKID_PORTCFG, 39, 39, .rws⟩
def SKID_PORTCFG.GRP : Fld := ⟨SKID_PORTCFG, 38, 35, .rws⟩

/-- SKID_RING[s], 04_skidder_remap.md, Table 04-9: Slot ring. -/
def SKID_RING : Reg := ⟨0x0C0100, 56, 0x4, 1, 0x0⟩
def SKID_RING.BASE : Fld := ⟨SKID_RING, 39, 8, .rws⟩
def SKID_RING.RATIO : Fld := ⟨SKID_RING, 7, 6, .rws⟩
def SKID_RING.RING_LOG2 : Fld := ⟨SKID_RING, 4, 0, .rws⟩

/-- SKID_DRING[s], 04_skidder_remap.md, Table 04-9: Descriptor ring. -/
def SKID_DRING : Reg := ⟨0x0C0101, 56, 0x4, 1, 0x0⟩
def SKID_DRING.BASE : Fld := ⟨SKID_DRING, 39, 8, .rws⟩
def SKID_DRING.DR_LOG2 : Fld := ⟨SKID_DRING, 4, 0, .rws⟩

/-- SKID_DHEAD[s], 04_skidder_remap.md, Table 04-9: Next descriptor index. -/
def SKID_DHEAD : Reg := ⟨0x0C0102, 56, 0x4, 1, 0x0⟩
def SKID_DHEAD.IDX : Fld := ⟨SKID_DHEAD, 39, 24, .rwl⟩

/-- SKID_SSTAT[s], 04_skidder_remap.md, Table 04-9: Stream progress. -/
def SKID_SSTAT : Reg := ⟨0x0C0103, 56, 0x4, 1, 0x0⟩
def SKID_SSTAT.NEXT_BLK : Fld := ⟨SKID_SSTAT, 39, 19, .ro⟩
def SKID_SSTAT.PREF : Fld := ⟨SKID_SSTAT, 18, 13, .ro⟩

/-- The registers of SKID. -/
def rowsSKID : List RegRow :=
  [
    ⟨SKID_CTL, [SKID_CTL.DEC_AHEAD, SKID_CTL.POLL, SKID_CTL.ENABLE], 0x8040000000⟩,
    ⟨SKID_FLAG, [SKID_FLAG.JOB_HELD, SKID_FLAG.DESC_DONE, SKID_FLAG.RMAP_ECC, SKID_FLAG.DESC_ECC, SKID_FLAG.RMAP_REJ, SKID_FLAG.RMAP_RANGE, SKID_FLAG.COLLIDE, SKID_FLAG.STALE, SKID_FLAG.DESC_BAD, SKID_FLAG.LATE, SKID_FLAG.STARVE], 0x0⟩,
    ⟨SKID_FLAGEN, [SKID_FLAGEN.JOB_HELD, SKID_FLAGEN.DESC_DONE, SKID_FLAGEN.RMAP_ECC, SKID_FLAGEN.DESC_ECC, SKID_FLAGEN.RMAP_REJ, SKID_FLAGEN.RMAP_RANGE, SKID_FLAGEN.COLLIDE, SKID_FLAGEN.STALE, SKID_FLAGEN.DESC_BAD, SKID_FLAGEN.LATE, SKID_FLAGEN.STARVE], 0x0⟩,
    ⟨SKID_FAULTINFO, [SKID_FAULTINFO.CODE, SKID_FAULTINFO.STREAM, SKID_FAULTINFO.BLK], 0x0⟩,
    ⟨SKID_FAULTPOS, [SKID_FAULTPOS.STAMP], 0x0⟩,
    ⟨SKID_DBADINFO, [SKID_DBADINFO.STREAM, SKID_DBADINFO.DIDX, SKID_DBADINFO.WHY], 0x0⟩,
    ⟨SKID_COLLINFO, [SKID_COLLINFO.PORT, SKID_COLLINFO.CHAN], 0x0⟩,
    ⟨SKID_COLLPOS, [SKID_COLLPOS.STAMP], 0x0⟩,
    ⟨SKID_RMAPIDX, [SKID_RMAPIDX.PORT, SKID_RMAPIDX.COL, SKID_RMAPIDX.WORD, SKID_RMAPIDX.AUTOINC], 0x0⟩,
    ⟨SKID_RMAPDATA, [SKID_RMAPDATA.DATA], 0x0⟩,
    ⟨SKID_ROWGRP, [SKID_ROWGRP.COARSE], 0x0⟩,
    ⟨SKID_PORTCFG, [SKID_PORTCFG.EN, SKID_PORTCFG.GRP], 0x0⟩,
    ⟨SKID_RING, [SKID_RING.BASE, SKID_RING.RATIO, SKID_RING.RING_LOG2], 0x40⟩,
    ⟨SKID_DRING, [SKID_DRING.BASE, SKID_DRING.DR_LOG2], 0x0⟩,
    ⟨SKID_DHEAD, [SKID_DHEAD.IDX], 0x0⟩,
    ⟨SKID_SSTAT, [SKID_SSTAT.NEXT_BLK, SKID_SSTAT.PREF], 0x0⟩]

/-! ### CODEC -/

/-- CODEC_CTL, 03_opzo_block_format.md, Table 03-9: Decode enable. -/
def CODEC_CTL : Reg := ⟨0x100000, 1, 0x0, 1, 0x0⟩
def CODEC_CTL.ENABLE : Fld := ⟨CODEC_CTL, 0, 0, .rw⟩

/-- CODEC_STAT, 03_opzo_block_format.md, Table 03-9: Engine and transfer activity. -/
def CODEC_STAT : Reg := ⟨0x100001, 1, 0x0, 1, 0x0⟩
def CODEC_STAT.ENG_BUSY : Fld := ⟨CODEC_STAT, 39, 36, .ro⟩
def CODEC_STAT.ENC_BUSY : Fld := ⟨CODEC_STAT, 35, 35, .ro⟩
def CODEC_STAT.XFER_BUSY : Fld := ⟨CODEC_STAT, 34, 34, .ro⟩

/-- CODEC_FLAG, 03_opzo_block_format.md, Table 03-9: Error flags. -/
def CODEC_FLAG : Reg := ⟨0x100002, 1, 0x0, 1, 0x0⟩
def CODEC_FLAG.ENC_REJ : Fld := ⟨CODEC_FLAG, 7, 7, .w1c⟩
def CODEC_FLAG.ENC_POOL : Fld := ⟨CODEC_FLAG, 6, 6, .w1c⟩
def CODEC_FLAG.CTX_BUSY : Fld := ⟨CODEC_FLAG, 5, 5, .w1c⟩
def CODEC_FLAG.CTX_ECC : Fld := ⟨CODEC_FLAG, 4, 4, .w1c⟩
def CODEC_FLAG.ECC : Fld := ⟨CODEC_FLAG, 3, 3, .w1c⟩
def CODEC_FLAG.POOL_RANGE : Fld := ⟨CODEC_FLAG, 2, 2, .w1c⟩
def CODEC_FLAG.POOL_EXHAUST : Fld := ⟨CODEC_FLAG, 1, 1, .w1c⟩
def CODEC_FLAG.FORMAT : Fld := ⟨CODEC_FLAG, 0, 0, .w1c⟩

/-- CODEC_FLAGEN, 03_opzo_block_format.md, Table 03-9: Event enables for CODEC_FLAG. -/
def CODEC_FLAGEN : Reg := ⟨0x100003, 1, 0x0, 1, 0x0⟩
def CODEC_FLAGEN.ENC_REJ : Fld := ⟨CODEC_FLAGEN, 7, 7, .rw⟩
def CODEC_FLAGEN.ENC_POOL : Fld := ⟨CODEC_FLAGEN, 6, 6, .rw⟩
def CODEC_FLAGEN.CTX_BUSY : Fld := ⟨CODEC_FLAGEN, 5, 5, .rw⟩
def CODEC_FLAGEN.CTX_ECC : Fld := ⟨CODEC_FLAGEN, 4, 4, .rw⟩
def CODEC_FLAGEN.ECC : Fld := ⟨CODEC_FLAGEN, 3, 3, .rw⟩
def CODEC_FLAGEN.POOL_RANGE : Fld := ⟨CODEC_FLAGEN, 2, 2, .rw⟩
def CODEC_FLAGEN.POOL_EXHAUST : Fld := ⟨CODEC_FLAGEN, 1, 1, .rw⟩
def CODEC_FLAGEN.FORMAT : Fld := ⟨CODEC_FLAGEN, 0, 0, .rw⟩

/-- CODEC_ERRINFO, 03_opzo_block_format.md, Table 03-9: First error code, stream, sequence. -/
def CODEC_ERRINFO : Reg := ⟨0x100004, 1, 0x0, 1, 0x0⟩
def CODEC_ERRINFO.CODE : Fld := ⟨CODEC_ERRINFO, 39, 32, .ro⟩
def CODEC_ERRINFO.STREAM : Fld := ⟨CODEC_ERRINFO, 31, 26, .ro⟩
def CODEC_ERRINFO.BLK_SEQ : Fld := ⟨CODEC_ERRINFO, 25, 19, .ro⟩

/-- CODEC_ERRLINE, 03_opzo_block_format.md, Table 03-9: Stamp of the failed block's first line. -/
def CODEC_ERRLINE : Reg := ⟨0x100005, 1, 0x0, 1, 0x0⟩
def CODEC_ERRLINE.STAMP : Fld := ⟨CODEC_ERRLINE, 39, 0, .ro⟩

/-- CODEC_CTXXFER, 03_opzo_block_format.md, Table 03-9: Context transfer command. -/
def CODEC_CTXXFER : Reg := ⟨0x100006, 1, 0x0, 1, 0x0⟩
def CODEC_CTXXFER.GO : Fld := ⟨CODEC_CTXXFER, 39, 39, .wo⟩
def CODEC_CTXXFER.DIR : Fld := ⟨CODEC_CTXXFER, 38, 38, .rw⟩
def CODEC_CTXXFER.STREAM : Fld := ⟨CODEC_CTXXFER, 37, 32, .rw⟩

/-- CODEC_CTXADDR, 03_opzo_block_format.md, Table 03-9: Context transfer address. -/
def CODEC_CTXADDR : Reg := ⟨0x100007, 1, 0x0, 1, 0x0⟩
def CODEC_CTXADDR.SPACE : Fld := ⟨CODEC_CTXADDR, 32, 32, .rw⟩
def CODEC_CTXADDR.ADDR : Fld := ⟨CODEC_CTXADDR, 31, 0, .rw⟩

/-- CODEC_ENCCFG[e], 03_opzo_block_format.md, Table 03-9: Encode stream configuration. -/
def CODEC_ENCCFG : Reg := ⟨0x100040, 8, 0x8, 1, 0x0⟩
def CODEC_ENCCFG.ENABLE : Fld := ⟨CODEC_ENCCFG, 39, 39, .rw⟩
def CODEC_ENCCFG.RATIO : Fld := ⟨CODEC_ENCCFG, 38, 37, .rw⟩
def CODEC_ENCCFG.BAND_NEXT : Fld := ⟨CODEC_ENCCFG, 36, 36, .wo⟩
def CODEC_ENCCFG.TAG : Fld := ⟨CODEC_ENCCFG, 35, 4, .rw⟩
def CODEC_ENCCFG.SRC : Fld := ⟨CODEC_ENCCFG, 3, 2, .rw⟩

/-- CODEC_ENCDST[e], 03_opzo_block_format.md, Table 03-9: Encode slot ring. -/
def CODEC_ENCDST : Reg := ⟨0x100041, 8, 0x8, 1, 0x0⟩
def CODEC_ENCDST.BASE : Fld := ⟨CODEC_ENCDST, 39, 8, .rw⟩
def CODEC_ENCDST.RING_LOG2 : Fld := ⟨CODEC_ENCDST, 4, 0, .rw⟩

/-- CODEC_ENCPOOL[e], 03_opzo_block_format.md, Table 03-9: Encode overflow pool. -/
def CODEC_ENCPOOL : Reg := ⟨0x100042, 8, 0x8, 1, 0x0⟩
def CODEC_ENCPOOL.BASE : Fld := ⟨CODEC_ENCPOOL, 39, 16, .rw⟩
def CODEC_ENCPOOL.SIZE : Fld := ⟨CODEC_ENCPOOL, 15, 0, .rw⟩

/-- CODEC_ENCSTAT[e], 03_opzo_block_format.md, Table 03-9: Encode counts. -/
def CODEC_ENCSTAT : Reg := ⟨0x100043, 8, 0x8, 1, 0x0⟩
def CODEC_ENCSTAT.BLOCKS : Fld := ⟨CODEC_ENCSTAT, 39, 24, .ro⟩
def CODEC_ENCSTAT.POOL_USED : Fld := ⟨CODEC_ENCSTAT, 23, 0, .ro⟩

/-- CODEC_STRSTAT[s], 03_opzo_block_format.md, Table 03-9: Per-stream decode counts. -/
def CODEC_STRSTAT : Reg := ⟨0x100100, 64, 0x1, 1, 0x0⟩
def CODEC_STRSTAT.BLOCKS : Fld := ⟨CODEC_STRSTAT, 39, 16, .ro⟩
def CODEC_STRSTAT.SPILLED : Fld := ⟨CODEC_STRSTAT, 15, 0, .ro⟩

/-- The registers of CODEC. -/
def rowsCODEC : List RegRow :=
  [
    ⟨CODEC_CTL, [CODEC_CTL.ENABLE], 0x0⟩,
    ⟨CODEC_STAT, [CODEC_STAT.ENG_BUSY, CODEC_STAT.ENC_BUSY, CODEC_STAT.XFER_BUSY], 0x0⟩,
    ⟨CODEC_FLAG, [CODEC_FLAG.ENC_REJ, CODEC_FLAG.ENC_POOL, CODEC_FLAG.CTX_BUSY, CODEC_FLAG.CTX_ECC, CODEC_FLAG.ECC, CODEC_FLAG.POOL_RANGE, CODEC_FLAG.POOL_EXHAUST, CODEC_FLAG.FORMAT], 0x0⟩,
    ⟨CODEC_FLAGEN, [CODEC_FLAGEN.ENC_REJ, CODEC_FLAGEN.ENC_POOL, CODEC_FLAGEN.CTX_BUSY, CODEC_FLAGEN.CTX_ECC, CODEC_FLAGEN.ECC, CODEC_FLAGEN.POOL_RANGE, CODEC_FLAGEN.POOL_EXHAUST, CODEC_FLAGEN.FORMAT], 0x0⟩,
    ⟨CODEC_ERRINFO, [CODEC_ERRINFO.CODE, CODEC_ERRINFO.STREAM, CODEC_ERRINFO.BLK_SEQ], 0x0⟩,
    ⟨CODEC_ERRLINE, [CODEC_ERRLINE.STAMP], 0x0⟩,
    ⟨CODEC_CTXXFER, [CODEC_CTXXFER.GO, CODEC_CTXXFER.DIR, CODEC_CTXXFER.STREAM], 0x0⟩,
    ⟨CODEC_CTXADDR, [CODEC_CTXADDR.SPACE, CODEC_CTXADDR.ADDR], 0x0⟩,
    ⟨CODEC_ENCCFG, [CODEC_ENCCFG.ENABLE, CODEC_ENCCFG.RATIO, CODEC_ENCCFG.BAND_NEXT, CODEC_ENCCFG.TAG, CODEC_ENCCFG.SRC], 0x2000000000⟩,
    ⟨CODEC_ENCDST, [CODEC_ENCDST.BASE, CODEC_ENCDST.RING_LOG2], 0x0⟩,
    ⟨CODEC_ENCPOOL, [CODEC_ENCPOOL.BASE, CODEC_ENCPOOL.SIZE], 0x0⟩,
    ⟨CODEC_ENCSTAT, [CODEC_ENCSTAT.BLOCKS, CODEC_ENCSTAT.POOL_USED], 0x0⟩,
    ⟨CODEC_STRSTAT, [CODEC_STRSTAT.BLOCKS, CODEC_STRSTAT.SPILLED], 0x0⟩]

/-! ### CAL -/

/-- CAL_CTL, 07_nozzle_calibration.md, Table 07-5: Active bank, late policy. -/
def CAL_CTL : Reg := ⟨0x140000, 1, 0x0, 1, 0x0⟩
def CAL_CTL.ACTIVE : Fld := ⟨CAL_CTL, 39, 39, .rws⟩
def CAL_CTL.LATE_ACT : Fld := ⟨CAL_CTL, 38, 38, .rw⟩

/-- CAL_STAT, 07_nozzle_calibration.md, Table 07-5: Lock, pending work. -/
def CAL_STAT : Reg := ⟨0x140001, 1, 0x0, 1, 0x0⟩
def CAL_STAT.LOCK : Fld := ⟨CAL_STAT, 39, 39, .ro⟩
def CAL_STAT.SWAP_PEND : Fld := ⟨CAL_STAT, 38, 38, .ro⟩
def CAL_STAT.PEND : Fld := ⟨CAL_STAT, 37, 26, .ro⟩

/-- CAL_FLAG, 07_nozzle_calibration.md, Table 07-5: Flags. -/
def CAL_FLAG : Reg := ⟨0x140002, 1, 0x0, 1, 0x0⟩
def CAL_FLAG.LOG_REJ : Fld := ⟨CAL_FLAG, 9, 9, .w1c⟩
def CAL_FLAG.BANK_CORR : Fld := ⟨CAL_FLAG, 8, 8, .w1c⟩
def CAL_FLAG.BANK_ECC : Fld := ⟨CAL_FLAG, 7, 7, .w1c⟩
def CAL_FLAG.LATE : Fld := ⟨CAL_FLAG, 6, 6, .w1c⟩
def CAL_FLAG.DEFERRED : Fld := ⟨CAL_FLAG, 5, 5, .w1c⟩
def CAL_FLAG.LOG_FULL : Fld := ⟨CAL_FLAG, 4, 4, .w1c⟩
def CAL_FLAG.EDIT_FULL : Fld := ⟨CAL_FLAG, 3, 3, .w1c⟩
def CAL_FLAG.EDIT_BAD : Fld := ⟨CAL_FLAG, 2, 2, .w1c⟩
def CAL_FLAG.SWAP_BUSY : Fld := ⟨CAL_FLAG, 1, 1, .w1c⟩
def CAL_FLAG.BANK_REJ : Fld := ⟨CAL_FLAG, 0, 0, .w1c⟩

/-- CAL_FLAGEN, 07_nozzle_calibration.md, Table 07-5: Event enables. -/
def CAL_FLAGEN : Reg := ⟨0x140003, 1, 0x0, 1, 0x0⟩
def CAL_FLAGEN.LOG_REJ : Fld := ⟨CAL_FLAGEN, 9, 9, .rw⟩
def CAL_FLAGEN.BANK_CORR : Fld := ⟨CAL_FLAGEN, 8, 8, .rw⟩
def CAL_FLAGEN.BANK_ECC : Fld := ⟨CAL_FLAGEN, 7, 7, .rw⟩
def CAL_FLAGEN.LATE : Fld := ⟨CAL_FLAGEN, 6, 6, .rw⟩
def CAL_FLAGEN.DEFERRED : Fld := ⟨CAL_FLAGEN, 5, 5, .rw⟩
def CAL_FLAGEN.LOG_FULL : Fld := ⟨CAL_FLAGEN, 4, 4, .rw⟩
def CAL_FLAGEN.EDIT_FULL : Fld := ⟨CAL_FLAGEN, 3, 3, .rw⟩
def CAL_FLAGEN.EDIT_BAD : Fld := ⟨CAL_FLAGEN, 2, 2, .rw⟩
def CAL_FLAGEN.SWAP_BUSY : Fld := ⟨CAL_FLAGEN, 1, 1, .rw⟩
def CAL_FLAGEN.BANK_REJ : Fld := ⟨CAL_FLAGEN, 0, 0, .rw⟩

/-- CAL_ERRPOS, 07_nozzle_calibration.md, Table 07-5: Stamp of first DEFERRED, LATE or BANK_ECC. -/
def CAL_ERRPOS : Reg := ⟨0x140004, 1, 0x0, 1, 0x0⟩
def CAL_ERRPOS.STAMP : Fld := ⟨CAL_ERRPOS, 39, 0, .ro⟩

/-- CAL_BANKIDX, 07_nozzle_calibration.md, Table 07-5: Bank window index. -/
def CAL_BANKIDX : Reg := ⟨0x140005, 1, 0x0, 1, 0x0⟩
def CAL_BANKIDX.BANK : Fld := ⟨CAL_BANKIDX, 39, 39, .rw⟩
def CAL_BANKIDX.PORT : Fld := ⟨CAL_BANKIDX, 38, 33, .rw⟩
def CAL_BANKIDX.TABLE : Fld := ⟨CAL_BANKIDX, 32, 31, .rw⟩
def CAL_BANKIDX.WORD : Fld := ⟨CAL_BANKIDX, 30, 21, .rw⟩
def CAL_BANKIDX.AUTOINC : Fld := ⟨CAL_BANKIDX, 20, 20, .rw⟩

/-- CAL_BANKDATA, 07_nozzle_calibration.md, Table 07-5: Bank window data. -/
def CAL_BANKDATA : Reg := ⟨0x140006, 1, 0x0, 1, 0x0⟩
def CAL_BANKDATA.DATA : Fld := ⟨CAL_BANKDATA, 39, 0, .rw⟩

/-- CAL_BANKTAG[b], 07_nozzle_calibration.md, Table 07-5: Bank tag. -/
def CAL_BANKTAG : Reg := ⟨0x140008, 2, 0x1, 1, 0x0⟩
def CAL_BANKTAG.TAG : Fld := ⟨CAL_BANKTAG, 39, 16, .rw⟩

/-- CAL_SUBEDIT, 07_nozzle_calibration.md, Table 07-5: Selection edit queue. -/
def CAL_SUBEDIT : Reg := ⟨0x14000A, 1, 0x0, 1, 0x0⟩
def CAL_SUBEDIT.PORT : Fld := ⟨CAL_SUBEDIT, 39, 34, .rws⟩
def CAL_SUBEDIT.COL : Fld := ⟨CAL_SUBEDIT, 33, 22, .rws⟩
def CAL_SUBEDIT.SEL : Fld := ⟨CAL_SUBEDIT, 21, 19, .rws⟩

/-- CAL_TRIMEDIT, 07_nozzle_calibration.md, Table 07-5: Trim edit queue. -/
def CAL_TRIMEDIT : Reg := ⟨0x14000B, 1, 0x0, 1, 0x0⟩
def CAL_TRIMEDIT.PORT : Fld := ⟨CAL_TRIMEDIT, 39, 34, .rws⟩
def CAL_TRIMEDIT.CHAN : Fld := ⟨CAL_TRIMEDIT, 33, 22, .rws⟩
def CAL_TRIMEDIT.TRIM : Fld := ⟨CAL_TRIMEDIT, 21, 18, .rws⟩
def CAL_TRIMEDIT.DMAP : Fld := ⟨CAL_TRIMEDIT, 17, 16, .rws⟩

/-- CAL_LOGBASE, 07_nozzle_calibration.md, Table 07-5: Log ring base. -/
def CAL_LOGBASE : Reg := ⟨0x140010, 1, 0x0, 1, 0x0⟩
def CAL_LOGBASE.ADDR : Fld := ⟨CAL_LOGBASE, 35, 0, .rw⟩

/-- CAL_LOGCFG, 07_nozzle_calibration.md, Table 07-5: Log size, enable. -/
def CAL_LOGCFG : Reg := ⟨0x140011, 1, 0x0, 1, 0x0⟩
def CAL_LOGCFG.LOG2 : Fld := ⟨CAL_LOGCFG, 39, 35, .rw⟩
def CAL_LOGCFG.EN : Fld := ⟨CAL_LOGCFG, 34, 34, .rw⟩

/-- CAL_LOGWR, 07_nozzle_calibration.md, Table 07-5: Log write index. -/
def CAL_LOGWR : Reg := ⟨0x140012, 1, 0x0, 1, 0x0⟩
def CAL_LOGWR.IDX : Fld := ⟨CAL_LOGWR, 39, 16, .ro⟩

/-- CAL_LOGRD, 07_nozzle_calibration.md, Table 07-5: Log read index. -/
def CAL_LOGRD : Reg := ⟨0x140013, 1, 0x0, 1, 0x0⟩
def CAL_LOGRD.IDX : Fld := ⟨CAL_LOGRD, 39, 16, .rw⟩

/-- CAL_LOGSTAT, 07_nozzle_calibration.md, Table 07-5: Reserved entries. -/
def CAL_LOGSTAT : Reg := ⟨0x140014, 1, 0x0, 1, 0x0⟩
def CAL_LOGSTAT.RESV : Fld := ⟨CAL_LOGSTAT, 39, 16, .ro⟩

/-- The registers of CAL. -/
def rowsCAL : List RegRow :=
  [
    ⟨CAL_CTL, [CAL_CTL.ACTIVE, CAL_CTL.LATE_ACT], 0x0⟩,
    ⟨CAL_STAT, [CAL_STAT.LOCK, CAL_STAT.SWAP_PEND, CAL_STAT.PEND], 0x0⟩,
    ⟨CAL_FLAG, [CAL_FLAG.LOG_REJ, CAL_FLAG.BANK_CORR, CAL_FLAG.BANK_ECC, CAL_FLAG.LATE, CAL_FLAG.DEFERRED, CAL_FLAG.LOG_FULL, CAL_FLAG.EDIT_FULL, CAL_FLAG.EDIT_BAD, CAL_FLAG.SWAP_BUSY, CAL_FLAG.BANK_REJ], 0x0⟩,
    ⟨CAL_FLAGEN, [CAL_FLAGEN.LOG_REJ, CAL_FLAGEN.BANK_CORR, CAL_FLAGEN.BANK_ECC, CAL_FLAGEN.LATE, CAL_FLAGEN.DEFERRED, CAL_FLAGEN.LOG_FULL, CAL_FLAGEN.EDIT_FULL, CAL_FLAGEN.EDIT_BAD, CAL_FLAGEN.SWAP_BUSY, CAL_FLAGEN.BANK_REJ], 0x0⟩,
    ⟨CAL_ERRPOS, [CAL_ERRPOS.STAMP], 0x0⟩,
    ⟨CAL_BANKIDX, [CAL_BANKIDX.BANK, CAL_BANKIDX.PORT, CAL_BANKIDX.TABLE, CAL_BANKIDX.WORD, CAL_BANKIDX.AUTOINC], 0x0⟩,
    ⟨CAL_BANKDATA, [CAL_BANKDATA.DATA], 0x0⟩,
    ⟨CAL_BANKTAG, [CAL_BANKTAG.TAG], 0x0⟩,
    ⟨CAL_SUBEDIT, [CAL_SUBEDIT.PORT, CAL_SUBEDIT.COL, CAL_SUBEDIT.SEL], 0x200000⟩,
    ⟨CAL_TRIMEDIT, [CAL_TRIMEDIT.PORT, CAL_TRIMEDIT.CHAN, CAL_TRIMEDIT.TRIM, CAL_TRIMEDIT.DMAP], 0x0⟩,
    ⟨CAL_LOGBASE, [CAL_LOGBASE.ADDR], 0x0⟩,
    ⟨CAL_LOGCFG, [CAL_LOGCFG.LOG2, CAL_LOGCFG.EN], 0x5000000000⟩,
    ⟨CAL_LOGWR, [CAL_LOGWR.IDX], 0x0⟩,
    ⟨CAL_LOGRD, [CAL_LOGRD.IDX], 0x0⟩,
    ⟨CAL_LOGSTAT, [CAL_LOGSTAT.RESV], 0x0⟩]

/-! ### VIS -/

/-- VIS_CCICFG[b], 09_inspection_pipeline.md, Table 09-8: Bus mode and rate. -/
def VIS_CCICFG : Reg := ⟨0x180000, 4, 0x4, 1, 0x0⟩
def VIS_CCICFG.MODE : Fld := ⟨VIS_CCICFG, 39, 38, .rw⟩
def VIS_CCICFG.DIV : Fld := ⟨VIS_CCICFG, 37, 30, .rw⟩

/-- VIS_CCICMD[b], 09_inspection_pipeline.md, Table 09-8: Single transfer. -/
def VIS_CCICMD : Reg := ⟨0x180001, 4, 0x4, 1, 0x0⟩
def VIS_CCICMD.GO : Fld := ⟨VIS_CCICMD, 39, 39, .wo⟩
def VIS_CCICMD.RD : Fld := ⟨VIS_CCICMD, 38, 38, .rw⟩
def VIS_CCICMD.W16 : Fld := ⟨VIS_CCICMD, 37, 37, .rw⟩
def VIS_CCICMD.DEV : Fld := ⟨VIS_CCICMD, 36, 30, .rw⟩
def VIS_CCICMD.ADDR : Fld := ⟨VIS_CCICMD, 29, 14, .rw⟩

/-- VIS_CCIDATA[b], 09_inspection_pipeline.md, Table 09-8: Transfer data and status. -/
def VIS_CCIDATA : Reg := ⟨0x180002, 4, 0x4, 1, 0x0⟩
def VIS_CCIDATA.WDATA : Fld := ⟨VIS_CCIDATA, 39, 24, .rw⟩
def VIS_CCIDATA.RDATA : Fld := ⟨VIS_CCIDATA, 23, 8, .ro⟩
def VIS_CCIDATA.STAT : Fld := ⟨VIS_CCIDATA, 7, 6, .ro⟩

/-- VIS_PORTCFG[n], 09_inspection_pipeline.md, Table 09-8: Lanes, channel, type, size. -/
def VIS_PORTCFG : Reg := ⟨0x180100, 8, 0x40, 1, 0x0⟩
def VIS_PORTCFG.EN : Fld := ⟨VIS_PORTCFG, 39, 39, .rw⟩
def VIS_PORTCFG.LANES : Fld := ⟨VIS_PORTCFG, 38, 37, .rw⟩
def VIS_PORTCFG.VC : Fld := ⟨VIS_PORTCFG, 36, 35, .rw⟩
def VIS_PORTCFG.DT : Fld := ⟨VIS_PORTCFG, 34, 29, .rw⟩
def VIS_PORTCFG.WIDTH : Fld := ⟨VIS_PORTCFG, 28, 15, .rw⟩
def VIS_PORTCFG.HEIGHT : Fld := ⟨VIS_PORTCFG, 14, 0, .rw⟩

/-- VIS_PORTSTAT[n], 09_inspection_pipeline.md, Table 09-8: State, frame number, staging. -/
def VIS_PORTSTAT : Reg := ⟨0x180101, 8, 0x40, 1, 0x0⟩
def VIS_PORTSTAT.PSTATE : Fld := ⟨VIS_PORTSTAT, 39, 38, .ro⟩
def VIS_PORTSTAT.FSEQ : Fld := ⟨VIS_PORTSTAT, 37, 22, .ro⟩
def VIS_PORTSTAT.LEVEL : Fld := ⟨VIS_PORTSTAT, 21, 18, .ro⟩
def VIS_PORTSTAT.TFIFO : Fld := ⟨VIS_PORTSTAT, 17, 15, .ro⟩
def VIS_PORTSTAT.ARCH_BUSY : Fld := ⟨VIS_PORTSTAT, 14, 14, .ro⟩
def VIS_PORTSTAT.SENS_BUSY : Fld := ⟨VIS_PORTSTAT, 13, 13, .ro⟩

/-- VIS_PFLAG[n], 09_inspection_pipeline.md, Table 09-8: Port flags. -/
def VIS_PFLAG : Reg := ⟨0x180102, 8, 0x40, 1, 0x0⟩
def VIS_PFLAG.CFG_REJ : Fld := ⟨VIS_PFLAG, 13, 13, .w1c⟩
def VIS_PFLAG.FF_REJ : Fld := ⟨VIS_PFLAG, 12, 12, .w1c⟩
def VIS_PFLAG.ARCH_SKIP : Fld := ⟨VIS_PFLAG, 11, 11, .w1c⟩
def VIS_PFLAG.SENS_NAK : Fld := ⟨VIS_PFLAG, 10, 10, .w1c⟩
def VIS_PFLAG.SENS_LATE : Fld := ⟨VIS_PFLAG, 9, 9, .w1c⟩
def VIS_PFLAG.UNTRIG : Fld := ⟨VIS_PFLAG, 8, 8, .w1c⟩
def VIS_PFLAG.TRIG_SKIP : Fld := ⟨VIS_PFLAG, 7, 7, .w1c⟩
def VIS_PFLAG.DROP : Fld := ⟨VIS_PFLAG, 6, 6, .w1c⟩
def VIS_PFLAG.VC_DROP : Fld := ⟨VIS_PFLAG, 5, 5, .w1c⟩
def VIS_PFLAG.FRAME_ERR : Fld := ⟨VIS_PFLAG, 4, 4, .w1c⟩
def VIS_PFLAG.PKT_ERR : Fld := ⟨VIS_PFLAG, 3, 3, .w1c⟩
def VIS_PFLAG.HDR_CORR : Fld := ⟨VIS_PFLAG, 2, 2, .w1c⟩
def VIS_PFLAG.LANE_ERR : Fld := ⟨VIS_PFLAG, 1, 1, .w1c⟩
def VIS_PFLAG.PUBLISHED : Fld := ⟨VIS_PFLAG, 0, 0, .w1c⟩

/-- VIS_PFLAGEN[n], 09_inspection_pipeline.md, Table 09-8: Event enables. -/
def VIS_PFLAGEN : Reg := ⟨0x180103, 8, 0x40, 1, 0x0⟩
def VIS_PFLAGEN.CFG_REJ : Fld := ⟨VIS_PFLAGEN, 13, 13, .rw⟩
def VIS_PFLAGEN.FF_REJ : Fld := ⟨VIS_PFLAGEN, 12, 12, .rw⟩
def VIS_PFLAGEN.ARCH_SKIP : Fld := ⟨VIS_PFLAGEN, 11, 11, .rw⟩
def VIS_PFLAGEN.SENS_NAK : Fld := ⟨VIS_PFLAGEN, 10, 10, .rw⟩
def VIS_PFLAGEN.SENS_LATE : Fld := ⟨VIS_PFLAGEN, 9, 9, .rw⟩
def VIS_PFLAGEN.UNTRIG : Fld := ⟨VIS_PFLAGEN, 8, 8, .rw⟩
def VIS_PFLAGEN.TRIG_SKIP : Fld := ⟨VIS_PFLAGEN, 7, 7, .rw⟩
def VIS_PFLAGEN.DROP : Fld := ⟨VIS_PFLAGEN, 6, 6, .rw⟩
def VIS_PFLAGEN.VC_DROP : Fld := ⟨VIS_PFLAGEN, 5, 5, .rw⟩
def VIS_PFLAGEN.FRAME_ERR : Fld := ⟨VIS_PFLAGEN, 4, 4, .rw⟩
def VIS_PFLAGEN.PKT_ERR : Fld := ⟨VIS_PFLAGEN, 3, 3, .rw⟩
def VIS_PFLAGEN.HDR_CORR : Fld := ⟨VIS_PFLAGEN, 2, 2, .rw⟩
def VIS_PFLAGEN.LANE_ERR : Fld := ⟨VIS_PFLAGEN, 1, 1, .rw⟩
def VIS_PFLAGEN.PUBLISHED : Fld := ⟨VIS_PFLAGEN, 0, 0, .rw⟩

/-- VIS_TRIG[n], 09_inspection_pipeline.md, Table 09-8: Trigger mode, lead, lighting. -/
def VIS_TRIG : Reg := ⟨0x180104, 8, 0x40, 1, 0x0⟩
def VIS_TRIG.MODE : Fld := ⟨VIS_TRIG, 39, 38, .rws⟩
def VIS_TRIG.LEAD : Fld := ⟨VIS_TRIG, 37, 24, .rws⟩
def VIS_TRIG.LITE : Fld := ⟨VIS_TRIG, 23, 8, .rws⟩
def VIS_TRIG.POL : Fld := ⟨VIS_TRIG, 7, 7, .rws⟩

/-- VIS_TRIGPOS[n], 09_inspection_pipeline.md, Table 09-8: Next target. -/
def VIS_TRIGPOS : Reg := ⟨0x180105, 8, 0x40, 1, 0x0⟩
def VIS_TRIGPOS.TARGET : Fld := ⟨VIS_TRIGPOS, 39, 0, .rws⟩

/-- VIS_TRIGPITCH[n], 09_inspection_pipeline.md, Table 09-8: Target pitch. -/
def VIS_TRIGPITCH : Reg := ⟨0x180106, 8, 0x40, 1, 0x0⟩
def VIS_TRIGPITCH.PITCH : Fld := ⟨VIS_TRIGPITCH, 39, 0, .rws⟩

/-- VIS_TRIGTIME[n], 09_inspection_pipeline.md, Table 09-8: Pulse width, minimum gap. -/
def VIS_TRIGTIME : Reg := ⟨0x180107, 8, 0x40, 1, 0x0⟩
def VIS_TRIGTIME.WIDTH : Fld := ⟨VIS_TRIGTIME, 39, 30, .rws⟩
def VIS_TRIGTIME.MINGAP : Fld := ⟨VIS_TRIGTIME, 29, 10, .rws⟩

/-- VIS_EXPO[n], 09_inspection_pipeline.md, Table 09-8: Latency, device, list length. -/
def VIS_EXPO : Reg := ⟨0x180108, 8, 0x40, 1, 0x0⟩
def VIS_EXPO.LAT_FR : Fld := ⟨VIS_EXPO, 39, 37, .rws⟩
def VIS_EXPO.DEV : Fld := ⟨VIS_EXPO, 36, 30, .rw⟩
def VIS_EXPO.NWR : Fld := ⟨VIS_EXPO, 29, 25, .rws⟩

/-- VIS_GEN[n], 09_inspection_pipeline.md, Table 09-8: Activation generation. -/
def VIS_GEN : Reg := ⟨0x180109, 8, 0x40, 1, 0x0⟩
def VIS_GEN.AGEN : Fld := ⟨VIS_GEN, 39, 24, .ro⟩
def VIS_GEN.LASTGEN : Fld := ⟨VIS_GEN, 23, 8, .ro⟩

/-- VIS_PROC[n], 09_inspection_pipeline.md, Table 09-8: Black level, zone grid. -/
def VIS_PROC : Reg := ⟨0x18010A, 8, 0x40, 1, 0x0⟩
def VIS_PROC.BLACK : Fld := ⟨VIS_PROC, 39, 24, .rws⟩
def VIS_PROC.ZX : Fld := ⟨VIS_PROC, 23, 20, .rws⟩
def VIS_PROC.ZY : Fld := ⟨VIS_PROC, 19, 16, .rws⟩

/-- VIS_HROIX[n], 09_inspection_pipeline.md, Table 09-8: Histogram columns. -/
def VIS_HROIX : Reg := ⟨0x18010B, 8, 0x40, 1, 0x0⟩
def VIS_HROIX.X0 : Fld := ⟨VIS_HROIX, 39, 27, .rws⟩
def VIS_HROIX.X1 : Fld := ⟨VIS_HROIX, 26, 14, .rws⟩

/-- VIS_HROIY[n], 09_inspection_pipeline.md, Table 09-8: Histogram lines. -/
def VIS_HROIY : Reg := ⟨0x18010C, 8, 0x40, 1, 0x0⟩
def VIS_HROIY.Y0 : Fld := ⟨VIS_HROIY, 39, 25, .rws⟩
def VIS_HROIY.Y1 : Fld := ⟨VIS_HROIY, 24, 10, .rws⟩

/-- VIS_ARCH[n], 09_inspection_pipeline.md, Table 09-8: Archive enable and view. -/
def VIS_ARCH : Reg := ⟨0x18010D, 8, 0x40, 1, 0x0⟩
def VIS_ARCH.EN : Fld := ⟨VIS_ARCH, 39, 39, .rws⟩
def VIS_ARCH.STREAM : Fld := ⟨VIS_ARCH, 38, 36, .rws⟩
def VIS_ARCH.X0 : Fld := ⟨VIS_ARCH, 35, 23, .rws⟩
def VIS_ARCH.STEP : Fld := ⟨VIS_ARCH, 22, 21, .rws⟩

/-- VIS_ARCHTH[n], 09_inspection_pipeline.md, Table 09-8: Archive thresholds. -/
def VIS_ARCHTH : Reg := ⟨0x18010E, 8, 0x40, 1, 0x0⟩
def VIS_ARCHTH.T1 : Fld := ⟨VIS_ARCHTH, 39, 32, .rws⟩
def VIS_ARCHTH.T2 : Fld := ⟨VIS_ARCHTH, 31, 24, .rws⟩
def VIS_ARCHTH.T3 : Fld := ⟨VIS_ARCHTH, 23, 16, .rws⟩

/-- VIS_FFIDX[n], 09_inspection_pipeline.md, Table 09-8: Flat-field index. -/
def VIS_FFIDX : Reg := ⟨0x18010F, 8, 0x40, 1, 0x0⟩
def VIS_FFIDX.WORD : Fld := ⟨VIS_FFIDX, 39, 28, .rw⟩
def VIS_FFIDX.AUTOINC : Fld := ⟨VIS_FFIDX, 27, 27, .rw⟩

/-- VIS_FFDATA[n], 09_inspection_pipeline.md, Table 09-8: Flat-field data. -/
def VIS_FFDATA : Reg := ⟨0x180110, 8, 0x40, 1, 0x0⟩
def VIS_FFDATA.GAIN0 : Fld := ⟨VIS_FFDATA, 31, 16, .rw⟩
def VIS_FFDATA.GAIN1 : Fld := ⟨VIS_FFDATA, 15, 0, .rw⟩

/-- VIS_FRING[n], 09_inspection_pipeline.md, Table 09-8: Frame ring base and size. -/
def VIS_FRING : Reg := ⟨0x180111, 8, 0x40, 1, 0x0⟩
def VIS_FRING.BASE : Fld := ⟨VIS_FRING, 39, 8, .rw⟩
def VIS_FRING.LOG2 : Fld := ⟨VIS_FRING, 3, 0, .rw⟩

/-- VIS_FRSLOT[n], 09_inspection_pipeline.md, Table 09-8: Slot size. -/
def VIS_FRSLOT : Reg := ⟨0x180112, 8, 0x40, 1, 0x0⟩
def VIS_FRSLOT.SIZE : Fld := ⟨VIS_FRSLOT, 39, 20, .rw⟩

/-- VIS_FRWR[n], 09_inspection_pipeline.md, Table 09-8: Publish index. -/
def VIS_FRWR : Reg := ⟨0x180113, 8, 0x40, 1, 0x0⟩
def VIS_FRWR.IDX : Fld := ⟨VIS_FRWR, 39, 24, .ro⟩

/-- VIS_FRRD[n], 09_inspection_pipeline.md, Table 09-8: Host release index. -/
def VIS_FRRD : Reg := ⟨0x180114, 8, 0x40, 1, 0x0⟩
def VIS_FRRD.IDX : Fld := ⟨VIS_FRRD, 39, 24, .rw⟩

/-- VIS_DROPINFO[n], 09_inspection_pipeline.md, Table 09-8: First drop. -/
def VIS_DROPINFO : Reg := ⟨0x180115, 8, 0x40, 1, 0x0⟩
def VIS_DROPINFO.CAUSE : Fld := ⟨VIS_DROPINFO, 39, 37, .ro⟩
def VIS_DROPINFO.FSEQ : Fld := ⟨VIS_DROPINFO, 36, 21, .ro⟩

/-- VIS_DROPPOS[n], 09_inspection_pipeline.md, Table 09-8: Its stamp. -/
def VIS_DROPPOS : Reg := ⟨0x180116, 8, 0x40, 1, 0x0⟩
def VIS_DROPPOS.STAMP : Fld := ⟨VIS_DROPPOS, 39, 0, .ro⟩

/-- VIS_SENSWR[n][j], 09_inspection_pipeline.md, Table 09-8: Sensor write list. -/
def VIS_SENSWR : Reg := ⟨0x180120, 8, 0x40, 16, 0x1⟩
def VIS_SENSWR.W16 : Fld := ⟨VIS_SENSWR, 39, 39, .rws⟩
def VIS_SENSWR.ADDR : Fld := ⟨VIS_SENSWR, 38, 23, .rws⟩
def VIS_SENSWR.DATA : Fld := ⟨VIS_SENSWR, 22, 7, .rws⟩

/-- VIS_PIPECFG[k], 09_inspection_pipeline.md, Table 09-8: Mode and inputs. -/
def VIS_PIPECFG : Reg := ⟨0x180400, 4, 0x20, 1, 0x0⟩
def VIS_PIPECFG.EN : Fld := ⟨VIS_PIPECFG, 39, 39, .rw⟩
def VIS_PIPECFG.MODE : Fld := ⟨VIS_PIPECFG, 38, 37, .rw⟩
def VIS_PIPECFG.SRC_A : Fld := ⟨VIS_PIPECFG, 36, 34, .rw⟩
def VIS_PIPECFG.SRC_B : Fld := ⟨VIS_PIPECFG, 33, 31, .rw⟩
def VIS_PIPECFG.STRIPE : Fld := ⟨VIS_PIPECFG, 30, 27, .rw⟩

/-- VIS_PIPESTAT[k], 09_inspection_pipeline.md, Table 09-8: Input served. -/
def VIS_PIPESTAT : Reg := ⟨0x180401, 4, 0x20, 1, 0x0⟩
def VIS_PIPESTAT.SERVE : Fld := ⟨VIS_PIPESTAT, 39, 38, .ro⟩

/-- VIS_KFLAG[k], 09_inspection_pipeline.md, Table 09-8: Pipeline flags. -/
def VIS_KFLAG : Reg := ⟨0x180402, 4, 0x20, 1, 0x0⟩
def VIS_KFLAG.STORE_ECC : Fld := ⟨VIS_KFLAG, 2, 2, .w1c⟩
def VIS_KFLAG.STORE_CORR : Fld := ⟨VIS_KFLAG, 1, 1, .w1c⟩
def VIS_KFLAG.CFG_REJ : Fld := ⟨VIS_KFLAG, 0, 0, .w1c⟩

/-- VIS_KFLAGEN[k], 09_inspection_pipeline.md, Table 09-8: Event enables. -/
def VIS_KFLAGEN : Reg := ⟨0x180403, 4, 0x20, 1, 0x0⟩
def VIS_KFLAGEN.STORE_ECC : Fld := ⟨VIS_KFLAGEN, 2, 2, .rw⟩
def VIS_KFLAGEN.STORE_CORR : Fld := ⟨VIS_KFLAGEN, 1, 1, .rw⟩
def VIS_KFLAGEN.CFG_REJ : Fld := ⟨VIS_KFLAGEN, 0, 0, .rw⟩

/-- VIS_SCCFG, 10_closed_loop_determinism.md, Table 10-5: Enable, bin shape, drop weights. -/
def VIS_SCCFG : Reg := ⟨0x180600, 1, 0x0, 1, 0x0⟩
def VIS_SCCFG.EN : Fld := ⟨VIS_SCCFG, 39, 39, .rw⟩
def VIS_SCCFG.BIN : Fld := ⟨VIS_SCCFG, 38, 36, .rw⟩
def VIS_SCCFG.SUMLOG2 : Fld := ⟨VIS_SCCFG, 35, 33, .rw⟩
def VIS_SCCFG.WS : Fld := ⟨VIS_SCCFG, 32, 29, .rw⟩
def VIS_SCCFG.WM : Fld := ⟨VIS_SCCFG, 28, 25, .rw⟩
def VIS_SCCFG.WL : Fld := ⟨VIS_SCCFG, 24, 21, .rw⟩

/-- VIS_SCREF, 10_closed_loop_determinism.md, Table 10-5: Reference ring. -/
def VIS_SCREF : Reg := ⟨0x180601, 1, 0x0, 1, 0x0⟩
def VIS_SCREF.BASE : Fld := ⟨VIS_SCREF, 39, 8, .rw⟩
def VIS_SCREF.LOG2 : Fld := ⟨VIS_SCREF, 4, 0, .rw⟩

/-- VIS_SCFLAG, 10_closed_loop_determinism.md, Table 10-5: Flags. -/
def VIS_SCFLAG : Reg := ⟨0x180602, 1, 0x0, 1, 0x0⟩
def VIS_SCFLAG.CFG_REJ : Fld := ⟨VIS_SCFLAG, 5, 5, .w1c⟩
def VIS_SCFLAG.HM_ECC : Fld := ⟨VIS_SCFLAG, 4, 4, .w1c⟩
def VIS_SCFLAG.HM_OVF : Fld := ⟨VIS_SCFLAG, 3, 3, .w1c⟩
def VIS_SCFLAG.REF_LATE : Fld := ⟨VIS_SCFLAG, 2, 2, .w1c⟩
def VIS_SCFLAG.REF_GONE : Fld := ⟨VIS_SCFLAG, 1, 1, .w1c⟩
def VIS_SCFLAG.HM_CHANGE : Fld := ⟨VIS_SCFLAG, 0, 0, .w1c⟩

/-- VIS_SCFLAGEN, 10_closed_loop_determinism.md, Table 10-5: Event enables. -/
def VIS_SCFLAGEN : Reg := ⟨0x180603, 1, 0x0, 1, 0x0⟩
def VIS_SCFLAGEN.CFG_REJ : Fld := ⟨VIS_SCFLAGEN, 5, 5, .rw⟩
def VIS_SCFLAGEN.HM_ECC : Fld := ⟨VIS_SCFLAGEN, 4, 4, .rw⟩
def VIS_SCFLAGEN.HM_OVF : Fld := ⟨VIS_SCFLAGEN, 3, 3, .rw⟩
def VIS_SCFLAGEN.REF_LATE : Fld := ⟨VIS_SCFLAGEN, 2, 2, .rw⟩
def VIS_SCFLAGEN.REF_GONE : Fld := ⟨VIS_SCFLAGEN, 1, 1, .rw⟩
def VIS_SCFLAGEN.HM_CHANGE : Fld := ⟨VIS_SCFLAGEN, 0, 0, .rw⟩

/-- VIS_HMIDX, 10_closed_loop_determinism.md, Table 10-5: Map window index. -/
def VIS_HMIDX : Reg := ⟨0x180604, 1, 0x0, 1, 0x0⟩
def VIS_HMIDX.BIN : Fld := ⟨VIS_HMIDX, 39, 24, .rw⟩
def VIS_HMIDX.AUTOINC : Fld := ⟨VIS_HMIDX, 23, 23, .rw⟩

/-- VIS_HMDATA, 10_closed_loop_determinism.md, Table 10-5: Map entry (Table 10-1). -/
def VIS_HMDATA : Reg := ⟨0x180605, 1, 0x0, 1, 0x0⟩
def VIS_HMDATA.ENTRY : Fld := ⟨VIS_HMDATA, 39, 0, .rw⟩

/-- VIS_HMFIFO, 10_closed_loop_determinism.md, Table 10-5: Change FIFO; a read pops. -/
def VIS_HMFIFO : Reg := ⟨0x180606, 1, 0x0, 1, 0x0⟩
def VIS_HMFIFO.STATE : Fld := ⟨VIS_HMFIFO, 39, 38, .ro⟩
def VIS_HMFIFO.DARK : Fld := ⟨VIS_HMFIFO, 37, 37, .ro⟩
def VIS_HMFIFO.COLX : Fld := ⟨VIS_HMFIFO, 36, 33, .ro⟩
def VIS_HMFIFO.BIN : Fld := ⟨VIS_HMFIFO, 32, 17, .ro⟩

/-- VIS_HMLINE, 10_closed_loop_determinism.md, Table 10-5: Row line of the popped entry. -/
def VIS_HMLINE : Reg := ⟨0x180607, 1, 0x0, 1, 0x0⟩
def VIS_HMLINE.LINE : Fld := ⟨VIS_HMLINE, 39, 16, .ro⟩

/-- VIS_HMSTAT, 10_closed_loop_determinism.md, Table 10-5: FIFO level, failed bins. -/
def VIS_HMSTAT : Reg := ⟨0x180608, 1, 0x0, 1, 0x0⟩
def VIS_HMSTAT.LEVEL : Fld := ⟨VIS_HMSTAT, 39, 33, .ro⟩
def VIS_HMSTAT.NFAIL : Fld := ⟨VIS_HMSTAT, 32, 17, .ro⟩

/-- VIS_SCLOOP, 10_closed_loop_determinism.md, Table 10-5: Firmware loop policy. -/
def VIS_SCLOOP : Reg := ⟨0x180609, 1, 0x0, 1, 0x0⟩
def VIS_SCLOOP.AUTO : Fld := ⟨VIS_SCLOOP, 39, 39, .rw⟩
def VIS_SCLOOP.LEAD : Fld := ⟨VIS_SCLOOP, 38, 27, .rw⟩
def VIS_SCLOOP.MAXEDIT : Fld := ⟨VIS_SCLOOP, 26, 19, .rw⟩
def VIS_SCLOOP.THICKEN : Fld := ⟨VIS_SCLOOP, 18, 18, .rw⟩

/-- VIS_SCVIEW[n], 10_closed_loop_determinism.md, Table 10-5: View ports, calibration. -/
def VIS_SCVIEW : Reg := ⟨0x180640, 8, 0x8, 1, 0x0⟩
def VIS_SCVIEW.EN : Fld := ⟨VIS_SCVIEW, 39, 39, .rw⟩
def VIS_SCVIEW.P0 : Fld := ⟨VIS_SCVIEW, 38, 33, .rw⟩
def VIS_SCVIEW.NP : Fld := ⟨VIS_SCVIEW, 32, 27, .rw⟩
def VIS_SCVIEW.BASE : Fld := ⟨VIS_SCVIEW, 26, 19, .rw⟩
def VIS_SCVIEW.KGAIN : Fld := ⟨VIS_SCVIEW, 18, 11, .rw⟩

/-- VIS_SCGEO[n], 10_closed_loop_determinism.md, Table 10-5: Cross-web mapping. -/
def VIS_SCGEO : Reg := ⟨0x180641, 8, 0x8, 1, 0x0⟩
def VIS_SCGEO.COL0 : Fld := ⟨VIS_SCGEO, 39, 20, .rw⟩
def VIS_SCGEO.SCALE : Fld := ⟨VIS_SCGEO, 19, 0, .rw⟩

/-- VIS_SCDIST[n], 10_closed_loop_determinism.md, Table 10-5: Process-direction mapping. -/
def VIS_SCDIST : Reg := ⟨0x180642, 8, 0x8, 1, 0x0⟩
def VIS_SCDIST.DIST : Fld := ⟨VIS_SCDIST, 39, 16, .rw⟩
def VIS_SCDIST.LPY : Fld := ⟨VIS_SCDIST, 15, 0, .rw⟩

/-- VIS_SCTHR[n], 10_closed_loop_determinism.md, Table 10-5: Thresholds. -/
def VIS_SCTHR : Reg := ⟨0x180643, 8, 0x8, 1, 0x0⟩
def VIS_SCTHR.THR : Fld := ⟨VIS_SCTHR, 39, 32, .rw⟩
def VIS_SCTHR.REF_MIN : Fld := ⟨VIS_SCTHR, 31, 24, .rw⟩
def VIS_SCTHR.UP : Fld := ⟨VIS_SCTHR, 23, 20, .rw⟩
def VIS_SCTHR.T_SUS : Fld := ⟨VIS_SCTHR, 19, 12, .rw⟩
def VIS_SCTHR.T_FAIL : Fld := ⟨VIS_SCTHR, 11, 4, .rw⟩

/-- The registers of VIS. -/
def rowsVIS : List RegRow :=
  [
    ⟨VIS_CCICFG, [VIS_CCICFG.MODE, VIS_CCICFG.DIV], 0x600000000⟩,
    ⟨VIS_CCICMD, [VIS_CCICMD.GO, VIS_CCICMD.RD, VIS_CCICMD.W16, VIS_CCICMD.DEV, VIS_CCICMD.ADDR], 0x0⟩,
    ⟨VIS_CCIDATA, [VIS_CCIDATA.WDATA, VIS_CCIDATA.RDATA, VIS_CCIDATA.STAT], 0x0⟩,
    ⟨VIS_PORTCFG, [VIS_PORTCFG.EN, VIS_PORTCFG.LANES, VIS_PORTCFG.VC, VIS_PORTCFG.DT, VIS_PORTCFG.WIDTH, VIS_PORTCFG.HEIGHT], 0x6568000200⟩,
    ⟨VIS_PORTSTAT, [VIS_PORTSTAT.PSTATE, VIS_PORTSTAT.FSEQ, VIS_PORTSTAT.LEVEL, VIS_PORTSTAT.TFIFO, VIS_PORTSTAT.ARCH_BUSY, VIS_PORTSTAT.SENS_BUSY], 0x0⟩,
    ⟨VIS_PFLAG, [VIS_PFLAG.CFG_REJ, VIS_PFLAG.FF_REJ, VIS_PFLAG.ARCH_SKIP, VIS_PFLAG.SENS_NAK, VIS_PFLAG.SENS_LATE, VIS_PFLAG.UNTRIG, VIS_PFLAG.TRIG_SKIP, VIS_PFLAG.DROP, VIS_PFLAG.VC_DROP, VIS_PFLAG.FRAME_ERR, VIS_PFLAG.PKT_ERR, VIS_PFLAG.HDR_CORR, VIS_PFLAG.LANE_ERR, VIS_PFLAG.PUBLISHED], 0x0⟩,
    ⟨VIS_PFLAGEN, [VIS_PFLAGEN.CFG_REJ, VIS_PFLAGEN.FF_REJ, VIS_PFLAGEN.ARCH_SKIP, VIS_PFLAGEN.SENS_NAK, VIS_PFLAGEN.SENS_LATE, VIS_PFLAGEN.UNTRIG, VIS_PFLAGEN.TRIG_SKIP, VIS_PFLAGEN.DROP, VIS_PFLAGEN.VC_DROP, VIS_PFLAGEN.FRAME_ERR, VIS_PFLAGEN.PKT_ERR, VIS_PFLAGEN.HDR_CORR, VIS_PFLAGEN.LANE_ERR, VIS_PFLAGEN.PUBLISHED], 0x0⟩,
    ⟨VIS_TRIG, [VIS_TRIG.MODE, VIS_TRIG.LEAD, VIS_TRIG.LITE, VIS_TRIG.POL], 0x0⟩,
    ⟨VIS_TRIGPOS, [VIS_TRIGPOS.TARGET], 0x0⟩,
    ⟨VIS_TRIGPITCH, [VIS_TRIGPITCH.PITCH], 0x10000⟩,
    ⟨VIS_TRIGTIME, [VIS_TRIGTIME.WIDTH, VIS_TRIGTIME.MINGAP], 0x280000000⟩,
    ⟨VIS_EXPO, [VIS_EXPO.LAT_FR, VIS_EXPO.DEV, VIS_EXPO.NWR], 0x2000000000⟩,
    ⟨VIS_GEN, [VIS_GEN.AGEN, VIS_GEN.LASTGEN], 0x0⟩,
    ⟨VIS_PROC, [VIS_PROC.BLACK, VIS_PROC.ZX, VIS_PROC.ZY], 0x0⟩,
    ⟨VIS_HROIX, [VIS_HROIX.X0, VIS_HROIX.X1], 0x7FFC000⟩,
    ⟨VIS_HROIY, [VIS_HROIY.Y0, VIS_HROIY.Y1], 0x1FFFC00⟩,
    ⟨VIS_ARCH, [VIS_ARCH.EN, VIS_ARCH.STREAM, VIS_ARCH.X0, VIS_ARCH.STEP], 0x0⟩,
    ⟨VIS_ARCHTH, [VIS_ARCHTH.T1, VIS_ARCHTH.T2, VIS_ARCHTH.T3], 0x4080C00000⟩,
    ⟨VIS_FFIDX, [VIS_FFIDX.WORD, VIS_FFIDX.AUTOINC], 0x0⟩,
    ⟨VIS_FFDATA, [VIS_FFDATA.GAIN0, VIS_FFDATA.GAIN1], 0x10001000⟩,
    ⟨VIS_FRING, [VIS_FRING.BASE, VIS_FRING.LOG2], 0x2⟩,
    ⟨VIS_FRSLOT, [VIS_FRSLOT.SIZE], 0x0⟩,
    ⟨VIS_FRWR, [VIS_FRWR.IDX], 0x0⟩,
    ⟨VIS_FRRD, [VIS_FRRD.IDX], 0x0⟩] ++
  [
    ⟨VIS_DROPINFO, [VIS_DROPINFO.CAUSE, VIS_DROPINFO.FSEQ], 0x0⟩,
    ⟨VIS_DROPPOS, [VIS_DROPPOS.STAMP], 0x0⟩,
    ⟨VIS_SENSWR, [VIS_SENSWR.W16, VIS_SENSWR.ADDR, VIS_SENSWR.DATA], 0x0⟩,
    ⟨VIS_PIPECFG, [VIS_PIPECFG.EN, VIS_PIPECFG.MODE, VIS_PIPECFG.SRC_A, VIS_PIPECFG.SRC_B, VIS_PIPECFG.STRIPE], 0x40000000⟩,
    ⟨VIS_PIPESTAT, [VIS_PIPESTAT.SERVE], 0x0⟩,
    ⟨VIS_KFLAG, [VIS_KFLAG.STORE_ECC, VIS_KFLAG.STORE_CORR, VIS_KFLAG.CFG_REJ], 0x0⟩,
    ⟨VIS_KFLAGEN, [VIS_KFLAGEN.STORE_ECC, VIS_KFLAGEN.STORE_CORR, VIS_KFLAGEN.CFG_REJ], 0x0⟩,
    ⟨VIS_SCCFG, [VIS_SCCFG.EN, VIS_SCCFG.BIN, VIS_SCCFG.SUMLOG2, VIS_SCCFG.WS, VIS_SCCFG.WM, VIS_SCCFG.WL], 0x2891E00000⟩,
    ⟨VIS_SCREF, [VIS_SCREF.BASE, VIS_SCREF.LOG2], 0xA⟩,
    ⟨VIS_SCFLAG, [VIS_SCFLAG.CFG_REJ, VIS_SCFLAG.HM_ECC, VIS_SCFLAG.HM_OVF, VIS_SCFLAG.REF_LATE, VIS_SCFLAG.REF_GONE, VIS_SCFLAG.HM_CHANGE], 0x0⟩,
    ⟨VIS_SCFLAGEN, [VIS_SCFLAGEN.CFG_REJ, VIS_SCFLAGEN.HM_ECC, VIS_SCFLAGEN.HM_OVF, VIS_SCFLAGEN.REF_LATE, VIS_SCFLAGEN.REF_GONE, VIS_SCFLAGEN.HM_CHANGE], 0x0⟩,
    ⟨VIS_HMIDX, [VIS_HMIDX.BIN, VIS_HMIDX.AUTOINC], 0x0⟩,
    ⟨VIS_HMDATA, [VIS_HMDATA.ENTRY], 0x0⟩,
    ⟨VIS_HMFIFO, [VIS_HMFIFO.STATE, VIS_HMFIFO.DARK, VIS_HMFIFO.COLX, VIS_HMFIFO.BIN], 0x0⟩,
    ⟨VIS_HMLINE, [VIS_HMLINE.LINE], 0x0⟩,
    ⟨VIS_HMSTAT, [VIS_HMSTAT.LEVEL, VIS_HMSTAT.NFAIL], 0x0⟩,
    ⟨VIS_SCLOOP, [VIS_SCLOOP.AUTO, VIS_SCLOOP.LEAD, VIS_SCLOOP.MAXEDIT, VIS_SCLOOP.THICKEN], 0x961040000⟩,
    ⟨VIS_SCVIEW, [VIS_SCVIEW.EN, VIS_SCVIEW.P0, VIS_SCVIEW.NP, VIS_SCVIEW.BASE, VIS_SCVIEW.KGAIN], 0x8040000⟩,
    ⟨VIS_SCGEO, [VIS_SCGEO.COL0, VIS_SCGEO.SCALE], 0x10000⟩,
    ⟨VIS_SCDIST, [VIS_SCDIST.DIST, VIS_SCDIST.LPY], 0x100⟩,
    ⟨VIS_SCTHR, [VIS_SCTHR.THR, VIS_SCTHR.REF_MIN, VIS_SCTHR.UP, VIS_SCTHR.T_SUS, VIS_SCTHR.T_FAIL], 0x1820408200⟩]

/-! ### BAR -/

/-- BAR_CFG, 11_bar_link_time.md, Table 11-6: Role and timeouts. -/
def BAR_CFG : Reg := ⟨0x1C0000, 1, 0x0, 1, 0x0⟩
def BAR_CFG.ROLE : Fld := ⟨BAR_CFG, 39, 39, .rwl⟩
def BAR_CFG.BTIMEOUT : Fld := ⟨BAR_CFG, 38, 29, .rw⟩
def BAR_CFG.DX_TIMEOUT : Fld := ⟨BAR_CFG, 28, 19, .rw⟩

/-- BAR_CTL, 11_bar_link_time.md, Table 11-6: Enable, leave, rejoin. -/
def BAR_CTL : Reg := ⟨0x1C0001, 1, 0x0, 1, 0x0⟩
def BAR_CTL.EN : Fld := ⟨BAR_CTL, 39, 39, .rw⟩
def BAR_CTL.LEAVE : Fld := ⟨BAR_CTL, 38, 38, .wo⟩
def BAR_CTL.REJOIN : Fld := ⟨BAR_CTL, 37, 37, .wo⟩

/-- BAR_STAT, 11_bar_link_time.md, Table 11-6: ID, state, members. -/
def BAR_STAT : Reg := ⟨0x1C0002, 1, 0x0, 1, 0x0⟩
def BAR_STAT.ID : Fld := ⟨BAR_STAT, 39, 36, .ro⟩
def BAR_STAT.BSTATE : Fld := ⟨BAR_STAT, 35, 33, .ro⟩
def BAR_STAT.MEMBERS : Fld := ⟨BAR_STAT, 32, 17, .ro⟩
def BAR_STAT.MGEN : Fld := ⟨BAR_STAT, 16, 9, .ro⟩
def BAR_STAT.LEADER : Fld := ⟨BAR_STAT, 8, 5, .ro⟩

/-- BAR_FLAG, 11_bar_link_time.md, Table 11-6: Flags. -/
def BAR_FLAG : Reg := ⟨0x1C0003, 1, 0x0, 1, 0x0⟩
def BAR_FLAG.MAP_CHG : Fld := ⟨BAR_FLAG, 10, 10, .w1c⟩
def BAR_FLAG.BARRIER_LATE : Fld := ⟨BAR_FLAG, 9, 9, .w1c⟩
def BAR_FLAG.DX_COLL : Fld := ⟨BAR_FLAG, 8, 8, .w1c⟩
def BAR_FLAG.DX_ABORT : Fld := ⟨BAR_FLAG, 7, 7, .w1c⟩
def BAR_FLAG.DUAL_LEAD : Fld := ⟨BAR_FLAG, 6, 6, .w1c⟩
def BAR_FLAG.ID_DUP : Fld := ⟨BAR_FLAG, 5, 5, .w1c⟩
def BAR_FLAG.BEACON_LOST : Fld := ⟨BAR_FLAG, 4, 4, .w1c⟩
def BAR_FLAG.BREAK_RX : Fld := ⟨BAR_FLAG, 3, 3, .w1c⟩
def BAR_FLAG.PORT_DOWN : Fld := ⟨BAR_FLAG, 2, 2, .w1c⟩
def BAR_FLAG.HOP_RETRY : Fld := ⟨BAR_FLAG, 1, 1, .w1c⟩
def BAR_FLAG.MSG_CRC : Fld := ⟨BAR_FLAG, 0, 0, .w1c⟩

/-- BAR_FLAGEN, 11_bar_link_time.md, Table 11-6: Event enables. -/
def BAR_FLAGEN : Reg := ⟨0x1C0004, 1, 0x0, 1, 0x0⟩
def BAR_FLAGEN.MAP_CHG : Fld := ⟨BAR_FLAGEN, 10, 10, .rw⟩
def BAR_FLAGEN.BARRIER_LATE : Fld := ⟨BAR_FLAGEN, 9, 9, .rw⟩
def BAR_FLAGEN.DX_COLL : Fld := ⟨BAR_FLAGEN, 8, 8, .rw⟩
def BAR_FLAGEN.DX_ABORT : Fld := ⟨BAR_FLAGEN, 7, 7, .rw⟩
def BAR_FLAGEN.DUAL_LEAD : Fld := ⟨BAR_FLAGEN, 6, 6, .rw⟩
def BAR_FLAGEN.ID_DUP : Fld := ⟨BAR_FLAGEN, 5, 5, .rw⟩
def BAR_FLAGEN.BEACON_LOST : Fld := ⟨BAR_FLAGEN, 4, 4, .rw⟩
def BAR_FLAGEN.BREAK_RX : Fld := ⟨BAR_FLAGEN, 3, 3, .rw⟩
def BAR_FLAGEN.PORT_DOWN : Fld := ⟨BAR_FLAGEN, 2, 2, .rw⟩
def BAR_FLAGEN.HOP_RETRY : Fld := ⟨BAR_FLAGEN, 1, 1, .rw⟩
def BAR_FLAGEN.MSG_CRC : Fld := ⟨BAR_FLAGEN, 0, 0, .rw⟩

/-- BAR_COMMIT_LEAD, 11_bar_link_time.md, Table 11-6: Distributed commit lead. -/
def BAR_COMMIT_LEAD : Reg := ⟨0x1C0005, 1, 0x0, 1, 0x0⟩
def BAR_COMMIT_LEAD.LINES : Fld := ⟨BAR_COMMIT_LEAD, 39, 28, .rw⟩

/-- BAR_TXCHIP, 11_bar_link_time.md, Table 11-6: Chip mask for staged writes. -/
def BAR_TXCHIP : Reg := ⟨0x1C0006, 3, 0x1000000, 1, 0x0⟩
def BAR_TXCHIP.MASK : Fld := ⟨BAR_TXCHIP, 39, 24, .rw⟩

/-- BAR_GOP, 11_bar_link_time.md, Table 11-6: Snapshot and reset. -/
def BAR_GOP : Reg := ⟨0x1C0007, 1, 0x0, 1, 0x0⟩
def BAR_GOP.GO : Fld := ⟨BAR_GOP, 39, 39, .wo⟩
def BAR_GOP.OP : Fld := ⟨BAR_GOP, 38, 37, .rw⟩
def BAR_GOP.BUSY : Fld := ⟨BAR_GOP, 36, 36, .ro⟩

/-- BAR_DXLAST, 11_bar_link_time.md, Table 11-6: Last exchange outcome. -/
def BAR_DXLAST : Reg := ⟨0x1C0008, 1, 0x0, 1, 0x0⟩
def BAR_DXLAST.INIT : Fld := ⟨BAR_DXLAST, 39, 36, .ro⟩
def BAR_DXLAST.ISEQ : Fld := ⟨BAR_DXLAST, 35, 20, .ro⟩
def BAR_DXLAST.OUT : Fld := ⟨BAR_DXLAST, 19, 18, .ro⟩
def BAR_DXLAST.VOTER : Fld := ⟨BAR_DXLAST, 17, 14, .ro⟩
def BAR_DXLAST.REASON : Fld := ⟨BAR_DXLAST, 13, 6, .ro⟩

/-- BAR_ERRPOS, 11_bar_link_time.md, Table 11-6: Stamp of first PORT_DOWN or BEACON_LOST. -/
def BAR_ERRPOS : Reg := ⟨0x1C0009, 1, 0x0, 1, 0x0⟩
def BAR_ERRPOS.STAMP : Fld := ⟨BAR_ERRPOS, 39, 0, .ro⟩

/-- BAR_PORTSTAT[e], 11_bar_link_time.md, Table 11-6: e = 0 east, 1 west. -/
def BAR_PORTSTAT : Reg := ⟨0x1C0010, 2, 0x1, 1, 0x0⟩
def BAR_PORTSTAT.LSTATE : Fld := ⟨BAR_PORTSTAT, 39, 38, .ro⟩
def BAR_PORTSTAT.HOPDLY : Fld := ⟨BAR_PORTSTAT, 37, 26, .ro⟩
def BAR_PORTSTAT.NBR : Fld := ⟨BAR_PORTSTAT, 25, 22, .ro⟩
def BAR_PORTSTAT.UPSTREAM : Fld := ⟨BAR_PORTSTAT, 21, 21, .ro⟩

/-- BAR_LCFG[l], 12_opzo_link.md, R264: Bar lane (layout of HLNK_LCFG). -/
def BAR_LCFG : Reg := ⟨0x1C0100, 4, 0x40, 1, 0x0⟩
def BAR_LCFG.EN : Fld := ⟨BAR_LCFG, 39, 39, .rwl⟩
def BAR_LCFG.TXPOL : Fld := ⟨BAR_LCFG, 38, 38, .rwl⟩
def BAR_LCFG.RXPOL : Fld := ⟨BAR_LCFG, 37, 37, .rwl⟩
def BAR_LCFG.TX_SWING : Fld := ⟨BAR_LCFG, 36, 33, .rwl⟩
def BAR_LCFG.TX_PRE : Fld := ⟨BAR_LCFG, 32, 29, .rwl⟩
def BAR_LCFG.TX_POST : Fld := ⟨BAR_LCFG, 28, 24, .rwl⟩
def BAR_LCFG.RX_CTLE : Fld := ⟨BAR_LCFG, 23, 19, .rwl⟩
def BAR_LCFG.RX_GAIN : Fld := ⟨BAR_LCFG, 18, 15, .rwl⟩

/-- BAR_LSTAT[l], 12_opzo_link.md, R264: Bar lane (layout of HLNK_LSTAT). -/
def BAR_LSTAT : Reg := ⟨0x1C0101, 4, 0x40, 1, 0x0⟩
def BAR_LSTAT.BSTATE : Fld := ⟨BAR_LSTAT, 39, 38, .ro⟩
def BAR_LSTAT.EB_LEVEL : Fld := ⟨BAR_LSTAT, 37, 32, .ro⟩
def BAR_LSTAT.SKEW : Fld := ⟨BAR_LSTAT, 31, 27, .ro⟩
def BAR_LSTAT.PRBS_LOCK : Fld := ⟨BAR_LSTAT, 26, 26, .ro⟩

/-- BAR_LFLAG[l], 12_opzo_link.md, R264: Bar lane (layout of HLNK_LFLAG). -/
def BAR_LFLAG : Reg := ⟨0x1C0102, 4, 0x40, 1, 0x0⟩
def BAR_LFLAG.PRBS_REJ : Fld := ⟨BAR_LFLAG, 6, 6, .w1c⟩
def BAR_LFLAG.PRBS_ERR : Fld := ⟨BAR_LFLAG, 5, 5, .w1c⟩
def BAR_LFLAG.SKEW_ERR : Fld := ⟨BAR_LFLAG, 4, 4, .w1c⟩
def BAR_LFLAG.EB_ERR : Fld := ⟨BAR_LFLAG, 3, 3, .w1c⟩
def BAR_LFLAG.STUFF_ERR : Fld := ⟨BAR_LFLAG, 2, 2, .w1c⟩
def BAR_LFLAG.HDR_ERR : Fld := ⟨BAR_LFLAG, 1, 1, .w1c⟩
def BAR_LFLAG.LOCK_LOST : Fld := ⟨BAR_LFLAG, 0, 0, .w1c⟩

/-- BAR_LFLAGEN[l], 12_opzo_link.md, R264: Bar lane (layout of HLNK_LFLAGEN). -/
def BAR_LFLAGEN : Reg := ⟨0x1C0103, 4, 0x40, 1, 0x0⟩
def BAR_LFLAGEN.PRBS_REJ : Fld := ⟨BAR_LFLAGEN, 6, 6, .rw⟩
def BAR_LFLAGEN.PRBS_ERR : Fld := ⟨BAR_LFLAGEN, 5, 5, .rw⟩
def BAR_LFLAGEN.SKEW_ERR : Fld := ⟨BAR_LFLAGEN, 4, 4, .rw⟩
def BAR_LFLAGEN.EB_ERR : Fld := ⟨BAR_LFLAGEN, 3, 3, .rw⟩
def BAR_LFLAGEN.STUFF_ERR : Fld := ⟨BAR_LFLAGEN, 2, 2, .rw⟩
def BAR_LFLAGEN.HDR_ERR : Fld := ⟨BAR_LFLAGEN, 1, 1, .rw⟩
def BAR_LFLAGEN.LOCK_LOST : Fld := ⟨BAR_LFLAGEN, 0, 0, .rw⟩

/-- BAR_LPRBS[l], 12_opzo_link.md, R264: Bar lane (layout of HLNK_LPRBS). -/
def BAR_LPRBS : Reg := ⟨0x1C0104, 4, 0x40, 1, 0x0⟩
def BAR_LPRBS.TX_EN : Fld := ⟨BAR_LPRBS, 39, 39, .rw⟩
def BAR_LPRBS.RX_EN : Fld := ⟨BAR_LPRBS, 38, 38, .rw⟩
def BAR_LPRBS.INV : Fld := ⟨BAR_LPRBS, 37, 37, .rw⟩
def BAR_LPRBS.ERR_INJ : Fld := ⟨BAR_LPRBS, 36, 36, .wo⟩

/-- BAR_LPRBSERR[l], 12_opzo_link.md, R264: Bar lane (layout of HLNK_LPRBSERR). -/
def BAR_LPRBSERR : Reg := ⟨0x1C0105, 4, 0x40, 1, 0x0⟩
def BAR_LPRBSERR.COUNT : Fld := ⟨BAR_LPRBSERR, 39, 0, .ro⟩

/-- BAR_LPRBSBITS[l], 12_opzo_link.md, R264: Bar lane (layout of HLNK_LPRBSBITS). -/
def BAR_LPRBSBITS : Reg := ⟨0x1C0106, 4, 0x40, 1, 0x0⟩
def BAR_LPRBSBITS.KBITS : Fld := ⟨BAR_LPRBSBITS, 39, 0, .ro⟩

/-- The registers of BAR. -/
def rowsBAR : List RegRow :=
  [
    ⟨BAR_CFG, [BAR_CFG.ROLE, BAR_CFG.BTIMEOUT, BAR_CFG.DX_TIMEOUT], 0x640A00000⟩,
    ⟨BAR_CTL, [BAR_CTL.EN, BAR_CTL.LEAVE, BAR_CTL.REJOIN], 0x0⟩,
    ⟨BAR_STAT, [BAR_STAT.ID, BAR_STAT.BSTATE, BAR_STAT.MEMBERS, BAR_STAT.MGEN, BAR_STAT.LEADER], 0x0⟩,
    ⟨BAR_FLAG, [BAR_FLAG.MAP_CHG, BAR_FLAG.BARRIER_LATE, BAR_FLAG.DX_COLL, BAR_FLAG.DX_ABORT, BAR_FLAG.DUAL_LEAD, BAR_FLAG.ID_DUP, BAR_FLAG.BEACON_LOST, BAR_FLAG.BREAK_RX, BAR_FLAG.PORT_DOWN, BAR_FLAG.HOP_RETRY, BAR_FLAG.MSG_CRC], 0x0⟩,
    ⟨BAR_FLAGEN, [BAR_FLAGEN.MAP_CHG, BAR_FLAGEN.BARRIER_LATE, BAR_FLAGEN.DX_COLL, BAR_FLAGEN.DX_ABORT, BAR_FLAGEN.DUAL_LEAD, BAR_FLAGEN.ID_DUP, BAR_FLAGEN.BEACON_LOST, BAR_FLAGEN.BREAK_RX, BAR_FLAGEN.PORT_DOWN, BAR_FLAGEN.HOP_RETRY, BAR_FLAGEN.MSG_CRC], 0x0⟩,
    ⟨BAR_COMMIT_LEAD, [BAR_COMMIT_LEAD.LINES], 0x1010000000⟩,
    ⟨BAR_TXCHIP, [BAR_TXCHIP.MASK], 0xFFFF000000⟩,
    ⟨BAR_GOP, [BAR_GOP.GO, BAR_GOP.OP, BAR_GOP.BUSY], 0x0⟩,
    ⟨BAR_DXLAST, [BAR_DXLAST.INIT, BAR_DXLAST.ISEQ, BAR_DXLAST.OUT, BAR_DXLAST.VOTER, BAR_DXLAST.REASON], 0x0⟩,
    ⟨BAR_ERRPOS, [BAR_ERRPOS.STAMP], 0x0⟩,
    ⟨BAR_PORTSTAT, [BAR_PORTSTAT.LSTATE, BAR_PORTSTAT.HOPDLY, BAR_PORTSTAT.NBR, BAR_PORTSTAT.UPSTREAM], 0x0⟩,
    ⟨BAR_LCFG, [BAR_LCFG.EN, BAR_LCFG.TXPOL, BAR_LCFG.RXPOL, BAR_LCFG.TX_SWING, BAR_LCFG.TX_PRE, BAR_LCFG.TX_POST, BAR_LCFG.RX_CTLE, BAR_LCFG.RX_GAIN], 0x9004420000⟩,
    ⟨BAR_LSTAT, [BAR_LSTAT.BSTATE, BAR_LSTAT.EB_LEVEL, BAR_LSTAT.SKEW, BAR_LSTAT.PRBS_LOCK], 0x0⟩,
    ⟨BAR_LFLAG, [BAR_LFLAG.PRBS_REJ, BAR_LFLAG.PRBS_ERR, BAR_LFLAG.SKEW_ERR, BAR_LFLAG.EB_ERR, BAR_LFLAG.STUFF_ERR, BAR_LFLAG.HDR_ERR, BAR_LFLAG.LOCK_LOST], 0x0⟩,
    ⟨BAR_LFLAGEN, [BAR_LFLAGEN.PRBS_REJ, BAR_LFLAGEN.PRBS_ERR, BAR_LFLAGEN.SKEW_ERR, BAR_LFLAGEN.EB_ERR, BAR_LFLAGEN.STUFF_ERR, BAR_LFLAGEN.HDR_ERR, BAR_LFLAGEN.LOCK_LOST], 0x0⟩,
    ⟨BAR_LPRBS, [BAR_LPRBS.TX_EN, BAR_LPRBS.RX_EN, BAR_LPRBS.INV, BAR_LPRBS.ERR_INJ], 0x0⟩,
    ⟨BAR_LPRBSERR, [BAR_LPRBSERR.COUNT], 0x0⟩,
    ⟨BAR_LPRBSBITS, [BAR_LPRBSBITS.KBITS], 0x0⟩]

/-! ### HLNK -/

/-- HLNK_CFG, 12_opzo_link.md, Table 12-8: Reference, width, timeouts. -/
def HLNK_CFG : Reg := ⟨0x200000, 1, 0x0, 1, 0x0⟩
def HLNK_CFG.REFSEL : Fld := ⟨HLNK_CFG, 39, 39, .rwl⟩
def HLNK_CFG.WIDTH_MAX : Fld := ⟨HLNK_CFG, 38, 37, .rwl⟩
def HLNK_CFG.RPL_TMO : Fld := ⟨HLNK_CFG, 36, 29, .rw⟩
def HLNK_CFG.TRAIN_TMO : Fld := ⟨HLNK_CFG, 28, 19, .rw⟩

/-- HLNK_CTL, 12_opzo_link.md, Table 12-8: Enable, retrain. -/
def HLNK_CTL : Reg := ⟨0x200001, 1, 0x0, 1, 0x0⟩
def HLNK_CTL.EN : Fld := ⟨HLNK_CTL, 39, 39, .rw⟩
def HLNK_CTL.RETRAIN : Fld := ⟨HLNK_CTL, 38, 38, .wo⟩

/-- HLNK_STAT, 12_opzo_link.md, Table 12-8: State, width, lane masks. -/
def HLNK_STAT : Reg := ⟨0x200002, 1, 0x0, 1, 0x0⟩
def HLNK_STAT.LSTATE : Fld := ⟨HLNK_STAT, 39, 37, .ro⟩
def HLNK_STAT.WIDTH : Fld := ⟨HLNK_STAT, 36, 35, .ro⟩
def HLNK_STAT.LOCKED : Fld := ⟨HLNK_STAT, 34, 27, .ro⟩
def HLNK_STAT.REMOTE : Fld := ⟨HLNK_STAT, 26, 19, .ro⟩

/-- HLNK_FLAG, 12_opzo_link.md, Table 12-8: Link flags. -/
def HLNK_FLAG : Reg := ⟨0x200003, 1, 0x0, 1, 0x0⟩
def HLNK_FLAG.EVQ_OVF : Fld := ⟨HLNK_FLAG, 12, 12, .w1c⟩
def HLNK_FLAG.CTL_BAD : Fld := ⟨HLNK_FLAG, 11, 11, .w1c⟩
def HLNK_FLAG.NAK_TX : Fld := ⟨HLNK_FLAG, 10, 10, .w1c⟩
def HLNK_FLAG.REPLAY_FAIL : Fld := ⟨HLNK_FLAG, 9, 9, .w1c⟩
def HLNK_FLAG.REPLAY : Fld := ⟨HLNK_FLAG, 8, 8, .w1c⟩
def HLNK_FLAG.CREDIT_OVF : Fld := ⟨HLNK_FLAG, 7, 7, .w1c⟩
def HLNK_FLAG.PKT_BAD : Fld := ⟨HLNK_FLAG, 6, 6, .w1c⟩
def HLNK_FLAG.PKT_CRC : Fld := ⟨HLNK_FLAG, 5, 5, .w1c⟩
def HLNK_FLAG.HDR_CRC : Fld := ⟨HLNK_FLAG, 4, 4, .w1c⟩
def HLNK_FLAG.WIDTH_DEG : Fld := ⟨HLNK_FLAG, 3, 3, .w1c⟩
def HLNK_FLAG.TRAIN_FAIL : Fld := ⟨HLNK_FLAG, 2, 2, .w1c⟩
def HLNK_FLAG.LINK_DOWN : Fld := ⟨HLNK_FLAG, 1, 1, .w1c⟩
def HLNK_FLAG.LINK_UP : Fld := ⟨HLNK_FLAG, 0, 0, .w1c⟩

/-- HLNK_FLAGEN, 12_opzo_link.md, Table 12-8: Event enables. -/
def HLNK_FLAGEN : Reg := ⟨0x200004, 1, 0x0, 1, 0x0⟩
def HLNK_FLAGEN.EVQ_OVF : Fld := ⟨HLNK_FLAGEN, 12, 12, .rw⟩
def HLNK_FLAGEN.CTL_BAD : Fld := ⟨HLNK_FLAGEN, 11, 11, .rw⟩
def HLNK_FLAGEN.NAK_TX : Fld := ⟨HLNK_FLAGEN, 10, 10, .rw⟩
def HLNK_FLAGEN.REPLAY_FAIL : Fld := ⟨HLNK_FLAGEN, 9, 9, .rw⟩
def HLNK_FLAGEN.REPLAY : Fld := ⟨HLNK_FLAGEN, 8, 8, .rw⟩
def HLNK_FLAGEN.CREDIT_OVF : Fld := ⟨HLNK_FLAGEN, 7, 7, .rw⟩
def HLNK_FLAGEN.PKT_BAD : Fld := ⟨HLNK_FLAGEN, 6, 6, .rw⟩
def HLNK_FLAGEN.PKT_CRC : Fld := ⟨HLNK_FLAGEN, 5, 5, .rw⟩
def HLNK_FLAGEN.HDR_CRC : Fld := ⟨HLNK_FLAGEN, 4, 4, .rw⟩
def HLNK_FLAGEN.WIDTH_DEG : Fld := ⟨HLNK_FLAGEN, 3, 3, .rw⟩
def HLNK_FLAGEN.TRAIN_FAIL : Fld := ⟨HLNK_FLAGEN, 2, 2, .rw⟩
def HLNK_FLAGEN.LINK_DOWN : Fld := ⟨HLNK_FLAGEN, 1, 1, .rw⟩
def HLNK_FLAGEN.LINK_UP : Fld := ⟨HLNK_FLAGEN, 0, 0, .rw⟩

/-- HLNK_ERRINFO, 12_opzo_link.md, Table 12-8: First faulty packet. -/
def HLNK_ERRINFO : Reg := ⟨0x200005, 1, 0x0, 1, 0x0⟩
def HLNK_ERRINFO.TYPE : Fld := ⟨HLNK_ERRINFO, 39, 36, .ro⟩
def HLNK_ERRINFO.SEQ : Fld := ⟨HLNK_ERRINFO, 35, 28, .ro⟩
def HLNK_ERRINFO.WHY : Fld := ⟨HLNK_ERRINFO, 27, 24, .ro⟩

/-- HLNK_SEQ, 12_opzo_link.md, Table 12-8: Sequence state. -/
def HLNK_SEQ : Reg := ⟨0x200006, 1, 0x0, 1, 0x0⟩
def HLNK_SEQ.RX_NEXT : Fld := ⟨HLNK_SEQ, 39, 32, .ro⟩
def HLNK_SEQ.TX_NEXT : Fld := ⟨HLNK_SEQ, 31, 24, .ro⟩
def HLNK_SEQ.TX_ACKED : Fld := ⟨HLNK_SEQ, 23, 16, .ro⟩

/-- HLNK_CREDIT, 12_opzo_link.md, Table 12-8: Store space and upstream credit. -/
def HLNK_CREDIT : Reg := ⟨0x200007, 1, 0x0, 1, 0x0⟩
def HLNK_CREDIT.REG_FREE : Fld := ⟨HLNK_CREDIT, 39, 29, .ro⟩
def HLNK_CREDIT.BULK_FREE : Fld := ⟨HLNK_CREDIT, 28, 13, .ro⟩
def HLNK_CREDIT.RSP_AVAIL : Fld := ⟨HLNK_CREDIT, 12, 3, .ro⟩

/-- HLNK_EVQ, 12_opzo_link.md, Table 12-8: Event queue. -/
def HLNK_EVQ : Reg := ⟨0x200008, 1, 0x0, 1, 0x0⟩
def HLNK_EVQ.LEVEL : Fld := ⟨HLNK_EVQ, 39, 30, .ro⟩
def HLNK_EVQ.EVT_AVAIL : Fld := ⟨HLNK_EVQ, 29, 20, .ro⟩

/-- HLNK_LCFG[l], 12_opzo_link.md, Table 12-8: Lane enable, polarity, equalisation. -/
def HLNK_LCFG : Reg := ⟨0x200100, 8, 0x40, 1, 0x0⟩
def HLNK_LCFG.EN : Fld := ⟨HLNK_LCFG, 39, 39, .rwl⟩
def HLNK_LCFG.TXPOL : Fld := ⟨HLNK_LCFG, 38, 38, .rwl⟩
def HLNK_LCFG.RXPOL : Fld := ⟨HLNK_LCFG, 37, 37, .rwl⟩
def HLNK_LCFG.TX_SWING : Fld := ⟨HLNK_LCFG, 36, 33, .rwl⟩
def HLNK_LCFG.TX_PRE : Fld := ⟨HLNK_LCFG, 32, 29, .rwl⟩
def HLNK_LCFG.TX_POST : Fld := ⟨HLNK_LCFG, 28, 24, .rwl⟩
def HLNK_LCFG.RX_CTLE : Fld := ⟨HLNK_LCFG, 23, 19, .rwl⟩
def HLNK_LCFG.RX_GAIN : Fld := ⟨HLNK_LCFG, 18, 15, .rwl⟩

/-- HLNK_LSTAT[l], 12_opzo_link.md, Table 12-8: Lane lock and skew. -/
def HLNK_LSTAT : Reg := ⟨0x200101, 8, 0x40, 1, 0x0⟩
def HLNK_LSTAT.BSTATE : Fld := ⟨HLNK_LSTAT, 39, 38, .ro⟩
def HLNK_LSTAT.EB_LEVEL : Fld := ⟨HLNK_LSTAT, 37, 32, .ro⟩
def HLNK_LSTAT.SKEW : Fld := ⟨HLNK_LSTAT, 31, 27, .ro⟩
def HLNK_LSTAT.PRBS_LOCK : Fld := ⟨HLNK_LSTAT, 26, 26, .ro⟩

/-- HLNK_LFLAG[l], 12_opzo_link.md, Table 12-8: Lane flags. -/
def HLNK_LFLAG : Reg := ⟨0x200102, 8, 0x40, 1, 0x0⟩
def HLNK_LFLAG.PRBS_REJ : Fld := ⟨HLNK_LFLAG, 6, 6, .w1c⟩
def HLNK_LFLAG.PRBS_ERR : Fld := ⟨HLNK_LFLAG, 5, 5, .w1c⟩
def HLNK_LFLAG.SKEW_ERR : Fld := ⟨HLNK_LFLAG, 4, 4, .w1c⟩
def HLNK_LFLAG.EB_ERR : Fld := ⟨HLNK_LFLAG, 3, 3, .w1c⟩
def HLNK_LFLAG.STUFF_ERR : Fld := ⟨HLNK_LFLAG, 2, 2, .w1c⟩
def HLNK_LFLAG.HDR_ERR : Fld := ⟨HLNK_LFLAG, 1, 1, .w1c⟩
def HLNK_LFLAG.LOCK_LOST : Fld := ⟨HLNK_LFLAG, 0, 0, .w1c⟩

/-- HLNK_LFLAGEN[l], 12_opzo_link.md, Table 12-8: Event enables. -/
def HLNK_LFLAGEN : Reg := ⟨0x200103, 8, 0x40, 1, 0x0⟩
def HLNK_LFLAGEN.PRBS_REJ : Fld := ⟨HLNK_LFLAGEN, 6, 6, .rw⟩
def HLNK_LFLAGEN.PRBS_ERR : Fld := ⟨HLNK_LFLAGEN, 5, 5, .rw⟩
def HLNK_LFLAGEN.SKEW_ERR : Fld := ⟨HLNK_LFLAGEN, 4, 4, .rw⟩
def HLNK_LFLAGEN.EB_ERR : Fld := ⟨HLNK_LFLAGEN, 3, 3, .rw⟩
def HLNK_LFLAGEN.STUFF_ERR : Fld := ⟨HLNK_LFLAGEN, 2, 2, .rw⟩
def HLNK_LFLAGEN.HDR_ERR : Fld := ⟨HLNK_LFLAGEN, 1, 1, .rw⟩
def HLNK_LFLAGEN.LOCK_LOST : Fld := ⟨HLNK_LFLAGEN, 0, 0, .rw⟩

/-- HLNK_LPRBS[l], 12_opzo_link.md, Table 12-8: PRBS31 control. -/
def HLNK_LPRBS : Reg := ⟨0x200104, 8, 0x40, 1, 0x0⟩
def HLNK_LPRBS.TX_EN : Fld := ⟨HLNK_LPRBS, 39, 39, .rw⟩
def HLNK_LPRBS.RX_EN : Fld := ⟨HLNK_LPRBS, 38, 38, .rw⟩
def HLNK_LPRBS.INV : Fld := ⟨HLNK_LPRBS, 37, 37, .rw⟩
def HLNK_LPRBS.ERR_INJ : Fld := ⟨HLNK_LPRBS, 36, 36, .wo⟩

/-- HLNK_LPRBSERR[l], 12_opzo_link.md, Table 12-8: Bit errors. -/
def HLNK_LPRBSERR : Reg := ⟨0x200105, 8, 0x40, 1, 0x0⟩
def HLNK_LPRBSERR.COUNT : Fld := ⟨HLNK_LPRBSERR, 39, 0, .ro⟩

/-- HLNK_LPRBSBITS[l], 12_opzo_link.md, Table 12-8: Bits compared. -/
def HLNK_LPRBSBITS : Reg := ⟨0x200106, 8, 0x40, 1, 0x0⟩
def HLNK_LPRBSBITS.KBITS : Fld := ⟨HLNK_LPRBSBITS, 39, 0, .ro⟩

/-- The registers of HLNK. -/
def rowsHLNK : List RegRow :=
  [
    ⟨HLNK_CFG, [HLNK_CFG.REFSEL, HLNK_CFG.WIDTH_MAX, HLNK_CFG.RPL_TMO, HLNK_CFG.TRAIN_TMO], 0x609F400000⟩,
    ⟨HLNK_CTL, [HLNK_CTL.EN, HLNK_CTL.RETRAIN], 0x0⟩,
    ⟨HLNK_STAT, [HLNK_STAT.LSTATE, HLNK_STAT.WIDTH, HLNK_STAT.LOCKED, HLNK_STAT.REMOTE], 0x0⟩,
    ⟨HLNK_FLAG, [HLNK_FLAG.EVQ_OVF, HLNK_FLAG.CTL_BAD, HLNK_FLAG.NAK_TX, HLNK_FLAG.REPLAY_FAIL, HLNK_FLAG.REPLAY, HLNK_FLAG.CREDIT_OVF, HLNK_FLAG.PKT_BAD, HLNK_FLAG.PKT_CRC, HLNK_FLAG.HDR_CRC, HLNK_FLAG.WIDTH_DEG, HLNK_FLAG.TRAIN_FAIL, HLNK_FLAG.LINK_DOWN, HLNK_FLAG.LINK_UP], 0x0⟩,
    ⟨HLNK_FLAGEN, [HLNK_FLAGEN.EVQ_OVF, HLNK_FLAGEN.CTL_BAD, HLNK_FLAGEN.NAK_TX, HLNK_FLAGEN.REPLAY_FAIL, HLNK_FLAGEN.REPLAY, HLNK_FLAGEN.CREDIT_OVF, HLNK_FLAGEN.PKT_BAD, HLNK_FLAGEN.PKT_CRC, HLNK_FLAGEN.HDR_CRC, HLNK_FLAGEN.WIDTH_DEG, HLNK_FLAGEN.TRAIN_FAIL, HLNK_FLAGEN.LINK_DOWN, HLNK_FLAGEN.LINK_UP], 0x0⟩,
    ⟨HLNK_ERRINFO, [HLNK_ERRINFO.TYPE, HLNK_ERRINFO.SEQ, HLNK_ERRINFO.WHY], 0x0⟩,
    ⟨HLNK_SEQ, [HLNK_SEQ.RX_NEXT, HLNK_SEQ.TX_NEXT, HLNK_SEQ.TX_ACKED], 0xFF0000⟩,
    ⟨HLNK_CREDIT, [HLNK_CREDIT.REG_FREE, HLNK_CREDIT.BULK_FREE, HLNK_CREDIT.RSP_AVAIL], 0x8010000000⟩,
    ⟨HLNK_EVQ, [HLNK_EVQ.LEVEL, HLNK_EVQ.EVT_AVAIL], 0x0⟩,
    ⟨HLNK_LCFG, [HLNK_LCFG.EN, HLNK_LCFG.TXPOL, HLNK_LCFG.RXPOL, HLNK_LCFG.TX_SWING, HLNK_LCFG.TX_PRE, HLNK_LCFG.TX_POST, HLNK_LCFG.RX_CTLE, HLNK_LCFG.RX_GAIN], 0x9004420000⟩,
    ⟨HLNK_LSTAT, [HLNK_LSTAT.BSTATE, HLNK_LSTAT.EB_LEVEL, HLNK_LSTAT.SKEW, HLNK_LSTAT.PRBS_LOCK], 0x0⟩,
    ⟨HLNK_LFLAG, [HLNK_LFLAG.PRBS_REJ, HLNK_LFLAG.PRBS_ERR, HLNK_LFLAG.SKEW_ERR, HLNK_LFLAG.EB_ERR, HLNK_LFLAG.STUFF_ERR, HLNK_LFLAG.HDR_ERR, HLNK_LFLAG.LOCK_LOST], 0x0⟩,
    ⟨HLNK_LFLAGEN, [HLNK_LFLAGEN.PRBS_REJ, HLNK_LFLAGEN.PRBS_ERR, HLNK_LFLAGEN.SKEW_ERR, HLNK_LFLAGEN.EB_ERR, HLNK_LFLAGEN.STUFF_ERR, HLNK_LFLAGEN.HDR_ERR, HLNK_LFLAGEN.LOCK_LOST], 0x0⟩,
    ⟨HLNK_LPRBS, [HLNK_LPRBS.TX_EN, HLNK_LPRBS.RX_EN, HLNK_LPRBS.INV, HLNK_LPRBS.ERR_INJ], 0x0⟩,
    ⟨HLNK_LPRBSERR, [HLNK_LPRBSERR.COUNT], 0x0⟩,
    ⟨HLNK_LPRBSBITS, [HLNK_LPRBSBITS.KBITS], 0x0⟩]

/-! ### DRAM -/

/-- DRAM_CTL, 13_dram_controller.md, Table 13-10: Initialise, scrub, zero. -/
def DRAM_CTL : Reg := ⟨0x240000, 1, 0x0, 1, 0x0⟩
def DRAM_CTL.INIT : Fld := ⟨DRAM_CTL, 39, 39, .wo⟩
def DRAM_CTL.SCRUB_EN : Fld := ⟨DRAM_CTL, 38, 38, .rw⟩
def DRAM_CTL.ZERO : Fld := ⟨DRAM_CTL, 37, 37, .rw⟩
def DRAM_CTL.RETAIN : Fld := ⟨DRAM_CTL, 36, 36, .rw⟩

/-- DRAM_STAT, 13_dram_controller.md, Table 13-10: State, progress, failure. -/
def DRAM_STAT : Reg := ⟨0x240001, 1, 0x0, 1, 0x0⟩
def DRAM_STAT.STATE : Fld := ⟨DRAM_STAT, 39, 37, .ro⟩
def DRAM_STAT.PROGRESS : Fld := ⟨DRAM_STAT, 36, 29, .ro⟩
def DRAM_STAT.FAILQ : Fld := ⟨DRAM_STAT, 28, 25, .ro⟩
def DRAM_STAT.FCAUSE : Fld := ⟨DRAM_STAT, 24, 23, .ro⟩
def DRAM_STAT.REF2X : Fld := ⟨DRAM_STAT, 22, 22, .ro⟩
def DRAM_STAT.RETAINED : Fld := ⟨DRAM_STAT, 21, 21, .ro⟩

/-- DRAM_FLAG, 13_dram_controller.md, Table 13-10: Flags. -/
def DRAM_FLAG : Reg := ⟨0x240002, 1, 0x0, 1, 0x0⟩
def DRAM_FLAG.LOST : Fld := ⟨DRAM_FLAG, 8, 8, .w1c⟩
def DRAM_FLAG.SCRUB_DONE : Fld := ⟨DRAM_FLAG, 7, 7, .w1c⟩
def DRAM_FLAG.REF_FORCED : Fld := ⟨DRAM_FLAG, 6, 6, .w1c⟩
def DRAM_FLAG.HOT : Fld := ⟨DRAM_FLAG, 5, 5, .w1c⟩
def DRAM_FLAG.INIT_FAIL : Fld := ⟨DRAM_FLAG, 4, 4, .w1c⟩
def DRAM_FLAG.NOT_READY : Fld := ⟨DRAM_FLAG, 3, 3, .w1c⟩
def DRAM_FLAG.RANGE : Fld := ⟨DRAM_FLAG, 2, 2, .w1c⟩
def DRAM_FLAG.UNCORR : Fld := ⟨DRAM_FLAG, 1, 1, .w1c⟩
def DRAM_FLAG.CORR : Fld := ⟨DRAM_FLAG, 0, 0, .w1c⟩

/-- DRAM_FLAGEN, 13_dram_controller.md, Table 13-10: Event enables. -/
def DRAM_FLAGEN : Reg := ⟨0x240003, 1, 0x0, 1, 0x0⟩
def DRAM_FLAGEN.LOST : Fld := ⟨DRAM_FLAGEN, 8, 8, .rw⟩
def DRAM_FLAGEN.SCRUB_DONE : Fld := ⟨DRAM_FLAGEN, 7, 7, .rw⟩
def DRAM_FLAGEN.REF_FORCED : Fld := ⟨DRAM_FLAGEN, 6, 6, .rw⟩
def DRAM_FLAGEN.HOT : Fld := ⟨DRAM_FLAGEN, 5, 5, .rw⟩
def DRAM_FLAGEN.INIT_FAIL : Fld := ⟨DRAM_FLAGEN, 4, 4, .rw⟩
def DRAM_FLAGEN.NOT_READY : Fld := ⟨DRAM_FLAGEN, 3, 3, .rw⟩
def DRAM_FLAGEN.RANGE : Fld := ⟨DRAM_FLAGEN, 2, 2, .rw⟩
def DRAM_FLAGEN.UNCORR : Fld := ⟨DRAM_FLAGEN, 1, 1, .rw⟩
def DRAM_FLAGEN.CORR : Fld := ⟨DRAM_FLAGEN, 0, 0, .rw⟩

/-- DRAM_GEOM, 13_dram_controller.md, Table 13-10: Device configuration. -/
def DRAM_GEOM : Reg := ⟨0x240004, 1, 0x0, 1, 0x0⟩
def DRAM_GEOM.WIDTH : Fld := ⟨DRAM_GEOM, 39, 39, .rwl⟩
def DRAM_GEOM.DENS : Fld := ⟨DRAM_GEOM, 38, 38, .rwl⟩
def DRAM_GEOM.RANKS : Fld := ⟨DRAM_GEOM, 37, 37, .rwl⟩
def DRAM_GEOM.SIZE : Fld := ⟨DRAM_GEOM, 36, 31, .ro⟩

/-- DRAM_TIM0, 13_dram_controller.md, Table 13-10: Core timings. -/
def DRAM_TIM0 : Reg := ⟨0x240005, 1, 0x0, 1, 0x0⟩
def DRAM_TIM0.CL : Fld := ⟨DRAM_TIM0, 39, 33, .rwl⟩
def DRAM_TIM0.CWL : Fld := ⟨DRAM_TIM0, 32, 26, .rwl⟩
def DRAM_TIM0.TRCD : Fld := ⟨DRAM_TIM0, 25, 19, .rwl⟩
def DRAM_TIM0.TRP : Fld := ⟨DRAM_TIM0, 18, 12, .rwl⟩
def DRAM_TIM0.TRAS : Fld := ⟨DRAM_TIM0, 11, 4, .rwl⟩

/-- DRAM_TIM1, 13_dram_controller.md, Table 13-10: Further timings. -/
def DRAM_TIM1 : Reg := ⟨0x240006, 1, 0x0, 1, 0x0⟩
def DRAM_TIM1.TWR : Fld := ⟨DRAM_TIM1, 39, 32, .rwl⟩
def DRAM_TIM1.TRTP : Fld := ⟨DRAM_TIM1, 31, 27, .rwl⟩
def DRAM_TIM1.TRRD_S : Fld := ⟨DRAM_TIM1, 26, 22, .rwl⟩
def DRAM_TIM1.TRRD_L : Fld := ⟨DRAM_TIM1, 21, 17, .rwl⟩
def DRAM_TIM1.TFAW : Fld := ⟨DRAM_TIM1, 16, 10, .rwl⟩
def DRAM_TIM1.TCCD_L : Fld := ⟨DRAM_TIM1, 9, 5, .rwl⟩
def DRAM_TIM1.TWTR_L : Fld := ⟨DRAM_TIM1, 4, 0, .rwl⟩

/-- DRAM_REF, 13_dram_controller.md, Table 13-10: Refresh. -/
def DRAM_REF : Reg := ⟨0x240007, 1, 0x0, 1, 0x0⟩
def DRAM_REF.TREFI : Fld := ⟨DRAM_REF, 39, 26, .rwl⟩
def DRAM_REF.TRFCSB : Fld := ⟨DRAM_REF, 25, 16, .rwl⟩
def DRAM_REF.POLL : Fld := ⟨DRAM_REF, 15, 8, .rw⟩

/-- DRAM_PAGE, 13_dram_controller.md, Table 13-10: Page policy. -/
def DRAM_PAGE : Reg := ⟨0x240008, 1, 0x0, 1, 0x0⟩
def DRAM_PAGE.MODE : Fld := ⟨DRAM_PAGE, 39, 38, .rw⟩
def DRAM_PAGE.IDLE : Fld := ⟨DRAM_PAGE, 37, 26, .rw⟩

/-- DRAM_WQ, 13_dram_controller.md, Table 13-10: Write drain levels. -/
def DRAM_WQ : Reg := ⟨0x240009, 1, 0x0, 1, 0x0⟩
def DRAM_WQ.HI : Fld := ⟨DRAM_WQ, 39, 34, .rw⟩
def DRAM_WQ.LO : Fld := ⟨DRAM_WQ, 33, 28, .rw⟩

/-- DRAM_SCRUB, 13_dram_controller.md, Table 13-10: Scrub interval. -/
def DRAM_SCRUB : Reg := ⟨0x24000A, 1, 0x0, 1, 0x0⟩
def DRAM_SCRUB.INTERVAL : Fld := ⟨DRAM_SCRUB, 39, 16, .rw⟩

/-- DRAM_SCRUBPOS, 13_dram_controller.md, Table 13-10: Next scrub address. -/
def DRAM_SCRUBPOS : Reg := ⟨0x24000B, 1, 0x0, 1, 0x0⟩
def DRAM_SCRUBPOS.ADDR : Fld := ⟨DRAM_SCRUBPOS, 35, 0, .ro⟩

/-- DRAM_ERRADDR, 13_dram_controller.md, Table 13-10: First uncorrectable address. -/
def DRAM_ERRADDR : Reg := ⟨0x24000C, 1, 0x0, 1, 0x0⟩
def DRAM_ERRADDR.ADDR : Fld := ⟨DRAM_ERRADDR, 35, 0, .ro⟩

/-- DRAM_ERRINFO, 13_dram_controller.md, Table 13-10: Its source. -/
def DRAM_ERRINFO : Reg := ⟨0x24000D, 1, 0x0, 1, 0x0⟩
def DRAM_ERRINFO.CLIENT : Fld := ⟨DRAM_ERRINFO, 39, 36, .ro⟩
def DRAM_ERRINFO.SUBCH : Fld := ⟨DRAM_ERRINFO, 35, 34, .ro⟩
def DRAM_ERRINFO.RANK : Fld := ⟨DRAM_ERRINFO, 33, 33, .ro⟩
def DRAM_ERRINFO.WORD : Fld := ⟨DRAM_ERRINFO, 32, 30, .ro⟩

/-- DRAM_CEADDR, 13_dram_controller.md, Table 13-10: Last corrected address. -/
def DRAM_CEADDR : Reg := ⟨0x24000E, 1, 0x0, 1, 0x0⟩
def DRAM_CEADDR.ADDR : Fld := ⟨DRAM_CEADDR, 35, 0, .ro⟩

/-- DRAM_CEINFO, 13_dram_controller.md, Table 13-10: Its source. -/
def DRAM_CEINFO : Reg := ⟨0x24000F, 1, 0x0, 1, 0x0⟩
def DRAM_CEINFO.CLIENT : Fld := ⟨DRAM_CEINFO, 39, 36, .ro⟩
def DRAM_CEINFO.SUBCH : Fld := ⟨DRAM_CEINFO, 35, 34, .ro⟩
def DRAM_CEINFO.RANK : Fld := ⟨DRAM_CEINFO, 33, 33, .ro⟩
def DRAM_CEINFO.WORD : Fld := ⟨DRAM_CEINFO, 32, 30, .ro⟩
def DRAM_CEINFO.NBITS : Fld := ⟨DRAM_CEINFO, 29, 28, .ro⟩

/-- DRAM_CLI[i], 13_dram_controller.md, Table 13-10: Client arbitration.
(DESIGN CHOICE, log entry 8.) -/
def DRAM_CLI : Reg := ⟨0x240010, 16, 0x1, 1, 0x0⟩
def DRAM_CLI.CLASS : Fld := ⟨DRAM_CLI, 39, 38, .rw⟩
def DRAM_CLI.RATE : Fld := ⟨DRAM_CLI, 37, 27, .rw⟩
def DRAM_CLI.BUCKET : Fld := ⟨DRAM_CLI, 26, 19, .rw⟩
def DRAM_CLI.WEIGHT : Fld := ⟨DRAM_CLI, 18, 15, .rw⟩

/-- DRAM_MRINIT[j], 13_dram_controller.md, Table 13-10: Mode register list. -/
def DRAM_MRINIT : Reg := ⟨0x240020, 32, 0x1, 1, 0x0⟩
def DRAM_MRINIT.V : Fld := ⟨DRAM_MRINIT, 39, 39, .rwl⟩
def DRAM_MRINIT.QMASK : Fld := ⟨DRAM_MRINIT, 38, 35, .rwl⟩
def DRAM_MRINIT.MA : Fld := ⟨DRAM_MRINIT, 34, 27, .rwl⟩
def DRAM_MRINIT.OP : Fld := ⟨DRAM_MRINIT, 26, 19, .rwl⟩

/-- DRAM_TEMP[q], 13_dram_controller.md, Table 13-10: Last MR4 report. -/
def DRAM_TEMP : Reg := ⟨0x240040, 4, 0x1, 1, 0x0⟩
def DRAM_TEMP.RR : Fld := ⟨DRAM_TEMP, 39, 37, .ro⟩

/-- DRAM_TRN_DQ[q][k], 13_dram_controller.md, Table 13-10: Data lane delays. -/
def DRAM_TRN_DQ : Reg := ⟨0x240100, 4, 0x20, 10, 0x1⟩
def DRAM_TRN_DQ.WDQS : Fld := ⟨DRAM_TRN_DQ, 39, 32, .rwl⟩
def DRAM_TRN_DQ.RGATE : Fld := ⟨DRAM_TRN_DQ, 31, 22, .rwl⟩
def DRAM_TRN_DQ.RDQ : Fld := ⟨DRAM_TRN_DQ, 21, 14, .rwl⟩
def DRAM_TRN_DQ.WDQ : Fld := ⟨DRAM_TRN_DQ, 13, 6, .rwl⟩
def DRAM_TRN_DQ.RVREF : Fld := ⟨DRAM_TRN_DQ, 5, 0, .rwl⟩

/-- DRAM_TRN_CA[q], 13_dram_controller.md, Table 13-10: Command delays. -/
def DRAM_TRN_CA : Reg := ⟨0x24010C, 4, 0x20, 1, 0x0⟩
def DRAM_TRN_CA.CA : Fld := ⟨DRAM_TRN_CA, 39, 32, .rwl⟩
def DRAM_TRN_CA.CS : Fld := ⟨DRAM_TRN_CA, 31, 24, .rwl⟩

/-- The registers of DRAM. -/
def rowsDRAM : List RegRow :=
  [
    ⟨DRAM_CTL, [DRAM_CTL.INIT, DRAM_CTL.SCRUB_EN, DRAM_CTL.ZERO, DRAM_CTL.RETAIN], 0x2000000000⟩,
    ⟨DRAM_STAT, [DRAM_STAT.STATE, DRAM_STAT.PROGRESS, DRAM_STAT.FAILQ, DRAM_STAT.FCAUSE, DRAM_STAT.REF2X, DRAM_STAT.RETAINED], 0x0⟩,
    ⟨DRAM_FLAG, [DRAM_FLAG.LOST, DRAM_FLAG.SCRUB_DONE, DRAM_FLAG.REF_FORCED, DRAM_FLAG.HOT, DRAM_FLAG.INIT_FAIL, DRAM_FLAG.NOT_READY, DRAM_FLAG.RANGE, DRAM_FLAG.UNCORR, DRAM_FLAG.CORR], 0x0⟩,
    ⟨DRAM_FLAGEN, [DRAM_FLAGEN.LOST, DRAM_FLAGEN.SCRUB_DONE, DRAM_FLAGEN.REF_FORCED, DRAM_FLAGEN.HOT, DRAM_FLAGEN.INIT_FAIL, DRAM_FLAGEN.NOT_READY, DRAM_FLAGEN.RANGE, DRAM_FLAGEN.UNCORR, DRAM_FLAGEN.CORR], 0x0⟩,
    ⟨DRAM_GEOM, [DRAM_GEOM.WIDTH, DRAM_GEOM.DENS, DRAM_GEOM.RANKS, DRAM_GEOM.SIZE], 0x1180000000⟩,
    ⟨DRAM_TIM0, [DRAM_TIM0.CL, DRAM_TIM0.CWL, DRAM_TIM0.TRCD, DRAM_TIM0.TRP, DRAM_TIM0.TRAS], 0x50994284D0⟩,
    ⟨DRAM_TIM1, [DRAM_TIM1.TWR, DRAM_TIM1.TRTP, DRAM_TIM1.TRRD_S, DRAM_TIM1.TRRD_L, DRAM_TIM1.TFAW, DRAM_TIM1.TCCD_L, DRAM_TIM1.TWTR_L], 0x4892188198⟩,
    ⟨DRAM_REF, [DRAM_REF.TREFI, DRAM_REF.TRFCSB, DRAM_REF.POLL], 0x9241380100⟩,
    ⟨DRAM_PAGE, [DRAM_PAGE.MODE, DRAM_PAGE.IDLE], 0x400000000⟩,
    ⟨DRAM_WQ, [DRAM_WQ.HI, DRAM_WQ.LO], 0xC100000000⟩,
    ⟨DRAM_SCRUB, [DRAM_SCRUB.INTERVAL], 0x1000000⟩,
    ⟨DRAM_SCRUBPOS, [DRAM_SCRUBPOS.ADDR], 0x0⟩,
    ⟨DRAM_ERRADDR, [DRAM_ERRADDR.ADDR], 0x0⟩,
    ⟨DRAM_ERRINFO, [DRAM_ERRINFO.CLIENT, DRAM_ERRINFO.SUBCH, DRAM_ERRINFO.RANK, DRAM_ERRINFO.WORD], 0x0⟩,
    ⟨DRAM_CEADDR, [DRAM_CEADDR.ADDR], 0x0⟩,
    ⟨DRAM_CEINFO, [DRAM_CEINFO.CLIENT, DRAM_CEINFO.SUBCH, DRAM_CEINFO.RANK, DRAM_CEINFO.WORD, DRAM_CEINFO.NBITS], 0x0⟩,
    ⟨DRAM_CLI, [DRAM_CLI.CLASS, DRAM_CLI.RATE, DRAM_CLI.BUCKET, DRAM_CLI.WEIGHT], 0x0⟩,
    ⟨DRAM_MRINIT, [DRAM_MRINIT.V, DRAM_MRINIT.QMASK, DRAM_MRINIT.MA, DRAM_MRINIT.OP], 0x0⟩,
    ⟨DRAM_TEMP, [DRAM_TEMP.RR], 0x0⟩,
    ⟨DRAM_TRN_DQ, [DRAM_TRN_DQ.WDQS, DRAM_TRN_DQ.RGATE, DRAM_TRN_DQ.RDQ, DRAM_TRN_DQ.WDQ, DRAM_TRN_DQ.RVREF], 0x0⟩,
    ⟨DRAM_TRN_CA, [DRAM_TRN_CA.CA, DRAM_TRN_CA.CS], 0x0⟩]

/-! ### WARD -/

/-- WARD_ROLE, 17_supervision_failover.md, Table 17-8: Active core, standby state. -/
def WARD_ROLE : Reg := ⟨0x280000, 1, 0x0, 1, 0x0⟩
def WARD_ROLE.ACTIVE : Fld := ⟨WARD_ROLE, 39, 39, .ro⟩
def WARD_ROLE.SB_OK : Fld := ⟨WARD_ROLE, 38, 38, .ro⟩
def WARD_ROLE.SB_STATE : Fld := ⟨WARD_ROLE, 37, 35, .ro⟩

/-- WARD_CTL, 17_supervision_failover.md, Table 17-8: Hand-over, self reset. -/
def WARD_CTL : Reg := ⟨0x280001, 1, 0x0, 1, 0x0⟩
def WARD_CTL.HANDOVER : Fld := ⟨WARD_CTL, 39, 39, .wo⟩
def WARD_CTL.SELFRST : Fld := ⟨WARD_CTL, 38, 38, .wo⟩
def WARD_CTL.KEY : Fld := ⟨WARD_CTL, 37, 30, .wo⟩

/-- WARD_HB, 17_supervision_failover.md, Table 17-8: Heartbeat. -/
def WARD_HB : Reg := ⟨0x280002, 1, 0x0, 1, 0x0⟩
def WARD_HB.TOKEN : Fld := ⟨WARD_HB, 39, 24, .wo⟩

/-- WARD_HB_TIMEOUT, 17_supervision_failover.md, Table 17-8: Deadlines. -/
def WARD_HB_TIMEOUT : Reg := ⟨0x280003, 1, 0x0, 1, 0x0⟩
def WARD_HB_TIMEOUT.TIME : Fld := ⟨WARD_HB_TIMEOUT, 39, 20, .rw⟩
def WARD_HB_TIMEOUT.FIRST : Fld := ⟨WARD_HB_TIMEOUT, 19, 8, .rw⟩

/-- WARD_POLICY, 17_supervision_failover.md, Table 17-8: Escalation and triggers. -/
def WARD_POLICY : Reg := ⟨0x280004, 1, 0x0, 1, 0x0⟩
def WARD_POLICY.ESC_ACT : Fld := ⟨WARD_POLICY, 39, 39, .rw⟩
def WARD_POLICY.MIN_GAP : Fld := ⟨WARD_POLICY, 38, 27, .rw⟩
def WARD_POLICY.REL_TMO : Fld := ⟨WARD_POLICY, 26, 15, .rw⟩
def WARD_POLICY.AUTO_BIST : Fld := ⟨WARD_POLICY, 14, 14, .rw⟩

/-- WARD_STAT, 17_supervision_failover.md, Table 17-8: Spotter state. -/
def WARD_STAT : Reg := ⟨0x280005, 1, 0x0, 1, 0x0⟩
def WARD_STAT.SSTATE : Fld := ⟨WARD_STAT, 39, 37, .ro⟩
def WARD_STAT.ISO_DONE : Fld := ⟨WARD_STAT, 36, 36, .ro⟩
def WARD_STAT.CKPT_READY : Fld := ⟨WARD_STAT, 35, 35, .ro⟩
def WARD_STAT.HB_LAST : Fld := ⟨WARD_STAT, 34, 19, .ro⟩
def WARD_STAT.SWAP_REQ : Fld := ⟨WARD_STAT, 18, 18, .ro⟩

/-- WARD_FLAG, 17_supervision_failover.md, Table 17-8: Flags. -/
def WARD_FLAG : Reg := ⟨0x280006, 1, 0x0, 1, 0x0⟩
def WARD_FLAG.CKPT_REJ : Fld := ⟨WARD_FLAG, 14, 14, .w1c⟩
def WARD_FLAG.REL_STALL : Fld := ⟨WARD_FLAG, 13, 13, .w1c⟩
def WARD_FLAG.FLOG_OVF : Fld := ⟨WARD_FLAG, 12, 12, .w1c⟩
def WARD_FLAG.OVL_WRITE : Fld := ⟨WARD_FLAG, 11, 11, .w1c⟩
def WARD_FLAG.POISON : Fld := ⟨WARD_FLAG, 10, 10, .w1c⟩
def WARD_FLAG.CKPT_BAD : Fld := ⟨WARD_FLAG, 9, 9, .w1c⟩
def WARD_FLAG.CKPT_NONE : Fld := ⟨WARD_FLAG, 8, 8, .w1c⟩
def WARD_FLAG.SWAP_FAIL : Fld := ⟨WARD_FLAG, 7, 7, .w1c⟩
def WARD_FLAG.SWAP_DONE : Fld := ⟨WARD_FLAG, 6, 6, .w1c⟩
def WARD_FLAG.SB_FAIL : Fld := ⟨WARD_FLAG, 5, 5, .w1c⟩
def WARD_FLAG.ESCALATE : Fld := ⟨WARD_FLAG, 4, 4, .w1c⟩
def WARD_FLAG.CORE_ERR : Fld := ⟨WARD_FLAG, 3, 3, .w1c⟩
def WARD_FLAG.HB_SEQ : Fld := ⟨WARD_FLAG, 2, 2, .w1c⟩
def WARD_FLAG.HB_LATE : Fld := ⟨WARD_FLAG, 1, 1, .w1c⟩
def WARD_FLAG.FAILOVER : Fld := ⟨WARD_FLAG, 0, 0, .w1c⟩

/-- WARD_FLAGEN, 17_supervision_failover.md, Table 17-8: Event enables. -/
def WARD_FLAGEN : Reg := ⟨0x280007, 1, 0x0, 1, 0x0⟩
def WARD_FLAGEN.CKPT_REJ : Fld := ⟨WARD_FLAGEN, 14, 14, .rw⟩
def WARD_FLAGEN.REL_STALL : Fld := ⟨WARD_FLAGEN, 13, 13, .rw⟩
def WARD_FLAGEN.FLOG_OVF : Fld := ⟨WARD_FLAGEN, 12, 12, .rw⟩
def WARD_FLAGEN.OVL_WRITE : Fld := ⟨WARD_FLAGEN, 11, 11, .rw⟩
def WARD_FLAGEN.POISON : Fld := ⟨WARD_FLAGEN, 10, 10, .rw⟩
def WARD_FLAGEN.CKPT_BAD : Fld := ⟨WARD_FLAGEN, 9, 9, .rw⟩
def WARD_FLAGEN.CKPT_NONE : Fld := ⟨WARD_FLAGEN, 8, 8, .rw⟩
def WARD_FLAGEN.SWAP_FAIL : Fld := ⟨WARD_FLAGEN, 7, 7, .rw⟩
def WARD_FLAGEN.SWAP_DONE : Fld := ⟨WARD_FLAGEN, 6, 6, .rw⟩
def WARD_FLAGEN.SB_FAIL : Fld := ⟨WARD_FLAGEN, 5, 5, .rw⟩
def WARD_FLAGEN.ESCALATE : Fld := ⟨WARD_FLAGEN, 4, 4, .rw⟩
def WARD_FLAGEN.CORE_ERR : Fld := ⟨WARD_FLAGEN, 3, 3, .rw⟩
def WARD_FLAGEN.HB_SEQ : Fld := ⟨WARD_FLAGEN, 2, 2, .rw⟩
def WARD_FLAGEN.HB_LATE : Fld := ⟨WARD_FLAGEN, 1, 1, .rw⟩
def WARD_FLAGEN.FAILOVER : Fld := ⟨WARD_FLAGEN, 0, 0, .rw⟩

/-- WARD_LASTFO, 17_supervision_failover.md, Table 17-8: Last takeover. -/
def WARD_LASTFO : Reg := ⟨0x280008, 1, 0x0, 1, 0x0⟩
def WARD_LASTFO.REASON : Fld := ⟨WARD_LASTFO, 39, 36, .ro⟩
def WARD_LASTFO.FROM : Fld := ⟨WARD_LASTFO, 35, 35, .ro⟩
def WARD_LASTFO.CKPT : Fld := ⟨WARD_LASTFO, 34, 34, .ro⟩
def WARD_LASTFO.NFO : Fld := ⟨WARD_LASTFO, 33, 18, .ro⟩

/-- WARD_LASTFOPOS, 17_supervision_failover.md, Table 17-8: Its stamp. -/
def WARD_LASTFOPOS : Reg := ⟨0x280009, 1, 0x0, 1, 0x0⟩
def WARD_LASTFOPOS.STAMP : Fld := ⟨WARD_LASTFOPOS, 39, 0, .ro⟩

/-- WARD_OVLCNT, 17_supervision_failover.md, Table 17-8: Overlap window writes. -/
def WARD_OVLCNT : Reg := ⟨0x28000A, 1, 0x0, 1, 0x0⟩
def WARD_OVLCNT.COUNT : Fld := ⟨WARD_OVLCNT, 39, 32, .ro⟩
def WARD_OVLCNT.ADDR : Fld := ⟨WARD_OVLCNT, 31, 8, .ro⟩

/-- WARD_SWAP, 17_supervision_failover.md, Table 17-8: Host command. -/
def WARD_SWAP : Reg := ⟨0x28000B, 1, 0x0, 1, 0x0⟩
def WARD_SWAP.GO : Fld := ⟨WARD_SWAP, 39, 39, .wo⟩
def WARD_SWAP.OP : Fld := ⟨WARD_SWAP, 38, 37, .rw⟩
def WARD_SWAP.KEY : Fld := ⟨WARD_SWAP, 36, 29, .wo⟩

/-- WARD_CKPT, 17_supervision_failover.md, Table 17-8: Seal command. -/
def WARD_CKPT : Reg := ⟨0x280010, 1, 0x0, 1, 0x0⟩
def WARD_CKPT.SEAL : Fld := ⟨WARD_CKPT, 39, 39, .wo⟩
def WARD_CKPT.COPY : Fld := ⟨WARD_CKPT, 38, 38, .rw⟩

/-- WARD_CKPTSTAT[c], 17_supervision_failover.md, Table 17-8: Copy state. -/
def WARD_CKPTSTAT : Reg := ⟨0x280011, 2, 0x1, 1, 0x0⟩
def WARD_CKPTSTAT.VALID : Fld := ⟨WARD_CKPTSTAT, 39, 39, .ro⟩
def WARD_CKPTSTAT.SEALING : Fld := ⟨WARD_CKPTSTAT, 38, 38, .ro⟩
def WARD_CKPTSTAT.SEQ : Fld := ⟨WARD_CKPTSTAT, 37, 6, .ro⟩
def WARD_CKPTSTAT.USED : Fld := ⟨WARD_CKPTSTAT, 5, 5, .ro⟩

/-- WARD_LIDX, 17_supervision_failover.md, Table 17-8: Landing read index. -/
def WARD_LIDX : Reg := ⟨0x280013, 1, 0x0, 1, 0x0⟩
def WARD_LIDX.WORD : Fld := ⟨WARD_LIDX, 39, 24, .rw⟩
def WARD_LIDX.AUTOINC : Fld := ⟨WARD_LIDX, 23, 23, .rw⟩

/-- WARD_LDATA, 17_supervision_failover.md, Table 17-8: Landing read data. -/
def WARD_LDATA : Reg := ⟨0x280014, 1, 0x0, 1, 0x0⟩
def WARD_LDATA.DATA : Fld := ⟨WARD_LDATA, 31, 0, .ro⟩

/-- WARD_PATCH, 17_supervision_failover.md, Table 17-8: Patch store. -/
def WARD_PATCH : Reg := ⟨0x280018, 1, 0x0, 1, 0x0⟩
def WARD_PATCH.N : Fld := ⟨WARD_PATCH, 39, 34, .ro⟩
def WARD_PATCH.UNITS : Fld := ⟨WARD_PATCH, 33, 16, .ro⟩
def WARD_PATCH.OK : Fld := ⟨WARD_PATCH, 15, 15, .ro⟩

/-- WARD_SBCHK, 17_supervision_failover.md, Table 17-8: Standby check result. -/
def WARD_SBCHK : Reg := ⟨0x280019, 1, 0x0, 1, 0x0⟩
def WARD_SBCHK.RESULT : Fld := ⟨WARD_SBCHK, 39, 32, .rw⟩

/-- WARD_FLOG, 17_supervision_failover.md, Table 17-8: Fault log state. -/
def WARD_FLOG : Reg := ⟨0x280020, 1, 0x0, 1, 0x0⟩
def WARD_FLOG.NEXT : Fld := ⟨WARD_FLOG, 39, 27, .ro⟩
def WARD_FLOG.QLEVEL : Fld := ⟨WARD_FLOG, 26, 23, .ro⟩
def WARD_FLOG.ERASING : Fld := ⟨WARD_FLOG, 22, 22, .ro⟩

/-- The registers of WARD. -/
def rowsWARD : List RegRow :=
  [
    ⟨WARD_ROLE, [WARD_ROLE.ACTIVE, WARD_ROLE.SB_OK, WARD_ROLE.SB_STATE], 0x4000000000⟩,
    ⟨WARD_CTL, [WARD_CTL.HANDOVER, WARD_CTL.SELFRST, WARD_CTL.KEY], 0x0⟩,
    ⟨WARD_HB, [WARD_HB.TOKEN], 0x0⟩,
    ⟨WARD_HB_TIMEOUT, [WARD_HB_TIMEOUT.TIME, WARD_HB_TIMEOUT.FIRST], 0x3E803200⟩,
    ⟨WARD_POLICY, [WARD_POLICY.ESC_ACT, WARD_POLICY.MIN_GAP, WARD_POLICY.REL_TMO, WARD_POLICY.AUTO_BIST], 0x1E0004000⟩,
    ⟨WARD_STAT, [WARD_STAT.SSTATE, WARD_STAT.ISO_DONE, WARD_STAT.CKPT_READY, WARD_STAT.HB_LAST, WARD_STAT.SWAP_REQ], 0x1000000000⟩,
    ⟨WARD_FLAG, [WARD_FLAG.CKPT_REJ, WARD_FLAG.REL_STALL, WARD_FLAG.FLOG_OVF, WARD_FLAG.OVL_WRITE, WARD_FLAG.POISON, WARD_FLAG.CKPT_BAD, WARD_FLAG.CKPT_NONE, WARD_FLAG.SWAP_FAIL, WARD_FLAG.SWAP_DONE, WARD_FLAG.SB_FAIL, WARD_FLAG.ESCALATE, WARD_FLAG.CORE_ERR, WARD_FLAG.HB_SEQ, WARD_FLAG.HB_LATE, WARD_FLAG.FAILOVER], 0x0⟩,
    ⟨WARD_FLAGEN, [WARD_FLAGEN.CKPT_REJ, WARD_FLAGEN.REL_STALL, WARD_FLAGEN.FLOG_OVF, WARD_FLAGEN.OVL_WRITE, WARD_FLAGEN.POISON, WARD_FLAGEN.CKPT_BAD, WARD_FLAGEN.CKPT_NONE, WARD_FLAGEN.SWAP_FAIL, WARD_FLAGEN.SWAP_DONE, WARD_FLAGEN.SB_FAIL, WARD_FLAGEN.ESCALATE, WARD_FLAGEN.CORE_ERR, WARD_FLAGEN.HB_SEQ, WARD_FLAGEN.HB_LATE, WARD_FLAGEN.FAILOVER], 0x0⟩,
    ⟨WARD_LASTFO, [WARD_LASTFO.REASON, WARD_LASTFO.FROM, WARD_LASTFO.CKPT, WARD_LASTFO.NFO], 0x0⟩,
    ⟨WARD_LASTFOPOS, [WARD_LASTFOPOS.STAMP], 0x0⟩,
    ⟨WARD_OVLCNT, [WARD_OVLCNT.COUNT, WARD_OVLCNT.ADDR], 0x0⟩,
    ⟨WARD_SWAP, [WARD_SWAP.GO, WARD_SWAP.OP, WARD_SWAP.KEY], 0x0⟩,
    ⟨WARD_CKPT, [WARD_CKPT.SEAL, WARD_CKPT.COPY], 0x0⟩,
    ⟨WARD_CKPTSTAT, [WARD_CKPTSTAT.VALID, WARD_CKPTSTAT.SEALING, WARD_CKPTSTAT.SEQ, WARD_CKPTSTAT.USED], 0x0⟩,
    ⟨WARD_LIDX, [WARD_LIDX.WORD, WARD_LIDX.AUTOINC], 0x0⟩,
    ⟨WARD_LDATA, [WARD_LDATA.DATA], 0x0⟩,
    ⟨WARD_PATCH, [WARD_PATCH.N, WARD_PATCH.UNITS, WARD_PATCH.OK], 0x0⟩,
    ⟨WARD_SBCHK, [WARD_SBCHK.RESULT], 0x0⟩,
    ⟨WARD_FLOG, [WARD_FLOG.NEXT, WARD_FLOG.QLEVEL, WARD_FLOG.ERASING], 0x8000000000⟩]

/-! ### MOT -/

/-- MOT_AXCFG[n], 18_motion.md, Table 18-5: Mode, enable, step limits. -/
def MOT_AXCFG : Reg := ⟨0x2C0000, 8, 0x40, 1, 0x0⟩
def MOT_AXCFG.MODE : Fld := ⟨MOT_AXCFG, 39, 38, .rwl⟩
def MOT_AXCFG.EN : Fld := ⟨MOT_AXCFG, 37, 37, .rw⟩
def MOT_AXCFG.MRES : Fld := ⟨MOT_AXCFG, 36, 33, .rw⟩
def MOT_AXCFG.EN_POL : Fld := ⟨MOT_AXCFG, 32, 32, .rwl⟩
def MOT_AXCFG.MIN_IVL : Fld := ⟨MOT_AXCFG, 31, 16, .rw⟩
def MOT_AXCFG.SAFE_IVL : Fld := ⟨MOT_AXCFG, 15, 0, .rw⟩

/-- MOT_CMD[n], 18_motion.md, Table 18-5: Go, halt, stop, sync. -/
def MOT_CMD : Reg := ⟨0x2C0001, 8, 0x40, 1, 0x0⟩
def MOT_CMD.GO : Fld := ⟨MOT_CMD, 39, 39, .wo⟩
def MOT_CMD.HALT : Fld := ⟨MOT_CMD, 38, 38, .wo⟩
def MOT_CMD.STOP : Fld := ⟨MOT_CMD, 37, 37, .wo⟩
def MOT_CMD.SYNC : Fld := ⟨MOT_CMD, 36, 36, .wo⟩

/-- MOT_STAT[n], 18_motion.md, Table 18-5: State, queue level. -/
def MOT_STAT : Reg := ⟨0x2C0002, 8, 0x40, 1, 0x0⟩
def MOT_STAT.ASTATE : Fld := ⟨MOT_STAT, 39, 37, .ro⟩
def MOT_STAT.QLEVEL : Fld := ⟨MOT_STAT, 36, 32, .ro⟩
def MOT_STAT.PEND : Fld := ⟨MOT_STAT, 31, 31, .ro⟩
def MOT_STAT.SUSPECT : Fld := ⟨MOT_STAT, 30, 30, .ro⟩
def MOT_STAT.REDUCED : Fld := ⟨MOT_STAT, 29, 29, .ro⟩

/-- MOT_FLAG[n], 18_motion.md, Table 18-5: Flags. -/
def MOT_FLAG : Reg := ⟨0x2C0003, 8, 0x40, 1, 0x0⟩
def MOT_FLAG.MOVE_DONE : Fld := ⟨MOT_FLAG, 12, 12, .w1c⟩
def MOT_FLAG.TRIG_OVR : Fld := ⟨MOT_FLAG, 11, 11, .w1c⟩
def MOT_FLAG.BLEND_IGN : Fld := ⟨MOT_FLAG, 10, 10, .w1c⟩
def MOT_FLAG.IVL_CLAMP : Fld := ⟨MOT_FLAG, 9, 9, .w1c⟩
def MOT_FLAG.QUNDER : Fld := ⟨MOT_FLAG, 8, 8, .w1c⟩
def MOT_FLAG.QFULL : Fld := ⟨MOT_FLAG, 7, 7, .w1c⟩
def MOT_FLAG.CFG_REJ : Fld := ⟨MOT_FLAG, 6, 6, .w1c⟩
def MOT_FLAG.LIMIT : Fld := ⟨MOT_FLAG, 5, 5, .w1c⟩
def MOT_FLAG.OPEN : Fld := ⟨MOT_FLAG, 4, 4, .w1c⟩
def MOT_FLAG.BRIDGE_FLT : Fld := ⟨MOT_FLAG, 3, 3, .w1c⟩
def MOT_FLAG.OVERCUR : Fld := ⟨MOT_FLAG, 2, 2, .w1c⟩
def MOT_FLAG.STALL : Fld := ⟨MOT_FLAG, 1, 1, .w1c⟩
def MOT_FLAG.FAULT : Fld := ⟨MOT_FLAG, 0, 0, .w1c⟩

/-- MOT_FLAGEN[n], 18_motion.md, Table 18-5: Event enables. -/
def MOT_FLAGEN : Reg := ⟨0x2C0004, 8, 0x40, 1, 0x0⟩
def MOT_FLAGEN.MOVE_DONE : Fld := ⟨MOT_FLAGEN, 12, 12, .rw⟩
def MOT_FLAGEN.TRIG_OVR : Fld := ⟨MOT_FLAGEN, 11, 11, .rw⟩
def MOT_FLAGEN.BLEND_IGN : Fld := ⟨MOT_FLAGEN, 10, 10, .rw⟩
def MOT_FLAGEN.IVL_CLAMP : Fld := ⟨MOT_FLAGEN, 9, 9, .rw⟩
def MOT_FLAGEN.QUNDER : Fld := ⟨MOT_FLAGEN, 8, 8, .rw⟩
def MOT_FLAGEN.QFULL : Fld := ⟨MOT_FLAGEN, 7, 7, .rw⟩
def MOT_FLAGEN.CFG_REJ : Fld := ⟨MOT_FLAGEN, 6, 6, .rw⟩
def MOT_FLAGEN.LIMIT : Fld := ⟨MOT_FLAGEN, 5, 5, .rw⟩
def MOT_FLAGEN.OPEN : Fld := ⟨MOT_FLAGEN, 4, 4, .rw⟩
def MOT_FLAGEN.BRIDGE_FLT : Fld := ⟨MOT_FLAGEN, 3, 3, .rw⟩
def MOT_FLAGEN.OVERCUR : Fld := ⟨MOT_FLAGEN, 2, 2, .rw⟩
def MOT_FLAGEN.STALL : Fld := ⟨MOT_FLAGEN, 1, 1, .rw⟩
def MOT_FLAGEN.FAULT : Fld := ⟨MOT_FLAGEN, 0, 0, .rw⟩

/-- MOT_QW0[n], 18_motion.md, Table 18-5: Move word 0. -/
def MOT_QW0 : Reg := ⟨0x2C0005, 8, 0x40, 1, 0x0⟩
def MOT_QW0.WORD : Fld := ⟨MOT_QW0, 39, 0, .rw⟩

/-- MOT_QW1[n], 18_motion.md, Table 18-5: Move word 1. -/
def MOT_QW1 : Reg := ⟨0x2C0006, 8, 0x40, 1, 0x0⟩
def MOT_QW1.WORD : Fld := ⟨MOT_QW1, 39, 0, .rw⟩

/-- MOT_QW2[n], 18_motion.md, Table 18-5: Move word 2; write pushes. -/
def MOT_QW2 : Reg := ⟨0x2C0007, 8, 0x40, 1, 0x0⟩
def MOT_QW2.WORD : Fld := ⟨MOT_QW2, 39, 0, .rw⟩

/-- MOT_POS[n], 18_motion.md, Table 18-5: Commanded position. -/
def MOT_POS : Reg := ⟨0x2C0008, 8, 0x40, 1, 0x0⟩
def MOT_POS.POS : Fld := ⟨MOT_POS, 39, 0, .rw⟩

/-- MOT_ENCCNT[n], 18_motion.md, Table 18-5: Encoder count. -/
def MOT_ENCCNT : Reg := ⟨0x2C0009, 8, 0x40, 1, 0x0⟩
def MOT_ENCCNT.COUNT : Fld := ⟨MOT_ENCCNT, 39, 0, .ro⟩

/-- MOT_CUR[n], 18_motion.md, Table 18-5: Currents, standstill. -/
def MOT_CUR : Reg := ⟨0x2C000A, 8, 0x40, 1, 0x0⟩
def MOT_CUR.RUN : Fld := ⟨MOT_CUR, 39, 30, .rw⟩
def MOT_CUR.HOLD : Fld := ⟨MOT_CUR, 29, 20, .rw⟩
def MOT_CUR.STBY_DLY : Fld := ⟨MOT_CUR, 19, 10, .rw⟩
def MOT_CUR.WAKE : Fld := ⟨MOT_CUR, 9, 0, .rw⟩

/-- MOT_CHOP[n], 18_motion.md, Table 18-5: Chopper. -/
def MOT_CHOP : Reg := ⟨0x2C000B, 8, 0x40, 1, 0x0⟩
def MOT_CHOP.HYST : Fld := ⟨MOT_CHOP, 39, 32, .rw⟩
def MOT_CHOP.BLANK : Fld := ⟨MOT_CHOP, 31, 25, .rw⟩
def MOT_CHOP.TOFF_MIN : Fld := ⟨MOT_CHOP, 24, 16, .rw⟩
def MOT_CHOP.DECAY : Fld := ⟨MOT_CHOP, 15, 14, .rw⟩
def MOT_CHOP.FASTT : Fld := ⟨MOT_CHOP, 13, 6, .rw⟩
def MOT_CHOP.SNS_DLY : Fld := ⟨MOT_CHOP, 5, 1, .rw⟩
def MOT_CHOP.ADAPT : Fld := ⟨MOT_CHOP, 0, 0, .rw⟩

/-- MOT_STALL[n], 18_motion.md, Table 18-5: Stall window. -/
def MOT_STALL : Reg := ⟨0x2C000C, 8, 0x40, 1, 0x0⟩
def MOT_STALL.STALL_EN : Fld := ⟨MOT_STALL, 39, 39, .rw⟩
def MOT_STALL.STALL_ACT : Fld := ⟨MOT_STALL, 38, 38, .rw⟩
def MOT_STALL.WINDOW : Fld := ⟨MOT_STALL, 37, 22, .rw⟩
def MOT_STALL.FILT : Fld := ⟨MOT_STALL, 21, 14, .rw⟩
def MOT_STALL.LIM_POL : Fld := ⟨MOT_STALL, 13, 13, .rwl⟩
def MOT_STALL.LIM_DIR : Fld := ⟨MOT_STALL, 12, 12, .rw⟩
def MOT_STALL.DIR_SETUP : Fld := ⟨MOT_STALL, 11, 4, .rw⟩

/-- MOT_ERATIO[n], 18_motion.md, Table 18-5: Encoder counts per microstep. -/
def MOT_ERATIO : Reg := ⟨0x2C000D, 8, 0x40, 1, 0x0⟩
def MOT_ERATIO.INT : Fld := ⟨MOT_ERATIO, 39, 32, .rw⟩
def MOT_ERATIO.FRAC : Fld := ⟨MOT_ERATIO, 31, 0, .rw⟩

/-- MOT_DEV[n], 18_motion.md, Table 18-5: Deviation. -/
def MOT_DEV : Reg := ⟨0x2C000E, 8, 0x40, 1, 0x0⟩
def MOT_DEV.DEV : Fld := ⟨MOT_DEV, 39, 0, .ro⟩

/-- MOT_STOPPOS[n], 18_motion.md, Table 18-5: Position at last stop. -/
def MOT_STOPPOS : Reg := ⟨0x2C000F, 8, 0x40, 1, 0x0⟩
def MOT_STOPPOS.POS : Fld := ⟨MOT_STOPPOS, 39, 0, .ro⟩

/-- MOT_FAULTINFO[n], 18_motion.md, Table 18-5: First fault. -/
def MOT_FAULTINFO : Reg := ⟨0x2C0010, 8, 0x40, 1, 0x0⟩
def MOT_FAULTINFO.BIT : Fld := ⟨MOT_FAULTINFO, 39, 36, .ro⟩

/-- MOT_LIMS[n], 18_motion.md, Table 18-5: Over-current threshold, settle time. -/
def MOT_LIMS : Reg := ⟨0x2C0011, 8, 0x40, 1, 0x0⟩
def MOT_LIMS.OC_THR : Fld := ⟨MOT_LIMS, 39, 30, .rw⟩
def MOT_LIMS.SETTLE : Fld := ⟨MOT_LIMS, 29, 14, .rw⟩

/-- The registers of MOT. -/
def rowsMOT : List RegRow :=
  [
    ⟨MOT_AXCFG, [MOT_AXCFG.MODE, MOT_AXCFG.EN, MOT_AXCFG.MRES, MOT_AXCFG.EN_POL, MOT_AXCFG.MIN_IVL, MOT_AXCFG.SAFE_IVL], 0x801002710⟩,
    ⟨MOT_CMD, [MOT_CMD.GO, MOT_CMD.HALT, MOT_CMD.STOP, MOT_CMD.SYNC], 0x0⟩,
    ⟨MOT_STAT, [MOT_STAT.ASTATE, MOT_STAT.QLEVEL, MOT_STAT.PEND, MOT_STAT.SUSPECT, MOT_STAT.REDUCED], 0x0⟩,
    ⟨MOT_FLAG, [MOT_FLAG.MOVE_DONE, MOT_FLAG.TRIG_OVR, MOT_FLAG.BLEND_IGN, MOT_FLAG.IVL_CLAMP, MOT_FLAG.QUNDER, MOT_FLAG.QFULL, MOT_FLAG.CFG_REJ, MOT_FLAG.LIMIT, MOT_FLAG.OPEN, MOT_FLAG.BRIDGE_FLT, MOT_FLAG.OVERCUR, MOT_FLAG.STALL, MOT_FLAG.FAULT], 0x0⟩,
    ⟨MOT_FLAGEN, [MOT_FLAGEN.MOVE_DONE, MOT_FLAGEN.TRIG_OVR, MOT_FLAGEN.BLEND_IGN, MOT_FLAGEN.IVL_CLAMP, MOT_FLAGEN.QUNDER, MOT_FLAGEN.QFULL, MOT_FLAGEN.CFG_REJ, MOT_FLAGEN.LIMIT, MOT_FLAGEN.OPEN, MOT_FLAGEN.BRIDGE_FLT, MOT_FLAGEN.OVERCUR, MOT_FLAGEN.STALL, MOT_FLAGEN.FAULT], 0x0⟩,
    ⟨MOT_QW0, [MOT_QW0.WORD], 0x0⟩,
    ⟨MOT_QW1, [MOT_QW1.WORD], 0x0⟩,
    ⟨MOT_QW2, [MOT_QW2.WORD], 0x0⟩,
    ⟨MOT_POS, [MOT_POS.POS], 0x0⟩,
    ⟨MOT_ENCCNT, [MOT_ENCCNT.COUNT], 0x0⟩,
    ⟨MOT_CUR, [MOT_CUR.RUN, MOT_CUR.HOLD, MOT_CUR.STBY_DLY, MOT_CUR.WAKE], 0x19014⟩,
    ⟨MOT_CHOP, [MOT_CHOP.HYST, MOT_CHOP.BLANK, MOT_CHOP.TOFF_MIN, MOT_CHOP.DECAY, MOT_CHOP.FASTT, MOT_CHOP.SNS_DLY, MOT_CHOP.ADAPT], 0x1064C88A11⟩,
    ⟨MOT_STALL, [MOT_STALL.STALL_EN, MOT_STALL.STALL_ACT, MOT_STALL.WINDOW, MOT_STALL.FILT, MOT_STALL.LIM_POL, MOT_STALL.LIM_DIR, MOT_STALL.DIR_SETUP], 0x4080010140⟩,
    ⟨MOT_ERATIO, [MOT_ERATIO.INT, MOT_ERATIO.FRAC], 0x0⟩,
    ⟨MOT_DEV, [MOT_DEV.DEV], 0x0⟩,
    ⟨MOT_STOPPOS, [MOT_STOPPOS.POS], 0x0⟩,
    ⟨MOT_FAULTINFO, [MOT_FAULTINFO.BIT], 0x0⟩,
    ⟨MOT_LIMS, [MOT_LIMS.OC_THR, MOT_LIMS.SETTLE], 0xFA00FA0000⟩]

/-! ### LITE -/

/-- LITE_TINCFG[g], 19_lighting.md, Table 19-4: Temperature input polarity. -/
def LITE_TINCFG : Reg := ⟨0x2E0000, 4, 0x1, 1, 0x0⟩
def LITE_TINCFG.TPOL : Fld := ⟨LITE_TINCFG, 39, 39, .rw⟩

/-- LITE_TEMP[g], 19_lighting.md, Table 19-4: Temperature input code. -/
def LITE_TEMP : Reg := ⟨0x2E0004, 4, 0x1, 1, 0x0⟩
def LITE_TEMP.CODE : Fld := ⟨LITE_TEMP, 39, 30, .ro⟩

/-- LITE_FLAG, 19_lighting.md, Table 19-4: Input flags. -/
def LITE_FLAG : Reg := ⟨0x2E0008, 1, 0x0, 1, 0x0⟩
def LITE_FLAG.TIN_FAULT : Fld := ⟨LITE_FLAG, 3, 0, .w1c⟩

/-- LITE_FLAGEN, 19_lighting.md, Table 19-4: Event enables. -/
def LITE_FLAGEN : Reg := ⟨0x2E0009, 1, 0x0, 1, 0x0⟩
def LITE_FLAGEN.TIN_FAULT : Fld := ⟨LITE_FLAGEN, 3, 0, .rw⟩

/-- LITE_MXCTL, 19_lighting.md, Table 19-4: Matrix control. -/
def LITE_MXCTL : Reg := ⟨0x2E0010, 1, 0x0, 1, 0x0⟩
def LITE_MXCTL.EN : Fld := ⟨LITE_MXCTL, 39, 39, .rw⟩
def LITE_MXCTL.SWAP : Fld := ⟨LITE_MXCTL, 38, 38, .wo⟩
def LITE_MXCTL.PEND : Fld := ⟨LITE_MXCTL, 37, 37, .ro⟩
def LITE_MXCTL.ROW_POL : Fld := ⟨LITE_MXCTL, 36, 36, .rw⟩
def LITE_MXCTL.COL_POL : Fld := ⟨LITE_MXCTL, 35, 35, .rw⟩
def LITE_MXCTL.BRIGHT : Fld := ⟨LITE_MXCTL, 34, 27, .rw⟩
def LITE_MXCTL.DIMLVL : Fld := ⟨LITE_MXCTL, 26, 19, .rw⟩
def LITE_MXCTL.BLINK : Fld := ⟨LITE_MXCTL, 18, 13, .rw⟩

/-- LITE_MXTIM, 19_lighting.md, Table 19-4: Matrix timing. -/
def LITE_MXTIM : Reg := ⟨0x2E0011, 1, 0x0, 1, 0x0⟩
def LITE_MXTIM.ROW_T : Fld := ⟨LITE_MXTIM, 39, 30, .rw⟩
def LITE_MXTIM.PCHG : Fld := ⟨LITE_MXTIM, 29, 20, .rw⟩

/-- LITE_MXROW[r], 19_lighting.md, Table 19-4: Matrix shadow rows. -/
def LITE_MXROW : Reg := ⟨0x2E0018, 8, 0x1, 1, 0x0⟩
def LITE_MXROW.LEDS : Fld := ⟨LITE_MXROW, 31, 0, .rw⟩

/-- LITE_CH[c], 19_lighting.md, Table 19-4: Mode, detection, minimum off-time. -/
def LITE_CH : Reg := ⟨0x2E0100, 16, 0x10, 1, 0x0⟩
def LITE_CH.MODE : Fld := ⟨LITE_CH, 39, 38, .rw⟩
def LITE_CH.EN_POL : Fld := ⟨LITE_CH, 37, 37, .rwl⟩
def LITE_CH.TSRC : Fld := ⟨LITE_CH, 36, 35, .rw⟩
def LITE_CH.DRT_EN : Fld := ⟨LITE_CH, 34, 34, .rw⟩
def LITE_CH.OPEN_ACT : Fld := ⟨LITE_CH, 33, 33, .rw⟩
def LITE_CH.OPEN_THR : Fld := ⟨LITE_CH, 32, 23, .rw⟩
def LITE_CH.SHORT_THR : Fld := ⟨LITE_CH, 22, 13, .rw⟩
def LITE_CH.FCNT : Fld := ⟨LITE_CH, 12, 9, .rw⟩
def LITE_CH.MIN_OFF : Fld := ⟨LITE_CH, 8, 0, .rw⟩

/-- LITE_LVL[c], 19_lighting.md, Table 19-4: Level and derating. -/
def LITE_LVL : Reg := ⟨0x2E0101, 16, 0x10, 1, 0x0⟩
def LITE_LVL.LEVEL : Fld := ⟨LITE_LVL, 39, 30, .rw⟩
def LITE_LVL.KNEE : Fld := ⟨LITE_LVL, 29, 20, .rw⟩
def LITE_LVL.SLOPE : Fld := ⟨LITE_LVL, 19, 12, .rw⟩
def LITE_LVL.FLOOR : Fld := ⟨LITE_LVL, 11, 2, .rw⟩

/-- LITE_STRB[c], 19_lighting.md, Table 19-4: Lead, delay, width. -/
def LITE_STRB : Reg := ⟨0x2E0102, 16, 0x10, 1, 0x0⟩
def LITE_STRB.LEAD : Fld := ⟨LITE_STRB, 39, 26, .rws⟩
def LITE_STRB.DLY : Fld := ⟨LITE_STRB, 25, 14, .rw⟩
def LITE_STRB.WIDTH : Fld := ⟨LITE_STRB, 13, 0, .rw⟩

/-- LITE_SPOS[c], 19_lighting.md, Table 19-4: Next position target. -/
def LITE_SPOS : Reg := ⟨0x2E0103, 16, 0x10, 1, 0x0⟩
def LITE_SPOS.TARGET : Fld := ⟨LITE_SPOS, 39, 0, .rws⟩

/-- LITE_SPITCH[c], 19_lighting.md, Table 19-4: Target pitch. -/
def LITE_SPITCH : Reg := ⟨0x2E0104, 16, 0x10, 1, 0x0⟩
def LITE_SPITCH.PITCH : Fld := ⟨LITE_SPITCH, 39, 0, .rws⟩

/-- LITE_CHSTAT[c], 19_lighting.md, Table 19-4: State, dac, sense. -/
def LITE_CHSTAT : Reg := ⟨0x2E0105, 16, 0x10, 1, 0x0⟩
def LITE_CHSTAT.CSTATE : Fld := ⟨LITE_CHSTAT, 39, 37, .ro⟩
def LITE_CHSTAT.DAC : Fld := ⟨LITE_CHSTAT, 36, 27, .ro⟩
def LITE_CHSTAT.SENSE : Fld := ⟨LITE_CHSTAT, 26, 17, .ro⟩
def LITE_CHSTAT.DERATED : Fld := ⟨LITE_CHSTAT, 16, 16, .ro⟩

/-- LITE_CHFLAG[c], 19_lighting.md, Table 19-4: Channel flags. -/
def LITE_CHFLAG : Reg := ⟨0x2E0106, 16, 0x10, 1, 0x0⟩
def LITE_CHFLAG.DERATE : Fld := ⟨LITE_CHFLAG, 4, 4, .w1c⟩
def LITE_CHFLAG.STRB_SKIP : Fld := ⟨LITE_CHFLAG, 3, 3, .w1c⟩
def LITE_CHFLAG.SHORT : Fld := ⟨LITE_CHFLAG, 2, 2, .w1c⟩
def LITE_CHFLAG.OPEN : Fld := ⟨LITE_CHFLAG, 1, 1, .w1c⟩
def LITE_CHFLAG.FAULT : Fld := ⟨LITE_CHFLAG, 0, 0, .w1c⟩

/-- LITE_CHFLAGEN[c], 19_lighting.md, Table 19-4: Event enables. -/
def LITE_CHFLAGEN : Reg := ⟨0x2E0107, 16, 0x10, 1, 0x0⟩
def LITE_CHFLAGEN.DERATE : Fld := ⟨LITE_CHFLAGEN, 4, 4, .rw⟩
def LITE_CHFLAGEN.STRB_SKIP : Fld := ⟨LITE_CHFLAGEN, 3, 3, .rw⟩
def LITE_CHFLAGEN.SHORT : Fld := ⟨LITE_CHFLAGEN, 2, 2, .rw⟩
def LITE_CHFLAGEN.OPEN : Fld := ⟨LITE_CHFLAGEN, 1, 1, .rw⟩
def LITE_CHFLAGEN.FAULT : Fld := ⟨LITE_CHFLAGEN, 0, 0, .rw⟩

/-- The registers of LITE. -/
def rowsLITE : List RegRow :=
  [
    ⟨LITE_TINCFG, [LITE_TINCFG.TPOL], 0x0⟩,
    ⟨LITE_TEMP, [LITE_TEMP.CODE], 0x0⟩,
    ⟨LITE_FLAG, [LITE_FLAG.TIN_FAULT], 0x0⟩,
    ⟨LITE_FLAGEN, [LITE_FLAGEN.TIN_FAULT], 0x0⟩,
    ⟨LITE_MXCTL, [LITE_MXCTL.EN, LITE_MXCTL.SWAP, LITE_MXCTL.PEND, LITE_MXCTL.ROW_POL, LITE_MXCTL.COL_POL, LITE_MXCTL.BRIGHT, LITE_MXCTL.DIMLVL, LITE_MXCTL.BLINK], 0x401064000⟩,
    ⟨LITE_MXTIM, [LITE_MXTIM.ROW_T, LITE_MXTIM.PCHG], 0x3E86400000⟩,
    ⟨LITE_MXROW, [LITE_MXROW.LEDS], 0x0⟩,
    ⟨LITE_CH, [LITE_CH.MODE, LITE_CH.EN_POL, LITE_CH.TSRC, LITE_CH.DRT_EN, LITE_CH.OPEN_ACT, LITE_CH.OPEN_THR, LITE_CH.SHORT_THR, LITE_CH.FCNT, LITE_CH.MIN_OFF], 0x3C2050605⟩,
    ⟨LITE_LVL, [LITE_LVL.LEVEL, LITE_LVL.KNEE, LITE_LVL.SLOPE, LITE_LVL.FLOOR], 0x3FF00400⟩,
    ⟨LITE_STRB, [LITE_STRB.LEAD, LITE_STRB.DLY, LITE_STRB.WIDTH], 0x64⟩,
    ⟨LITE_SPOS, [LITE_SPOS.TARGET], 0x0⟩,
    ⟨LITE_SPITCH, [LITE_SPITCH.PITCH], 0x10000⟩,
    ⟨LITE_CHSTAT, [LITE_CHSTAT.CSTATE, LITE_CHSTAT.DAC, LITE_CHSTAT.SENSE, LITE_CHSTAT.DERATED], 0x0⟩,
    ⟨LITE_CHFLAG, [LITE_CHFLAG.DERATE, LITE_CHFLAG.STRB_SKIP, LITE_CHFLAG.SHORT, LITE_CHFLAG.OPEN, LITE_CHFLAG.FAULT], 0x0⟩,
    ⟨LITE_CHFLAGEN, [LITE_CHFLAGEN.DERATE, LITE_CHFLAGEN.STRB_SKIP, LITE_CHFLAGEN.SHORT, LITE_CHFLAGEN.OPEN, LITE_CHFLAGEN.FAULT], 0x0⟩]

/-! ### DISP -/

/-- DISP_CTL[o], 20_display.md, Table 20-2: Enable, divider, mode, background. -/
def DISP_CTL : Reg := ⟨0x300000, 2, 0x100, 1, 0x0⟩
def DISP_CTL.EN : Fld := ⟨DISP_CTL, 39, 39, .rw⟩
def DISP_CTL.DIV : Fld := ⟨DISP_CTL, 38, 31, .rwl⟩
def DISP_CTL.HPOL : Fld := ⟨DISP_CTL, 30, 30, .rwl⟩
def DISP_CTL.VPOL : Fld := ⟨DISP_CTL, 29, 29, .rwl⟩
def DISP_CTL.MAP : Fld := ⟨DISP_CTL, 28, 28, .rwl⟩
def DISP_CTL.LINKS : Fld := ⟨DISP_CTL, 27, 27, .rwl⟩
def DISP_CTL.BG : Fld := ⟨DISP_CTL, 23, 0, .rw⟩

/-- DISP_HTIM[o], 20_display.md, Table 20-2: Horizontal widths. -/
def DISP_HTIM : Reg := ⟨0x300001, 2, 0x100, 1, 0x0⟩
def DISP_HTIM.HACT : Fld := ⟨DISP_HTIM, 39, 27, .rwl⟩
def DISP_HTIM.HFP : Fld := ⟨DISP_HTIM, 26, 18, .rwl⟩
def DISP_HTIM.HSYNC : Fld := ⟨DISP_HTIM, 17, 9, .rwl⟩
def DISP_HTIM.HBP : Fld := ⟨DISP_HTIM, 8, 0, .rwl⟩

/-- DISP_VTIM[o], 20_display.md, Table 20-2: Vertical widths. -/
def DISP_VTIM : Reg := ⟨0x300002, 2, 0x100, 1, 0x0⟩
def DISP_VTIM.VACT : Fld := ⟨DISP_VTIM, 39, 27, .rwl⟩
def DISP_VTIM.VFP : Fld := ⟨DISP_VTIM, 26, 18, .rwl⟩
def DISP_VTIM.VSYNC : Fld := ⟨DISP_VTIM, 17, 9, .rwl⟩
def DISP_VTIM.VBP : Fld := ⟨DISP_VTIM, 8, 0, .rwl⟩

/-- DISP_STAT[o], 20_display.md, Table 20-2: Frame, line, buffers in use. -/
def DISP_STAT : Reg := ⟨0x300003, 2, 0x100, 1, 0x0⟩
def DISP_STAT.FRAME : Fld := ⟨DISP_STAT, 39, 24, .ro⟩
def DISP_STAT.LINE : Fld := ⟨DISP_STAT, 23, 11, .ro⟩
def DISP_STAT.LAYER_INUSE : Fld := ⟨DISP_STAT, 10, 7, .ro⟩

/-- DISP_FLAG[o], 20_display.md, Table 20-2: Flags. -/
def DISP_FLAG : Reg := ⟨0x300004, 2, 0x100, 1, 0x0⟩
def DISP_FLAG.CRC_MISM : Fld := ⟨DISP_FLAG, 5, 5, .w1c⟩
def DISP_FLAG.POISON : Fld := ⟨DISP_FLAG, 4, 4, .w1c⟩
def DISP_FLAG.UNDERRUN : Fld := ⟨DISP_FLAG, 3, 3, .w1c⟩
def DISP_FLAG.LAYER_EARLY : Fld := ⟨DISP_FLAG, 2, 2, .w1c⟩
def DISP_FLAG.TIM_BAD : Fld := ⟨DISP_FLAG, 1, 1, .w1c⟩
def DISP_FLAG.FSTART : Fld := ⟨DISP_FLAG, 0, 0, .w1c⟩

/-- DISP_FLAGEN[o], 20_display.md, Table 20-2: Event enables. -/
def DISP_FLAGEN : Reg := ⟨0x300005, 2, 0x100, 1, 0x0⟩
def DISP_FLAGEN.CRC_MISM : Fld := ⟨DISP_FLAGEN, 5, 5, .rw⟩
def DISP_FLAGEN.POISON : Fld := ⟨DISP_FLAGEN, 4, 4, .rw⟩
def DISP_FLAGEN.UNDERRUN : Fld := ⟨DISP_FLAGEN, 3, 3, .rw⟩
def DISP_FLAGEN.LAYER_EARLY : Fld := ⟨DISP_FLAGEN, 2, 2, .rw⟩
def DISP_FLAGEN.TIM_BAD : Fld := ⟨DISP_FLAGEN, 1, 1, .rw⟩
def DISP_FLAGEN.FSTART : Fld := ⟨DISP_FLAGEN, 0, 0, .rw⟩

/-- DISP_EARLYINFO[o], 20_display.md, Table 20-2: First range-watch hit. -/
def DISP_EARLYINFO : Reg := ⟨0x300006, 2, 0x100, 1, 0x0⟩
def DISP_EARLYINFO.LAYER : Fld := ⟨DISP_EARLYINFO, 39, 38, .ro⟩
def DISP_EARLYINFO.CLIENT : Fld := ⟨DISP_EARLYINFO, 37, 34, .ro⟩
def DISP_EARLYINFO.ADDR : Fld := ⟨DISP_EARLYINFO, 33, 2, .ro⟩

/-- DISP_ERRINFO[o], 20_display.md, Table 20-2: First fetch or CRC fault. -/
def DISP_ERRINFO : Reg := ⟨0x300007, 2, 0x100, 1, 0x0⟩
def DISP_ERRINFO.LINE : Fld := ⟨DISP_ERRINFO, 39, 27, .ro⟩
def DISP_ERRINFO.FRAME : Fld := ⟨DISP_ERRINFO, 26, 11, .ro⟩

/-- DISP_LCFG[o][l], 20_display.md, Table 20-2: Layer enable, format, position. -/
def DISP_LCFG : Reg := ⟨0x300010, 2, 0x100, 4, 0x8⟩
def DISP_LCFG.EN : Fld := ⟨DISP_LCFG, 39, 39, .rw⟩
def DISP_LCFG.FMT : Fld := ⟨DISP_LCFG, 38, 37, .rw⟩
def DISP_LCFG.GALPHA : Fld := ⟨DISP_LCFG, 36, 29, .rw⟩
def DISP_LCFG.X : Fld := ⟨DISP_LCFG, 28, 16, .rw⟩
def DISP_LCFG.Y : Fld := ⟨DISP_LCFG, 15, 3, .rw⟩

/-- DISP_LSIZE[o][l], 20_display.md, Table 20-2: Layer size. -/
def DISP_LSIZE : Reg := ⟨0x300011, 2, 0x100, 4, 0x8⟩
def DISP_LSIZE.W : Fld := ⟨DISP_LSIZE, 39, 27, .rw⟩
def DISP_LSIZE.H : Fld := ⟨DISP_LSIZE, 26, 14, .rw⟩

/-- DISP_LBASE[o][l], 20_display.md, Table 20-2: Layer base. -/
def DISP_LBASE : Reg := ⟨0x300012, 2, 0x100, 4, 0x8⟩
def DISP_LBASE.BASE : Fld := ⟨DISP_LBASE, 39, 8, .rw⟩

/-- DISP_LSTRIDE[o][l], 20_display.md, Table 20-2: Layer stride. -/
def DISP_LSTRIDE : Reg := ⟨0x300013, 2, 0x100, 4, 0x8⟩
def DISP_LSTRIDE.STRIDE : Fld := ⟨DISP_LSTRIDE, 39, 24, .rw⟩

/-- DISP_LCUR[o][l], 20_display.md, Table 20-2: Latched base. -/
def DISP_LCUR : Reg := ⟨0x300014, 2, 0x100, 4, 0x8⟩
def DISP_LCUR.BASE : Fld := ⟨DISP_LCUR, 39, 8, .ro⟩

/-- DISP_RECTA[o][k], 20_display.md, Table 20-2: Rectangle enable, top left. -/
def DISP_RECTA : Reg := ⟨0x300040, 2, 0x100, 4, 0x4⟩
def DISP_RECTA.EN : Fld := ⟨DISP_RECTA, 39, 39, .rw⟩
def DISP_RECTA.X0 : Fld := ⟨DISP_RECTA, 38, 26, .rw⟩
def DISP_RECTA.Y0 : Fld := ⟨DISP_RECTA, 25, 13, .rw⟩

/-- DISP_RECTB[o][k], 20_display.md, Table 20-2: Rectangle bottom right. -/
def DISP_RECTB : Reg := ⟨0x300041, 2, 0x100, 4, 0x4⟩
def DISP_RECTB.X1 : Fld := ⟨DISP_RECTB, 39, 27, .rw⟩
def DISP_RECTB.Y1 : Fld := ⟨DISP_RECTB, 26, 14, .rw⟩

/-- DISP_RCRCEXP[o][k], 20_display.md, Table 20-2: Expected CRC. -/
def DISP_RCRCEXP : Reg := ⟨0x300042, 2, 0x100, 4, 0x4⟩
def DISP_RCRCEXP.CRC : Fld := ⟨DISP_RCRCEXP, 31, 0, .rw⟩

/-- DISP_RCRC[o][k], 20_display.md, Table 20-2: Last computed CRC. -/
def DISP_RCRC : Reg := ⟨0x300043, 2, 0x100, 4, 0x4⟩
def DISP_RCRC.CRC : Fld := ⟨DISP_RCRC, 31, 0, .ro⟩

/-- The registers of DISP. -/
def rowsDISP : List RegRow :=
  [
    ⟨DISP_CTL, [DISP_CTL.EN, DISP_CTL.DIV, DISP_CTL.HPOL, DISP_CTL.VPOL, DISP_CTL.MAP, DISP_CTL.LINKS, DISP_CTL.BG], 0x200000000⟩,
    ⟨DISP_HTIM, [DISP_HTIM.HACT, DISP_HTIM.HFP, DISP_HTIM.HSYNC, DISP_HTIM.HBP], 0x3C01605894⟩,
    ⟨DISP_VTIM, [DISP_VTIM.VACT, DISP_VTIM.VFP, DISP_VTIM.VSYNC, DISP_VTIM.VBP], 0x21C0100A24⟩,
    ⟨DISP_STAT, [DISP_STAT.FRAME, DISP_STAT.LINE, DISP_STAT.LAYER_INUSE], 0x0⟩,
    ⟨DISP_FLAG, [DISP_FLAG.CRC_MISM, DISP_FLAG.POISON, DISP_FLAG.UNDERRUN, DISP_FLAG.LAYER_EARLY, DISP_FLAG.TIM_BAD, DISP_FLAG.FSTART], 0x0⟩,
    ⟨DISP_FLAGEN, [DISP_FLAGEN.CRC_MISM, DISP_FLAGEN.POISON, DISP_FLAGEN.UNDERRUN, DISP_FLAGEN.LAYER_EARLY, DISP_FLAGEN.TIM_BAD, DISP_FLAGEN.FSTART], 0x0⟩,
    ⟨DISP_EARLYINFO, [DISP_EARLYINFO.LAYER, DISP_EARLYINFO.CLIENT, DISP_EARLYINFO.ADDR], 0x0⟩,
    ⟨DISP_ERRINFO, [DISP_ERRINFO.LINE, DISP_ERRINFO.FRAME], 0x0⟩,
    ⟨DISP_LCFG, [DISP_LCFG.EN, DISP_LCFG.FMT, DISP_LCFG.GALPHA, DISP_LCFG.X, DISP_LCFG.Y], 0x1FE0000000⟩,
    ⟨DISP_LSIZE, [DISP_LSIZE.W, DISP_LSIZE.H], 0x0⟩,
    ⟨DISP_LBASE, [DISP_LBASE.BASE], 0x0⟩,
    ⟨DISP_LSTRIDE, [DISP_LSTRIDE.STRIDE], 0x0⟩,
    ⟨DISP_LCUR, [DISP_LCUR.BASE], 0x0⟩,
    ⟨DISP_RECTA, [DISP_RECTA.EN, DISP_RECTA.X0, DISP_RECTA.Y0], 0x0⟩,
    ⟨DISP_RECTB, [DISP_RECTB.X1, DISP_RECTB.Y1], 0x0⟩,
    ⟨DISP_RCRCEXP, [DISP_RCRCEXP.CRC], 0x0⟩,
    ⟨DISP_RCRC, [DISP_RCRC.CRC], 0x0⟩]

/-! ### BIST -/

/-- BIST_CTL, 21_bist.md, Table 21-4: Start, abort. -/
def BIST_CTL : Reg := ⟨0x340000, 1, 0x0, 1, 0x0⟩
def BIST_CTL.GO : Fld := ⟨BIST_CTL, 39, 39, .wo⟩
def BIST_CTL.DMASK : Fld := ⟨BIST_CTL, 38, 29, .rw⟩
def BIST_CTL.KIND : Fld := ⟨BIST_CTL, 28, 27, .rw⟩
def BIST_CTL.ABORT : Fld := ⟨BIST_CTL, 26, 26, .wo⟩
def BIST_CTL.KEY : Fld := ⟨BIST_CTL, 25, 18, .wo⟩

/-- BIST_STAT, 21_bist.md, Table 21-4: Run state.
(DEDUCED, log entry 86.) -/
def BIST_STAT : Reg := ⟨0x340001, 1, 0x0, 1, 0x0⟩
def BIST_STAT.STATE : Fld := ⟨BIST_STAT, 39, 37, .ro⟩
def BIST_STAT.DOM : Fld := ⟨BIST_STAT, 36, 33, .ro⟩
def BIST_STAT.SRC : Fld := ⟨BIST_STAT, 32, 31, .ro⟩
def BIST_STAT.QUEUE : Fld := ⟨BIST_STAT, 30, 21, .ro⟩
def BIST_STAT.PROG : Fld := ⟨BIST_STAT, 20, 13, .ro⟩

/-- BIST_FLAG, 21_bist.md, Table 21-4: Flags. -/
def BIST_FLAG : Reg := ⟨0x340002, 1, 0x0, 1, 0x0⟩
def BIST_FLAG.ABORTED : Fld := ⟨BIST_FLAG, 5, 5, .w1c⟩
def BIST_FLAG.REJ : Fld := ⟨BIST_FLAG, 4, 4, .w1c⟩
def BIST_FLAG.MEM_FAIL : Fld := ⟨BIST_FLAG, 3, 3, .w1c⟩
def BIST_FLAG.SIG_FAIL : Fld := ⟨BIST_FLAG, 2, 2, .w1c⟩
def BIST_FLAG.FAIL : Fld := ⟨BIST_FLAG, 1, 1, .w1c⟩
def BIST_FLAG.DONE : Fld := ⟨BIST_FLAG, 0, 0, .w1c⟩

/-- BIST_FLAGEN, 21_bist.md, Table 21-4: Event enables. -/
def BIST_FLAGEN : Reg := ⟨0x340003, 1, 0x0, 1, 0x0⟩
def BIST_FLAGEN.ABORTED : Fld := ⟨BIST_FLAGEN, 5, 5, .rw⟩
def BIST_FLAGEN.REJ : Fld := ⟨BIST_FLAGEN, 4, 4, .rw⟩
def BIST_FLAGEN.MEM_FAIL : Fld := ⟨BIST_FLAGEN, 3, 3, .rw⟩
def BIST_FLAGEN.SIG_FAIL : Fld := ⟨BIST_FLAGEN, 2, 2, .rw⟩
def BIST_FLAGEN.FAIL : Fld := ⟨BIST_FLAGEN, 1, 1, .rw⟩
def BIST_FLAGEN.DONE : Fld := ⟨BIST_FLAGEN, 0, 0, .rw⟩

/-- BIST_REJINFO, 21_bist.md, Table 21-4: First refusal. -/
def BIST_REJINFO : Reg := ⟨0x340004, 1, 0x0, 1, 0x0⟩
def BIST_REJINFO.DOMAIN : Fld := ⟨BIST_REJINFO, 39, 36, .ro⟩
def BIST_REJINFO.WHY : Fld := ⟨BIST_REJINFO, 35, 32, .ro⟩

/-- BIST_MFAIL, 21_bist.md, Table 21-4: First memory failure. -/
def BIST_MFAIL : Reg := ⟨0x340005, 1, 0x0, 1, 0x0⟩
def BIST_MFAIL.DOMAIN : Fld := ⟨BIST_MFAIL, 39, 36, .ro⟩
def BIST_MFAIL.INST : Fld := ⟨BIST_MFAIL, 35, 26, .ro⟩
def BIST_MFAIL.ADDR : Fld := ⟨BIST_MFAIL, 25, 11, .ro⟩
def BIST_MFAIL.BIT : Fld := ⟨BIST_MFAIL, 10, 4, .ro⟩

/-- BIST_RES[d], 21_bist.md, Table 21-4: Result per domain. -/
def BIST_RES : Reg := ⟨0x340010, 10, 0x1, 1, 0x0⟩
def BIST_RES.LRUN : Fld := ⟨BIST_RES, 39, 39, .ro⟩
def BIST_RES.LPASS : Fld := ⟨BIST_RES, 38, 38, .ro⟩
def BIST_RES.MRUN : Fld := ⟨BIST_RES, 37, 37, .ro⟩
def BIST_RES.MPASS : Fld := ⟨BIST_RES, 36, 36, .ro⟩
def BIST_RES.NRUN : Fld := ⟨BIST_RES, 35, 20, .ro⟩

/-- BIST_SIG[d], 21_bist.md, Table 21-4: Last logic signature per domain. -/
def BIST_SIG : Reg := ⟨0x340020, 10, 0x1, 1, 0x0⟩
def BIST_SIG.SIG : Fld := ⟨BIST_SIG, 39, 0, .ro⟩

/-- The registers of BIST. -/
def rowsBIST : List RegRow :=
  [
    ⟨BIST_CTL, [BIST_CTL.GO, BIST_CTL.DMASK, BIST_CTL.KIND, BIST_CTL.ABORT, BIST_CTL.KEY], 0x18000000⟩,
    ⟨BIST_STAT, [BIST_STAT.STATE, BIST_STAT.DOM, BIST_STAT.SRC, BIST_STAT.QUEUE, BIST_STAT.PROG], 0x0⟩,
    ⟨BIST_FLAG, [BIST_FLAG.ABORTED, BIST_FLAG.REJ, BIST_FLAG.MEM_FAIL, BIST_FLAG.SIG_FAIL, BIST_FLAG.FAIL, BIST_FLAG.DONE], 0x0⟩,
    ⟨BIST_FLAGEN, [BIST_FLAGEN.ABORTED, BIST_FLAGEN.REJ, BIST_FLAGEN.MEM_FAIL, BIST_FLAGEN.SIG_FAIL, BIST_FLAGEN.FAIL, BIST_FLAGEN.DONE], 0x0⟩,
    ⟨BIST_REJINFO, [BIST_REJINFO.DOMAIN, BIST_REJINFO.WHY], 0x0⟩,
    ⟨BIST_MFAIL, [BIST_MFAIL.DOMAIN, BIST_MFAIL.INST, BIST_MFAIL.ADDR, BIST_MFAIL.BIT], 0x0⟩,
    ⟨BIST_RES, [BIST_RES.LRUN, BIST_RES.LPASS, BIST_RES.MRUN, BIST_RES.MPASS, BIST_RES.NRUN], 0x0⟩,
    ⟨BIST_SIG, [BIST_SIG.SIG], 0x0⟩]

/-! ### GDMA -/

/-- GDMA_CTL, 24_register_reference.md, Table 24-4: Engine enable. -/
def GDMA_CTL : Reg := ⟨0x360000, 1, 0x0, 1, 0x0⟩
def GDMA_CTL.EN : Fld := ⟨GDMA_CTL, 39, 39, .rw⟩

/-- GDMA_STAT, 24_register_reference.md, Table 24-4: Channels busy. -/
def GDMA_STAT : Reg := ⟨0x360001, 1, 0x0, 1, 0x0⟩
def GDMA_STAT.BUSY : Fld := ⟨GDMA_STAT, 39, 24, .ro⟩

/-- GDMA_FLAG, 24_register_reference.md, Table 24-4: Engine flags. -/
def GDMA_FLAG : Reg := ⟨0x360002, 1, 0x0, 1, 0x0⟩
def GDMA_FLAG.ERR : Fld := ⟨GDMA_FLAG, 1, 1, .w1c⟩
def GDMA_FLAG.REJ : Fld := ⟨GDMA_FLAG, 0, 0, .w1c⟩

/-- GDMA_FLAGEN, 24_register_reference.md, Table 24-4: Event enables. -/
def GDMA_FLAGEN : Reg := ⟨0x360003, 1, 0x0, 1, 0x0⟩
def GDMA_FLAGEN.ERR : Fld := ⟨GDMA_FLAGEN, 1, 1, .rw⟩
def GDMA_FLAGEN.REJ : Fld := ⟨GDMA_FLAGEN, 0, 0, .rw⟩

/-- GDMA_ERRINFO, 24_register_reference.md, Table 24-4: First refusal or channel error. -/
def GDMA_ERRINFO : Reg := ⟨0x360004, 1, 0x0, 1, 0x0⟩
def GDMA_ERRINFO.CHAN : Fld := ⟨GDMA_ERRINFO, 39, 36, .ro⟩
def GDMA_ERRINFO.SEG : Fld := ⟨GDMA_ERRINFO, 35, 32, .ro⟩
def GDMA_ERRINFO.WHY : Fld := ⟨GDMA_ERRINFO, 31, 28, .ro⟩

/-- GDMA_CHCTL[c], 24_register_reference.md, Table 24-4: Start, abort, segment count. -/
def GDMA_CHCTL : Reg := ⟨0x360100, 16, 0x80, 1, 0x0⟩
def GDMA_CHCTL.GO : Fld := ⟨GDMA_CHCTL, 39, 39, .wo⟩
def GDMA_CHCTL.ABORT : Fld := ⟨GDMA_CHCTL, 38, 38, .wo⟩
def GDMA_CHCTL.NSEG : Fld := ⟨GDMA_CHCTL, 37, 33, .rw⟩

/-- GDMA_CHSTAT[c], 24_register_reference.md, Table 24-4: Channel state and progress. -/
def GDMA_CHSTAT : Reg := ⟨0x360101, 16, 0x80, 1, 0x0⟩
def GDMA_CHSTAT.CSTATE : Fld := ⟨GDMA_CHSTAT, 39, 38, .ro⟩
def GDMA_CHSTAT.SEG : Fld := ⟨GDMA_CHSTAT, 37, 34, .ro⟩
def GDMA_CHSTAT.UNITS : Fld := ⟨GDMA_CHSTAT, 33, 10, .ro⟩

/-- GDMA_CHFLAG[c], 24_register_reference.md, Table 24-4: Channel flags. -/
def GDMA_CHFLAG : Reg := ⟨0x360102, 16, 0x80, 1, 0x0⟩
def GDMA_CHFLAG.ABORTED : Fld := ⟨GDMA_CHFLAG, 3, 3, .w1c⟩
def GDMA_CHFLAG.LOST : Fld := ⟨GDMA_CHFLAG, 2, 2, .w1c⟩
def GDMA_CHFLAG.POISON : Fld := ⟨GDMA_CHFLAG, 1, 1, .w1c⟩
def GDMA_CHFLAG.DONE : Fld := ⟨GDMA_CHFLAG, 0, 0, .w1c⟩

/-- GDMA_CHFLAGEN[c], 24_register_reference.md, Table 24-4: Event enables. -/
def GDMA_CHFLAGEN : Reg := ⟨0x360103, 16, 0x80, 1, 0x0⟩
def GDMA_CHFLAGEN.ABORTED : Fld := ⟨GDMA_CHFLAGEN, 3, 3, .rw⟩
def GDMA_CHFLAGEN.LOST : Fld := ⟨GDMA_CHFLAGEN, 2, 2, .rw⟩
def GDMA_CHFLAGEN.POISON : Fld := ⟨GDMA_CHFLAGEN, 1, 1, .rw⟩
def GDMA_CHFLAGEN.DONE : Fld := ⟨GDMA_CHFLAGEN, 0, 0, .rw⟩

/-- GDMA_SSRC[c][k], 24_register_reference.md, Table 24-4: Segment source. -/
def GDMA_SSRC : Reg := ⟨0x360140, 16, 0x80, 16, 0x4⟩
def GDMA_SSRC.SPACE : Fld := ⟨GDMA_SSRC, 39, 39, .rw⟩
def GDMA_SSRC.FILL : Fld := ⟨GDMA_SSRC, 38, 38, .rw⟩
def GDMA_SSRC.ADDR : Fld := ⟨GDMA_SSRC, 35, 0, .rw⟩

/-- GDMA_SDST[c][k], 24_register_reference.md, Table 24-4: Segment destination. -/
def GDMA_SDST : Reg := ⟨0x360141, 16, 0x80, 16, 0x4⟩
def GDMA_SDST.SPACE : Fld := ⟨GDMA_SDST, 39, 39, .rw⟩
def GDMA_SDST.ADDR : Fld := ⟨GDMA_SDST, 35, 0, .rw⟩

/-- GDMA_SLEN[c][k], 24_register_reference.md, Table 24-4: Segment length. -/
def GDMA_SLEN : Reg := ⟨0x360142, 16, 0x80, 16, 0x4⟩
def GDMA_SLEN.UNITS : Fld := ⟨GDMA_SLEN, 39, 16, .rw⟩

/-- GDMA_SFILL[c][k], 24_register_reference.md, Table 24-4: Fill pattern. -/
def GDMA_SFILL : Reg := ⟨0x360143, 16, 0x80, 16, 0x4⟩
def GDMA_SFILL.PATTERN : Fld := ⟨GDMA_SFILL, 31, 0, .rw⟩

/-- The registers of GDMA. -/
def rowsGDMA : List RegRow :=
  [
    ⟨GDMA_CTL, [GDMA_CTL.EN], 0x0⟩,
    ⟨GDMA_STAT, [GDMA_STAT.BUSY], 0x0⟩,
    ⟨GDMA_FLAG, [GDMA_FLAG.ERR, GDMA_FLAG.REJ], 0x0⟩,
    ⟨GDMA_FLAGEN, [GDMA_FLAGEN.ERR, GDMA_FLAGEN.REJ], 0x0⟩,
    ⟨GDMA_ERRINFO, [GDMA_ERRINFO.CHAN, GDMA_ERRINFO.SEG, GDMA_ERRINFO.WHY], 0x0⟩,
    ⟨GDMA_CHCTL, [GDMA_CHCTL.GO, GDMA_CHCTL.ABORT, GDMA_CHCTL.NSEG], 0x0⟩,
    ⟨GDMA_CHSTAT, [GDMA_CHSTAT.CSTATE, GDMA_CHSTAT.SEG, GDMA_CHSTAT.UNITS], 0x0⟩,
    ⟨GDMA_CHFLAG, [GDMA_CHFLAG.ABORTED, GDMA_CHFLAG.LOST, GDMA_CHFLAG.POISON, GDMA_CHFLAG.DONE], 0x0⟩,
    ⟨GDMA_CHFLAGEN, [GDMA_CHFLAGEN.ABORTED, GDMA_CHFLAGEN.LOST, GDMA_CHFLAGEN.POISON, GDMA_CHFLAGEN.DONE], 0x0⟩,
    ⟨GDMA_SSRC, [GDMA_SSRC.SPACE, GDMA_SSRC.FILL, GDMA_SSRC.ADDR], 0x0⟩,
    ⟨GDMA_SDST, [GDMA_SDST.SPACE, GDMA_SDST.ADDR], 0x0⟩,
    ⟨GDMA_SLEN, [GDMA_SLEN.UNITS], 0x0⟩,
    ⟨GDMA_SFILL, [GDMA_SFILL.PATTERN], 0x0⟩]

/-! ### ETH -/

/-- ETH_CTL, 11_bar_link_time.md, Table 11-7: MAC enable. -/
def ETH_CTL : Reg := ⟨0x380000, 1, 0x0, 1, 0x0⟩
def ETH_CTL.EN : Fld := ⟨ETH_CTL, 39, 39, .rw⟩
def ETH_CTL.TXDLY : Fld := ⟨ETH_CTL, 38, 38, .rw⟩
def ETH_CTL.RXDLY : Fld := ⟨ETH_CTL, 37, 37, .rw⟩

/-- ETH_STAT, 11_bar_link_time.md, Table 11-7: Link. -/
def ETH_STAT : Reg := ⟨0x380001, 1, 0x0, 1, 0x0⟩
def ETH_STAT.LINK : Fld := ⟨ETH_STAT, 39, 39, .ro⟩

/-- ETH_FLAG, 11_bar_link_time.md, Table 11-7: Flags. -/
def ETH_FLAG : Reg := ⟨0x380002, 1, 0x0, 1, 0x0⟩
def ETH_FLAG.LAUNCH_LATE : Fld := ⟨ETH_FLAG, 2, 2, .w1c⟩
def ETH_FLAG.TIME_STEP : Fld := ⟨ETH_FLAG, 1, 1, .w1c⟩
def ETH_FLAG.LINK_CHG : Fld := ⟨ETH_FLAG, 0, 0, .w1c⟩

/-- ETH_FLAGEN, 11_bar_link_time.md, Table 11-7: Event enables. -/
def ETH_FLAGEN : Reg := ⟨0x380003, 1, 0x0, 1, 0x0⟩
def ETH_FLAGEN.LAUNCH_LATE : Fld := ⟨ETH_FLAGEN, 2, 2, .rw⟩
def ETH_FLAGEN.TIME_STEP : Fld := ⟨ETH_FLAGEN, 1, 1, .rw⟩
def ETH_FLAGEN.LINK_CHG : Fld := ⟨ETH_FLAGEN, 0, 0, .rw⟩

/-- ETH_MACHI, 11_bar_link_time.md, Table 11-7: MAC address [47:32]. -/
def ETH_MACHI : Reg := ⟨0x380004, 1, 0x0, 1, 0x0⟩
def ETH_MACHI.ADDR : Fld := ⟨ETH_MACHI, 39, 24, .rw⟩

/-- ETH_MACLO, 11_bar_link_time.md, Table 11-7: MAC address [31:0]. -/
def ETH_MACLO : Reg := ⟨0x380005, 1, 0x0, 1, 0x0⟩
def ETH_MACLO.ADDR : Fld := ⟨ETH_MACLO, 39, 8, .rw⟩

/-- ETH_TIME_S, 11_bar_link_time.md, Table 11-7: Seconds [39:0]. -/
def ETH_TIME_S : Reg := ⟨0x380010, 1, 0x0, 1, 0x0⟩
def ETH_TIME_S.SEC : Fld := ⟨ETH_TIME_S, 39, 0, .rw⟩

/-- ETH_TIME_NS, 11_bar_link_time.md, Table 11-7: Seconds [47:40], nanoseconds. -/
def ETH_TIME_NS : Reg := ⟨0x380011, 1, 0x0, 1, 0x0⟩
def ETH_TIME_NS.SEC_HI : Fld := ⟨ETH_TIME_NS, 39, 32, .rw⟩
def ETH_TIME_NS.NS : Fld := ⟨ETH_TIME_NS, 31, 0, .rw⟩

/-- ETH_TADDEND, 11_bar_link_time.md, Table 11-7: Rate. -/
def ETH_TADDEND : Reg := ⟨0x380012, 1, 0x0, 1, 0x0⟩
def ETH_TADDEND.ADDEND : Fld := ⟨ETH_TADDEND, 39, 0, .rw⟩

/-- ETH_TSTEP, 11_bar_link_time.md, Table 11-7: Step. -/
def ETH_TSTEP : Reg := ⟨0x380013, 1, 0x0, 1, 0x0⟩
def ETH_TSTEP.STEP : Fld := ⟨ETH_TSTEP, 39, 0, .wo⟩

/-- ETH_TCFG, 11_bar_link_time.md, Table 11-7: Time source. -/
def ETH_TCFG : Reg := ⟨0x380014, 1, 0x0, 1, 0x0⟩
def ETH_TCFG.SRC : Fld := ⟨ETH_TCFG, 39, 38, .rw⟩
def ETH_TCFG.IVL : Fld := ⟨ETH_TCFG, 37, 28, .rw⟩

/-- ETH_PTPCFG, 11_bar_link_time.md, Table 11-7: PTP settings. -/
def ETH_PTPCFG : Reg := ⟨0x380015, 1, 0x0, 1, 0x0⟩
def ETH_PTPCFG.DOMAIN : Fld := ⟨ETH_PTPCFG, 39, 32, .rw⟩
def ETH_PTPCFG.SLAVE_ONLY : Fld := ⟨ETH_PTPCFG, 31, 31, .rw⟩
def ETH_PTPCFG.UDP : Fld := ⟨ETH_PTPCFG, 30, 30, .rw⟩
def ETH_PTPCFG.LOGSYNC : Fld := ⟨ETH_PTPCFG, 29, 26, .rw⟩

/-- ETH_PTPSTAT, 11_bar_link_time.md, Table 11-7: PTP status. -/
def ETH_PTPSTAT : Reg := ⟨0x380016, 1, 0x0, 1, 0x0⟩
def ETH_PTPSTAT.OFFSET : Fld := ⟨ETH_PTPSTAT, 39, 8, .ro⟩
def ETH_PTPSTAT.PSTATE : Fld := ⟨ETH_PTPSTAT, 7, 5, .ro⟩

/-- The registers of ETH. -/
def rowsETH : List RegRow :=
  [
    ⟨ETH_CTL, [ETH_CTL.EN, ETH_CTL.TXDLY, ETH_CTL.RXDLY], 0x6000000000⟩,
    ⟨ETH_STAT, [ETH_STAT.LINK], 0x0⟩,
    ⟨ETH_FLAG, [ETH_FLAG.LAUNCH_LATE, ETH_FLAG.TIME_STEP, ETH_FLAG.LINK_CHG], 0x0⟩,
    ⟨ETH_FLAGEN, [ETH_FLAGEN.LAUNCH_LATE, ETH_FLAGEN.TIME_STEP, ETH_FLAGEN.LINK_CHG], 0x0⟩,
    ⟨ETH_MACHI, [ETH_MACHI.ADDR], 0x0⟩,
    ⟨ETH_MACLO, [ETH_MACLO.ADDR], 0x0⟩,
    ⟨ETH_TIME_S, [ETH_TIME_S.SEC], 0x0⟩,
    ⟨ETH_TIME_NS, [ETH_TIME_NS.SEC_HI, ETH_TIME_NS.NS], 0x0⟩,
    ⟨ETH_TADDEND, [ETH_TADDEND.ADDEND], 0xD555555555⟩,
    ⟨ETH_TSTEP, [ETH_TSTEP.STEP], 0x0⟩,
    ⟨ETH_TCFG, [ETH_TCFG.SRC, ETH_TCFG.IVL], 0x10000000⟩,
    ⟨ETH_PTPCFG, [ETH_PTPCFG.DOMAIN, ETH_PTPCFG.SLAVE_ONLY, ETH_PTPCFG.UDP, ETH_PTPCFG.LOGSYNC], 0x80000000⟩,
    ⟨ETH_PTPSTAT, [ETH_PTPSTAT.OFFSET, ETH_PTPSTAT.PSTATE], 0x0⟩]

/-- The windows of Table 24-1 with their registers, by rising last address. -/
def blocks : List (Nat × List RegRow) :=
  [(0x00FFFF, rowsSYS),
   (0x01FFFF, rowsCFG),
   (0x02FFFF, rowsTXN),
   (0x03FFFF, rowsTALLY),
   (0x07FFFF, rowsPOS),
   (0x0BFFFF, rowsFIRE),
   (0x0FFFFF, rowsSKID),
   (0x13FFFF, rowsCODEC),
   (0x17FFFF, rowsCAL),
   (0x1BFFFF, rowsVIS),
   (0x1FFFFF, rowsBAR),
   (0x23FFFF, rowsHLNK),
   (0x27FFFF, rowsDRAM),
   (0x2BFFFF, rowsWARD),
   (0x2DFFFF, rowsMOT),
   (0x2FFFFF, rowsLITE),
   (0x33FFFF, rowsDISP),
   (0x35FFFF, rowsBIST),
   (0x37FFFF, rowsGDMA),
   (0x3BFFFF, rowsETH)]

/-- Which element of a register an address names, if it names one: the two indices. -/
def Reg.index? (r : Reg) (a : Nat) : Option (Nat × Nat) :=
  let d := (a - r.base) % 2 ^ 24
  if a < r.base then none
  else if 2 ^ 24 ≤ a - r.base ∧ r.s1 ≠ 2 ^ 24 then none
  else if r.s1 = 2 ^ 24 then
    let i := (a - r.base) / 2 ^ 24
    if d = 0 ∧ i < r.n1 then some (i, 0) else none
  else
    let i := if r.s1 = 0 then 0 else d / r.s1
    let e := if r.s1 = 0 then d else d % r.s1
    let j := if r.s2 = 0 then 0 else e / r.s2
    let z := if r.s2 = 0 then e else e % r.s2
    if z = 0 ∧ i < r.n1 ∧ j < r.n2 then some (i, j) else none

/-- The row of a register list that an address names, with the indices of the element. -/
def findRow : List RegRow → Nat → Option (RegRow × Nat × Nat)
  | [], _ => none
  | r :: t, a =>
    match r.reg.index? a with
    | some (i, j) => some (r, i, j)
    | none => findRow t a

/-- The registers of the window that holds an address (the bank part of a banked address set aside). -/
def findBlock : List (Nat × List RegRow) → Nat → List RegRow
  | [], _ => []
  | (hi, rows) :: t, a => if a ≤ hi then rows else findBlock t a

/-- The register an address names (R427: none is UNMAPPED). -/
def regRow? (a : Nat) : Option (RegRow × Nat × Nat) := findRow (findBlock blocks (a % 2 ^ 24)) a

/-- DRAM_CLI[i] at reset (Table 13-6): CLASS, RATE, BUCKET, WEIGHT. -/
def cliReset : Nat → Nat
  | 0 => 0x502040000
  | 1 => 0x40C2010000
  | 2 => 0x4322020000
  | 3 => 0x8002040000
  | 4 => 0x8002020000
  | 5 => 0x8002020000
  | 6 => 0x8002008000
  | 7 => 0x8002008000
  | 8 => 0x8002020000
  | 9 => 0x8002010000
  | 10 => 0x0
  | 11 => 0x8002008000
  | _ => 0

/-- The word a register holds at reset: the Reset column of its field table; VIS_PIPECFG[k] has SRC_A = k and
SRC_B = k + 4 (Table 09-9), DRAM_CLI[i] the values of Table 13-6. The straps (BAR_STAT.ID, CFG_STAT.VAR) are 0 here:
they are sampled when reset is released (R216, R285).
(DESIGN CHOICE, log entry 8; DESIGN CHOICE, log entry 95.) -/
def regReset (a : Nat) : Word :=
  match regRow? a with
  | none => 0
  | some (r, i, _) =>
    if r.reg = VIS_PIPECFG then Word.of (r.rst + i * 2 ^ 34 + (i + 4) * 2 ^ 31)
    else if r.reg = DRAM_CLI then Word.of (cliReset i)
    else Word.of r.rst

end Sys2Proof.Machine
end

