-- ==== Sys2Proof/Machine/SMap.lean ====
section
/-! DEFINITION. A sparse table keyed by number: the form in which State holds the register file, DRAM, every on-chip
table and every indexed unit. An unlisted key reads as the table's default value. The canonical form (`SMap.wf`) is
strictly rising keys and no entry equal to the default; every operation keeps it (Laws/SMap.lean). -/

namespace Sys2Proof.Machine

/-- A sparse table: key and value pairs. -/
abbrev SMap (α : Type) := List (Nat × α)

/-- The value at a key; an unlisted key reads as the default `d`. -/
def SMap.get {α : Type} (d : α) : SMap α → Nat → α
  | [], _ => d
  | (k, v) :: t, a => if k = a then v else SMap.get d t a

/-- The table without a key (which then reads as the default). -/
def SMap.erase {α : Type} : SMap α → Nat → SMap α
  | [], _ => []
  | (k, v) :: t, a => if k = a then SMap.erase t a else (k, v) :: SMap.erase t a

/-- The table with an entry put at its place in the rising order. -/
def SMap.insert {α : Type} : SMap α → Nat → α → SMap α
  | [], a, v => [(a, v)]
  | (k, w) :: t, a, v =>
    if a < k then (a, v) :: (k, w) :: t
    else if k = a then (a, v) :: t
    else (k, w) :: SMap.insert t a v

/-- Write a value at a key: writing the default removes the entry. -/
def SMap.set {α : Type} [DecidableEq α] (d : α) (m : SMap α) (a : Nat) (v : α) : SMap α :=
  if v = d then SMap.erase m a else SMap.insert m a v

/-- The table without the keys from `lo` on, `n` of them. -/
def SMap.eraseRange {α : Type} (m : SMap α) (lo n : Nat) : SMap α :=
  m.filter fun e => decide (e.1 < lo) || decide (lo + n ≤ e.1)

/-- The values at `n` keys from `lo` on. -/
def SMap.range {α : Type} (d : α) (m : SMap α) (lo n : Nat) : List α :=
  let sub := m.filter fun e => decide (lo ≤ e.1) && decide (e.1 < lo + n)
  (List.range' lo n).map (SMap.get d sub)

/-- The entries that a list of values makes from a key on: the values equal to the default make none. -/
def SMap.entries {α : Type} [DecidableEq α] (d : α) (lo : Nat) : List α → SMap α
  | [] => []
  | v :: t => if v = d then SMap.entries d (lo + 1) t else (lo, v) :: SMap.entries d (lo + 1) t

/-- The table with the values of a list at the keys from `lo` on. -/
def SMap.setRange {α : Type} [DecidableEq α] (d : α) (m : SMap α) (lo : Nat) (vs : List α) : SMap α :=
  m.filter (fun e => decide (e.1 < lo)) ++ SMap.entries d lo vs ++
    m.filter (fun e => decide (lo + vs.length ≤ e.1))

/-- Every key of the table is above `lo`, rising, and no entry is the default of its key. -/
def SMap.wfFrom {α : Type} [DecidableEq α] (d : Nat → α) : Option Nat → SMap α → Bool
  | _, [] => true
  | none, (k, v) :: t => decide (v ≠ d k) && SMap.wfFrom d (some k) t
  | some lo, (k, v) :: t => decide (lo < k) && decide (v ≠ d k) && SMap.wfFrom d (some k) t

/-- The canonical form of a table whose default may depend on the key. -/
def SMap.wfBy {α : Type} [DecidableEq α] (d : Nat → α) (m : SMap α) : Bool := SMap.wfFrom d none m

/-- The canonical form of a table: keys strictly rising, no entry equal to the default. -/
def SMap.wf {α : Type} [DecidableEq α] (d : α) (m : SMap α) : Bool := SMap.wfBy (fun _ => d) m

end Sys2Proof.Machine
end

