-- ==== Sys2Proof/Machine/State.lean ====
section
/-! DEFINITION. The state of the UHL4800: every register (`regs`), every memory, queue, counter and latch the spec gives
the block, the queue of waiting commands, and the outcomes. Plain data throughout. An indexed family of units is held
as a sparse table whose unlisted entries are at their reset value. -/

namespace Sys2Proof.Machine

/-- Why the block stops with a fault: nothing does. Every command answers a next state, so the type has no case. -/
inductive Fault where
  deriving DecidableEq, Repr

/-- Why a command has no meaning. -/
inductive Refusal where
  /-- raised by the dispatcher for a command that has no meaning yet: safe (nothing can be proved of it) -/
  | notModelled (mnemonic : String)
  deriving DecidableEq, Repr


/-! ### What leaves the chip, and events -/

/-- A flag event queued for the host (R261, Table 12-5 EVENT): the Tally index of the flag, UNCERTAIN, the stamp, INFO
and the flag's Tally count after the occurrence. -/
structure EvtPkt where
  idx : Nat
  uncertain : Bool
  stamp : Word
  info : Word
  count : Word
  deriving DecidableEq, Repr

/-- A message of the bar link (Tables 11-2 and 11-3): its TYPE, ORIG, HOP and body words; LEN is their number, HSEQ
belongs to the hop. -/
structure BarMsg where
  kind : Nat
  orig : Nat
  hop : Nat
  words : List Word
  deriving DecidableEq, Repr

/-- What the block sends to the outside (packets on the Kerf lanes, the host link, the bar link and the management
network, commands to the flash, levels on pins that change). The model's own record: the newest stands last.
(DEDUCED, log entry 24.)
(DEDUCED, log entry 148.) -/
inductive Out where
  /-- a packet on a Kerf port: its TYPE and its body with the CRC-32 (R106) -/
  | kerf (port type : Nat) (body : List Byte)
  /-- GO slot: port, FIRE, waveform set, bank, n mod 2 -/
  | go (port : Nat) (fire : Bool) (wset bank par : Nat)
  /-- STROBE slot: port, phase -/
  | strobe (port phase : Nat)
  /-- REG_RESP packet: TAG, STAT, data words -/
  | regResp (tag stat : Nat) (data : List Word)
  /-- EVENT packet -/
  | event (e : EvtPkt)
  /-- a host-link packet put on the link: its header and its body words with the CRC word (R254) -/
  | linkSend (hdr : Word) (body : List Word)
  /-- host-link control blocks: ACK, NAK, CREDIT (class, limit), TRAIN (CONF, width code, SRST) -/
  | ack (seq : Nat)
  | nak (seq : Nat)
  | credit (cls limit : Nat)
  | train (conf : Bool) (width : Nat) (srst : Bool)
  /-- the raw PRBS31 sequence of x^31 + x^28 + 1 starts or stops on a lane, inverted or not (R253): 0 to 7 host lanes, 8 to
  11 bar lanes -/
  | prbs (lane : Nat) (on inv : Bool)
  /-- an inverted bit sent on a lane under test (R253) -/
  | errInj (lane : Nat)
  /-- a bar-link message sent on a port (0 east, 1 west): its header with its CRC, and its body words, the blocks
  alternating between the lanes of the port from lane 0 on (R220) -/
  | bar (port : Nat) (hdr : Word) (body : List Word)
  /-- an ECHO of a hop's delay measurement sent on a bar port: this port's own, or the neighbour's returned with the
  turnaround in cycles (R219) -/
  | echo (port : Nat) (turn : Option Nat)
  /-- a debug-port read result (R157) -/
  | regData (status : Nat) (data : Word)
  /-- bits shifted out of the test access port -/
  | tdo (bits : List Bool)
  /-- a trigger pulse on TRIG[n] begins or ends (R182) -/
  | trigPulse (port : Nat) (high : Bool)
  /-- a CCI transfer starts: bus, write, 16-bit data, device, address, data -/
  | cci (bus : Nat) (wr w16 : Bool) (dev addr data : Nat)
  /-- a flash command goes out: operation, bytes of address, address, dummy cycles, LANES, bytes to be read, bytes written -/
  | flash (op alen addr dummy lanes rd : Nat) (bytes : List Byte)
  /-- the loader sets the flash's quad-enable bit by the method of its QER field (R282) -/
  | flashQuad (qer : Nat)
  /-- the loader starts to read a slot by fast read (R282): 1-4-4 or 1-1-4, with 4-byte instructions or not, the dummy
  cycles, the mode clocks, the first address -/
  | flashFast (quad addr4 : Bool) (dummy mode addr : Nat)
  /-- a Stump store operation starts: operation, word -/
  | stump (op word : Nat)
  /-- a step on an axis: forward or reverse -/
  | step (axis : Nat) (fwd : Bool)
  /-- MOT_DIR of an axis takes the level of a direction (R354) -/
  | motDir (axis : Nat) (fwd : Bool)
  /-- the level that MOT_EN of an axis takes (R351, R361) -/
  | motEn (axis : Nat) (high : Bool)
  /-- both bridges of an axis are switched off (R361, R362) -/
  | bridgesOff (axis : Nat)
  /-- a bridge phase is driven or left to decay by the chopper: its polarity, the decay (0 slow, 1 fast, 2 fast for `fastt`
  cycles and then slow, from MOT_CHOP) and the threshold that ends the phase -/
  | bridge (axis phase : Nat) (on neg : Bool) (decay fastt thr : Nat)
  /-- a lighting channel's DAC level changes -/
  | lite (ch level : Nat)
  /-- the level that LITE_EN of a lighting channel takes -/
  | liteEn (ch : Nat) (high : Bool)
  /-- Warden firmware reports a FAILED entry of the health map that it leaves (R209) -/
  | report (bin : Nat)
  /-- a matrix row slot: the cycles of pre-charge and of the whole slot, the level of an active row and of an active column,
  and the cycles each of the sixteen columns is active -/
  | matrixRow (row pchg slot : Nat) (rowHigh colHigh : Bool) (cycles : List Nat)
  /-- HP_SAFE is released (R405) -/
  | hpSafe (released : Bool)
  /-- a DRAM device command: subchannel, code (0 REFsb, 1 MR4 read, 2 ZQCal Start, 3 self-refresh entry, 4 mode register
  write, 5 ZQCal Latch, 6 self-refresh exit, 7 precharge all), argument (the rank, but for 0 and 4) -/
  | dramCmd (q code arg : Nat)
  /-- the level of RESET_n of the DRAM devices changes (R278) -/
  | dramReset (high : Bool)
  /-- read data delivered to a DRAM client: client, address, the bytes (none: poisoned or refused) -/
  | dramData (client addr : Nat) (bytes : Option (List Byte))
  /-- an Ethernet frame sent by the MAC's time functions (R240) -/
  | ethFrame (bytes : List Byte)
  /-- EXTEST drives the covered output balls (R404): their cells, numbered as `bsrGroups` lists them, and their levels -/
  | extest (cells : List (Nat × Bool))
  /-- a sync pulse of the motion group (R359) -/
  | syncOut (axis : Nat)
  deriving DecidableEq, Repr

/-! ### Position unit (spec/02_web_position.md) -/

/-- One encoder channel beyond its registers (R31 to R37): the loop reference, the accepted levels of A and B, the
held wire disagreements, the interval counters, the counts since the last index event, the prescaler of QI_LEVEL and
the correction held under CORRECT. -/
structure EncCh where
  ref : BitVec 56
  lvlA : Bool
  lvlB : Bool
  wireA : Bool
  wireB : Bool
  wireZ : Bool
  acc : Nat
  lastP : Nat
  lastRev : Option Bool
  skipNext : Bool
  since : Int
  idxRef : Bool
  valid : Nat
  held : Int
  deriving DecidableEq, Repr

/-- An encoder channel at reset: reference zero, levels low, nothing held.
(DESIGN CHOICE, log entry 12.) -/
def EncCh.reset : EncCh :=
  { ref := 0, lvlA := false, lvlB := false, wireA := false, wireB := false, wireZ := false, acc := 0, lastP := 0
    lastRev := none, skipNext := false, since := 0, idxRef := false, valid := 0, held := 0 }

/-- The position unit beyond its registers: the loop variables of R38, the lock counter of R41, the forward position
and the reverse latch of R40, the probe FIFOs of R44 (stamp and falling), the held page marks and the last accepted
one of R46, and the line whose decision comes next with whether the line before it has been decided (R97). -/
structure PosSt where
  enc : SMap EncCh
  est : BitVec 56
  vel : BitVec 56
  k : Nat
  was : BitVec 56 × BitVec 56 × Nat
  lockCnt : Nat
  fwd : Word
  revLatch : Bool
  probes : SMap (List (Word × Bool))
  marks : List Word
  lastMark : Option Word
  nextDec : Nat
  decided : Bool
  ovspArmed : Bool
  deriving DecidableEq, Repr

/-! ### Codec (spec/03_opzo_block_format.md) -/

/-- The accumulator A and count N of a run class (R56). -/
structure RunCls where
  a : Nat
  n : Nat
  deriving DecidableEq, Repr

/-- A stream context (Table 03-7): the context line, the three run classes, band open, expected BLK_SEQ, TAG, RATIO. -/
structure Ctx where
  line : List Word
  copy : RunCls
  rep : RunCls
  lit : RunCls
  bandOpen : Bool
  seq : Nat
  tag : Nat
  ratio : Nat
  deriving DecidableEq, Repr

/-- A context at reset: band closed (R65), the record zero (R328).
(DESIGN CHOICE, log entry 10.) -/
def Ctx.reset : Ctx :=
  { line := [], copy := ⟨0, 0⟩, rep := ⟨0, 0⟩, lit := ⟨0, 0⟩, bandOpen := false, seq := 0, tag := 0, ratio := 0 }

/-- A context transfer in progress (R66): direction (true: load), stream, Landing, address in units, and for a save the
record as it was when the transfer started. -/
structure Xfer where
  load : Bool
  stream : Nat
  landing : Bool
  addr : Nat
  record : List Byte
  deriving DecidableEq, Repr

/-- An encode stream beyond its registers (R68, R69): whether its next block opens a band, the next ring slot, and the
lines collected for the block in progress. -/
structure Enc where
  bandNext : Bool
  slot : Nat
  lines : List (List Word)
  deriving DecidableEq, Repr

/-- An encode stream at reset.
(DEDUCED, log entry 55.) -/
def Enc.reset : Enc := { bandNext := true, slot := 0, lines := [] }

/-- The block that a decode engine works on: its stream, its page and its index. -/
structure EngBlk where
  stream : Nat
  page : Nat
  blk : Nat
  deriving DecidableEq, Repr

/-- The codec beyond its registers: the stream contexts, the transfer in progress, the encode streams, and what each of
the four decode engines works on (R65, CODEC_STAT.ENG_BUSY). -/
structure CodecSt where
  ctx : SMap Ctx
  xfer : Option Xfer
  enc : SMap Enc
  eng : SMap (Option EngBlk)
  deriving DecidableEq, Repr

/-! ### Line buffers and firing (spec/05_line_buffers_firing.md) -/

/-- The state of a line-buffer row (Table 05-1). -/
inductive RowSt where
  | empty | pending | ready
  deriving DecidableEq, Repr

/-- A row of a port's line buffer (R90): tag, state, the 200 dot words in physical channel order, and in a scan-mode
swath with a feed shift the logical words of the main and the auxiliary stream that have come so far (R121). -/
structure Row where
  tag : Nat
  st : RowSt
  words : List Word
  main : Option (List Word)
  aux : Option (List Word)
  deriving DecidableEq, Repr

/-- A row at reset: EMPTY. -/
def Row.reset : Row := { tag := 0, st := .empty, words := [], main := none, aux := none }

/-- A head bank that is loading or loaded for a change (R95, R107, R436): the line it is due at (none: the load of
both banks on entry to IDLE), the bank it goes to, the entries of its phase map and trim table, the packets still
without acknowledgement (128 × bank + 16 × table + segment) with the failed attempts of each, whether TRIM_LATE has been
raised for it, whether it serves a time-mode change that committed quietly, and whether it was built for a swath that is
not armed yet. -/
structure BankLoad where
  due : Option Nat
  bank : Nat
  phase : List Nat
  trim : List Nat
  left : List (Nat × Nat)
  late : Bool
  quiet : Bool
  held : Bool
  deriving DecidableEq, Repr

/-- A change that waits behind a port's pending bank (R436): its line, whether TRIM_LATE has been raised for it, whether
it committed quietly. -/
structure BankWait where
  line : Nat
  late : Bool
  quiet : Bool
  deriving DecidableEq, Repr

/-- A waveform load in progress (R103): set, segments still unacknowledged with attempts, the image bytes. -/
structure WLoad where
  set : Nat
  left : List (Nat × Nat)
  image : List Byte
  deriving DecidableEq, Repr

/-- A GO that a port has still to send (R97, R99): line, FIRE, whether strobes follow, waveform set. -/
structure GoDue where
  line : Nat
  fire : Bool
  strobes : Bool
  wset : Nat
  deriving DecidableEq, Repr

/-- A Kerf port beyond its registers (R95 to R114): the head-fault latch, the pending bank and the changes that wait
behind it, the waveform load, the line whose LINE packet was acknowledged with status OK, the self-test segments received
while a self-test runs, whether the temperature limit was reached in the line window and the smallest of the greater
temperatures reported in it (R133, R135), whether this loss of telemetry was flagged, the GOs still due, the strobes still
due (line and next phase), the last reported temperatures in sixteenths of a degree, and the cycle of the last report. -/
structure Port where
  faultLatch : Bool
  bank : Option BankLoad
  waiting : List BankWait
  wload : Option WLoad
  ackOk : Option Nat
  testSegs : Option (List Nat)
  limit : Bool
  winMin : Option Int
  lost : Bool
  goDue : List GoDue
  strobes : List (Nat × Nat)
  tested : Bool
  t0 : Int
  t1 : Int
  tempCycle : Option Nat
  deriving DecidableEq, Repr

/-- A port at reset. -/
def Port.reset : Port :=
  { faultLatch := false, bank := none, waiting := [], wload := none, ackOk := none, testSegs := none, limit := false
    winMin := none, lost := false, goDue := [], strobes := [], tested := false, t0 := 0, t1 := 0, tempCycle := none }

/-- The firing engine beyond its registers: the line-buffer rows (key 256 × port + row), the delay tables (key
4,096 × port + channel, 12 bits), the ports, the line whose assembly failed with the cause of the failure (R98), the
cycles since the last launched decision (none: no line launched yet, R130), the overspeed FIFO (R131), the line from which
the job of a serial number fails because of a head table, and the serial number of the job that fails so at line 0 of the
next swath (R107). -/
structure FireSt where
  rows : SMap Row
  delay : SMap Nat
  ports : SMap Port
  asmFail : Option (Nat × Nat)
  sinceLaunch : Option Nat
  ovspFifo : List Word
  failDue : Option (Nat × Nat)
  failSwath : Option Nat
  deriving DecidableEq, Repr

/-! ### Scan mode (spec/06_passes_overspeed_thermal.md) -/

/-- The swath sequencer beyond its registers: the pass table (key 2 × entry + word), the masks (key 32 × mask + row),
the swath line whose decision comes next, the count of the feed encoder at the feed trigger, whether the last page is done
and the next page's swath waits to arm, the carriage line and the direction of the swath, whether GEN is still to be
compared for the job's first page (R21, R168), and whether the first line of a swath armed late is still to be assembled
(R124). -/
structure ScanSt where
  pass : SMap Word
  mask : SMap Nat
  swathLine : Nat
  feedStart : Int
  feedWait : Bool
  x0 : Nat
  rev : Bool
  genDue : Bool
  asmDue : Bool
  deriving DecidableEq, Repr

/-! ### Calibration (spec/07_nozzle_calibration.md) -/

/-- An edit of a calibration change (R143): a selection edit or a trim edit. -/
inductive CalEdit where
  | sub (port col sel : Nat)
  | trim (port chan trim dmap : Nat)
  deriving DecidableEq, Repr

/-- A committed or armed calibration change (R143): its commit sequence number, the bank its swap makes active, and its
edits in the order written. -/
structure CalChange where
  seq : Nat
  swap : Option Nat
  edits : List CalEdit
  deriving DecidableEq, Repr

/-- The calibration banks (R140): overrides (key 2^19 × bank + 4,096 × port + column), channel entries (the same key
with the channel) and code-map words (key 64 × bank + port); where committed changes took effect in another order than
their sequence numbers, the value that rows take in place of the active bank's (R149; key 4,096 × port + column or
channel, the value plus 1); the committed changes that stand behind an armed change of a lower sequence number, in
sequence order, and the bank in force below them (R149). -/
structure CalSt where
  sel : SMap Nat
  chan : SMap Nat
  maps : SMap Nat
  rowSel : SMap Nat
  rowChan : SMap Nat
  late : List CalChange
  under : Nat
  deriving DecidableEq, Repr

/-! ### Transactions (spec/08_registers_transactions.md) -/

/-- A staging context (R159, R160): open or not, arming (a distributed exchange runs, R172), the staged writes in order
(address and word), doomed with its cause. `chips` is the bar's chip mask of each staged write (R227). -/
structure StageCtx where
  isOpen : Bool
  arming : Bool
  writes : List (Nat × Word)
  doomed : Option Nat
  chips : List Nat
  deriving DecidableEq, Repr

/-- A staging context at reset: none open. -/
def StageCtx.reset : StageCtx := { isOpen := false, arming := false, writes := [], doomed := none, chips := [] }

/-- An armed transaction (R162 to R168): sequence number, mode, generation change, distributed, origin, the staged
writes, the target and its nanoseconds, the commit line when it is resolved, whether it waits for swath line 0 of the
next swath (R126, R167), whether the preparation has begun, whether the 256-line lead is met (the first two conditions
of R148, and R95), whether a calibration change is exact through the third condition of R148 only, whether its commit
was moved under DEFER (R149), the record units and log entries it has reserved, whether it commits on a trigger that a
leader sends (R230), whether this chip issued it, whether it still waits for the votes of its exchange (R228), its
exchange's initiator and number, the ports whose placement or trims it changes (R436), and the line whose decision came
next when its arming was complete (R164). -/
structure Slot where
  seq : Nat
  mode : Nat
  gen : Bool
  dist : Bool
  origin : Nat
  writes : List (Nat × Word)
  target : Word
  targetNs : Nat
  line : Option Nat
  nextSwath : Bool
  prep : Bool
  early : Bool
  byEmpty : Bool
  deferred : Bool
  units : Nat
  logs : Nat
  issuer : Bool
  voting : Bool
  init : Nat
  iseq : Nat
  places : List Nat
  armDec : Nat
  deriving DecidableEq, Repr

/-- The transaction unit beyond its registers: the three contexts, the sixteen slots, the next sequence number, the
records and log entries written when their DRAM write is done (R174, R150), the snapshot store (R158). -/
structure TxnSt where
  ctx : SMap StageCtx
  slots : SMap (Option Slot)
  nextSeq : Nat
  records : List (List (BitVec 64))
  logQ : List (List (BitVec 64))
  snap : SMap Word
  deriving DecidableEq, Repr

/-! ### Host link (spec/12_opzo_link.md) -/

/-- An upstream packet held in the replay buffer (R259): its SEQ, its class and its blocks. -/
structure UpPkt where
  seq : Nat
  cls : Nat
  blocks : Nat
  body : Out
  deriving DecidableEq, Repr

/-- The host link beyond its registers: the unacknowledged upstream packets (the replay buffer), those of them that wait
to be sent again, the replays since an ACK advanced, the CONF columns counted in a row, the width code settled in TRAIN,
whether training sends SRST, the responses that wait, the blocks sent and the limit received in classes 2 and 3, the
limit granted and the blocks received in classes 0 and 1 since UP (R260), the event queue (R262), and the bits compared by each lane's PRBS checker that do
not yet make 1,024. -/
structure HlnkSt where
  replay : List UpPkt
  resend : List UpPkt
  tries : Nat
  confCols : Nat
  width : Nat
  srst : Bool
  waitRsp : List Out
  sent : SMap Nat
  limit : SMap Nat
  granted : SMap Nat
  recv : SMap Nat
  evq : List EvtPkt
  prbsBits : SMap Nat
  errCap : Bool
  deriving DecidableEq, Repr

/-! ### DRAM (spec/13_dram_controller.md) -/

/-- A bank of a rank and subchannel (R274): the open row, the last row it closed, whether the predictor closed it, and
the two-bit predictor. -/
structure DBank where
  openRow : Option Nat
  lastRow : Nat
  byPred : Bool
  p : Nat
  deriving DecidableEq, Repr

/-- A bank at initialisation: closed, the predictor at 2. -/
def DBank.reset : DBank := { openRow := none, lastRow := 0, byPred := false, p := 2 }

/-- One burst of a client's read (R272): client, burst, the part of it that is asked for, whether it is the last burst
of its request, whether it has entered its read queue; the 64 bytes and the wrong bits of the eight code words as they
stood then, the code words written since; the younger requests that passed it (R276); and, once served, its answer
(none in it: poisoned), which waits for the earlier reads of its client, with the wrong bits found; its serial number among
the requests, the cycle in which it was presented, and whether a unit of the chip waits for it. -/
structure DRead where
  client : Nat
  burst : Nat
  off : Nat
  n : Nat
  last : Bool
  entered : Bool
  bytes : List Byte
  errs : List Nat
  newer : List Nat
  passed : Nat
  answer : Option (Option (List Byte))
  marks : List (Nat × Nat)
  ser : Nat
  cyc : Nat
  eng : Bool
  deriving DecidableEq, Repr

/-- A burst in a write queue (R272): its client, its serial number among the requests and, where the write does not cover
the burst, the wrong bits of the code words that the read of its read-modify-write shows (R270). -/
structure DWr where
  client : Nat
  burst : Nat
  ser : Nat
  errs : List Nat
  deriving DecidableEq, Repr

/-- A burst written by a request of this cycle: the client, the serial number of the write, and the bytes and the wrong bits
that stood before (R273). -/
structure DTie where
  client : Nat
  burst : Nat
  ser : Nat
  bytes : List Byte
  errs : List Nat
  deriving DecidableEq, Repr

/-- The DRAM controller and its devices: the contents (an unlisted byte of an installed, zero-filled memory reads 0),
the damaged code words with their number of wrong bits, the era of undefined contents after an initialisation with
ZERO = 0 with the code words written since and the addresses of the areas that hold the check pattern (R278), the reads
in the order of request, the queued bursts of each subchannel's write queue, the banks, the postponed refreshes and the
next bank index of each subchannel and rank; of each client what its allowance lacks, in 1/1200 burst, and when (R276);
the client whose turn it is on each subchannel and the bursts left to it; the level of RESET_n, and whether the I/O cells
hold the lines of devices in self-refresh (R279); the last serial number given to a request, the bursts read for a unit of
the chip, and the write requests of this cycle. -/
structure DramSt where
  mem : SMap Byte
  damage : SMap Nat
  undef : Option Nat
  known : SMap Nat
  pat : List Nat
  rq : List DRead
  wq : SMap (List DWr)
  ser : Nat
  got : List (Option (List Byte))
  tie : Nat × List DTie
  banks : SMap DBank
  owed : SMap Nat
  refBank : SMap Nat
  spent : SMap (Nat × Nat)
  turn : SMap (Nat × Nat)
  rstN : Bool
  ioLatch : Bool
  deriving DecidableEq, Repr


/-! ### Job queue (spec/01_architecture.md) -/

/-- A job descriptor (Table 01-4). -/
structure JobDesc where
  jobId : Nat
  gen : Nat
  scan : Bool
  ovfBase : Nat
  ovfSize : Nat
  lead : Nat
  deriving DecidableEq, Repr

/-- A page descriptor (Table 01-5). -/
structure PageDesc where
  jobId : Nat
  pageNo : Nat
  last : Bool
  barrier : Bool
  mark : Nat
  pos : Word
  length : Nat
  passIdx : Nat
  tag : Nat
  deriving DecidableEq, Repr

/-- An occupied entry of the job queue: its 7-bit index and its descriptor; a job descriptor with its release (R20). -/
inductive QEnt where
  | job (idx : Nat) (d : JobDesc) (released : Bool)
  | page (idx : Nat) (d : PageDesc)
  deriving DecidableEq, Repr

/-- Where a released page stands. -/
inductive PagePh where
  | waiting | opened | closed
  deriving DecidableEq, Repr

/-- A released page as the data path serves it; in scan mode one for every swath of the page (R118, R122): its serial
number, its job, its start line when known with the line whose decision came next when it became known, and for a swath
its direction, its media offset Y, its pass-table entry and the CSPAN in force at its swath line 0 (R120). -/
structure JPage where
  ser : Nat
  jobSer : Nat
  job : JobDesc
  d : PageDesc
  ph : PagePh
  start : Option Nat
  known : Nat
  rev : Bool
  y : Nat
  entry : Word
  cspan : Nat
  deriving DecidableEq, Repr

/-- The job in force: its serial number, its descriptor, whether its LAST page descriptor has come, and the ports that
take part in it (R88, R116). -/
structure Job where
  ser : Nat
  d : JobDesc
  lastSeen : Bool
  ports : List Nat
  deriving DecidableEq, Repr

/-- The rows of an ended job are still to be cleared (R92): its serial number, its last line E, and C_max of R80, over
the ports of the job and, once it has started, of the next one. -/
structure RowClr where
  ser : Nat
  e : Nat
  c : Nat
  deriving DecidableEq, Repr

/-- The job queue beyond its registers: the occupied entries, the job in force, the count of jobs started, the released
pages, the last line of the previous page (R435; none when no page has opened since the position unit was enabled), the
last line E of the last job with its C_max and its ports (R80, R92, R96), the last line of its drain span, the ended jobs
whose rows are still to be cleared (R92), and whether PM_MISSING was raised for the page that waits. -/
structure JobQSt where
  q : List QEnt
  job : Option Job
  jobSer : Nat
  pageSer : Nat
  pages : List JPage
  prevLast : Option Nat
  lastE : Option Nat
  lastCmax : Nat
  lastPorts : List Nat
  drain : Option Nat
  clears : List RowClr
  pmMissed : Bool
  doneSer : Option Nat
  deriving DecidableEq, Repr

/-! ### Skidder (spec/04_skidder_remap.md) -/

/-- A descriptor that has been read owned and not yet written back (Table 04-1): its ring index, its word 0, its flags,
tag, slot and blocks, the blocks decoded, and the page it belongs to. -/
structure SkDesc where
  didx : Nat
  w0 : Nat
  barrier : Bool
  first : Bool
  last : Bool
  evt : Bool
  tag : Nat
  slot : Nat
  nblk : Nat
  blk : Nat
  done : Nat
  page : Nat
  dring : Word
  deriving DecidableEq, Repr

/-- A block in a stream after its fetch deadline: its page, its index, its slot's byte address, and after the fetch the
slot bytes, the spill bytes and whether a poisoned burst was delivered. -/
structure Blk where
  page : Nat
  blk : Nat
  addr : Nat
  slot : List Byte
  spill : List Byte
  poison : Bool
  deriving DecidableEq, Repr

/-- A decode stream (R71 to R82): the descriptors read and not written back, the page whose descriptors come next and
whether it is in progress, the block its next descriptor must begin with, whether the stream stopped reading in this job
(R76), the page and place in the fetch order of the block whose fetch deadline comes next, the blocks present and not
fetched, those fetched, those released to the codec, and the page and the count of its blocks decoded so far. -/
structure Stream where
  descs : List SkDesc
  pageLo : Nat
  inPage : Bool
  expBlk : Nat
  stopped : Bool
  dlPage : Nat
  dlCnt : Nat
  toFetch : List Blk
  prefetched : List Blk
  released : List Blk
  decPage : Nat
  decCnt : Nat
  deriving DecidableEq, Repr

/-- A stream at reset: nothing read, nothing fetched. -/
def Stream.reset : Stream :=
  { descs := [], pageLo := 0, inPage := false, expBlk := 0, stopped := false, dlPage := 0, dlCnt := 0, toFetch := []
    prefetched := [], released := [], decPage := 0, decCnt := 0 }

/-- The Skidder beyond its registers: the remap table words (index 2 × entry + word, R84), the job-start copy of its
RWS registers (R88) with the copy of the job before, and its streams. -/
structure SkidSt where
  remap : SMap Word
  copy : SMap Word
  prevCopy : SMap Word
  streams : SMap Stream
  deriving DecidableEq, Repr

/-! ### Display (spec/20_display.md) -/

/-- A layer as latched at a frame start (R379, R380). -/
structure DLayer where
  en : Bool
  fmt : Nat
  alpha : Nat
  x : Nat
  y : Nat
  w : Nat
  h : Nat
  base : Nat
  stride : Nat
  deriving DecidableEq, Repr

/-- A check rectangle as latched at a frame start (R382). -/
structure DRect where
  en : Bool
  x0 : Nat
  y0 : Nat
  x1 : Nat
  y1 : Nat
  exp : Nat
  deriving DecidableEq, Repr

/-- An output beyond its registers: whether a frame is being scanned, the latched layers and rectangles, the layers whose
range a write hit in this frame (R381), the lines of this frame that show BG from a column on and the byte ranges delivered
poisoned (R383), and the CK_CORE cycles since the frame start; the active lines fetched, those to be fetched and those shown
so far, the fetched rows not shown yet (line, layer, bytes), the running CRC of each rectangle, the rectangles already
checked; and whether the output has driven its balls since its release (R377, R384). -/
structure DOut where
  scanning : Bool
  layers : List DLayer
  rects : List DRect
  early : List Nat
  bgFrom : List (Nat × Nat)
  bad : List (Nat × Nat)
  tick : Nat
  fetched : Nat
  toFetch : Nat
  shown : Nat
  rows : List (Nat × Nat × List Byte)
  crcs : List (BitVec 32)
  done : List Nat
  driven : Bool
  deriving DecidableEq, Repr

/-- An output at reset: no frame. -/
def DOut.reset : DOut :=
  { scanning := false, layers := [], rects := [], early := [], bgFrom := [], bad := [], tick := 0, fetched := 0, toFetch := 0
    shown := 0, rows := [], crcs := [], done := [], driven := false }

/-! ### Bar link and network time (spec/11_bar_link_time.md) -/

/-- A bar port beyond its registers (R221): the HSEQ it sends next, the unacknowledged messages with the times each was
sent, the messages that wait behind sixteen of them, and the HSEQ it expects next. -/
structure BarPort where
  txSeq : Nat
  held : List (Nat × BarMsg × Nat)
  queue : List BarMsg
  rxSeq : Nat
  deriving DecidableEq, Repr

/-- A bar port at reset. -/
def BarPort.reset : BarPort := { txSeq := 0, held := [], queue := [], rxSeq := 0 }

/-- A distributed exchange between its PREP and its outcome (R228): the initiator and its sequence number, the member
map generation, the votes taken (bar ID, YES), and the slot it holds on this chip. -/
structure Dx where
  init : Nat
  iseq : Nat
  mgen : Nat
  votes : List (Nat × Bool)
  slot : Option Nat
  deriving DecidableEq, Repr

/-- The bar block beyond its registers: the two ports, the port and HOP of each member's JOIN (R235), the JOIN and LEAVE
requests held until an exchange ends (true for JOIN: bar ID, port, hop), the exchange in its vote phase, the last outcome each exchange is known by, the arrivals at barriers (bar
ID, JOB_ID, PAGE_NO; R233), the lines of the bar-wide snapshots that wait, and whether this chip has started each (R234), whether a bar-wide reset waits, the beacon
sequence, whether a beacon with FAULTY = 0 has been taken since the encoder was declared faulty (R224), whether LEAVE
waits for its MAP, the time of the last TIME message with the counter then (R239), the initiator whose writes the bar
context holds (R228), whether a REJOIN waits for a MAP, whether a MAP has been taken, the bar IDs to leave out of the next
MAP, and whether the chip casts no votes (R236). -/
structure BarSt where
  east : BarPort
  west : BarPort
  joins : List (Nat × Nat × Nat)
  wait : List (Bool × Nat × Nat × Nat)
  dx : Option Dx
  arrived : List (Nat × Nat × Nat)
  snapLines : List (Nat × Bool)
  gopReset : Bool
  bseq : Nat
  beaconOk : Bool
  leaving : Bool
  lastTime : Option Nat
  ctxOf : Option Nat
  rejoin : Bool
  mapSeen : Bool
  refused : List Nat
  mute : Bool
  deriving DecidableEq, Repr

/-- The bar block at reset.
(DESIGN CHOICE, log entry 9.) -/
def BarSt.reset : BarSt :=
  { east := BarPort.reset, west := BarPort.reset, joins := [], wait := [], dx := none, arrived := []
    snapLines := [], gopReset := false, bseq := 0, beaconOk := false, leaving := false, lastTime := none
    ctxOf := none, rejoin := false, mapSeen := false, refused := [], mute := false }

/-- Network time (R238): the counter in units of 2^−40 ns, the latch of the last ETH_TIME_S read, the held seconds
value, and the frames queued with a launch time, in units of 2^−40 ns (R240). -/
structure NetTime where
  time : Nat
  latch : Word
  heldS : Nat
  txq : List (Nat × List Byte)
  deriving DecidableEq, Repr

/-- Network time at reset. -/
def NetTime.reset : NetTime := { time := 0, latch := 0, heldS := 0, txq := [] }

/-! ### Scaler (spec/10_closed_loop_determinism.md) -/

/-- A transaction that the closed loop has proposed (R209): its commit sequence number, the bin, whether it is the last of
its repair, and the commit line once it has committed. -/
structure Repair where
  seq : Nat
  bin : Nat
  final : Bool
  line : Option Nat
  deriving DecidableEq, Repr

/-- What a failed job leaves undelivered of one of its pages (R204): the job's serial number, whether it was a scan-mode
job, the page's first and last reference line, and the streams that served it. -/
structure RefCut where
  ser : Nat
  scan : Bool
  first : Nat
  last : Nat
  streams : List Nat
  deriving DecidableEq, Repr

/-- The Scaler beyond its registers: the reference sums of the lines delivered (key 65,536 × reference row + bin), which
lines of a row a stream has delivered (key 64 × reference row + stream, bit i for the row's line i), the reference rows
written to the ring (key: row modulo the ring, value: row + 1), the latest row written in a web-mode job, the pages that
failed jobs cut short, the health map, the bins whose entries have an uncorrectable error, the change FIFO (entry word and
first reference line of the row), VIS_SCLOOP as it acts since the frame published last (R215), and of the closed loop the
transactions under way, the bins it has left FAILED and reported, and whether it is to rescan the map (R209). -/
structure ScalerSt where
  sums : SMap Nat
  got : SMap Nat
  rows : SMap Nat
  newest : Option Nat
  cut : List RefCut
  map : SMap Word
  bad : List Nat
  fifo : List (Word × Nat)
  loop : Word
  repairs : List Repair
  left : List Nat
  rescan : Bool
  deriving DecidableEq, Repr

/-- The Scaler at reset: VIS_SCLOOP acts at its reset value. -/
def ScalerSt.reset : ScalerSt :=
  { sums := [], got := [], rows := [], newest := none, cut := [], map := [], bad := [], fifo := [], loop := 0x961040000
    repairs := [], left := [], rescan := false }

/-- A cell of a frame (R205): sum and count of dark, the least and the greatest dark, and the columns within the bin that
pixels of those values have (bit c: column c). -/
structure Cell where
  sum : Nat
  count : Nat
  lo : Nat
  loCols : Nat
  hi : Nat
  hiCols : Nat
  deriving DecidableEq, Repr

/-- A cell with no pixel. -/
def Cell.reset : Cell := { sum := 0, count := 0, lo := 256, loCols := 0, hi := 0, hiCols := 0 }

/-! ### Cameras and pipelines (spec/09_inspection_pipeline.md) -/

/-- The values of a port's frame-start set that are active (R196): VIS_EXPO, VIS_SENSWR, VIS_PROC, VIS_HROIX, VIS_HROIY,
VIS_ARCH, VIS_ARCHTH. -/
structure FrameSet where
  expo : Word
  sens : List Word
  proc : Word
  hroix : Word
  hroiy : Word
  arch : Word
  archth : Word
  deriving DecidableEq, Repr

/-- The frame-start set at reset. -/
def FrameSet.reset : FrameSet :=
  { expo := 0x2000000000, sens := List.replicate 16 0, proc := 0, hroix := 0x7FFC000, hroiy := 0x1FFFC00, arch := 0
    archth := 0x4080C00000 }

/-- A frame in progress (R180 to R198): what its start fixed, its ring index (R192) among it, the lines received, whether its frame end came, the staged
lines, the lines processed, and what processing accumulated: the CRC register of its pixels, the histogram, the zone
sums (key 16 × row + column) and the Scaler's cells (key 65,536 × row from the first + bin). -/
structure VFrame where
  fseq : Nat
  idx : Nat
  stamp : Word
  untrig : Bool
  liteFault : Bool
  sec : Nat
  ns : Nat
  gen : Nat
  pgen : Nat
  unsure : Bool
  set : FrameSet
  rx : Nat
  ended : Bool
  staged : List (List Nat)
  done : Nat
  crc : BitVec 32
  hist : SMap Nat
  zones : SMap Nat
  cells : SMap Cell
  deriving DecidableEq, Repr

/-- A camera port beyond its registers: its frames in progress, oldest first; the trigger FIFO (target and LITE_FAULT);
the cycles from the last pulse to the last crossing (none: no pulse yet); whether a pulse is being made; the values of A
of the last eight frame starts, newest first, each with whether its activation was late (R198); whether a commit wrote
the frame-start set since the last frame start; the active set; the encode stream that archives a frame of the port; and
of an open frame that no pipeline takes the lines received (R185). -/
structure VPort where
  frames : List VFrame
  tfifo : List (Word × Bool)
  sincePulse : Option Nat
  pulse : Bool
  hist : List (Nat × Bool)
  dirty : Bool
  active : FrameSet
  arch : Option Nat
  check : Option Nat
  deriving DecidableEq, Repr

/-- A camera port at reset. -/
def VPort.reset : VPort :=
  { frames := [], tfifo := [], sincePulse := none, pulse := false, hist := List.replicate 8 (0, false), dirty := false
    active := FrameSet.reset, arch := none, check := none }

/-- A transfer on a camera control bus: read, 16-bit data, device, register address, data. -/
structure CciX where
  rd : Bool
  w16 : Bool
  dev : Nat
  addr : Nat
  data : Nat
  deriving DecidableEq, Repr

/-- What waits for a camera control bus (R200): a command (no port), or an activation list with its port, its generation
and whether it is late. -/
structure CciJob where
  port : Option Nat
  gen : Nat
  late : Bool
  left : List CciX
  deriving DecidableEq, Repr

/-- A camera control bus: what waits, in order; the first is in progress when `busy`. -/
structure CciBus where
  queue : List CciJob
  busy : Bool
  deriving DecidableEq, Repr

/-- A bus at reset. -/
def CciBus.reset : CciBus := { queue := [], busy := false }

/-- The VIS block beyond its registers: the ports, the flat-field gains (key 8,192 × port + column) with
the gain of unlisted columns (unity; 0 after PD6 was switched, R329), the
lines that each pipeline has taken of the current stripe, the control buses. -/
structure VisSt where
  port : SMap VPort
  ff : SMap Nat
  ffDef : Nat
  stripe : SMap Nat
  cci : SMap CciBus
  deriving DecidableEq, Repr

/-- The VIS block at reset. -/
def VisSt.reset : VisSt := { port := [], ff := [], ffDef := 0x1000, stripe := [], cci := [] }


/-! ### Motion (spec/18_motion.md) -/

/-- A move of an axis's queue (Table 18-1). -/
structure Move where
  dir : Bool
  blend : Bool
  hold : Bool
  mark : Bool
  nstep : Nat
  i0 : Nat
  di : Int
  deriving DecidableEq, Repr

/-- The move in progress (R354): its steps still to issue, the interval that runs (in 1/256 cycle), the fraction
carried, and the CK_SLOW cycles from the step before (or the start) to the step that comes. -/
structure MoveRun where
  m : Move
  left : Nat
  ivl : Int
  frac : Nat
  wait : Nat
  deriving DecidableEq, Repr

/-- A chopper phase (R357): driving or decaying, the on-time of the cycle, the adaptive offset. -/
structure ChopPhase where
  drive : Bool
  tOn : Nat
  ofs : Int
  deriving DecidableEq, Repr

/-- A chopper phase when its axis is enabled. -/
def ChopPhase.reset : ChopPhase := { drive := true, tOn := 1, ofs := 0 }

/-- A motion axis beyond its registers (R351 to R363): the queue, the move in progress, the last interval used, whether a
halt flushes the queue at the end of the move, the MARK moves whose report is due, the level of MOT_DIR, the references of
the stall check, the current in force, the ramp to HOLD (the cycle in which it began and the current it leads to) during
which `cur` is the current it began from, the levels of the limit, bridge-fault and encoder inputs, and the chopper phases. -/
structure Axis where
  queue : List Move
  run : Option MoveRun
  last : Option Int
  dir : Bool
  halting : Bool
  markDue : Nat
  enc0 : Word
  pos0 : Word
  cur : Nat
  ramp : Option (Nat × Nat)
  limHigh : Bool
  fltLow : Bool
  qa : Bool
  qb : Bool
  chA : ChopPhase
  chB : ChopPhase
  deriving DecidableEq, Repr

/-- An axis at reset.
(DESIGN CHOICE, log entry 9.) -/
def Axis.reset : Axis :=
  { queue := [], run := none, last := none, dir := false, halting := false, markDue := 0, enc0 := 0, pos0 := 0, cur := 0
    ramp := none, limHigh := true, fltLow := false, qa := false, qb := false, chA := ChopPhase.reset, chB := ChopPhase.reset }


/-! ### Lighting (spec/19_lighting.md) -/

/-- A channel's consecutive open and short readings (R369), and the cycle after the one in which it last accepted a strobe
request (R367). -/
structure LiteCh where
  opens : Nat
  shorts : Nat
  openTaken : Bool
  shortTaken : Bool
  asked : Nat
  askers : List Nat
  deriving DecidableEq, Repr

/-- A channel with no reading. -/
def LiteCh.reset : LiteCh := { opens := 0, shorts := 0, openTaken := false, shortTaken := false, asked := 0, askers := [] }

/-- A temperature input: consecutive samples at an end of the scale and off it, and whether it counts as faulty (R371). -/
structure LiteTin where
  stuck : Nat
  fine : Nat
  fault : Bool
  deriving DecidableEq, Repr

/-- An input never sampled. -/
def LiteTin.reset : LiteTin := { stuck := 0, fine := 0, fault := false }

/-- The lighting block beyond its registers: channels, inputs, and the matrix scan: the row of the next slot, the matrix
frames begun, the rows in the scan (R373, R374). -/
structure LiteSt where
  ch : SMap LiteCh
  tin : SMap LiteTin
  row : Nat
  frame : Nat
  rows : List Nat
  driven : List Nat
  scanned : Bool
  deriving DecidableEq, Repr

/-- The lighting block at reset.
(DESIGN CHOICE, log entry 9.) -/
def LiteSt.reset : LiteSt := { ch := [], tin := [], row := 0, frame := 0, rows := [], driven := [], scanned := false }


/-! ### Reset, clocks, power and configuration (spec/14 to spec/16) -/

/-- A system reset that has been requested (R302, R304, R311): its cause, whether a Stump store pulse delays it, and the
slot the next load skips. -/
structure SysReq where
  since : Nat
  cause : Nat
  delayed : Bool
  skip : Nat
  deriving DecidableEq, Repr

/-- A Stump store pulse in progress (R299, R300): erase or program, its word, and the value to program. -/
structure Pulse where
  recorder : Bool
  erase : Bool
  word : Nat
  data : BitVec 64
  deriving DecidableEq, Repr

/-- Reset, clocks and power beyond their registers: the AON power-on reset is held; the system reset is held; the request
that waits; a core reset in progress with whether a pulse delays it; the blocks whose wrappers drain; the domain switches
that wait, and whether they were requested through SYS_PDCTL; the straps BAR_ID and VAR_SEL as sampled. -/
structure SysSt where
  por : Bool
  held : Bool
  req : Option SysReq
  core : Option Bool
  draining : List Nat
  pdQueue : List Nat
  pdReq : Bool
  barId : Nat
  varSel : Nat
  rstLow : Bool
  vddLost : Option (Nat × Nat × Word)
  deriving DecidableEq, Repr

/-- The machine right after power-on reset: both resets held, nothing requested. -/
def SysSt.reset : SysSt :=
  { por := true, held := true, req := none, core := none, draining := [], pdQueue := [], pdReq := false, barId := 0
    varSel := 0, rstLow := false, vddLost := none }

/-- A record of an image: its TYPE, its VARMASK, its body (Table 14-2). -/
structure ImgRec where
  type : Nat
  varmask : Nat
  body : List Byte
  deriving DecidableEq, Repr

/-- The loader beyond its registers: the Stump store pulse in progress, a RELOAD that waits for the flash command in
progress (with FROM_B), whether the image's DRAMDATA records are skipped and whether the first of them has found RUN,
whether the load waits for a pin BIST, the bytes that the flash command in progress reads (0 for a write), and of the
image in pass 2 its slot, SERIAL and BOARD, whether its records are being applied, those read that wait, the CRC register
over what is read, and of END whether the check word matches and the patch store's check. -/
structure CfgSt where
  pulse : Option Pulse
  reload : Option Bool
  dramSkip : Bool
  dramGo : Bool
  waitBist : Bool
  flRead : Nat
  slot : Nat
  serial : Nat
  board : Nat
  begun : Bool
  recs : List ImgRec
  crc : BitVec 32
  fin : Option (Bool × Bool)
  writes : List (Nat × Word)
  mclk : Nat
  deriving DecidableEq, Repr

/-- The loader at reset. -/
def CfgSt.reset : CfgSt :=
  { pulse := none, reload := none, dramSkip := false, dramGo := false, waitBist := false, flRead := 0, slot := 0, serial := 0
    board := 0, begun := false, recs := [], crc := 0, fin := none, writes := [], mclk := 0 }

/-! ### Supervision (spec/17_supervision_failover.md) -/

/-- A fault log entry that waits in the queue (R349): KIND, DETAIL, hold count, position stamp, seconds. -/
structure FlogEnt where
  kind : Nat
  detail : Nat
  hold : Word
  stamp : Word
  sec : Nat
  deriving DecidableEq, Repr

/-- The Spotter and the Warden domains beyond their registers: the active core is released; the next heartbeat may carry
any TOKEN; the checkpoints are still to be verified; a host operation of WARD_SWAP in progress (false: TEST, true: SWAP);
whether SWAP_DONE waits for a heartbeat; whether a takeover was made since the system reset; a bus stall is present; the
patch store; the fault log queue, the next entry number, and whether the sector of the next entry has been erased for it;
the cycle of the last trigger, and whether its fault log entry was queued. -/
structure WardSt where
  coreUp : Bool
  first : Bool
  verify : Bool
  op : Option Bool
  swapWait : Bool
  bumped : Bool
  busStall : Bool
  patch : List (Nat × List Byte)
  flogQ : List FlogEnt
  flogSeq : Nat
  flogErased : Bool
  trig : Option (Nat × Bool)
  deriving DecidableEq, Repr

/-- Supervision at reset: the cores held, nothing in progress. -/
def WardSt.reset : WardSt :=
  { coreUp := false, first := true, verify := false, op := none, swapWait := false, bumped := false, busStall := false, patch := []
    flogQ := [], flogSeq := 0, flogErased := false, trig := none }

/-! ### Built-in self-test and test access (spec/21_bist.md, spec/22_pins_hot_plug.md) -/

/-- The BIST controller beyond its registers: the kind of the run in progress, the sources and kinds of the run that
continues after a Spotter run, the Warden domains that the Spotter asks for. -/
structure BistSt where
  kind : Nat
  src : Nat
  spot : List Nat
  shown : Nat
  deriving DecidableEq, Repr

/-- The BIST controller at reset. -/
def BistSt.reset : BistSt := { kind := 3, src := 0, spot := [], shown := 0 }

/-- The test access port (R404): the instruction register and the preloaded boundary-scan register. -/
structure TapSt where
  ir : Nat
  bsr : List Bool
  deriving DecidableEq, Repr

/-- The signal groups of the boundary-scan register (R404, Table 22-2), in its order of cells, one cell a ball, and whether
EXTEST drives them: the cells of inputs observe, and so do those of HEAD_EN, MOT_EN, MOTn_PWM, MOT_STEP and LITE_EN.
(DESIGN CHOICE, log entry 215.) -/
def bsrGroups : List (String × Nat × Bool) :=
  [("HEAD_EN", 48, false), ("DRAM_DQ", 160, true), ("DRAM_CA", 56, true), ("DRAM_CS_N", 8, true), ("DRAM_RESET_N", 1, true),
    ("DRAM_ALERT_N", 2, false), ("DRAM_ZQ", 2, false), ("CAM_TRIG", 8, true), ("CCI_SCL", 4, true), ("CCI_SDA", 4, true),
    ("PROBE", 4, false), ("FL_SCK", 1, true), ("FL_CS_N", 1, true), ("FL_IO", 4, true), ("MOT_PWM", 32, false),
    ("MOT_STEP", 8, false), ("MOT_DIR", 8, true), ("MOT_EN", 8, false), ("MOT_QA", 8, false), ("MOT_QB", 8, false),
    ("MOT_LIM", 8, false), ("MOT_FLT_N", 8, false), ("LITE_EN", 16, false), ("LED_ROW", 8, true), ("LED_COL", 16, true),
    ("RGB_D", 24, true), ("RGB_SYNC", 4, true), ("RGMII_TX", 6, true), ("RGMII_RX", 6, false), ("ETH_MDC", 1, true),
    ("ETH_MDIO", 1, true), ("ETH_RST_N", 1, true), ("RST_N", 1, false), ("EVENT_N", 1, true), ("HP_REMOVE_REQ_N", 1, false),
    ("HP_SAFE", 1, true), ("GPIO", 16, true)]

/-- For each cell of the boundary-scan register, whether EXTEST drives its ball.
(DESIGN CHOICE, log entry 215.) -/
def bsrDrives : List Bool := bsrGroups.flatMap fun g => List.replicate g.2.1 g.2.2

/-- The port at Test-Logic-Reset: IDCODE. The boundary-scan register has no stated contents before its first use: zeros.
(DESIGN CHOICE, log entry 215.) -/
def TapSt.reset : TapSt := { ir := 2, bsr := bsrDrives.map fun _ => false }


/-- The position unit at reset.
(DESIGN CHOICE, log entry 9.) -/
def PosSt.reset : PosSt :=
  { enc := [], est := 0, vel := 0, k := 0, was := (0, 0, 0), lockCnt := 0, fwd := 0, revLatch := false, probes := [], marks := []
    lastMark := none, nextDec := 0, decided := false, ovspArmed := true }

/-- The job queue at reset: empty, no job.
(DESIGN CHOICE, log entry 9.) -/
def JobQSt.reset : JobQSt :=
  { q := [], job := none, jobSer := 0, pageSer := 0, pages := [], prevLast := none, lastE := none, lastCmax := 0
    lastPorts := [], drain := none, clears := [], pmMissed := false, doneSer := none }

/-- The Skidder at reset.
(DESIGN CHOICE, log entry 12.) -/
def SkidSt.reset : SkidSt := { remap := [], copy := [], prevCopy := [], streams := [] }

/-- The codec at reset: every band closed. -/
def CodecSt.reset : CodecSt := { ctx := [], xfer := none, enc := [], eng := [] }

/-- The firing engine at reset: rows EMPTY, ports OFF.
(DESIGN CHOICE, log entry 9.) -/
def FireSt.reset : FireSt :=
  { rows := [], delay := [], ports := [], asmFail := none, sinceLaunch := none, ovspFifo := []
    failDue := none, failSwath := none }

/-- The swath sequencer at reset: IDLE. -/
def ScanSt.reset : ScanSt :=
  { pass := [], mask := [], swathLine := 0, feedStart := 0, feedWait := false, x0 := 0, rev := false, genDue := false, asmDue := false }

/-- The calibration banks at reset: every table at the reset value of Table 07-2 (the tables' defaults). -/
def CalSt.reset : CalSt := { sel := [], chan := [], maps := [], rowSel := [], rowChan := [], late := [], under := 0 }

/-- The transaction unit at reset.
(DESIGN CHOICE, log entry 12.) -/
def TxnSt.reset : TxnSt := { ctx := [], slots := [], nextSeq := 0, records := [], logQ := [], snap := [] }

/-- The host link at reset: DOWN, nothing queued, sequence state cleared, the next training sends SRST.
(DESIGN CHOICE, log entry 9.) -/
def HlnkSt.reset : HlnkSt :=
  { replay := [], resend := [], tries := 0, confCols := 0, width := 0, srst := true, waitRsp := [], sent := [], limit := []
    granted := [], recv := [], evq := [], prbsBits := [], errCap := false }

/-- The DRAM controller at reset: OFF, RESET_n low, no contents, every allowance whole.
(DESIGN CHOICE, log entry 141; DESIGN CHOICE, log entry 169.) -/
def DramSt.reset : DramSt :=
  { mem := [], damage := [], undef := none, known := [], pat := [], rq := [], wq := [], ser := 0, got := [], tie := (0, []), banks := [], owed := []
    refBank := [], spent := [], turn := [], rstN := false, ioLatch := false }

/-! ### The copy engine (spec/24_register_reference.md) -/

/-- The GDMA engine beyond its registers: the channel served last (R431), and for each channel the cycle after the one in
which it last ended (Table 24-7). -/
structure GdmaSt where
  last : Nat
  ended : SMap Nat
  deriving DecidableEq, Repr

/-- The engine at reset: channel 0 is served first.
(DESIGN CHOICE, log entry 9.) -/
def GdmaSt.reset : GdmaSt := { last := 15, ended := [] }

/-! ### The whole machine -/

/-- The machine. `pending` is the queue of commands that wait (first in, first out); `out` records what leaves the
chip; `regs` holds every register, an unlisted address reading as its reset value (`regReset`); `freeCtr` is the
model's own counter of free values drawn (Config); `evt` holds for each flag, under its Tally index, the stamp, INFO and
UNCERTAIN of the occurrence that last set it (R261, R45), and `clrNow` the cycle of the last clearing write with the flags
cleared in it (R8). The rest is what the spec gives each unit beyond its registers. -/
structure State where
  pending : List Instr
  out : List Out
  regs : SMap Word
  freeCtr : Nat
  cycle : Nat
  holdAcc : Nat
  pos : PosSt
  jq : JobQSt
  skid : SkidSt
  codec : CodecSt
  fire : FireSt
  scan : ScanSt
  cal : CalSt
  txn : TxnSt
  hlnk : HlnkSt
  dram : DramSt
  disp : SMap DOut
  bar : BarSt
  net : NetTime
  scaler : ScalerSt
  landing : SMap Byte
  aonHold : Bool
  mot : SMap Axis
  lite : LiteSt
  vis : VisSt
  sys : SysSt
  cfg : CfgSt
  stump : SMap (BitVec 64)
  stumpBad : List Nat
  ward : WardSt
  bist : BistSt
  gdma : GdmaSt
  tap : TapSt
  evt : SMap (Word × Word × Bool)
  clrNow : Nat × List Nat
  eventN : Bool
  deriving DecidableEq, Repr

/-- The machine right after power-on reset: every register at its reset value, every table and queue empty, no command
waiting.
(DEDUCED, log entry 3; DESIGN CHOICE, log entry 11.) -/
def State.reset : State :=
  { pending := [], out := [], regs := [], freeCtr := 0, cycle := 0, holdAcc := 0
    pos := PosSt.reset, jq := JobQSt.reset, skid := SkidSt.reset, codec := CodecSt.reset, fire := FireSt.reset
    scan := ScanSt.reset, cal := CalSt.reset, txn := TxnSt.reset, hlnk := HlnkSt.reset, dram := DramSt.reset, disp := []
    bar := BarSt.reset, net := NetTime.reset, scaler := ScalerSt.reset, landing := [], aonHold := true, mot := []
    lite := LiteSt.reset, vis := VisSt.reset, sys := SysSt.reset, cfg := CfgSt.reset, stump := [], stumpBad := []
    ward := WardSt.reset, bist := BistSt.reset, gdma := GdmaSt.reset, tap := TapSt.reset, evt := [], clrNow := (0, [])
    eventN := true }

end Sys2Proof.Machine
end

