-- ==== Sys2Proof/Machine/Ops.lean ====
section
/-! DEFINITION. The named operations every unit uses: a register and a field of it, the position arithmetic of R29 and
R14, bytes and words, free values, what leaves the chip. -/

namespace Sys2Proof.Machine

/-! ### Registers and fields -/

/-- The ones under a field. -/
def Fld.mask (f : Fld) : Word := (BitVec.allOnes 40 >>> (40 - f.width)) <<< f.lo

/-- A field of a word, as a number. -/
def Fld.ext (f : Fld) (w : Word) : Nat := (w.toNat >>> f.lo) % 2 ^ f.width

/-- A word with a field replaced (the value modulo the field's width). -/
def Fld.ins (f : Fld) (w : Word) (v : Nat) : Word :=
  (w &&& ~~~ f.mask) ||| ((Word.of v <<< f.lo) &&& f.mask)

/-- A number's two's-complement reading at a width. -/
def signed (width v : Nat) : Int := if v < 2 ^ (width - 1) then v else (v : Int) - 2 ^ width

/-- An integer's bits at a width, as a number. -/
def unsigned (width : Nat) (v : Int) : Nat := (v % 2 ^ width).toNat

/-- The word of element `i`, `j` of a register. -/
def State.reg (s : State) (r : Reg) (i : Nat := 0) (j : Nat := 0) : Word :=
  SMap.get (regReset (r.at i j)) s.regs (r.at i j)

/-- Set the word of element `i`, `j` of a register. -/
def State.setReg (s : State) (r : Reg) (w : Word) (i : Nat := 0) (j : Nat := 0) : State :=
  { s with regs := SMap.set (regReset (r.at i j)) s.regs (r.at i j) w }

/-- A field of element `i`, `j` of its register. -/
def State.fld (s : State) (f : Fld) (i : Nat := 0) (j : Nat := 0) : Nat := f.ext (s.reg f.reg i j)

/-- A field read as a signed number. -/
def State.sfld (s : State) (f : Fld) (i : Nat := 0) (j : Nat := 0) : Int := signed f.width (s.fld f i j)

/-- Set a field of element `i`, `j` of its register. -/
def State.setFld (s : State) (f : Fld) (v : Nat) (i : Nat := 0) (j : Nat := 0) : State :=
  s.setReg f.reg (f.ins (s.reg f.reg i j) v) i j

/-- A one-bit field (or any field) read as a condition: not zero. -/
def State.on (s : State) (f : Fld) (i : Nat := 0) (j : Nat := 0) : Bool := s.fld f i j != 0

/-- A condition as a field value. -/
def bit (b : Bool) : Nat := if b then 1 else 0

/-- Add to a field, modulo its width. -/
def State.addFld (s : State) (f : Fld) (v : Nat) (i : Nat := 0) (j : Nat := 0) : State :=
  s.setFld f (s.fld f i j + v) i j

/-- Return every register of a range of addresses to its reset value. -/
def State.resetRegs (s : State) (lo n : Nat) : State := { s with regs := SMap.eraseRange s.regs lo n }

/-- Return one register to its reset value. -/
def State.resetReg (s : State) (r : Reg) (i : Nat := 0) (j : Nat := 0) : State :=
  s.setReg r (regReset (r.at i j)) i j

/-- Return one field to its reset value. -/
def State.resetFld (s : State) (f : Fld) (i : Nat := 0) (j : Nat := 0) : State :=
  s.setFld f (f.ext (regReset (f.reg.at i j))) i j

/-! ### Web positions (R6, R14, R29) -/

/-- The comparison of R29 at 40 bits: `a` is at or after `b`. -/
def atOrAfter (a b : Word) : Bool := decide ((a - b).toNat < 2 ^ 39)

/-- R29: `a` is after `b`. -/
def after (a b : Word) : Bool := a != b && atOrAfter a b

/-- The rule of R29 for line numbers (24 bits): `a` at or after `b`. -/
def lineAtOrAfter (a b : Nat) : Bool := decide ((a + 2 ^ 24 - b % 2 ^ 24) % 2 ^ 24 < 2 ^ 23)

/-- R29 for line numbers: `a` after `b`. -/
def lineAfter (a b : Nat) : Bool := decide (a % 2 ^ 24 ≠ b % 2 ^ 24) && lineAtOrAfter a b

/-- A line number, modulo 2^24. -/
def lineMod (n : Nat) : Nat := n % 2 ^ 24

/-- A difference of line numbers, modulo 2^24. -/
def lineSub (a b : Nat) : Nat := (a + 2 ^ 24 - b % 2 ^ 24) % 2 ^ 24

/-- The stamp of a line boundary: n × 0x1_0000 (R45). -/
def lineStamp (n : Nat) : Word := Word.of (n * 2 ^ 16)

/-- The line field of a web position. -/
def posLine (p : Word) : Nat := p.toNat / 2 ^ 16

/-- The line an action keyed to a position takes effect from (R14). -/
def resolveLine (p : Word) : Nat := if p.toNat % 2 ^ 16 = 0 then posLine p else lineMod (posLine p + 1)

/-- The first line whose target lies after a decision position (R97). -/
def firstDecision (d : Word) : Nat := lineMod (posLine (d + 0x800) + 1)

/-! ### Bytes -/

/-- The `n` bytes of a number, most significant first. -/
def bytesBE : Nat → Nat → List Byte
  | 0, _ => []
  | n + 1, v => BitVec.ofNat 8 (v / 2 ^ (8 * n)) :: bytesBE n v

/-- The number a byte list spells, most significant first. -/
def ofBytesBE (bs : List Byte) : Nat := bs.foldl (fun a b => a * 256 + b.toNat) 0

/-- The bits of a byte list as a bit stream (R51): bytes ascending, within each byte bit 7 first. -/
def bitsOf : List Byte → List Bool
  | [] => []
  | b :: t => (List.range 8).map (fun i => b.getLsbD (7 - i)) ++ bitsOf t

/-- The number a bit list spells, most significant first. -/
def ofBits (bs : List Bool) : Nat := bs.foldl (fun a b => 2 * a + bit b) 0

/-- The `n` bits of a number, most significant first. -/
def toBits (n v : Nat) : List Bool := (List.range n).map fun i => v.testBit (n - 1 - i)

/-- Eight bits at a time, most significant first: the bytes of a bit stream, padded with zero bits. -/
def packBits : Nat → List Bool → List Byte
  | 0, _ => []
  | n + 1, bs => BitVec.ofNat 8 (ofBits ((bs.take 8) ++ List.replicate (8 - (bs.take 8).length) false)) ::
      packBits n (bs.drop 8)

/-- The polynomial division step of the reflected CRC-32 of IEEE 802.3. -/
def crc32Bit (c : BitVec 32) : BitVec 32 :=
  if c.getLsbD 0 then (c >>> 1) ^^^ 0xEDB88320#32 else c >>> 1

/-- One byte into the CRC-32 register. -/
def crc32Byte (c : BitVec 32) (b : Byte) : BitVec 32 :=
  let c := c ^^^ (b.setWidth 32)
  crc32Bit (crc32Bit (crc32Bit (crc32Bit (crc32Bit (crc32Bit (crc32Bit (crc32Bit c)))))))

/-- The CRC-32 of R106: polynomial 0x04C1_1DB7, initial value and final XOR all ones, reflected. -/
def crc32 (bs : List Byte) : Nat := (~~~ bs.foldl crc32Byte (BitVec.allOnes 32)).toNat

/-- One bit into the CRC-16 of R220. -/
def crc16Bit (c : BitVec 16) (b : Bool) : BitVec 16 := if c.msb != b then (c <<< 1) ^^^ 0x1021#16 else c <<< 1

/-- The CRC-16 of R220 over bits in order: polynomial 0x1021, initial value all ones, no reflection, no final XOR. -/
def crc16 (bs : List Bool) : Nat := (bs.foldl crc16Bit (BitVec.allOnes 16)).toNat

/-- The header word of a bar message under an HSEQ (Table 11-2), with the CRC over header bits [39:16] and the body. -/
def barHeader (m : BarMsg) (hseq : Nat) : Word :=
  let h := m.kind % 16 * 2 ^ 20 + m.orig % 16 * 2 ^ 16 + m.words.length % 16 * 2 ^ 12 + m.hop % 16 * 2 ^ 8 + hseq % 256
  Word.of (h * 2 ^ 16 + crc16 (toBits 24 h ++ (m.words.map fun w => toBits 40 w.toNat).flatten))

/-- A bar message as it leaves a port (R220). -/
def barPkt (e hseq : Nat) (m : BarMsg) : Out := .bar e (barHeader m hseq) m.words

/-- A host-link packet (R254): the header with its HCRC, and the body closed by the CRC word. -/
def linkPkt (type seq : Nat) (body : List Word) : Out :=
  let h := type % 16 * 2 ^ 20 + seq % 256 * 2 ^ 12 + (body.length + 1) % 4096
  let crc := crc32 (bytesBE 3 h ++ (body.map fun w => bytesBE 5 w.toNat).flatten)
  .linkSend (Word.of (h * 2 ^ 16 + crc16 (toBits 24 h))) (body ++ [Word.of crc])

/-- A Kerf packet (R106): the body is followed by the CRC-32 over the TYPE byte and the body, least significant byte
first. -/
def kerfPkt (p type : Nat) (body : List Byte) : Out :=
  .kerf p type (body ++ (bytesBE 4 (crc32 (BitVec.ofNat 8 type :: body))).reverse)

/-- Two 4-bit entries to a byte, the even one in bits [7:4]. -/
def packNibbles : List Nat → List Byte
  | a :: b :: t => BitVec.ofNat 8 (a % 16 * 16 + b % 16) :: packNibbles t
  | [a] => [BitVec.ofNat 8 (a % 16 * 16)]
  | [] => []

/-- LINE packet of launch line `n` (Table 05-6): the 200 dot words, bits [39:32] first. -/
def linePkt (p n : Nat) (words : List Word) : Out :=
  kerfPkt p 1 (bytesBE 3 n ++ 0 :: (words.map fun w => bytesBE 5 w.toNat).flatten)

/-- TABLE packet (Table 05-6): bank, table and segment in byte 0, then 500 entries. -/
def tablePkt (p bank tbl seg : Nat) (entries : List Nat) : Out :=
  kerfPkt p 2 (BitVec.ofNat 8 (128 * bank + 16 * tbl + seg) :: 0 :: packNibbles entries)

/-- WAVE packet (Table 05-6): set, segment, 256 bytes of the image. -/
def wavePkt (p set seg : Nat) (bytes : List Byte) : Out := kerfPkt p 3 (BitVec.ofNat 8 set :: BitVec.ofNat 8 seg :: bytes)

/-- CMD packet (Table 05-6): code and argument. -/
def cmdPkt (p code arg : Nat) : Out := kerfPkt p 4 (BitVec.ofNat 8 code :: bytesBE 3 arg)

/-- Word `k` (2 bits) of a dot word (R5). -/
def dotField (w : Word) (k : Nat) : Nat := w.toNat / 2 ^ (2 * k) % 4

/-- Column or channel `c` of a line of 200 dot words. -/
def lineDot (ws : List Word) (c : Nat) : Nat := dotField (ws.getD (c / 20) 0) (c % 20)

/-- The dot word that twenty 2-bit values spell, the first in bits [1:0]. -/
def packDots (vs : List Nat) : Word := Word.of (vs.foldr (fun v a => a * 4 + v % 4) 0)

/-- 200 dot words from a value for every column or channel. -/
def packLine (f : Nat → Nat) : List Word :=
  (List.range 200).map fun j => packDots ((List.range 20).map fun k => f (20 * j + k))

/-! ### The outbox and free values -/

/-- Record what leaves the chip. -/
def State.emit (s : State) (o : Out) : State := { s with out := s.out ++ [o] }

/-- Draw a free value: the machine goes on with a value the spec leaves undefined.
(DESIGN CHOICE, log entry 7.) -/
def State.draw (s : State) : BitVec 64 × State := (Config.freeWord s.freeCtr, { s with freeCtr := s.freeCtr + 1 })

/-! ### Domains and resets -/

/-- The state of power domain d in SYS_PDSTAT (Table 16-9): 0 off, 1 switching on, 2 on, 3 switching off. -/
def State.pdState (s : State) (d : Nat) : Nat := s.fld SYS_PDSTAT.STATE / 2 ^ (2 * (9 - d)) % 4

/-- Power domain d works: it is on and not under BIST (R328, R386). -/
def State.pdOn (s : State) (d : Nat) : Bool :=
  s.pdState d == 2 && !(s.on BIST_STAT.STATE && s.fld BIST_STAT.DOM == d)

/-- The bit of block b in a pair of registers of 40 bits (SYS_BLKRST, SYS_RSTPEND; R307). -/
def State.blkBit (s : State) (r0 r1 : Reg) (b : Nat) : Bool :=
  if b < 40 then (s.reg r0).getLsbD b else (s.reg r1).getLsbD (b - 40)

/-- Set the bit of block b in a pair of registers. -/
def State.setBlkBit (s : State) (r0 r1 : Reg) (b : Nat) (v : Bool) : State :=
  let r := if b < 40 then r0 else r1
  let m : Word := 1#40 <<< (if b < 40 then b else b - 40)
  s.setReg r (if v then s.reg r ||| m else s.reg r &&& ~~~ m)

/-- The release of block b is pending (R309). -/
def State.blkPend (s : State) (b : Nat) : Bool := s.blkBit SYS_RSTPEND0 SYS_RSTPEND1 b

/-- Block b is held in its reset: its bit is set, or its release is pending (R307, R309). -/
def State.blkHeld (s : State) (b : Nat) : Bool := s.blkBit SYS_BLKRST0 SYS_BLKRST1 b || s.blkPend b

/-- Do something when a condition holds; otherwise the state stays.
(DEDUCED, log entry 6.) -/
def State.when (s : State) (c : Bool) (f : State → State) : State := if c then f s else s

/-- Fold an effect over the numbers below `n`, in ascending order. -/
def forTo (n : Nat) (f : Nat → State → State) (s : State) : State :=
  (List.range n).foldl (fun s i => f i s) s

/-- Fold an effect over a list, in order. -/
def forIn' {α : Type} (l : List α) (f : α → State → State) (s : State) : State :=
  l.foldl (fun s a => f a s) s

/-- A word with some fields replaced.
(DEDUCED, log entry 22.) -/
def putFields (w : Word) (l : List (Fld × Nat)) : Word := l.foldl (fun w e => e.1.ins w e.2) w

end Sys2Proof.Machine
end

