-- ==== Sys2Proof/Machine/Flags.lean ====
section
/-! DEFINITION. Flags: the rule by which every flag is set (R8 to R10), its Tally counter (R9, R429) and its EVENT packet
(R261, R262); the web position every stamp is taken from (R38, R39). -/

namespace Sys2Proof.Machine

/-! ### The web position -/

/-- The encoder channel that drives the position (POS_CTL.SRC 0 or 1). -/
def State.srcCh (s : State) : Nat := s.fld POS_CTL.SRC

/-- The chip takes its position from bar-link beacons (POS_CTL.SRC = 0b10). -/
def State.follows (s : State) : Bool := s.fld POS_CTL.SRC == 2

/-- FILT of the source channel plus EXTRA, in cycles (R33); 0 on a follower (R223). -/
def State.latComp (s : State) : Nat :=
  if s.follows then 0 else s.fld POS_ENCCFG.FILT s.srcCh + s.fld POS_LATCOMP.EXTRA

/-- A position estimate projected by `n` cycles at its velocity (R38). -/
def projected (est vel : BitVec 56) (n : Int) : Word :=
  let p : Int := est.toNat + (vel.toInt * n) / 64
  Word.of (unsigned 56 p / 2 ^ 16)

/-- The position projected by `c` cycles beyond this one (R38). -/
def State.posAt (s : State) (c : Int) : Word := projected s.pos.est s.pos.vel (s.pos.k + c)

/-- The position that the cycle before this one projected by `c` cycles (R181: prev). -/
def State.posWas (s : State) (c : Int) : Word := projected s.pos.was.1 s.pos.was.2.1 (s.pos.was.2.2 + c)

/-- pos_out (R38, R39): the web position of this cycle. -/
def State.posOut (s : State) : Word := s.posAt s.latComp

/-- The fire position of a port with latency `lat` (R96). -/
def State.firePos (s : State) (lat : Nat) : Word := s.posAt (s.latComp + lat)

/-- A rail monitor reads good: 7 VAON, 6 VDD, 5 VDDA_PLL, 4 VDDQ, 3 VDDA_LANE, 2 VDDT_LANE, 1 VDDIO_33, 0 VDDIO_18 (R324).
While it does not, the inputs of the rail are ignored (R401).
(DEDUCED, log entry 216.) -/
def State.railOk (s : State) (r : Nat) : Bool := (s.fld SYS_SUPSTAT.RAIL_OK).testBit r

/-- POS_STAT.UNCERTAIN: UNCERT of the source channel is not zero; on a follower as the last beacon said (R224). -/
def State.uncertain (s : State) : Bool :=
  if s.follows then s.on POS_STAT.UNCERTAIN else s.fld POS_ENCSTAT.UNCERT s.srcCh != 0

/-- The web position moves: the position unit is in ACQUIRE or LOCKED. In OFF and in FAULTY it stands still (R41, R43), so
that no position is reached. -/
def State.moves (s : State) : Bool := s.fld POS_STAT.STATE == 1 || s.fld POS_STAT.STATE == 2

/-- A target can be reached by the position taken `lead` cycles ahead: the web moves, and the target does not lie behind the
web already, that is, at or before that position of the previous cycle (R30, R181). That the position comes to it in this
cycle is the event's own word.
(DEDUCED, log entry 6; DEDUCED, log entry 213.) -/
def State.comesTo (s : State) (lead : Nat) (target : Word) : Bool :=
  s.moves && !atOrAfter (s.posWas (s.latComp + lead)) target

/-! ### Flag registers -/

/-- A flag register: its enable register and the place of its counters in the Tally (Table 24-3). -/
structure FlagRow where
  flag : Reg
  en : Reg
  base : Nat
  stride : Nat
  deriving DecidableEq, Repr

/-- Table 24-3, with the enable register of each flag register. -/
def flagRows : List FlagRow :=
  [⟨SYS_FLAG, SYS_FLAGEN, 0, 0⟩,
   ⟨SYS_JOBQ_FLAG, SYS_JOBQ_FLAGEN, 16, 0⟩,
   ⟨SYS_PWRFLAG, SYS_PWRFLAGEN, 32, 0⟩,
   ⟨SYS_HPFLAG, SYS_HPFLAGEN, 48, 0⟩,
   ⟨CFG_FLAG, CFG_FLAGEN, 64, 0⟩,
   ⟨TXN_FLAG, TXN_FLAGEN, 80, 0⟩,
   ⟨POS_FLAG, POS_FLAGEN, 96, 0⟩,
   ⟨CODEC_FLAG, CODEC_FLAGEN, 112, 0⟩,
   ⟨SKID_FLAG, SKID_FLAGEN, 128, 0⟩,
   ⟨FIRE_GFLAG, FIRE_GFLAGEN, 144, 0⟩,
   ⟨FIRE_OVSP_FLAG, FIRE_OVSP_FLAGEN, 160, 0⟩,
   ⟨FIRE_SCANFLAG, FIRE_SCANFLAGEN, 176, 0⟩,
   ⟨CAL_FLAG, CAL_FLAGEN, 192, 0⟩,
   ⟨VIS_SCFLAG, VIS_SCFLAGEN, 208, 0⟩,
   ⟨BAR_FLAG, BAR_FLAGEN, 224, 0⟩,
   ⟨HLNK_FLAG, HLNK_FLAGEN, 240, 0⟩] ++
  [⟨DRAM_FLAG, DRAM_FLAGEN, 256, 0⟩,
   ⟨WARD_FLAG, WARD_FLAGEN, 272, 0⟩,
   ⟨LITE_FLAG, LITE_FLAGEN, 288, 0⟩,
   ⟨BIST_FLAG, BIST_FLAGEN, 304, 0⟩,
   ⟨GDMA_FLAG, GDMA_FLAGEN, 320, 0⟩,
   ⟨ETH_FLAG, ETH_FLAGEN, 336, 0⟩,
   ⟨POS_ENCFLAG, POS_ENCFLAGEN, 352, 8⟩,
   ⟨FIRE_PORTFLAG, FIRE_PORTFLAGEN, 368, 16⟩,
   ⟨FIRE_THFLAG, FIRE_THFLAGEN, 1136, 4⟩,
   ⟨VIS_PFLAG, VIS_PFLAGEN, 1328, 16⟩,
   ⟨VIS_KFLAG, VIS_KFLAGEN, 1456, 4⟩,
   ⟨HLNK_LFLAG, HLNK_LFLAGEN, 1472, 8⟩,
   ⟨BAR_LFLAG, BAR_LFLAGEN, 1536, 8⟩,
   ⟨MOT_FLAG, MOT_FLAGEN, 1568, 16⟩,
   ⟨LITE_CHFLAG, LITE_CHFLAGEN, 1696, 8⟩,
   ⟨DISP_FLAG, DISP_FLAGEN, 1824, 8⟩,
   ⟨GDMA_CHFLAG, GDMA_CHFLAGEN, 1840, 8⟩]

/-- The row of a flag register. -/
def flagRow? (r : Reg) : Option FlagRow := flagRows.find? fun x => x.flag = r

/-- The flag register that an enable register serves. -/
def flagOfEn? (r : Reg) : Option FlagRow := flagRows.find? fun x => x.en = r

/-! ### Setting a flag -/

/-- One bit of a word set. -/
def setBit (w : Word) (b : Nat) : Word := w ||| (1#40 <<< b)

/-- Bit `b` of element `i` of a flag register set, and its Tally counter advanced (R8, R9). -/
def State.markFlag (s : State) (r : FlagRow) (b i : Nat) : State :=
  let t := r.base + i * r.stride + b
  let s := s.setReg TALLY_CNT (s.reg TALLY_CNT t + 1) t
  s.setReg r.flag (setBit (s.reg r.flag i) b) i

/-- The EVENT packet of a flag: its Tally index, the stamp, INFO and UNCERTAIN of the occurrence that set it, its count
(R261, R45). -/
def State.evtOf (s : State) (t : Nat) : EvtPkt :=
  let e := SMap.get (0, 0, false) s.evt t
  { idx := t, uncertain := e.2.2, stamp := e.1, info := e.2.1, count := s.reg TALLY_CNT t }

/-- The stamp, INFO and UNCERTAIN of the occurrence that sets a flag: the stamp its chapter defines, else pos_out (R261),
and the UNCERTAIN bit at the time of the event (R45).
(DEDUCED, log entry 30.) -/
def State.keepEvt (s : State) (t : Nat) (stamp : Option Word) (info : Word) : State :=
  { s with evt := SMap.set (0, 0, false) s.evt t (stamp.getD s.posOut, info, s.uncertain) }

/-- A write has cleared bits of a flag register in this cycle (R8). -/
def State.noteClear (s : State) (r : FlagRow) (i : Nat) (gone : Word) : State :=
  let l := ((List.range 16).filter fun b => gone.getLsbD b).map fun b => r.base + i * r.stride + b
  if l = [] then s else { s with clrNow := (s.cycle, (if s.clrNow.1 = s.cycle then s.clrNow.2 else []) ++ l) }

/-- A write has cleared the flag of a Tally index in this cycle: a set wins over it, and the flag stays set (R8).
(DEDUCED, log entry 208.) -/
def State.clearing (s : State) (t : Nat) : Bool := s.clrNow.1 == s.cycle && s.clrNow.2.contains t

/-- The row of HLNK_FLAG. -/
def hlnkFlagRow : FlagRow := ⟨HLNK_FLAG, HLNK_FLAGEN, 240, 0⟩

/-- The Tally index of HLNK_FLAG.EVQ_OVF. -/
def evqOvfIdx : Nat := hlnkFlagRow.base + HLNK_FLAG.EVQ_OVF.lo

/-- Queue an EVENT packet (R262): with 511 queued it is discarded and EVQ_OVF is set; the last entry is kept for the
packet of EVQ_OVF itself. -/
def State.queueEvent (s : State) (e : EvtPkt) : State :=
  if s.hlnk.evq.length < 511 ∨ (e.idx = evqOvfIdx ∧ s.hlnk.evq.length < 512) then { s with hlnk := { s.hlnk with evq := s.hlnk.evq ++ [e] } }
  else
    let t := evqOvfIdx
    let was := s.on HLNK_FLAG.EVQ_OVF || s.clearing t
    let s := s.markFlag hlnkFlagRow HLNK_FLAG.EVQ_OVF.lo 0
    let s := if was then s else s.keepEvt t none 0
    if s.on HLNK_FLAGEN.EVQ_OVF && !was && decide (s.hlnk.evq.length < 512) then
      { s with hlnk := { s.hlnk with evq := s.hlnk.evq ++ [s.evtOf t] } }
    else s

/-- An occurrence of a flag's condition (R8 to R10, R261): the bit is set, its Tally counts, and the packet is queued
when the enabled flag passes from clear to set; one that wins over a clear of its cycle finds the flag set. `k` selects a
bit of a field of several bits. -/
def State.raiseAt (s : State) (f : Fld) (i : Nat) (k : Nat) (stamp : Option Word) (info : Word) : State :=
  match flagRow? f.reg with
  | none => s
  | some r =>
    let b := f.lo + k
    let t := r.base + i * r.stride + b
    let was := (s.reg r.flag i).getLsbD b || s.clearing t
    let s := s.markFlag r b i
    let s := if was then s else s.keepEvt t stamp info
    if (s.reg r.en i).getLsbD b && !was then s.queueEvent (s.evtOf t) else s

/-- Set a flag with pos_out of the cycle as its stamp.
(DEDUCED, log entry 183.) -/
def State.raise (s : State) (f : Fld) (i : Nat := 0) : State := s.raiseAt f i 0 none 0

/-- Set a flag whose chapter defines its stamp. -/
def State.raiseS (s : State) (f : Fld) (i : Nat) (stamp : Word) : State := s.raiseAt f i 0 (some stamp) 0

/-- Capture into a register only while a flag is clear. -/
def State.captureIf (s : State) (c : Bool) (g : State → State) : State := if c then g s else s

/-- EVENT_N is driven low: an enabled flag is set (R10). -/
def State.eventNLow (s : State) : Bool :=
  (s.fld CFG_STAT.STATE == 4 || s.fld CFG_STAT.STATE == 6) && flagRows.any fun r => (List.range (max r.flag.n1 1)).any fun i => s.reg r.flag i &&& s.reg r.en i != 0

end Sys2Proof.Machine
end

