-- ==== Sys2Proof/Machine/Dram.lean ====
section
/-! DEFINITION. The memory controller (spec/13_dram_controller.md): one read and one write operation that every client
uses, with the checks, the code, the poison, the clients' allowances, the write queues and the page predictor. -/

namespace Sys2Proof.Machine

/-! ### Geometry (R265 to R267) -/

/-- log2 of the installed capacity that WIDTH, DENS and RANKS name; 0 outside Table 13-1.
(DESIGN CHOICE, log entry 35.) -/
def geomSize (width dens ranks : Nat) : Nat :=
  match width, dens, ranks with
  | 0, 0, 0 => 35
  | 0, 0, 1 => 36
  | 0, 1, 0 => 36
  | 1, 0, 0 => 36
  | _, _, _ => 0

/-- The installed capacity in bytes, 2^SIZE (R267). -/
def State.dramCap (s : State) : Nat := 2 ^ s.fld DRAM_GEOM.SIZE

/-- The subchannel of a byte address (Table 13-2). -/
def subch (a : Nat) : Nat := a / 64 % 4

/-- The address above the burst index within the row: bank group, bank, rank, row (Table 13-2). -/
def State.aboveRow (s : State) (a : Nat) : Nat := a / 2 ^ (8 + if s.on DRAM_GEOM.WIDTH then 7 else 6)

/-- The rank of an address. -/
def State.dRank (s : State) (a : Nat) : Nat := if s.on DRAM_GEOM.RANKS then s.aboveRow a / 32 % 2 else 0

/-- The row of an address. -/
def State.dRow (s : State) (a : Nat) : Nat := s.aboveRow a / (if s.on DRAM_GEOM.RANKS then 64 else 32)

/-- The hashed bank group of an address (R266). -/
def State.dGroup (s : State) (a : Nat) : Nat := Nat.xor (s.aboveRow a % 8) (s.dRow a % 8)

/-- The hashed bank of an address (R266). -/
def State.dBank (s : State) (a : Nat) : Nat := Nat.xor (s.aboveRow a / 8 % 4) (s.dRow a / 8 % 4)

/-- The key of the bank an address lies in: subchannel, rank, group, bank. -/
def State.bankKey (s : State) (a : Nat) : Nat := ((subch a * 2 + s.dRank a) * 8 + s.dGroup a) * 4 + s.dBank a

/-! ### Code words (R268, R269) -/

/-- Code word `cw` lies in an area that holds the check pattern (R278).
(DEDUCED, log entry 170.) -/
def State.inPattern (s : State) (cw : Nat) : Bool := s.dram.pat.any fun a => decide (a ≤ cw * 8 ∧ cw * 8 < a + 16384)

/-- Wrong bits of code word `cw` (its byte address divided by 8) as it would decode now.
(DESIGN CHOICE, log entry 13.) -/
def State.cwErr (s : State) (cw : Nat) : Nat :=
  match s.dram.undef with
  | none => SMap.get 0 s.dram.damage cw
  | some era =>
    if SMap.get 0 s.dram.known cw = 0 ∧ s.inPattern cw = false then Config.dramDecode era cw
    else SMap.get 0 s.dram.damage cw

/-- The canonical form of the DRAM contents: byte addresses strictly rising, no entry equal to the 0 that an unlisted
address of an initialised memory reads as. -/
def Memory.wf (m : List Host.Cell) : Bool := SMap.wf 0 m

/-- The byte at an address as the devices hold it.
(DESIGN CHOICE, log entry 13; DESIGN CHOICE, log entry 141.) -/
def State.dramByte (s : State) (a : Nat) : Byte :=
  match s.dram.undef with
  | none => SMap.get 0 s.dram.mem a
  | some era =>
    if SMap.get 0 s.dram.known (a / 8) = 1 then SMap.get 0 s.dram.mem a
    else if s.inPattern (a / 8) then 0xAA
    else Config.dramByte era a

/-- A run of bytes as the devices hold it. -/
def State.dramBytes (s : State) (a n : Nat) : List Byte :=
  match s.dram.undef with
  | none => SMap.range 0 s.dram.mem a n
  | some _ => (List.range' a n).map s.dramByte

/-- A code word counts as known in an era of undefined contents: 1 written, 2 read and corrected. -/
def State.learn (s : State) (cw v : Nat) : State :=
  match s.dram.undef with
  | none => s
  | some _ => { s with dram := { s.dram with known := SMap.set 0 s.dram.known cw v } }

/-- Set the wrong bits of a code word. -/
def State.setDamage (s : State) (cw n : Nat) : State :=
  { s with dram := { s.dram with damage := SMap.set 0 s.dram.damage cw n } }

/-- The flags and the captures of a code word read with `n` wrong bits (R268, R269): a correction overwrites its capture,
an uncorrectable word is captured while UNCORR is clear. -/
def State.noteCw (s : State) (client cw n : Nat) : State :=
  let a := cw * 8
  if n = 0 then s
  else if n ≤ 2 then
    let s := s.raise DRAM_FLAG.CORR
    let s := s.setFld DRAM_CEADDR.ADDR a
    ((((s.setFld DRAM_CEINFO.CLIENT client).setFld DRAM_CEINFO.SUBCH (subch a)).setFld DRAM_CEINFO.RANK
      (s.dRank a)).setFld DRAM_CEINFO.WORD (cw % 8)).setFld DRAM_CEINFO.NBITS n
  else
    let clear := !s.on DRAM_FLAG.UNCORR
    let s := s.raise DRAM_FLAG.UNCORR
    s.when clear fun s =>
      ((((s.setFld DRAM_ERRADDR.ADDR a).setFld DRAM_ERRINFO.CLIENT client).setFld DRAM_ERRINFO.SUBCH
        (subch a)).setFld DRAM_ERRINFO.RANK (s.dRank a)).setFld DRAM_ERRINFO.WORD (cw % 8)

/-- The stored code word has `n` wrong bits from now on: damage shows, or a correction is written back. -/
def State.putErr (s : State) (cw n : Nat) : State :=
  (s.setDamage cw n).when (decide (SMap.get 0 s.dram.known cw = 0)) (·.learn cw 2)

/-- A code word read with `n` wrong bits is corrected in the memory when it can be (R268). -/
def State.healCw (s : State) (cw n : Nat) : State := s.when (decide (0 < n) && decide (n ≤ 2)) (·.putErr cw 0)

/-- Decode one code word for a client (R268, R269): nothing, a correction with its capture and write-back, or an
uncorrectable word with the capture of the first. Answers whether it is clean enough to deliver. -/
def State.decodeCw (s : State) (client cw : Nat) : State × Bool :=
  let n := s.cwErr cw
  ((s.noteCw client cw n).healCw cw n, decide (n ≤ 2))

/-- Decode the eight code words of a burst in order. -/
def State.decodeBurst (s : State) (client burst : Nat) : State × Bool :=
  (List.range 8).foldl (fun (p : State × Bool) i =>
    let r := p.1.decodeCw client (burst * 8 + i)
    (r.1, p.2 && r.2)) (s, true)

/-! ### Clients and their allowances (R276) -/

/-- The class of a client: 0 RT, 1 ISO, 2 BULK (a reserved value is BULK). -/
def State.cliClass (s : State) (c : Nat) : Nat := min 2 (s.fld DRAM_CLI.CLASS c)

/-- What a client's allowance lacks of its whole bucket now, in 1/1200 burst: RATE bursts per µs are RATE of these a
CK_CORE cycle. -/
def State.lacking (s : State) (c : Nat) : Nat :=
  let e := SMap.get (0, 0) s.dram.spent c
  e.1 - min 1200 (s.fld DRAM_CLI.RATE c) * (s.cycle - e.2)

/-- A burst of a client is within its allowance. -/
def State.allowed (s : State) (c : Nat) : Bool :=
  decide (s.lacking c + 1200 ≤ 1200 * max 1 (s.fld DRAM_CLI.BUCKET c))

/-- A burst of a client is served: it takes one from its allowance, if that holds one. -/
def State.spend (c : Nat) (s : State) : State :=
  let e := (s.lacking c + if s.allowed c then 1200 else 0, s.cycle)
  { s with dram := { s.dram with spent := SMap.set (0, 0) s.dram.spent c e } }

/-! ### The queues and the page policy (R272, R274, R276) -/

/-- A read waits in its read queue. -/
def DRead.waits (d : DRead) : Bool := d.entered && d.answer.isNone

/-- An older read of a queued write's burst waits: the write is not issued before that read's column command (R272). -/
def State.readBefore (s : State) (w : DWr) : Bool :=
  s.dram.rq.any fun d => d.waits && d.burst == w.burst && decide (d.ser < w.ser)

/-- The write queue of a subchannel, oldest first. -/
def State.wq (s : State) (q : Nat) : List DWr := SMap.get [] s.dram.wq q

/-- Set a write queue. -/
def State.setWq (s : State) (q : Nat) (l : List DWr) : State :=
  { s with dram := { s.dram with wq := SMap.set [] s.dram.wq q l } }

/-- A bank. -/
def State.bank (s : State) (k : Nat) : DBank := SMap.get DBank.reset s.dram.banks k

/-- Set a bank. -/
def State.setBank (s : State) (k : Nat) (b : DBank) : State :=
  { s with dram := { s.dram with banks := SMap.set DBank.reset s.dram.banks k b } }

/-- The rows that the queued requests for bank `k` target. -/
def State.queuedRows (s : State) (k : Nat) : List Nat :=
  (((s.dram.rq.filter fun d => d.waits).map fun d => d.burst) ++ (s.wq (k / 64)).map fun w => w.burst).filterMap fun b =>
    if s.bankKey (b * 64) = k then some (s.dRow (b * 64)) else none

/-- The predictor after an access to `row` (Table 13-5). -/
def DBank.nextP (b : DBank) (row : Nat) : Nat :=
  match b.openRow with
  | some r => if r = row then min 3 (b.p + 1) else b.p - 1
  | none => if b.byPred then (if b.lastRow = row then min 3 (b.p + 1) else b.p - 1) else b.p

/-- A bank after a column access to `row`, queued requests for the bank targeting `rows` (R274). -/
def DBank.access (b : DBank) (mode row : Nat) (rows : List Nat) : DBank :=
  if mode = 1 then { b with openRow := some row, byPred := false }
  else if mode = 2 then { b with openRow := none, lastRow := row, byPred := false }
  else
    let p := b.nextP row
    if row ∈ rows then { openRow := some row, lastRow := row, byPred := false, p := p }
    else if rows ≠ [] then { openRow := none, lastRow := row, byPred := false, p := p }
    else if 2 ≤ p then { openRow := some row, lastRow := row, byPred := false, p := p }
    else { openRow := none, lastRow := row, byPred := true, p := p }

/-- The column access of a burst, which is in no queue any more: its bank's page policy. -/
def State.touch (s : State) (a : Nat) : State :=
  let k := s.bankKey a
  s.setBank k ((s.bank k).access (s.fld DRAM_PAGE.MODE) (s.dRow a) (s.queuedRows k))

/-- A queued write is issued to the devices. One that does not cover its burst is preceded by the read of its
read-modify-write, whose code words are flagged then (R270, R273).
(DEDUCED, log entry 207.) -/
def State.issueWrite (w : DWr) (s : State) : State :=
  let s := s.setWq (w.burst % 4) ((s.wq (w.burst % 4)).erase w)
  let s := s.when (w.errs != []) (·.touch (w.burst * 64))
  let s := forIn' w.errs.zipIdx (fun e s => s.noteCw w.client (w.burst * 8 + e.2) e.1) s
  s.touch (w.burst * 64)

/-- The oldest `n` queued writes of a subchannel are issued, oldest first, but for those whose burst an older read still
waits for (R272).
(DEDUCED, log entry 171.) -/
def State.issueWrites (s : State) (q n : Nat) : State :=
  forIn' (((s.wq q).take n).filter fun w => !s.readBefore w) State.issueWrite s

/-- The level a drain ends at: LO, or HI − 1 when LO is not below HI. -/
def State.wqLo (s : State) : Nat :=
  if s.fld DRAM_WQ.LO < s.fld DRAM_WQ.HI then s.fld DRAM_WQ.LO else s.fld DRAM_WQ.HI - 1

/-- At HI bursts a write queue is drained down to LO. -/
def State.wqDrain (s : State) (q : Nat) : State :=
  let n := (s.wq q).length
  if s.fld DRAM_WQ.HI ≤ n then s.issueWrites q (n - s.wqLo) else s

/-- How many queued writes there are up to and including the youngest to a burst that is older than `ser`; none when none
matches. -/
def matchDepth (burst ser : Nat) (l : List DWr) : Nat :=
  let hit (w : DWr) : Bool := w.burst == burst && decide (w.ser < ser)
  if l.any hit then l.length - (l.reverse.takeWhile fun w => !hit w).length else 0

/-- A read of a burst drains the queued writes up to and including the youngest older one that matches. -/
def State.drainFor (s : State) (burst ser : Nat) : State :=
  s.issueWrites (burst % 4) (matchDepth burst ser (s.wq (burst % 4)))

/-- No older write of a read's burst is queued any more: the read may be issued (R272). -/
def State.readReady (s : State) (d : DRead) : Bool :=
  d.waits && !(s.wq (d.burst % 4)).any fun w => w.burst == d.burst && decide (w.ser < d.ser)

/-- The next serial number of a request. -/
def State.serial (s : State) : State × Nat :=
  ({ s with dram := { s.dram with ser := s.dram.ser + 2 } }, s.dram.ser + 2)

/-! ### Requests (R267, R272, R278, R279) -/

/-- A transfer ended by block b's wrapper, `n` times (R308).
(DEDUCED, log entry 27.) -/
def State.isoCount (s : State) (b n : Nat) : State :=
  forTo n (fun _ s => s.raise SYS_FLAG.ISO_ERR) (s.setReg SYS_ISOCNT (s.reg SYS_ISOCNT b + Word.of n) b)

/-- Why a request is not sent to memory: the flag it sets (none where the domain is off). -/
inductive DGate where
  | go | notReady | lost | range | dark
  deriving DecidableEq, Repr

/-- The gate a request meets (R278, R279, R267): outside RUN and SELFREF NOT_READY, whether the block is held or not. -/
def State.dramGate (s : State) (addr n : Nat) : DGate :=
  let st := s.fld DRAM_STAT.STATE
  if !s.pdOn 7 then .dark
  else if st = 5 || (st = 4 && s.blkHeld 54) then .lost
  else if st ≠ 4 then .notReady
  else if s.dramCap < addr + n then .range
  else .go

/-- The flag of a gate; a request that the wrapper refuses counts as a transfer it ended (R279, R308).
(DEDUCED, log entry 138.) -/
def State.gateFlag (s : State) : DGate → State
  | .notReady => s.raise DRAM_FLAG.NOT_READY
  | .lost => (s.raise DRAM_FLAG.LOST).isoCount 54 1
  | .range => s.raise DRAM_FLAG.RANGE
  | _ => s

/-- The bursts a range of bytes touches. -/
def burstsOf (addr n : Nat) : List Nat :=
  if n = 0 then [] else List.range' (addr / 64) ((addr + n + 63) / 64 - addr / 64)

/-- A burst read for a client while no read is queued: the matching writes drained, its code words decoded, its bank's page
policy. -/
def State.readBurst (s : State) (client burst : Nat) : State × Bool :=
  let d := (s.drainFor burst (s.dram.ser + 1)).decodeBurst client burst
  ((d.1.touch (burst * 64)).spend client, d.2)

/-- The code words a range of bytes covers. -/
def cwsOf (addr n : Nat) : List Nat := if n = 0 then [] else List.range' (addr / 8) ((addr + n + 7) / 8 - addr / 8)

/-- Code word `cw` is written: a read that waits for it returns the earlier data, and writes no correction back (R272,
R273). -/
def DRead.markNewer (cw : Nat) (d : DRead) : DRead :=
  if d.waits && d.burst == cw / 8 && !d.newer.contains (cw % 8) then { d with newer := cw % 8 :: d.newer } else d

/-- The reads that wait for a code word count it as written since they entered. -/
def State.ageReads (cw : Nat) (s : State) : State :=
  { s with dram := { s.dram with rq := s.dram.rq.map (DRead.markNewer cw) } }

/-- Code word `cw` takes new contents, sound and known. -/
def State.renewCw (cw : Nat) (s : State) : State := ((s.setDamage cw 0).learn cw 1).ageReads cw

/-- A committed write overlaps a latched, enabled layer of a display output (R381).
(DEDUCED, log entry 79.) -/
def DLayer.hit (l : DLayer) (addr n : Nat) : Bool :=
  l.en && decide (addr < l.base * 16 + l.stride * 16 * l.h) && decide (l.base * 16 < addr + n)

/-- A display output. -/
def State.dout (s : State) (o : Nat) : DOut := SMap.get DOut.reset s.disp o

/-- Set a display output. -/
def State.setDout (s : State) (o : Nat) (d : DOut) : State := { s with disp := SMap.set DOut.reset s.disp o d }

/-- The frame of an output still has lines to fetch: its range watch runs (R381). -/
def DOut.watching (d : DOut) : Bool := d.scanning && decide (d.fetched < d.toFetch)

/-- The range watch of an output (R381): LAYER_EARLY with the capture of the first hit. -/
def State.watchRange (client addr n o : Nat) (s : State) : State :=
  let d := s.dout o
  match (if d.watching then d.layers.findIdx? fun l => l.hit addr n else none) with
  | none => s
  | some l =>
    let clear := !s.on DISP_FLAG.LAYER_EARLY o
    let hits := (List.range d.layers.length).filter fun i => (d.layers[i]?).any fun l => l.hit addr n
    let s := (s.raise DISP_FLAG.LAYER_EARLY o).setDout o { d with early := d.early ++ hits }
    s.when clear fun s =>
      ((s.setFld DISP_EARLYINFO.LAYER l o).setFld DISP_EARLYINFO.CLIENT client o).setFld DISP_EARLYINFO.ADDR
        (addr / 16) o

/-- The active line of an output that a burst in the range of one of its layers belongs to; a layer whose rows overlap
takes the first. -/
def DLayer.rowOf (l : DLayer) (addr : Nat) : Nat := l.y + (addr - l.base * 16) / (max 1 l.stride * 16)

/-- Bytes of an output's layers for active line `y` came poisoned: POISON, with the capture of the line and the frame, and
BG in their place (R383).
(DEDUCED, log entry 80; DEDUCED, log entry 83.) -/
def State.poisonLine (addr n o y : Nat) (s : State) : State :=
  let d := s.dout o
  let clear := !s.on DISP_FLAG.UNDERRUN o && !s.on DISP_FLAG.POISON o
  let line := s.fld DISP_VTIM.VSYNC o + s.fld DISP_VTIM.VBP o + y
  let s := (s.raise DISP_FLAG.POISON o).setDout o { d with bad := d.bad ++ [(addr, n)] }
  s.when clear fun s => (s.setFld DISP_ERRINFO.LINE line o).setFld DISP_ERRINFO.FRAME (s.fld DISP_STAT.FRAME o) o

/-- A poisoned answer to a read request of client 1 is a fetch of the lower output that scans a layer which holds the range
(R383).
(DEDUCED, log entry 83.) -/
def State.dispPoison (addr n : Nat) (s : State) : State :=
  let of (o : Nat) : Option DLayer :=
    if (s.dout o).scanning then (s.dout o).layers.find? fun l => l.hit addr n else none
  match of 0, of 1 with
  | some l, _ => s.poisonLine addr n 0 (l.rowOf addr)
  | none, some l => s.poisonLine addr n 1 (l.rowOf addr)
  | none, none => s

/-- A read answered poisoned: the display shows its pixels as BG, the Warden raises POISON (R269, R278, R337, R383).
(DEDUCED, log entry 83.) -/
def State.answerPoison (s : State) (client addr n : Nat) : State :=
  ((s.emit (.dramData client addr none)).when (client == 1) (State.dispPoison addr n)).when
    (client == 9) (·.raise WARD_FLAG.POISON)

/-! ### The read queues (R272, R273) -/

/-- How many reads wait in a read queue, which holds 64 (R272). -/
def State.rqCount (s : State) (q : Nat) : Nat := s.dram.rq.countP fun d => d.waits && d.burst % 4 == q

/-- Change the `i`-th read. -/
def State.updRead (s : State) (i : Nat) (f : DRead → DRead) : State :=
  { s with dram := { s.dram with rq := s.dram.rq.modify i f } }

/-- The write of this cycle, by a client of a higher index, that a read request of the same cycle goes before (R273).
(DEDUCED, log entry 208.) -/
def State.tieOf (s : State) (d : DRead) : Option DTie :=
  if d.eng || d.cyc != s.cycle || s.dram.tie.1 != s.cycle then none
  else s.dram.tie.2.find? fun t => t.burst == d.burst && decide (d.client < t.client)

/-- The `i`-th read enters its queue if there is room: the matching queued writes are drained, and it returns what is
committed now (R272), or what was before a write of its own cycle that it goes before (R273). -/
def State.enterRead (i : Nat) (s : State) : State :=
  match s.dram.rq[i]? with
  | none => s
  | some d =>
    if d.entered || decide (64 ≤ s.rqCount (d.burst % 4)) then s
    else match s.tieOf d with
      | some t =>
        s.updRead i fun d => { d with entered := true, ser := t.ser - 1, bytes := t.bytes, errs := t.errs
                                      newer := List.range 8 }
      | none =>
        let s := s.drainFor d.burst d.ser
        let bytes := s.dramBytes (d.burst * 64) 64
        let errs := (List.range' (d.burst * 8) 8).map s.cwErr
        s.updRead i fun d => { d with entered := true, bytes := bytes, errs := errs }

/-- Reads that wait for room enter, in the order of request. -/
def State.enterReads (s : State) : State := forTo s.dram.rq.length State.enterRead s

/-- A burst of a request of `n` bytes at `addr`, before it enters its queue. -/
def readPart (client addr n burst : Nat) : DRead :=
  let lo := max addr (burst * 64)
  { client := client, burst := burst, off := lo - burst * 64, n := min (addr + n) (burst * 64 + 64) - lo
    last := decide (addr + n ≤ burst * 64 + 64), entered := false, bytes := [], errs := [], newer := [], passed := 0
    answer := none, marks := [], ser := 0, cyc := 0, eng := false }

/-- A read takes its place behind the others. -/
def State.pushRead (d : DRead) (s : State) : State :=
  let r := s.serial
  { r.1 with dram := { r.1.dram with rq := r.1.dram.rq ++ [{ d with ser := r.2, cyc := s.cycle }] } }

/-- Reads are presented to the controller. -/
def State.askReads (s : State) (l : List DRead) : State := (forIn' l State.pushRead s).enterReads

/-! ### Scheduling and completion (R268, R269, R272, R276) -/

/-- The place of a client's request in the order of R276: 0 RT and 1 ISO within the allowance, 2 the weighted round
robin, 3 the scrubber. -/
def State.arbClass (s : State) (c : Nat) : Nat :=
  if c = 10 then 3 else if s.cliClass c < 2 && s.allowed c then s.cliClass c else 2

/-- The reads of a class that may be issued on subchannel `q`, oldest first: their places in the list. -/
def State.classReads (s : State) (q k : Nat) : List Nat :=
  (s.dram.rq.zipIdx.filter fun e => e.1.burst % 4 == q && s.readReady e.1 && s.arbClass e.1.client == k).map fun e => e.2

/-- The reads that may be taken before any other of their class is passed once too often: none younger than one that 16
have passed. -/
def State.notPassing (s : State) (l : List Nat) : List Nat :=
  l.take (l.findIdx (fun i => decide (16 ≤ ((s.dram.rq[i]?).map DRead.passed).getD 0)) + 1)

/-- Of the reads at these places, the first page hit, else the oldest. -/
def State.hitFirst (s : State) (l : List Nat) : Option Nat :=
  (l.find? fun i => match s.dram.rq[i]? with
    | some d => (s.bank (s.bankKey (d.burst * 64))).openRow == some (s.dRow (d.burst * 64))
    | none => false).or l.head?

/-- The client of the `i`-th read. -/
def State.readClient (s : State) (i : Nat) : Nat := ((s.dram.rq[i]?).map DRead.client).getD 0

/-- The client whose turn it is in the weighted round robin of a subchannel, among clients with a ready read. -/
def State.wrrClient (s : State) (q : Nat) (cs : List Nat) : Nat :=
  let t := SMap.get (0, 0) s.dram.turn q
  if 0 < t.2 ∧ t.1 ∈ cs then t.1 else (((List.range 12).map fun i => (t.1 + 1 + i) % 12).find? (· ∈ cs)).getD t.1

/-- The read chosen in class `k`.
(DEDUCED, log entry 147.) -/
def State.pickClass (s : State) (q : Nat) (busy : List Nat) (k : Nat) : Option Nat :=
  let l := (s.notPassing (s.classReads q k)).filter fun i =>
    match s.dram.rq[i]? with | some d => !busy.contains (s.bankKey (d.burst * 64) % 64) | none => false
  if k = 2 then
    let c := s.wrrClient q (l.map s.readClient)
    s.hitFirst (l.filter fun i => s.readClient i == c)
  else s.hitFirst l

/-- The read that the controller chooses on subchannel `q`, no access being possible to the banks `busy` (R276).
(DEDUCED, log entry 147.) -/
def State.pickRead (s : State) (q : Nat) (busy : List Nat) : Option Nat := (List.range 4).findSome? (s.pickClass q busy)

/-- The round robin moves on after a burst of a client, and every older read of the class counts one more that passed
it. -/
def State.turnTaken (s : State) (q i : Nat) : State :=
  let c := s.readClient i
  let k := s.arbClass c
  let s' := forIn' ((s.classReads q k).filter (· < i)) (fun j s => s.updRead j fun d => { d with passed := d.passed + 1 }) s
  if k = 2 then
    let t := SMap.get (0, 0) s.dram.turn q
    let left := if 0 < t.2 ∧ t.1 = c then t.2 else max 1 (s.fld DRAM_CLI.WEIGHT c)
    { s' with dram := { s'.dram with turn := SMap.set (0, 0) s.dram.turn q (c, left - 1) } }
  else s'

/-- Code word `j` of a read burst is decoded, the devices showing the wrong bits `errs` (code word, number) on the way;
a word written since the read entered comes as it was, and nothing is written back (R268, R269, R273). Its flags and
captures follow when the data is delivered, in the order of delivery (R268). -/
def State.serveCw (d : DRead) (errs : List (Nat × Nat)) (p : State × List (Nat × Nat)) (j : Nat) :
    State × List (Nat × Nat) :=
  let cw := d.burst * 8 + j
  let old := d.newer.contains j
  let n := (errs.lookup cw).getD (if old then d.errs.getD j 0 else p.1.cwErr cw)
  let s := p.1.when (!old && decide (n ≠ p.1.cwErr cw)) (·.putErr cw n)
  (s.when (!old) (·.healCw cw n), p.2 ++ [(cw, n)])

/-- The scrubber's read of the last burst of the capacity ends a pass (R271). -/
def State.scrubEnd (s : State) (burst : Nat) : State :=
  s.when (decide (s.dramCap ≤ burst * 64 + 64)) fun s => (s.setFld DRAM_SCRUBPOS.ADDR 0).raise DRAM_FLAG.SCRUB_DONE

/-- A client's oldest read, once served, is delivered. -/
def State.deliverOne (c : Nat) (s : State) : State :=
  match s.dram.rq.findIdx? (fun d => d.client == c) with
  | none => s
  | some i =>
    match s.dram.rq[i]? with
    | some { burst := b, off := off, n := n, answer := some a, marks := l, eng := eng, .. } =>
      let s : State := { s with dram := { s.dram with rq := s.dram.rq.eraseIdx i } }
      let s := forIn' l (fun m s => s.noteCw c m.1 m.2) s
      if eng then { s with dram := { s.dram with got := s.dram.got ++ [a] } }
      else if c = 10 then s.scrubEnd b
      else match a with
        | some bytes => s.emit (.dramData c (b * 64 + off) (some bytes))
        | none => s.answerPoison c (b * 64 + off) n
    | _ => s

/-- What a client can be given is delivered, in the order of its requests. -/
def State.deliverReads (s : State) (c : Nat) : State := forTo s.dram.rq.length (fun _ s => s.deliverOne c) s

/-- A bank closed by IDLE or by a refresh: the predictor stays (Table 13-5). -/
def State.closeBank (s : State) (k : Nat) : State :=
  let b := s.bank k
  match b.openRow with
  | none => s
  | some r => s.setBank k { b with openRow := none, lastRow := r, byPred := false }

/-- The ranks of a channel. -/
def State.ranks (s : State) : Nat := if s.on DRAM_GEOM.RANKS then 2 else 1

/-- A device command to every rank of every subchannel. -/
def State.toRanks (s : State) (code : Nat) : State :=
  forTo 4 (fun q s => forTo s.ranks (fun r s => s.emit (.dramCmd q code r)) s) s

/-- One REFsb on a subchannel and rank: the next bank index in turn, in every bank group. -/
def State.refreshOnce (q rank : Nat) (s : State) : State :=
  let key := q * 2 + rank
  let b := SMap.get 0 s.dram.refBank key
  let s := forTo 8 (fun g s => s.closeBank (((q * 2 + rank) * 8 + g) * 4 + b)) s
  let s := { s with dram := { s.dram with refBank := SMap.set 0 s.dram.refBank key ((b + 1) % 4) } }
  s.emit (.dramCmd q 0 (rank * 4 + b))

/-- The refreshes postponed on a subchannel and rank. -/
def State.owed (s : State) (q rank : Nat) : Nat := SMap.get 0 s.dram.owed (q * 2 + rank)

/-- Set the refreshes postponed. -/
def State.setOwed (s : State) (q rank n : Nat) : State :=
  { s with dram := { s.dram with owed := SMap.set 0 s.dram.owed (q * 2 + rank) n } }

/-- The banks that the next REFsb of a subchannel and rank refreshes are idle: no queued read targets them.
(DEDUCED, log entry 172.) -/
def State.refIdle (s : State) (q rank : Nat) : Bool :=
  let b := SMap.get 0 s.dram.refBank (q * 2 + rank)
  s.dram.rq.all fun d =>
    !(d.waits && s.bankKey (d.burst * 64) / 32 == q * 2 + rank && s.bankKey (d.burst * 64) % 4 == b)

/-- Postponed refreshes are made up while the banks are idle (R275). -/
def State.makeUp (q rank : Nat) (s : State) : State :=
  forTo (s.owed q rank) (fun _ s =>
    if 0 < s.owed q rank ∧ s.refIdle q rank then (s.setOwed q rank (s.owed q rank - 1)).refreshOnce q rank else s) s

/-- The writes that waited for a read of their burst are drained for the younger reads of it (R272). -/
def State.drainAgain (s : State) (burst : Nat) : State :=
  forIn' (s.dram.rq.filter fun d => d.waits && d.burst == burst) (fun d s => s.drainFor burst d.ser) s

/-- The `i`-th read is served: its eight code words are decoded, its bank's page policy follows, what can be delivered is,
reads that waited for room enter, and postponed refreshes are made up.
(DEDUCED, log entry 147.) -/
def State.serveRead (s : State) (q i : Nat) (errs : List (Nat × Nat)) : State :=
  match s.dram.rq[i]? with
  | none => s
  | some d =>
    let s := s.turnTaken q i
    let r := (List.range 8).foldl (State.serveCw d errs) (s, [])
    let bytes := if r.2.all fun m => decide (m.2 ≤ 2) then some ((d.bytes.drop d.off).take d.n) else none
    let s := (r.1.updRead i fun d => { d with answer := some bytes, marks := r.2 }).drainAgain d.burst
    let s := ((s.touch (d.burst * 64)).when (d.client != 10) (·.spend d.client)).wqDrain q
    let s := (s.deliverReads d.client).enterReads
    forTo s.ranks (fun r s => s.makeUp q r) s

/-- A scheduling opportunity on a subchannel: the read that the controller chooses, if any, is served.
(DEDUCED, log entry 147.)
(DEDUCED, log entry 133.) -/
def State.serveNext (s : State) (q : Nat) (busy : List Nat) (errs : List (Nat × Nat)) : State :=
  match s.pickRead q busy with
  | none => s
  | some i => s.serveRead q i errs

/-! ### Reads of the chip's own units -/

/-- The reads of a client go on until none of its own unit's is left: its oldest is waited for (R272, R276). -/
def State.runReads (client : Nat) (s : State) : State :=
  forTo s.dram.rq.length (fun _ s =>
    match (if s.dram.rq.any fun d => d.eng then s.dram.rq.find? fun d => d.client == client && d.answer.isNone else none) with
    | some d => s.serveNext (d.burst % 4) [] []
    | none => s) s

/-- A client read: the bytes, or none where the result is poisoned or refused (R267 to R269, R272). With no read queued its
bursts are served as they come; otherwise they take their turn among the others (R276).
(DEDUCED, log entry 207.) -/
def State.dramRead (s : State) (client addr n : Nat) : State × Option (List Byte) :=
  match s.dramGate addr n with
  | .go =>
    if s.dram.rq = [] then
      let r := (burstsOf addr n).foldl (fun (p : State × Bool) b =>
        let d := p.1.readBurst client b
        (d.1, p.2 && d.2)) (s, true)
      (r.1, if r.2 then some (r.1.dramBytes addr n) else none)
    else
      let s := (s.askReads ((burstsOf addr n).map fun b => { readPart client addr n b with eng := true })).runReads client
      let got := s.dram.got
      ({ s with dram := { s.dram with got := [] } },
        if got.all fun a => a.isSome then some (got.map fun a => a.getD []).flatten else none)
  | g => (s.gateFlag g, none)

/-! ### Writes (R270, R272) -/

/-- A write to a burst that it does not cover whole writes the other code words back as decoded, when they are correctable
(R270); answers the wrong bits of all eight, which its read will show.
(DEDUCED, log entry 207.) -/
def State.rmwWords (addr n b : Nat) (s : State) : State × List Nat :=
  if addr ≤ b * 64 && decide (b * 64 + 64 ≤ addr + n) then (s, [])
  else
    let errs := (List.range' (b * 8) 8).map s.cwErr
    let kept := (List.range' (b * 8) 8).filter fun cw => !(cwsOf addr n).contains cw
    (forIn' kept (fun cw s => (s.ageReads cw).healCw cw (s.cwErr cw)) s, errs)

/-- A write queue that holds 64 bursts has no room: a commit waits while the controller serves what it chooses next, until
a burst is issued (R272).
(DEDUCED, log entry 206.) -/
def State.makeRoom (q : Nat) (s : State) : State :=
  forTo s.dram.rq.length (fun _ s => if (s.wq q).length < 64 then s else s.serveNext q [] []) s

/-- A burst of a client's write is committed: it enters its write queue, which is drained at HI. -/
def State.writeBurst (client addr n b : Nat) (s : State) : State :=
  let r := State.rmwWords addr n b s
  let s := ((r.1.spend client).makeRoom (b % 4)).serial
  (s.1.setWq (b % 4) (s.1.wq (b % 4) ++ [{ client := client, burst := b, ser := s.2, errs := r.2 }])).wqDrain (b % 4)

/-- A write in whole code words (R270): in an era of undefined contents the covered code words take the bytes that the
write leaves alone as they were.
(DEDUCED, log entry 14.) -/
def State.wholeCws (s : State) (addr : Nat) (bytes : List Byte) : Nat × List Byte :=
  match s.dram.undef with
  | none => (addr, bytes)
  | some _ =>
    let lo := addr / 8 * 8
    let stop := addr + bytes.length
    (lo, s.dramBytes lo (addr - lo) ++ bytes ++ s.dramBytes stop ((stop + 7) / 8 * 8 - stop))

/-- The devices' contents after a write: the bytes, the covered code words whole and sound again.
(DEDUCED, log entry 14.) -/
def State.putDram (s : State) (addr : Nat) (bytes : List Byte) : State :=
  let whole := s.wholeCws addr bytes
  let s := forIn' (cwsOf addr bytes.length) State.renewCw s
  { s with dram := { s.dram with mem := SMap.setRange 0 s.dram.mem whole.1 whole.2 } }

/-- A client write (R267, R270, R272, R381): committed, or discarded (then the answer is false). -/
def State.dramWrite (s : State) (client addr : Nat) (bytes : List Byte) : State × Bool :=
  match s.dramGate addr bytes.length with
  | .go =>
    let n := bytes.length
    let s := forIn' (burstsOf addr n) (State.writeBurst client addr n) s
    let s := s.putDram addr bytes
    ((s.watchRange client addr n 0).watchRange client addr n 1, true)
  | g => (s.gateFlag g, false)

/-- A 64-bit word, most significant byte first. -/
def bytes64 (w : BitVec 64) : List Byte := bytesBE 8 w.toNat

end Sys2Proof.Machine
end

