-- ==== Sys2Proof/Machine/Map.lean ====
section
/-! DEFINITION. Where a register lies: its power domain (Table 01-1) and its block index (Table 15-3). -/

namespace Sys2Proof.Machine

/-- The power domain of a register address (Table 01-1). -/
def regDomain (a : Nat) : Nat :=
  let b := a / 2 ^ 16
  if b < 4 then 3
  else if b < 0x10 then 4
  else if b < 0x14 then 5
  else if b < 0x18 then 4
  else if b < 0x1C then 6
  else if b < 0x24 then 8
  else if b < 0x28 then 7
  else if b < 0x2C then 3
  else if b < 0x34 then 9
  else if b < 0x38 then 3
  else if 0x380010 ≤ a ∧ a ≤ 0x380014 then 3
  else 9

/-- The block index of a register address, for a register that a block reset reaches (Tables 01-1 and 15-3). -/
def regBlk (a : Nat) : Option Nat :=
  let b := a / 2 ^ 16
  if b = 8 then (if a % 2 ^ 16 / 0x400 < 48 then some (a % 2 ^ 16 / 0x400) else none)
  else if b = 0x0C then some 48
  else if b = 0x10 then some 49
  else if b = 0x18 then
    (if 0x180400 ≤ a ∧ a < 0x180480 then some (50 + (a - 0x180400) / 0x20) else none)
  else if b = 0x1C then
    (if 0x1C0100 ≤ a ∧ a < 0x1C0200 then some (56 + (a - 0x1C0100) / 0x80) else none)
  else if b = 0x20 then some 55
  else if b = 0x24 then some 54
  else if b = 0x2C then (if a % 2 ^ 16 < 0x200 then some (60 + a % 2 ^ 16 / 0x40) else none)
  else if b = 0x2E then some 68
  else if b = 0x30 then (if a % 2 ^ 16 < 0x200 then some (58 + a % 2 ^ 16 / 0x100) else none)
  else if b = 0x38 then (if 0x380010 ≤ a ∧ a ≤ 0x380014 then none else some 69)
  else none

/-- An access to the register ends ISOLATED (Table 08-1): its domain is off, or its block's wrapper drains. -/
def State.regIso (s : State) (a : Nat) : Bool :=
  !s.pdOn (regDomain a) || (match regBlk a with | some b => s.sys.draining.contains b | none => false)

/-- The block of a register is held in block reset, or its power domain is off (Table 08-4). -/
def State.regDown (s : State) (a : Nat) : Bool :=
  !s.pdOn (regDomain a) || (match regBlk a with | some b => s.blkHeld b | none => false)

/-- The register word after a commit or a loader write of `w`: every RWS field takes the new value, the other fields
stay (R160). -/
def mergeRws (fields : List Fld) (old w : Word) : Word :=
  fields.foldl (fun v f => if f.acc = .rws then f.ins v (f.ext w) else v) old

/-- The fields of a row's register at an address: MAP and LINKS of DISP_CTL are reserved on output 1 (Table 20-3). -/
def RegRow.fieldsOf (r : RegRow) (a : Nat) : List Fld :=
  if a = DISP_CTL.at 1 then r.fields.filter fun f => f != DISP_CTL.MAP && f != DISP_CTL.LINKS else r.fields

/-- The fields of the register at an address. -/
def fieldsAt (a : Nat) : List Fld :=
  match regRow? a with
  | some (r, _, _) => r.fieldsOf a
  | none => []

/-- The word at a register address. -/
def State.word (s : State) (a : Nat) : Word := SMap.get (regReset a) s.regs a

/-- Set the word at a register address. -/
def State.setWord (s : State) (a : Nat) (w : Word) : State :=
  { s with regs := SMap.set (regReset a) s.regs a w }

end Sys2Proof.Machine
end

