-- ==== Sys2Proof/Machine/Opzo.lean ====
section
/-! DEFINITION. The Opzo block format (spec/03_opzo_block_format.md): headers and overflow indices, the run lengths and
their adaptation, the decoder and the encoder. Pure functions of bytes and a stream context. -/

namespace Sys2Proof.Machine

/-! ### Slots (R50, R52, R58) -/

/-- The slot size in bytes of a ratio (Table 03-1); 0 for the invalid one. -/
def slotBytes (ratio : Nat) : Nat := match ratio with | 1 => 4000 | 2 => 2672 | 3 => 2000 | _ => 0

/-- The payload capacity of a slot in bits with SPILL = 0. -/
def cap0 (ratio : Nat) : Nat := slotBytes ratio * 8 - 64

/-- The payload part in a slot in bits with SPILL = 1. -/
def cap1 (ratio : Nat) : Nat := slotBytes ratio * 8 - 128

/-- A block header (Table 03-2). -/
structure BlkHdr where
  ver : Nat
  band : Bool
  spill : Bool
  ratio : Nat
  tag : Nat
  seq : Nat
  cbits : Nat
  deriving DecidableEq, Repr

/-- The header that the first 64 bits of a slot spell. -/
def BlkHdr.parse (w : Nat) : BlkHdr :=
  { ver := w / 2 ^ 60 % 16, band := w.testBit 59, spill := w.testBit 58, ratio := w / 2 ^ 56 % 4, tag := w / 2 ^ 24 % 2 ^ 32
    seq := w / 2 ^ 17 % 128, cbits := w % 2 ^ 17 }

/-- The 64 bits of a header. -/
def BlkHdr.word (h : BlkHdr) : Nat :=
  h.ver * 2 ^ 60 + bit h.band * 2 ^ 59 + bit h.spill * 2 ^ 58 + h.ratio * 2 ^ 56 + h.tag * 2 ^ 24 + h.seq * 2 ^ 17 + h.cbits

/-- An overflow index (Table 03-4). -/
structure OvfIdx where
  offset : Nat
  len : Nat
  mark : Nat
  low : Nat
  deriving DecidableEq, Repr

/-- The index that the last 64 bits of a slot spell. -/
def OvfIdx.parse (w : Nat) : OvfIdx :=
  { offset := w / 2 ^ 40 % 2 ^ 24, len := w / 2 ^ 24 % 2 ^ 16, mark := w / 2 ^ 16 % 256, low := w % 2 ^ 16 }

/-- The 64 bits of an index. -/
def OvfIdx.word (x : OvfIdx) : Nat := x.offset * 2 ^ 40 + x.len * 2 ^ 24 + x.mark * 2 ^ 16 + x.low

/-- The header of a slot. -/
def slotHdr (slot : List Byte) : BlkHdr := BlkHdr.parse (ofBytesBE (slot.take 8))

/-- The overflow index of a slot. -/
def slotIdx (slot : List Byte) : OvfIdx := OvfIdx.parse (ofBytesBE (slot.drop (slot.length - 8)))

/-- The spill length in units that CBITS needs (Table 03-4). -/
def spillUnits (ratio cbits : Nat) : Nat := (cbits - cap1 ratio + 127) / 128

/-- What a block is checked against (R61): its ring's ratio, its page's tag, whether it must open a band, the stream's
context, and the job's pool. -/
structure BlkCtx where
  ratio : Nat
  tag : Nat
  mustOpen : Bool
  isOpen : Bool
  seq : Nat
  ovfSize : Nat
  deriving DecidableEq, Repr

/-- Checks 0x01 to 0x06 of Table 03-5 on the header; 0 when all pass. -/
def hdrCheck (h : BlkHdr) (c : BlkCtx) : Nat :=
  if h.ver ≠ 1 then 1
  else if h.ratio = 0 ∨ h.ratio ≠ c.ratio then 2
  else if h.tag ≠ c.tag then 3
  else if (c.mustOpen && !h.band) || (h.band && h.seq != 0) || (!h.band && (!c.isOpen || h.seq != c.seq)) then 4
  else if h.cbits = 0 ∨ 67200 < h.cbits then 5
  else if h.spill ≠ decide (cap0 h.ratio < h.cbits) then 6
  else 0

/-- Checks 0x07, 0x10, 0x11 and 0x08 of Table 03-5 on the overflow index; 0 when all pass. -/
def idxCheck (h : BlkHdr) (x : OvfIdx) (ovfSize : Nat) : Nat :=
  if x.mark ≠ 0x5A ∨ x.low ≠ 0 then 7
  else if x.offset = 0xFFFFFF ∧ x.len = 0 then 0x10
  else if ovfSize = 0 ∨ ovfSize * 4096 < (x.offset + x.len) * 16 then 0x11
  else if x.len ≠ spillUnits h.ratio h.cbits then 8
  else 0

/-- The header and index checks of a slot (R61). -/
def slotCheck (slot : List Byte) (c : BlkCtx) : Nat :=
  let h := slotHdr slot
  let e := hdrCheck h c
  if e ≠ 0 then e
  else if h.spill then idxCheck h (slotIdx slot) c.ovfSize
  else 0

/-- The payload bits of a slot with its spill area (R58). -/
def payloadOf (slot spill : List Byte) : List Bool :=
  let h := slotHdr slot
  let body := bitsOf (slot.drop 8)
  if h.spill then body.take (cap1 h.ratio) ++ (bitsOf spill).take (h.cbits - cap1 h.ratio) else body.take h.cbits

/-! ### Run lengths (R56) -/

/-- The smallest k from `k` up, `n` of them, with N << k at or above A; 10 when none is. -/
def riceFrom (c : RunCls) : Nat → Nat → Nat
  | 0, _ => 10
  | n + 1, k => if c.a ≤ c.n * 2 ^ k then k else riceFrom c n (k + 1)

/-- The Rice parameter of a class. -/
def RunCls.k (c : RunCls) : Nat := riceFrom c 11 0

/-- A class after a run of v + 1 words was coded. -/
def RunCls.step (c : RunCls) (v : Nat) : RunCls :=
  let a := (c.a + v) % 65536
  let n := (c.n + 1) % 256
  if n = 32 then { a := a / 2, n := 16 } else { a := a, n := n }

/-- The first `n` bits of a stream as a number, with the rest; none when the stream is too short. -/
def takeBits (n : Nat) (bs : List Bool) : Option (Nat × List Bool) :=
  if (bs.take n).length = n then some (ofBits (bs.take n), bs.drop n) else none

/-- Decode the prefix of a run: `q` one-bits seen so far, at most twelve. -/
def riceQ : Nat → Nat → List Bool → Option (Nat × List Bool)
  | 0, q, bs => some (q, bs)
  | _ + 1, _, [] => none
  | _ + 1, q, false :: bs => some (q, bs)
  | n + 1, q, true :: bs => riceQ n (q + 1) bs

/-- Decode v of a run under a class. -/
def riceDec (c : RunCls) (bs : List Bool) : Option (Nat × List Bool) :=
  match riceQ 12 0 bs with
  | none => none
  | some (q, rest) =>
    if q = 12 then takeBits 11 rest
    else (takeBits c.k rest).map fun r => (q * 2 ^ c.k + r.1, r.2)

/-- The code of a run of v + 1 words under a class. -/
def riceEnc (c : RunCls) (v : Nat) : List Bool :=
  let k := c.k
  let q := v / 2 ^ k
  if q < 12 then List.replicate q true ++ [false] ++ toBits k (v % 2 ^ k) else List.replicate 12 true ++ toBits 11 v

/-! ### The decoder (R54, R55, R57) -/

/-- The classes of a stream. -/
structure Classes where
  copy : RunCls
  rep : RunCls
  lit : RunCls
  deriving DecidableEq, Repr

/-- The initial state of the model (R56). -/
def Classes.initial : Classes := { copy := ⟨4, 1⟩, rep := ⟨4, 1⟩, lit := ⟨4, 1⟩ }

/-- The words of a block so far, behind the context line: pred and prev of R54 are places of this array. -/
structure DecSt where
  words : Array Word
  cls : Classes
  bits : List Bool

/-- The number of words produced so far. -/
def DecSt.g (d : DecSt) : Nat := d.words.size - 200

/-- pred(g) for the next word. -/
def predOf (ws : Array Word) : Word := ws.getD (ws.size - 200) 0

/-- prev(g) for the next word. -/
def prevOf (ws : Array Word) : Word := ws.getD (ws.size - 1) 0

/-- Append `n` predicted words. -/
def copyRun : Nat → Array Word → Array Word
  | 0, ws => ws
  | n + 1, ws => copyRun n (ws.push (predOf ws))

/-- Append `n` repeats of the word before. -/
def repRun : Nat → Array Word → Array Word
  | 0, ws => ws
  | n + 1, ws => repRun n (ws.push (prevOf ws))

/-- Append `n` literal words from the payload; none when the payload ends. -/
def litRun : Nat → Array Word → List Bool → Option (Array Word × List Bool)
  | 0, ws, bs => some (ws, bs)
  | n + 1, ws, bs =>
    match takeBits 40 bs with
    | none => none
    | some (v, rest) => litRun n (ws.push (Word.of v)) rest

/-- The `m` entries of a PATCH applied to a word, indices above `last`; the error code on failure. -/
def patchRun : Nat → Option Nat → Word → List Bool → Except Nat (Word × List Bool)
  | 0, _, w, bs => .ok (w, bs)
  | m + 1, last, w, bs =>
    match takeBits 7 bs with
    | none => .error 0x0B
    | some (v, rest) =>
      let i := v / 4
      let x := v % 4
      if 19 < i ∨ x = 0 ∨ last.any (fun l => decide (i ≤ l)) then .error 0x09
      else patchRun m (some i) (w ^^^ (Word.of x <<< (2 * i))) rest

/-- A run token: `v` decoded, the words made, the end of the block watched (check 0x0A). -/
def decRun (d : DecSt) (c : RunCls) (bs : List Bool) (f : Nat → List Bool → Option (Array Word × List Bool))
    (put : RunCls → Classes) : Except Nat DecSt :=
  match riceDec c bs with
  | none => .error 0x0B
  | some (v, rest) =>
    match f (min (v + 1) (1600 - d.g)) rest with
    | none => .error 0x0B
    | some (ws, rest) =>
      if 1600 < d.g + v + 1 then .error 0x0A else .ok { words := ws, cls := put (c.step v), bits := rest }

/-- One token (Table 03-3). -/
def decToken (d : DecSt) : Except Nat DecSt :=
  let copies (n : Nat) (bs : List Bool) : Option (Array Word × List Bool) := some (copyRun n d.words, bs)
  let reps (n : Nat) (bs : List Bool) : Option (Array Word × List Bool) := some (repRun n d.words, bs)
  match d.bits with
  | false :: bs => decRun d d.cls.copy bs copies fun c => { d.cls with copy := c }
  | true :: false :: bs =>
    match litRun 1 d.words bs with
    | none => .error 0x0B
    | some (ws, rest) => .ok { d with words := ws, bits := rest }
  | true :: true :: false :: bs =>
    match takeBits 2 bs with
    | none => .error 0x0B
    | some (m, rest) =>
      match patchRun (m + 1) none (predOf d.words) rest with
      | .error e => .error e
      | .ok (w, rest) => .ok { d with words := d.words.push w, bits := rest }
  | true :: true :: true :: false :: bs => decRun d d.cls.rep bs reps fun c => { d.cls with rep := c }
  | true :: true :: true :: true :: bs =>
    decRun d d.cls.lit bs (fun n bs => litRun n d.words bs) fun c => { d.cls with lit := c }
  | _ => .error 0x0B

/-- Tokens until the block is whole; a block holds at most 1,600 of them. -/
def decTokens : Nat → DecSt → Except Nat DecSt
  | 0, d => .ok d
  | n + 1, d =>
    if 1600 ≤ d.g then .ok d
    else
      match decToken d with
      | .error e => .error e
      | .ok d => decTokens n d

/-- The context line of a stream as 200 words. -/
def ctxLine (line : List Word) : Array Word := ((List.range 200).map fun j => line.getD j 0).toArray

/-- Decode a payload under a context line and classes (R57): the 1,600 words and the classes, or the error code. -/
def decodeBlock (line : List Word) (cls : Classes) (bits : List Bool) : Except Nat (List Word × Classes) :=
  match decTokens 1600 { words := ctxLine line, cls := cls, bits := bits } with
  | .error e => .error e
  | .ok d => if d.bits = [] then .ok (d.words.toList.drop 200, d.cls) else .error 0x0B

/-- Line `i` of a block's words. -/
def blockRow (ws : List Word) (i : Nat) : List Word := (ws.drop (200 * i)).take 200

/-! ### The encoder (R68) -/

/-- The number of 2-bit fields that differ between two words. -/
def diffFields (a b : Word) : Nat :=
  (List.range 20).foldl (fun n k => if dotField (a ^^^ b) k = 0 then n else n + 1) 0

/-- Properties of a word of the block (R68); `ws` holds the context line and the block's 1,600 words. -/
def copyOk (ws : Array Word) (g : Nat) : Bool := ws.getD (g + 200) 0 == ws.getD g 0

/-- rep_ok of R68. -/
def repOk (ws : Array Word) (g : Nat) : Bool := !copyOk ws g && ws.getD (g + 200) 0 == ws.getD (g + 199) 0

/-- fields of R68. -/
def fieldsOf (ws : Array Word) (g : Nat) : Nat := diffFields (ws.getD (g + 200) 0) (ws.getD g 0)

/-- lit_ok of R68. -/
def litOk (ws : Array Word) (g : Nat) : Bool := !copyOk ws g && !repOk ws g && decide (4 < fieldsOf ws g)

/-- The length of the maximal run of a property from `g` on, up to word 1,599. -/
def runFrom (p : Nat → Bool) : Nat → Nat → Nat
  | 0, _ => 0
  | n + 1, g => if g < 1600 && p g then 1 + runFrom p n (g + 1) else 0

/-- The entries of a PATCH: index and XOR value of every field that differs. -/
def patchBits (x : Word) : List Bool :=
  (((List.range 20).filter fun k => dotField x k != 0).map fun k => toBits 5 k ++ toBits 2 (dotField x k)).flatten

/-- The token at word `g`: its bits, the words it covers, the classes after it. -/
def encToken (ws : Array Word) (cls : Classes) (g : Nat) : List Bool × Nat × Classes :=
  if copyOk ws g then
    let n := runFrom (copyOk ws) 1600 g
    (false :: riceEnc cls.copy (n - 1), n, { cls with copy := cls.copy.step (n - 1) })
  else if repOk ws g && decide (g < 1599) && repOk ws (g + 1) then
    let n := runFrom (repOk ws) 1600 g
    ([true, true, true, false] ++ riceEnc cls.rep (n - 1), n, { cls with rep := cls.rep.step (n - 1) })
  else if fieldsOf ws g ≤ 4 then
    let x := ws.getD (g + 200) 0 ^^^ ws.getD g 0
    ([true, true, false] ++ toBits 2 (fieldsOf ws g - 1) ++ patchBits x, 1, cls)
  else if decide (g < 1598) && litOk ws (g + 1) && litOk ws (g + 2) then
    let n := 1 + runFrom (litOk ws) 1600 (g + 1)
    let body := ((List.range n).map fun i => toBits 40 (ws.getD (g + i + 200) 0).toNat).flatten
    ([true, true, true, true] ++ riceEnc cls.lit (n - 1) ++ body, n, { cls with lit := cls.lit.step (n - 1) })
  else ([true, false] ++ toBits 40 (ws.getD (g + 200) 0).toNat, 1, cls)

/-- The tokens from word `g` on: the payload bits, last token first. -/
def encTokens (ws : Array Word) : Nat → Nat → Classes → List (List Bool) → List (List Bool) × Classes
  | 0, _, cls, acc => (acc, cls)
  | n + 1, g, cls, acc =>
    if 1600 ≤ g then (acc, cls)
    else
      let t := encToken ws cls g
      encTokens ws n (g + t.2.1) t.2.2 (t.1 :: acc)

/-- Encode 1,600 words under a context line and classes (R68): the payload and the classes after it. -/
def encodeBlock (line : List Word) (cls : Classes) (words : List Word) : List Bool × Classes :=
  let r := encTokens (ctxLine line ++ words.toArray) 1600 0 cls []
  (r.1.reverse.flatten, r.2)

/-! ### Context records (Table 03-7) -/

/-- The three bytes of a class. -/
def RunCls.bytes (c : RunCls) : List Byte := bytesBE 2 c.a ++ bytesBE 1 c.n

/-- The 1,088-byte record of a context.
(DEDUCED, log entry 52.) -/
def Ctx.bytes (c : Ctx) : List Byte :=
  (((List.range 200).map fun j => bytesBE 5 (c.line.getD j 0).toNat).flatten) ++ List.replicate 24 0 ++ c.copy.bytes ++
    c.rep.bytes ++ c.lit.bytes ++ bytesBE 1 (bit c.bandOpen * 128 + c.seq) ++ bytesBE 4 c.tag ++ bytesBE 1 c.ratio ++
    List.replicate 49 0

/-- `n` bytes of a record from byte `i`, as a number. -/
def recNum (r : List Byte) (i n : Nat) : Nat := ofBytesBE ((r.drop i).take n)

/-- The context of a record. -/
def Ctx.ofBytes (r : List Byte) : Ctx :=
  let b := recNum r 1033 1
  { line := (List.range 200).map fun j => Word.of (recNum r (5 * j) 5)
    copy := ⟨recNum r 1024 2, recNum r 1026 1⟩, rep := ⟨recNum r 1027 2, recNum r 1029 1⟩
    lit := ⟨recNum r 1030 2, recNum r 1032 1⟩, bandOpen := decide (128 ≤ b), seq := b % 128, tag := recNum r 1034 4
    ratio := recNum r 1038 1 % 4 }

end Sys2Proof.Machine
end

