-- ==== Sys2Proof/Machine/Skid.lean ====
section
/-! DEFINITION. The Skidder's shared part (spec/04_skidder_remap.md): the job-start copy of its registers (R88), row
groups and launch lines (R79), the streams, the remap table (R84) and the write-back of descriptors (R74). -/

namespace Sys2Proof.Machine

/-! ### The job queue's status -/

/-- SYS_JOBQ_STAT.STATE (Table 01-7). -/
def State.jobState (s : State) : Nat := s.fld SYS_JOBQ_STAT.STATE

/-- A job is in progress: STATE 1, 2 or 3. -/
def State.jobRuns (s : State) : Bool := s.jobState == 1 || s.jobState == 2 || s.jobState == 3

/-- A write that is accepted only between jobs: STATE 0 or 4 (R87, R94, R127). -/
def State.betweenJobs (s : State) : Bool := s.jobState == 0 || s.jobState == 4

/-- Change the job queue's own state. -/
def State.jqUpd (s : State) (f : JobQSt → JobQSt) : State := { s with jq := f s.jq }

/-- The drain span of the last job covers line `n`.
(DEDUCED, log entry 42.) -/
def State.inDrain (s : State) (n : Nat) : Bool :=
  match s.jq.drain with
  | some e => lineAtOrAfter e n
  | none => false

/-- Line `n` belongs to the drain span: no page of the job in force has opened. -/
def State.drainLine (s : State) (n : Nat) : Bool :=
  (s.jobState == 0 || s.jobState == 1) && s.inDrain n

/-- The drain span is over once a line beyond it is decided (R166). -/
def State.drainOver (s : State) (n : Nat) : State :=
  s.when (s.jq.drain.any fun e => lineAfter n e) (·.jqUpd fun q => { q with drain := none })

/-! ### The job-start copy (R88) -/

/-- The registers of the Skidder in force now: the addresses of its block. -/
def State.skidRegs (s : State) : SMap Word := s.regs.filter fun e => decide (0x0C0000 ≤ e.1) && decide (e.1 < 0x0D0000)

/-- A register in a job-start copy. -/
def copyReg (m : SMap Word) (r : Reg) (i : Nat) : Word := SMap.get (regReset (r.at i)) m (r.at i)

/-- The copy that serves a page: that of its job. -/
def State.copyOf (s : State) (p : JPage) : SMap Word := if p.jobSer = s.jq.jobSer then s.skid.copy else s.skid.prevCopy

/-- The row group's coarse offset of a port under a copy (R79). -/
def coarseIn (m : SMap Word) (p : Nat) : Nat :=
  SKID_ROWGRP.COARSE.ext (copyReg m SKID_ROWGRP (SKID_PORTCFG.GRP.ext (copyReg m SKID_PORTCFG p)))

/-- A port's stream is enabled under a copy. -/
def portEnIn (m : SMap Word) (p : Nat) : Bool := SKID_PORTCFG.EN.ext (copyReg m SKID_PORTCFG p) == 1

/-- The ports a job uses under a copy: ports 0 to 7 in scan mode (R116). -/
def portsIn (m : SMap Word) (scan : Bool) : List Nat :=
  (List.range 48).filter fun p => portEnIn m p && (!scan || decide (p < 8))

/-- The largest coarse offset of some ports under a copy. -/
def cMaxIn (m : SMap Word) (ports : List Nat) : Nat := ports.foldl (fun a p => max a (coarseIn m p)) 0

/-- DEC_AHEAD under a copy: values below 32 act as 32. -/
def decAheadIn (m : SMap Word) : Nat := max 32 (SKID_CTL.DEC_AHEAD.ext (copyReg m SKID_CTL 0))

/-! ### Scan-mode quantities (R119, R120) -/

/-- The job in force is a scan-mode job with a swath in hand (SSTATE not IDLE). -/
def State.inScan (s : State) : Bool :=
  match s.jq.job with
  | some j => j.d.scan && s.on FIRE_SCANSTAT.SSTATE
  | none => false

/-- The line whose decision comes next: the swath line in a swath, the web line otherwise (R97, R119). -/
def State.nextLine (s : State) : Nat := if s.inScan then s.scan.swathLine else s.pos.nextDec

/-- The stamp of a line boundary: n × 0x1_0000 (R45), or the carriage line of a swath line (R119). -/
def State.stampOf (s : State) (n : Nat) : Word :=
  if s.inScan then lineStamp (if s.scan.rev then lineSub s.scan.x0 n else lineMod (s.scan.x0 + n)) else lineStamp n

/-- The stream's port: auxiliary stream 48 + i belongs to port i (R116). -/
def portOfStream (st : Nat) : Nat := if st < 48 then st else st - 48

/-- The coarse offset a page's lines reach a port with: C, or CSPAN − C in a reverse swath (R79, R120). -/
def State.pageCoarse (s : State) (pg : JPage) (p : Nat) : Nat :=
  let c := coarseIn (s.copyOf pg) p
  if pg.rev then pg.cspan - c else c

/-- The number of blocks of a page. -/
def PageDesc.blocks (d : PageDesc) : Nat := d.length / 8

/-- The block that comes at place `i` of the fetch order: descending in a reverse swath (R122). -/
def JPage.blkAt (pg : JPage) (i : Nat) : Nat := if pg.rev then pg.d.blocks - 1 - i else i

/-- The place of a block in the fetch order. -/
def JPage.placeOf (pg : JPage) (b : Nat) : Nat := if pg.rev then pg.d.blocks - 1 - b else b

/-- The base launch line of the first line of the block at place `i` (R79). -/
def State.blockLine (s : State) (pg : JPage) (st i : Nat) : Option Nat :=
  pg.start.map fun n => lineMod (n + 8 * i + s.pageCoarse pg (portOfStream st))

/-- LEAD_EFF of a page (R81). -/
def State.leadEff (s : State) (pg : JPage) : Nat := max pg.job.lead (decAheadIn (s.copyOf pg))

/-! ### Streams and pages -/

/-- A stream. -/
def State.stream (s : State) (i : Nat) : Stream := SMap.get Stream.reset s.skid.streams i

/-- Set a stream. -/
def State.setStream (s : State) (i : Nat) (x : Stream) : State :=
  { s with skid := { s.skid with streams := SMap.set Stream.reset s.skid.streams i x } }

/-- Change a stream. -/
def State.updStream (s : State) (i : Nat) (f : Stream → Stream) : State := s.setStream i (f (s.stream i))

/-- A released page by its serial number. -/
def State.page? (s : State) (ser : Nat) : Option JPage := s.jq.pages.find? fun p => p.ser == ser

/-- The page that is open. -/
def State.openPage (s : State) : Option JPage := s.jq.pages.find? fun p => p.ph == .opened

/-- Change a page. -/
def State.updPage (s : State) (ser : Nat) (f : JPage → JPage) : State :=
  s.jqUpd fun q => { q with pages := q.pages.map fun p => if p.ser = ser then f p else p }

/-- The stream takes part in serving a page: its port is enabled in the page's job; an auxiliary stream serves only
scan-mode swaths with a feed shift (R116, R121). -/
def State.streamServes (s : State) (st : Nat) (pg : JPage) : Bool :=
  portEnIn (s.copyOf pg) (portOfStream st) &&
    (if pg.job.scan then decide (portOfStream st < 8) && (decide (st < 48) || decide (pg.y % 4000 ≠ 0))
     else decide (st < 48))

/-- The pages a stream serves from a serial number on, in order. -/
def State.servedFrom (s : State) (st lo : Nat) : List JPage :=
  s.jq.pages.filter fun p => decide (lo ≤ p.ser) && s.streamServes st p

/-- The ratio of the ring a page's blocks of a stream are read from. -/
def State.ringRatio (s : State) (st : Nat) (pg : JPage) : Nat := SKID_RING.RATIO.ext (copyReg (s.copyOf pg) SKID_RING st)

/-- The context of the stream (R64). -/
def State.codecCtx (s : State) (i : Nat) : Ctx := SMap.get Ctx.reset s.codec.ctx i

/-- Set a stream context. -/
def State.setCodecCtx (s : State) (i : Nat) (c : Ctx) : State :=
  { s with codec := { s.codec with ctx := SMap.set Ctx.reset s.codec.ctx i c } }

/-- What a block of a page is checked against. -/
def State.blkCtx (s : State) (st : Nat) (pg : JPage) (blk : Nat) : BlkCtx :=
  let c := s.codecCtx st
  { ratio := s.ringRatio st pg, tag := pg.d.tag, mustOpen := pg.rev || pg.placeOf blk == 0, isOpen := c.bandOpen, seq := c.seq
    ovfSize := pg.job.ovfSize }

/-- The codec works: PD5 on, its block reset released. -/
def State.codecUp (s : State) : Bool := s.pdOn 5 && !s.blkHeld 49

/-- What a decode engine works on: its block, while that is still its stream's oldest released one (R65). -/
def State.engNow (s : State) (k : Nat) : Option EngBlk :=
  match SMap.get none s.codec.eng k with
  | some e => if (s.stream e.stream).released.head?.any fun b => b.page == e.page && b.blk == e.blk then some e else none
  | none => none

/-- The block that a stream has for an engine: its oldest released one, unless a check of its header or its index fails,
which happens before an engine takes it (R437). -/
def State.engOffer (s : State) (st : Nat) : Option EngBlk :=
  match (s.stream st).released with
  | [] => none
  | b :: _ =>
    match s.page? b.page with
    | none => none
    | some pg =>
      if b.slot = [] ∨ slotCheck b.slot (s.blkCtx st pg b.blk) = 0 then some { stream := st, page := b.page, blk := b.blk }
      else none

/-- Each decode engine that is idle takes a block (R65, R67): the engines in order of their numbers, each the block of the
lowest stream whose oldest released block is in no engine. With CODEC_CTL.ENABLE = 0 engines take none. CODEC_STAT.ENG_BUSY
has one bit for each engine.
(DESIGN CHOICE, log entry 161.) -/
def State.engSync (s : State) : State :=
  let had := (List.range 4).map s.engNow
  let offers := if s.codecUp && s.on CODEC_CTL.ENABLE then
      (s.skid.streams.filterMap fun e => s.engOffer e.1).filter fun o => !had.contains (some o)
    else []
  let r := had.foldl (fun (a : List (Option EngBlk) × List EngBlk) e => match e, a.2 with
    | none, o :: rest => (a.1 ++ [some o], rest)
    | e, rest => (a.1 ++ [e], rest)) ([], offers)
  let s : State := { s with codec := { s.codec with eng := SMap.setRange none s.codec.eng 0 r.1 } }
  s.setFld CODEC_STAT.ENG_BUSY ((List.range 4).foldl (fun a k => a + bit (r.1.getD k none).isSome * 2 ^ k) 0)

/-- A stream's oldest released block is in an engine. -/
def State.inEngine (s : State) (st : Nat) : Bool := (List.range 4).any fun k => (s.engNow k).any fun e => e.stream == st

/-- The page and place of the block whose fetch deadline comes next on a stream.
(DEDUCED, log entry 44.) -/
def State.dlBlock (s : State) (st : Nat) : Option (JPage × Nat) :=
  let x := s.stream st
  (s.servedFrom st x.dlPage).head?.map fun p => (p, if p.ser = x.dlPage then x.dlCnt else 0)

/-- SKID_SSTAT of a stream: the next block to fetch and the blocks fetched but not decoded (Table 04-12).
(DEDUCED, log entry 49.)
(DESIGN CHOICE, log entry 187.) -/
def State.skidSync (s : State) (st : Nat) : State :=
  let x := s.stream st
  let s := (s.setFld SKID_SSTAT.PREF (x.prefetched.length + x.released.length) st).engSync
  match x.toFetch, s.dlBlock st with
  | b :: _, _ => s.setFld SKID_SSTAT.NEXT_BLK b.blk st
  | [], some (p, i) => s.setFld SKID_SSTAT.NEXT_BLK (p.blkAt i) st
  | [], none => s

/-! ### The remap table (R84) -/

/-- A word of the remap table. -/
def State.rmapWord (s : State) (i : Nat) : Word := SMap.get 0 s.skid.remap i

/-- Set a word of the remap table. -/
def State.setRmapWord (s : State) (i : Nat) (w : Word) : State :=
  { s with skid := { s.skid with remap := SMap.set 0 s.skid.remap i w } }

/-- SEL of remap word 0. -/
def rmSel (w0 : Word) : Nat := w0.toNat / 2 ^ 37

/-- NALT of remap word 0. -/
def rmNalt (w0 : Word) : Nat := w0.toNat / 2 ^ 35 % 4

/-- Candidate `k` of an entry (Table 04-7). -/
def rmCand (w0 w1 : Word) (k : Nat) : Nat :=
  if k = 0 then w0.toNat / 2 ^ 12 % 4096
  else if k = 1 then w0.toNat % 4096
  else if k = 2 then w1.toNat / 2 ^ 12 % 4096
  else w1.toNat % 4096

/-! ### Write-back (R74) -/

/-- The DRAM address of descriptor `i` of a descriptor ring (R72).
(DESIGN CHOICE, log entry 189.) -/
def dringAddr (dring : Word) (i : Nat) : Nat :=
  SKID_DRING.BASE.ext dring * 16 + i % 2 ^ SKID_DRING.DR_LOG2.ext dring * 16

/-- Write a descriptor back: word 1 in the layout of Table 04-3 first, then word 0 with OWN = 0 (R74). -/
def State.writeBack (s : State) (d : SkDesc) (status : Nat) : State :=
  let a := dringAddr d.dring d.didx
  let w1 := status * 2 ^ 56 + d.done * 2 ^ 44 + s.posOut.toNat
  let s := (s.dramWrite 0 (a + 8) (bytesBE 8 w1)).1
  let s := (s.dramWrite 0 a (bytesBE 8 (d.w0 % 2 ^ 63))).1
  s.when d.evt (·.raise SKID_FLAG.DESC_DONE)

/-- Every block of a descriptor is decoded: DONE, else ABANDONED (Table 04-2). -/
def SkDesc.endStatus (d : SkDesc) : Nat := if d.done = d.nblk then 0 else 2

/-- The descriptors of a stream that belong to a job: written back at once, with their end status (R74, R78). `all`
takes every descriptor; otherwise only those whose blocks are all decoded, up to the first that is not. -/
def State.flushDescs (s : State) (jobSer st : Nat) (all : Bool) : State :=
  let x := s.stream st
  let mine (d : SkDesc) : Bool := match s.page? d.page with
    | some p => p.jobSer == jobSer
    | none => true
  let out := if all then x.descs.filter mine else x.descs.takeWhile fun d => mine d && d.done == d.nblk
  let rest := if all then x.descs.filter (fun d => !mine d) else x.descs.drop out.length
  let s := forIn' out (fun d s => s.writeBack d d.endStatus) s
  s.updStream st fun x => { x with descs := rest }

end Sys2Proof.Machine
end

