-- ==== Sys2Proof/Machine/Place.lean ====
section
/-! DEFINITION. Placement and calibration as they stand at a launch line: the effective placement of R93 and R120, the
calibration banks with the changes that reach a row (R140 to R149), the selection and the code maps (R85, R141, R142),
and the head banks that carry phases and drive trims (R95, R107, R436). -/

namespace Sys2Proof.Machine

/-! ### Transactions seen from a line -/

/-- The age of a commit sequence number: smaller is older. -/
def State.seqAge (s : State) (q : Nat) : Nat := (q + 65536 - s.txn.nextSeq % 65536) % 65536

/-- A slot by its number. -/
def State.slot? (s : State) (k : Nat) : Option Slot := SMap.get none s.txn.slots k

/-- Put a value at its place in a list that rises by a key. -/
def insertBy {α : Type} (key : α → Nat) (a : α) : List α → List α
  | [] => [a]
  | b :: t => if key a < key b then a :: b :: t else b :: insertBy key a t

/-- A list in rising order of a key; equal keys keep their order. -/
def sortBy {α : Type} (key : α → Nat) (l : List α) : List α := l.foldl (fun acc a => insertBy key a acc) []

/-- The armed transactions, oldest first. -/
def State.armed (s : State) : List Slot :=
  (sortBy (fun t => s.seqAge t.seq) ((List.range 16).filterMap s.slot?)).filter fun t => !t.voting

/-- A staged queue register (R143). -/
def isEditAddr (a : Nat) : Bool := a == CAL_SUBEDIT.base || a == CAL_TRIMEDIT.base

/-- A calibration edit of a staged write (Table 07-7). -/
def calEdit? (e : Nat × Word) : Option CalEdit :=
  if e.1 = CAL_SUBEDIT.base then
    some (.sub (CAL_SUBEDIT.PORT.ext e.2) (CAL_SUBEDIT.COL.ext e.2) (CAL_SUBEDIT.SEL.ext e.2))
  else if e.1 = CAL_TRIMEDIT.base then
    some (.trim (CAL_TRIMEDIT.PORT.ext e.2) (CAL_TRIMEDIT.CHAN.ext e.2) (CAL_TRIMEDIT.TRIM.ext e.2)
      (CAL_TRIMEDIT.DMAP.ext e.2))
  else none

/-- The bank that a set of staged writes makes active, when it changes CAL_CTL.ACTIVE (R143). -/
def calSwap? (ws : List (Nat × Word)) : Option Nat :=
  (ws.find? fun e => e.1 == CAL_CTL.base).map fun e => CAL_CTL.ACTIVE.ext e.2

/-- The calibration change of a set of staged writes, when it is one (R143). -/
def calChange? (seq : Nat) (ws : List (Nat × Word)) : Option CalChange :=
  let c : CalChange := { seq := seq, swap := calSwap? ws, edits := ws.filterMap calEdit? }
  if c.swap.isNone && c.edits.isEmpty then none else some c

/-- The transaction resolves in the coordinate that decisions follow now: to a swath line in a swath, to a web line
otherwise (R167). -/
def State.sameCoord (s : State) (t : Slot) : Bool := t.nextSwath == s.inScan

/-- The armed transactions in force at launch line `n`: those that resolve to a line at or before it, in the order they
commit, by line and at one line by sequence number (R165). -/
def State.knownAt (s : State) (n : Nat) : List Slot :=
  sortBy (fun t => 2 ^ 24 - lineSub n (t.line.getD 0))
    (s.armed.filter fun t => s.sameCoord t && t.line.any fun m => lineAtOrAfter n m)

/-- A register word after the staged writes of transactions, in order (R165). -/
def stagedOver (ts : List Slot) (a : Nat) (w : Word) : Word :=
  ts.foldl (fun w t => t.writes.foldl (fun w e => if e.1 = a then mergeRws (fieldsAt e.1) w e.2 else w) w) w

/-- A register word as it stands at launch line `n`. -/
def State.regAtLine (s : State) (r : Reg) (i n : Nat) : Word := stagedOver (s.knownAt n) (r.at i) (s.reg r i)

/-! ### Calibration banks (R140 to R142) -/

/-- The key of column or channel `c` of port `p` in bank `b`. -/
def calKey (b p c : Nat) : Nat := 2 ^ 19 * b + 4096 * p + c

/-- The reset value of a code-map word (Table 07-2). -/
def cmReset : Nat := 0xE79E79

/-- The selection override of a column in a bank. -/
def State.calSel (s : State) (b p c : Nat) : Nat := SMap.get 4 s.cal.sel (calKey b p c)

/-- The channel entry of a channel in a bank: TRIM in bits 5 to 2, DMAP in bits 1 to 0. -/
def State.calChan (s : State) (b p c : Nat) : Nat := SMap.get 0 s.cal.chan (calKey b p c)

/-- The selection override that rows take from the active bank, or in its place (R149). -/
def State.rowSel (s : State) (p c : Nat) : Nat :=
  match SMap.get 0 s.cal.rowSel (4096 * p + c) with
  | 0 => s.calSel (s.fld CAL_CTL.ACTIVE) p c
  | v + 1 => v

/-- The channel entry that rows take from the active bank, or in its place (R149). -/
def State.rowChan (s : State) (p c : Nat) : Nat :=
  match SMap.get 0 s.cal.rowChan (4096 * p + c) with
  | 0 => s.calChan (s.fld CAL_CTL.ACTIVE) p c
  | v + 1 => v

/-- Set what rows take in place of an override of the active bank: 0 for nothing, else the value plus 1. -/
def State.setRowSel (s : State) (p c x : Nat) : State :=
  { s with cal := { s.cal with rowSel := SMap.set 0 s.cal.rowSel (4096 * p + c) x } }

/-- The same of a channel entry. -/
def State.setRowChan (s : State) (p c x : Nat) : State :=
  { s with cal := { s.cal with rowChan := SMap.set 0 s.cal.rowChan (4096 * p + c) x } }

/-- The code-map word of a port in a bank. -/
def State.calMap (s : State) (b p : Nat) : Nat := SMap.get cmReset s.cal.maps (64 * b + p)

/-- Apply an edit to a bank (R144). -/
def State.applyEdit (s : State) (b : Nat) : CalEdit → State
  | .sub p c v => { s with cal := { s.cal with sel := SMap.set 4 s.cal.sel (calKey b p c) v } }
  | .trim p c t d => { s with cal := { s.cal with chan := SMap.set 0 s.cal.chan (calKey b p c) (t * 4 + d) } }

/-- The calibration that reaches a row: the bank, and the edits made after the committed contents, oldest first. -/
structure CalView where
  bank : Nat
  edits : List (Nat × CalEdit)
  deriving DecidableEq, Repr

/-- A change applied to a view (R144, R149): the swap, then the edits to the bank that is active after it. -/
def CalView.apply (v : CalView) (c : CalChange) : CalView :=
  let b := c.swap.getD v.bank
  { bank := b, edits := v.edits ++ c.edits.map fun e => (b, e) }

/-- The changes that may reach a row beyond the committed banks: the exact armed ones with their commit lines, and the
committed ones that stand behind an armed one, in sequence order (R149). A change that is exact through the third
condition of R148 only is not among them: no row is written before its commit, or it is late.
(DEDUCED, log entry 69.) -/
def State.calPending (s : State) : List (Option Nat × CalChange) :=
  let exact := s.armed.filterMap fun t =>
    match t.line, calChange? t.seq t.writes with
    | some m, some c => if t.early && s.sameCoord t then some (some m, c) else none
    | _, _ => none
  sortBy (fun e => s.seqAge e.2.seq) (exact ++ s.cal.late.map fun c => (none, c))

/-- The bank in force below every change of `calPending`.
(DEDUCED, log entry 163.) -/
def State.calUnder (s : State) : Nat := if s.cal.late = [] then s.fld CAL_CTL.ACTIVE else s.cal.under

/-- The calibration of a row written for launch line `n` (R149). -/
def calViewFor (active : Nat) (pend : List (Option Nat × CalChange)) (n : Nat) : CalView :=
  pend.foldl (fun v e =>
    match e.1 with
    | some m => if lineAtOrAfter n m then v.apply e.2 else v
    | none => v.apply e.2) { bank := active, edits := [] }

/-- The calibration of a row written for launch line `n`. -/
def State.calView (s : State) (n : Nat) : CalView := calViewFor s.calUnder s.calPending n

/-- The calibration with the changes of some transactions, in sequence order with the committed ones that stand behind an
armed one: what head banks are built from (R149, R436). -/
def State.trimView (s : State) (ts : List Slot) : CalView :=
  let cs := sortBy (fun c => s.seqAge c.seq) (ts.filterMap (fun t => calChange? t.seq t.writes) ++ s.cal.late)
  cs.foldl (fun v c => v.apply c) { bank := s.calUnder, edits := [] }

/-- Lay over a port's table what rows take in place of the active bank (R149).
(DEDUCED, log entry 199.) -/
def rowOver (m : SMap Nat) (p : Nat) (a : Array Nat) : Array Nat :=
  m.foldl (fun (a : Array Nat) e =>
    if 4096 * p ≤ e.1 ∧ e.1 < 4096 * p + 4096 then a.setIfInBounds (e.1 - 4096 * p) (e.2 - 1) else a) a

/-- The selection override of every column of a port under a view. -/
def State.selTable (s : State) (v : CalView) (p : Nat) : Array Nat :=
  let base := calKey v.bank p 0
  let a := s.cal.sel.foldl (fun (a : Array Nat) e =>
    if base ≤ e.1 ∧ e.1 < base + 4096 then a.setIfInBounds (e.1 - base) e.2 else a) (Array.replicate 4096 4)
  let a := if v.bank = s.fld CAL_CTL.ACTIVE then rowOver s.cal.rowSel p a else a
  v.edits.foldl (fun a e => match e with
    | (b, .sub q c x) => if b = v.bank ∧ q = p then a.setIfInBounds c x else a
    | _ => a) a

/-- The channel entry of every channel of a port under a view. -/
def State.chanTable (s : State) (v : CalView) (p : Nat) : Array Nat :=
  let base := calKey v.bank p 0
  let a := s.cal.chan.foldl (fun (a : Array Nat) e =>
    if base ≤ e.1 ∧ e.1 < base + 4096 then a.setIfInBounds (e.1 - base) e.2 else a) (Array.replicate 4096 0)
  let a := if v.bank = s.fld CAL_CTL.ACTIVE then rowOver s.cal.rowChan p a else a
  v.edits.foldl (fun a e => match e with
    | (b, .trim q c t d) => if b = v.bank ∧ q = p then a.setIfInBounds c (t * 4 + d) else a
    | _ => a) a

/-- The remap words of a port, two for every column. -/
def State.rmapTable (s : State) (p : Nat) : Array Word :=
  let base := 8000 * p
  s.skid.remap.foldl (fun (a : Array Word) e =>
    if base ≤ e.1 ∧ e.1 < base + 8000 then a.setIfInBounds (e.1 - base) e.2 else a) (Array.replicate 8000 0)

/-- What a line's routing found (R85): the column each channel fires, the lowest channel on which two columns met,
whether a selection lies beyond NALT. -/
structure Routing where
  src : Array (Option Nat)
  collide : Option Nat
  range : Bool

/-- The first part of the pseudocode of R85: columns to channels under a view.
(DESIGN CHOICE, log entry 191.) -/
def State.routing (s : State) (v : CalView) (p : Nat) : Routing :=
  let sel := s.selTable v p
  let rm := s.rmapTable p
  (List.range 4000).foldl (fun (r : Routing) c =>
    let w0 := rm.getD (2 * c) 0
    let w1 := rm.getD (2 * c + 1) 0
    let o := sel.getD c 4
    let k := if o = 4 then rmSel w0 else o
    if k = 7 then r
    else if rmNalt w0 < k ∨ 3 < k then { r with range := true }
    else
      let ch := rmCand w0 w1 k
      match r.src.getD ch none with
      | none => { r with src := r.src.setIfInBounds ch (some c) }
      | some _ => { r with collide := some (match r.collide with | some x => min x ch | none => ch) })
    { src := Array.replicate 4096 none, collide := none, range := false }

/-- The value a channel fires (R142): the code map that DMAP selects, applied to a value of R85. -/
def mapDot (cmw dm v : Nat) : Nat := if v = 0 then 0 else cmw / 2 ^ (6 * dm + 2 * (v - 1)) % 4

/-! ### Effective placement (R93, R120) -/

/-- A delay-table entry: DLY in bits 11 to 4, PH in bits 3 to 0. -/
def State.dlyEnt (s : State) (p ch : Nat) : Nat := SMap.get 0 s.fire.delay (4096 * p + ch)

/-- The delay table of a port. -/
def State.dlyTable (s : State) (p : Nat) : Array Nat :=
  let base := 4096 * p
  s.fire.delay.foldl (fun (a : Array Nat) e =>
    if base ≤ e.1 ∧ e.1 < base + 4096 then a.setIfInBounds (e.1 - base) e.2 else a) (Array.replicate 4096 0)

/-- The placement of R93 before the clamp: entry, trim word, channel. -/
def rawPlace (ent : Nat) (trim : Word) (ch : Nat) : Int :=
  (ent : Int) + signed 12 (FIRE_TRIM.OFS.ext trim) + (signed 20 (FIRE_TRIM.SKEW.ext trim) * ch) / 65536

/-- The swath's part of the placement (R120): direction, SHIFT and REV_SPAN. -/
structure SwathPlace where
  rev : Bool
  shift : Nat
  span : Nat
  deriving DecidableEq, Repr

/-- t_s of R120; t itself outside scan mode. -/
def swathPlace (w : Option SwathPlace) (t : Int) : Int :=
  match w with
  | none => t
  | some w => (if w.rev then (w.span : Int) - t else t) + w.shift

/-- The clamp of R93. -/
def clampPlace (t : Int) : Nat := if t < 0 then 0 else if 4095 < t then 4095 else t.toNat

/-- The clamp of R93 acts. -/
def placeClamps (t : Int) : Bool := decide (t < 0) || decide (4095 < t)

/-- SHIFT of a pass entry's word 0 (Table 06-1). -/
def passShift (w0 : Word) : Nat := w0.toNat / 2 ^ 27 % 16

/-- What placement takes from a pass entry's word 0, with FIRE_SCANCFG as it will stand (R120). -/
def swathOf (cfg entry : Word) : SwathPlace :=
  { rev := entry.getLsbD 39, shift := passShift entry, span := FIRE_SCANCFG.REV_SPAN.ext cfg }

/-- The swath in hand, as far as placement depends on it. -/
def State.swathNow (s : State) (cfg : Word) : Option SwathPlace :=
  if s.inScan then s.openPage.map fun pg => swathOf cfg pg.entry else none

/-- The pass entry of the next swath to arm: the entry after the one in force, or the first of the page at the front of the
queue (R118). -/
def State.nextEntry (s : State) : Option Word :=
  let e := s.fld FIRE_SCANSTAT.PASS
  let word (e : Nat) : Word := SMap.get 0 s.scan.pass (2 * (e % 256))
  let first := match s.jq.q with
    | .page _ d :: _ => some (word d.passIdx)
    | _ => none
  if s.inScan && !s.scan.feedWait && !(word e).getLsbD 38 then some (word (e + 1)) else first

/-- The swath that a bank built ahead of it is for (R436). -/
def State.swathNext (s : State) (cfg : Word) : Option SwathPlace := s.nextEntry.map (swathOf cfg)

/-- The placement of every channel of a port under a trim word and a swath, before the clamp. -/
def State.placeWith (s : State) (p : Nat) (trim : Word) (w : Option SwathPlace) : Array Int :=
  let d := s.dlyTable p
  ((List.range 4000).map fun ch => swathPlace w (rawPlace (d.getD ch 0) trim ch)).toArray

/-- The placement of every channel of a port at launch line `n`, before the clamp. -/
def State.placement (s : State) (p n : Nat) : Array Int :=
  s.placeWith p (s.regAtLine FIRE_TRIM p n) (s.swathNow (s.regAtLine FIRE_SCANCFG 0 n))

/-! ### Head banks (R95, R107, R436) -/

/-- A Kerf port. -/
def State.port (s : State) (p : Nat) : Port := SMap.get Port.reset s.fire.ports p

/-- Set a Kerf port. -/
def State.setPort (s : State) (p : Nat) (x : Port) : State :=
  { s with fire := { s.fire with ports := SMap.set Port.reset s.fire.ports p x } }

/-- Change a Kerf port. -/
def State.updPort (s : State) (p : Nat) (f : Port → Port) : State := s.setPort p (f (s.port p))

/-- A port that holds banks: IDLE or RUN (R107). -/
def State.portUp (s : State) (p : Nat) : Bool := decide (2 ≤ s.fld FIRE_PORTSTAT.LSTATE p)

/-- The code of a TABLE packet in a bank load. -/
def tblCode (bank tbl seg : Nat) : Nat := 128 * bank + 16 * tbl + seg

/-- The packets that load one bank: phase map, then trim table, eight segments each. -/
def bankPackets (bank : Nat) : List (Nat × Nat) :=
  ((List.range 8).map fun g => (tblCode bank 0 g, 0)) ++ (List.range 8).map fun g => (tblCode bank 1 g, 0)

/-- Send one TABLE packet of a load (Table 05-6). -/
def State.sendTable (s : State) (p : Nat) (b : BankLoad) (code : Nat) : State :=
  let tbl := code / 16 % 8
  let seg := code % 16
  s.emit (tablePkt p (code / 128) tbl seg (((if tbl = 0 then b.phase else b.trim).drop (500 * seg)).take 500))

/-- Begin a load from segment 0: every packet is sent. -/
def State.sendBank (s : State) (p : Nat) (b : BankLoad) : State :=
  let s := forIn' b.left (fun e s => s.sendTable p b e.1) s
  (s.updPort p fun x => { x with bank := some b }).setFld FIRE_PORTSTAT.BANK_PEND 1 p

/-- The transactions whose values a bank holds: for the load on entry to IDLE none, only the values in force; for a
swath that is not armed yet those that wait for a swath too (R107, R436). -/
def State.bankTxns (s : State) (n : Nat) (due : Option Nat) (held : Bool) : List Slot :=
  if due.isNone then [] else if held then s.armed.filter fun t => t.line.isSome || t.nextSwath else s.knownAt n

/-- The placement that a bank is built from (R436); a swath's part in it only on ports 0 to 7 (R116, R120). -/
def State.bankPlace (s : State) (p : Nat) (ts : List Slot) (held : Bool) : Array Int :=
  let cfg := stagedOver ts FIRE_SCANCFG.base (s.reg FIRE_SCANCFG)
  s.placeWith p (stagedOver ts (FIRE_TRIM.at p) (s.reg FIRE_TRIM p))
    (if 8 ≤ p then none else if held then s.swathNext cfg else s.swathNow cfg)

/-- The bank for a line, built from the values in force at it (R436). -/
def State.mkBank (s : State) (p : Nat) (due : Option Nat) (late quiet held : Bool) : BankLoad :=
  let ts := s.bankTxns (due.getD 0) due held
  let ch := s.chanTable (s.trimView ts) p
  let bank := 1 - s.fld FIRE_PORTSTAT.BANK p
  { due := due, bank := bank, phase := (s.bankPlace p ts held).toList.map fun x => clampPlace x % 16
    trim := (List.range 4000).map fun c => ch.getD c 0 / 4
    left := if due.isSome then bankPackets bank else bankPackets 0 ++ bankPackets 1
    late := late, quiet := quiet, held := held }

/-- Build a bank from the values in force at its line and start its load (R436); a clamp sets TRIM_RANGE once (R93). -/
def State.buildBank (s : State) (p : Nat) (due : Option Nat) (late quiet : Bool) (held : Bool := false) : State :=
  let clamped := (s.bankPlace p (s.bankTxns (due.getD 0) due held) held).any placeClamps
  (s.when clamped (·.raise FIRE_PORTFLAG.TRIM_RANGE p)).sendBank p (s.mkBank p due late quiet held)

/-- The bank built ahead of a swath serves line 0 of that swath when it holds the values in force there; otherwise it is
built again (R436). -/
def State.takeHeld (s : State) (p n : Nat) (b : BankLoad) (late quiet : Bool) : State :=
  let c := s.mkBank p (some n) late quiet false
  if b.phase = c.phase ∧ b.trim = c.trim ∧ b.bank = c.bank then
    s.updPort p fun x => { x with bank := some { c with left := b.left } }
  else s.buildBank p (some n) late quiet

/-- A waiting change takes its place by line; a change for the same line is merged into it. -/
def insertWait (w : BankWait) : List BankWait → List BankWait
  | [] => [w]
  | v :: t =>
    if v.line = w.line then { v with late := v.late || w.late, quiet := v.quiet && w.quiet } :: t
    else if lineAfter v.line w.line then w :: v :: t
    else v :: insertWait w t

/-- The waiting changes that lie fewer than 16 lines behind the change before them are held back (R436): the list with
their mark, and how many are newly marked.
(DEDUCED, log entry 63.) -/
def markHeld : Option Nat → List BankWait → List BankWait × Nat
  | _, [] => ([], 0)
  | pred, w :: t =>
    let back := !w.late && pred.any fun m => !lineAtOrAfter w.line (lineMod (m + 16))
    let r := markHeld (some w.line) t
    ({ w with late := w.late || back } :: r.1, r.2 + bit back)

/-- A change waits behind the pending bank of its port (R436).
(DEDUCED, log entry 63.) -/
def State.waitBank (s : State) (p : Nat) (w : BankWait) : State :=
  let x := s.port p
  let r := markHeld (x.bank.bind fun b => b.due) (insertWait w x.waiting)
  forTo r.2 (fun _ s => s.raise FIRE_GFLAG.TRIM_LATE) (s.updPort p fun x => { x with waiting := r.1 })

/-- A change of a port's placement for line `n` meets the port's pending bank (R436). `late` when the arming rule of
R95 does not hold; TRIM_LATE is then set. A bank built for a swath that is not armed yet gives way, and is built again
when the swath is armed. -/
def State.bankChange (s : State) (p n : Nat) (late : Bool) (quiet : Bool := false) : State :=
  if !s.portUp p then s
  else
    let x := s.port p
    let s := s.when late (·.raise FIRE_GFLAG.TRIM_LATE)
    match x.bank with
    | none => s.buildBank p (some n) late quiet
    | some b =>
      match b.due with
      | none => s.waitBank p { line := n, late := late, quiet := quiet }
      | some m =>
        if b.held then s.takeHeld p n b late quiet
        else if n = m then s.buildBank p (some n) (late || b.late) (quiet && b.quiet)
        else if lineAfter m n then
          (s.buildBank p (some n) late quiet).waitBank p { line := m, late := b.late, quiet := b.quiet }
        else s.waitBank p { line := n, late := late, quiet := quiet }

/-- A swath-mode change has its bank built at its arming, for swath line 0 of its swath (R436); a bank that is pending for
a line keeps the load.
(DEDUCED, log entry 63.) -/
def State.bankSwath (s : State) (p : Nat) : State :=
  if !s.portUp p then s
  else
    match (s.port p).bank with
    | none => s.buildBank p (some 0) false false true
    | some b => if b.held then s.buildBank p (some 0) false false true else s

/-- A transaction stages a write that can reach a port's trims.
(DEDUCED, log entry 64.) -/
def stagesTrim (ws : List (Nat × Word)) (p : Nat) : Bool :=
  (calSwap? ws).isSome || ws.any fun e => match calEdit? e with | some (.trim q _ _ _) => q == p | _ => false

/-- The ports whose placement or drive trims a transaction changes, against the values in force just before it commits:
a staged value equal to those changes nothing (R95, R436).
(DEDUCED, log entry 64.) -/
def State.placesOf (s : State) (t : Slot) : List Nat :=
  let ts := match t.line with
    | some n => s.knownAt n
    | none => s.armed
  let scan := s.jq.job.any fun j => j.d.scan
  let cfg := stagedOver ts FIRE_SCANCFG.base (s.reg FIRE_SCANCFG)
  let span := scan &&
    FIRE_SCANCFG.REV_SPAN.ext (stagedOver [t] FIRE_SCANCFG.base cfg) != FIRE_SCANCFG.REV_SPAN.ext cfg
  (List.range 48).filter fun p =>
    let w := stagedOver ts (FIRE_TRIM.at p) (s.reg FIRE_TRIM p)
    (span && decide (p < 8)) || stagedOver [t] (FIRE_TRIM.at p) w != w ||
      (stagesTrim t.writes p &&
        (s.chanTable (s.trimView ts) p).map (· / 4) != (s.chanTable (s.trimView (ts ++ [t])) p).map (· / 4))

/-- Every port that a transaction changes takes its change for line `n`. -/
def State.bankChanges (s : State) (t : Slot) (n : Nat) (late : Bool) (quiet : Bool := false) : State :=
  forIn' t.places (fun p s => s.bankChange p n late quiet) s

end Sys2Proof.Machine
end

