-- ==== Sys2Proof/Machine/BarLink.lean ====
section
/-! DEFINITION. The bar link's shared part (spec/11_bar_link_time.md): its ports, sending and flooding of messages
(R220, R221), membership, and network time (R238). -/

namespace Sys2Proof.Machine

/-! ### Network time (R238) -/

/-- One second in units of 2^−40 ns. -/
def secUnits : Nat := 10 ^ 9 * 2 ^ 40

/-- Seconds of network time, modulo 2^48. -/
def State.timeS (s : State) : Nat := s.net.time / secUnits % 2 ^ 48

/-- Nanoseconds of network time. -/
def State.timeNs (s : State) : Nat := s.net.time % secUnits / 2 ^ 40

/-- The counter at a seconds and nanoseconds value. -/
def timeOf (sec ns : Nat) : Nat := (sec % 2 ^ 48) * secUnits + ns * 2 ^ 40

/-- The counter modulo its 48-bit seconds. -/
def timeMod (t : Nat) : Nat := t % (2 ^ 48 * secUnits)

/-- Set the counter. -/
def State.setTime (s : State) (t : Nat) : State := { s with net := { s.net with time := timeMod t } }

/-- Network time has reached a target of seconds and nanoseconds. -/
def State.timeReached (s : State) (sec ns : Nat) : Bool := decide (timeOf sec ns ≤ s.net.time)

/-! ### Bar state -/

/-- BAR_STAT.BSTATE: 0 ALONE, 1 LEAD, 2 JOINING, 3 FOLLOW, 4 ISOLATED (Table 11-5). -/
def State.bstate (s : State) : Nat := s.fld BAR_STAT.BSTATE

/-- This chip's bar ID. -/
def State.barId (s : State) : Nat := s.fld BAR_STAT.ID

/-- The chip takes part in exchanges and barriers: LEAD or FOLLOW. -/
def State.barActive (s : State) : Bool := s.bstate == 1 || s.bstate == 3

/-- The members in force. -/
def State.members (s : State) : List Nat := (List.range 16).filter fun i => (s.fld BAR_STAT.MEMBERS).testBit i

/-- BAR_COMMIT_LEAD: values below 2 act as 2. -/
def State.commitLead (s : State) : Nat := max 2 (s.fld BAR_COMMIT_LEAD.LINES)

/-- A bar port: 0 east, 1 west. -/
def State.barPort (s : State) (e : Nat) : BarPort := if e = 0 then s.bar.east else s.bar.west

/-- Change a bar port. -/
def State.updBarPort (s : State) (e : Nat) (f : BarPort → BarPort) : State :=
  if e = 0 then { s with bar := { s.bar with east := f s.bar.east } }
  else { s with bar := { s.bar with west := f s.bar.west } }

/-- Change the bar block's own state. -/
def State.updBar (s : State) (f : BarSt → BarSt) : State := { s with bar := f s.bar }

/-- A bar port is up (BAR_PORTSTAT.LSTATE = 3). -/
def State.barUp (s : State) (e : Nat) : Bool := s.fld BAR_PORTSTAT.LSTATE e == 3

/-- Put a message on a hop under the next HSEQ, held until its ACK. -/
def State.putMsg (s : State) (e : Nat) (m : BarMsg) : State :=
  let q := (s.barPort e).txSeq
  let s := s.updBarPort e fun b => { b with txSeq := (q + 1) % 256, held := b.held ++ [(q, m, 1)] }
  s.emit (barPkt e q m)

/-- An acknowledgement of HSEQ goes out (R221). -/
def State.sendBarAck (s : State) (e hseq : Nat) : State :=
  s.emit (barPkt e hseq { kind := 14, orig := s.barId, hop := 0, words := [] })

/-- Send a message out of a port: at most 16 are held unacknowledged, the others wait (R221), beacons
before all other messages. -/
def State.sendMsg (s : State) (e : Nat) (m : BarMsg) : State :=
  if !s.barUp e then s
  else if (s.barPort e).held.length < 16 ∧ (s.barPort e).queue = [] then s.putMsg e m
  else if m.kind = 1 then
    s.updBarPort e fun b =>
      { b with queue := b.queue.takeWhile (fun x => x.kind == 1) ++ m :: b.queue.dropWhile fun x => x.kind == 1 }
  else s.updBarPort e fun b => { b with queue := b.queue ++ [m] }

/-- Flood a message of this chip out of both ports. -/
def State.flood (s : State) (kind : Nat) (words : List Word) : State :=
  let m : BarMsg := { kind := kind, orig := s.barId, hop := 0, words := words }
  (s.sendMsg 0 m).sendMsg 1 m

end Sys2Proof.Machine
end

