-- ==== Sys2Proof/Machine/Txn.lean ====
section
/-! DEFINITION. The transaction unit (spec/08_registers_transactions.md): staging, arming with the checks of Table 08-2,
distributed exchanges (R227 to R232), preparation and commit, calibration changes at commit (R144, R149), commit records
and substitution log entries. Origins are numbered as in Table 08-7: 0 host, 1 Warden, 2 bar. -/

namespace Sys2Proof.Machine

/-! ### Queries -/

/-- An encoder channel. -/
def State.enc (s : State) (n : Nat) : EncCh := SMap.get EncCh.reset s.pos.enc n

/-- Set an encoder channel. -/
def State.setEnc (s : State) (n : Nat) (e : EncCh) : State :=
  { s with pos := { s.pos with enc := SMap.set EncCh.reset s.pos.enc n e } }

/-- The device is quiet (R166): STATE 0, 1 or 4, and the forward position beyond the drain span. -/
def State.quiet (s : State) : Bool :=
  (s.jobState == 0 || s.jobState == 1 || s.jobState == 4) &&
    (match s.jq.drain with | none => true | some e => lineAfter (posLine s.pos.fwd) e)

/-- The interval of R167: a scan-mode job whose first page has opened. -/
def State.scanInterval (s : State) : Bool :=
  (match s.jq.job with | some j => j.d.scan | none => false) && (s.jobState == 2 || s.jobState == 3)

/-- No row of any port is PENDING or READY (R148). -/
def State.noRows (s : State) : Bool := s.fire.rows.all fun e => e.2.st == .empty

/-- Change the transaction unit's own state. -/
def State.txnUpd (s : State) (f : TxnSt → TxnSt) : State := { s with txn := f s.txn }

/-- A staging context. -/
def State.ctx (s : State) (o : Nat) : StageCtx := SMap.get StageCtx.reset s.txn.ctx o

/-- Set a staging context, with TXN_OSTAT of its bank. -/
def State.setCtx (s : State) (o : Nat) (x : StageCtx) : State :=
  let s := s.txnUpd fun t => { t with ctx := SMap.set StageCtx.reset t.ctx o x }
  (((s.setFld TXN_OSTAT.OSTATE (if x.arming then 2 else bit x.isOpen) o).setFld TXN_OSTAT.DOOMED (bit x.doomed.isSome) o).setFld
    TXN_OSTAT.DCAUSE (x.doomed.getD 0) o).setFld TXN_OSTAT.COUNT x.writes.length o

/-- The occupied slots. -/
def State.allSlots (s : State) : List Slot := (List.range 16).filterMap s.slot?

/-- The staging entries in use: every context and every armed transaction (R160). -/
def State.storeUsed (s : State) : Nat :=
  (List.range 3).foldl (fun a o => a + (s.ctx o).writes.length) 0 +
    s.allSlots.foldl (fun a t => a + t.writes.length) 0

/-- The edits of a set of staged writes. -/
def editsOf (ws : List (Nat × Word)) : List CalEdit := ws.filterMap calEdit?

/-- The log entries a calibration change needs (R151). -/
def logsOf (ws : List (Nat × Word)) : Nat := bit (calSwap? ws).isSome + (editsOf ws).length

/-- The status fields that follow from the contexts and slots: TXN_STORE, CAL_STAT, the reservations of both rings.
(DESIGN CHOICE, log entry 195.) -/
def State.txnSync (s : State) : State :=
  let ts := s.allSlots
  let swap := ts.any fun t => (calSwap? t.writes).isSome
  let s := (s.setFld TXN_STORE.FREE (4096 - s.storeUsed)).setFld TXN_STORE.ARMED (ts.filter fun t => !t.voting).length
  let s := (s.setFld CAL_STAT.LOCK (bit swap)).setFld CAL_STAT.SWAP_PEND (bit swap)
  let s := s.setFld CAL_STAT.PEND (ts.foldl (fun a t => a + (editsOf t.writes).length) 0)
  let s := s.setFld CAL_LOGSTAT.RESV (ts.foldl (fun a t => a + t.logs) 0 + s.txn.logQ.foldl (fun a e => a + e.length / 2) 0)
  s.setFld TXN_RLOGSTAT.RESV
    (ts.foldl (fun a t => a + t.units) 0 + s.txn.records.foldl (fun a r => a + r.length / 2) 0)

/-- TXN_SLOTTGT of a slot (Table 08-10): the target seconds in network-time mode; otherwise the commit position, as far as
it is known.
(DEDUCED, log entry 164.) -/
def State.slotTarget (s : State) (t : Slot) : Word :=
  if t.mode = 4 then t.target
  else match t.line with
    | some n => if t.nextSwath then s.stampOf n else if t.mode = 1 then t.target else lineStamp n
    | none => if t.mode = 1 then t.target else 0

/-- Set or free a slot, with its TXN_SLOTSTAT and TXN_SLOTTGT. -/
def State.setSlot (s : State) (k : Nat) (t : Option Slot) : State :=
  let s := s.txnUpd fun u => { u with slots := SMap.set none u.slots k t }
  match t with
  | none => ((s.resetReg TXN_SLOTSTAT k).resetReg TXN_SLOTTGT k).txnSync
  | some t =>
    let s := (s.setFld TXN_SLOTSTAT.STATE (if t.voting then 0 else if t.prep then 2 else 1) k).setFld
      TXN_SLOTSTAT.SEQ t.seq k
    let s := ((s.setFld TXN_SLOTSTAT.MODE t.mode k).setFld TXN_SLOTSTAT.GEN (bit t.gen) k).setFld TXN_SLOTSTAT.DIST
      (bit t.dist) k
    let s := (s.setFld TXN_SLOTSTAT.ORIGIN t.origin k).setFld TXN_SLOTSTAT.NWR t.writes.length k
    (s.setFld TXN_SLOTTGT.TARGET (s.slotTarget t).toNat k).txnSync

/-! ### Staging (R159, R160) -/

/-- TXN_CMD written: BEGIN, ROLLBACK, or both (CMD_SEQ). -/
def State.txnCmd (s : State) (o : Nat) (begin rollback : Bool) : State :=
  let x := s.ctx o
  if begin && rollback then s.raise TXN_FLAG.CMD_SEQ
  else if begin then
    if x.isOpen || x.arming then s.raise TXN_FLAG.CMD_SEQ else s.setCtx o { StageCtx.reset with isOpen := true }
  else if rollback then
    if x.isOpen then (s.setCtx o StageCtx.reset).txnSync else s.raise TXN_FLAG.CMD_SEQ
  else s

/-- The chip mask held in an origin's bank of BAR_TXCHIP (R227). -/
def State.txChip (s : State) (o : Nat) : Nat := s.fld BAR_TXCHIP.MASK o

/-- Put a staged write into a context: a second write to an address replaces the first in place, mask included; a
staged queue register keeps every write (R143, R160). -/
def StageCtx.put (x : StageCtx) (a : Nat) (w : Word) (chips : Nat) : StageCtx :=
  match (if isEditAddr a then none else x.writes.findIdx? fun e => e.1 == a) with
  | some i => { x with writes := x.writes.set i (a, w), chips := x.chips.set i chips }
  | none => { x with writes := x.writes ++ [(a, w)], chips := x.chips ++ [chips] }

/-- The staged write makes no new entry. -/
def StageCtx.has (x : StageCtx) (a : Nat) : Bool := !isEditAddr a && x.writes.any fun e => e.1 == a

/-- A staged write refused: STAGE_REJ, and the transaction is doomed with the cause (R160). -/
def State.doom (s : State) (o cause : Nat) : State :=
  (s.setCtx o { s.ctx o with doomed := some cause }).raise TXN_FLAG.STAGE_REJ

/-- A write staged into an open context (R160). `parity` is a parity error in the store. -/
def State.stageAs (s : State) (o a : Nat) (w : Word) (chips : Nat) (parity : Bool) : State :=
  let x := s.ctx o
  if x.doomed.isSome then s
  else if parity then s.doom o 4
  else if x.has a then s.setCtx o (x.put a w chips)
  else if 1024 ≤ x.writes.length then s.doom o 2
  else if 4096 ≤ s.storeUsed then s.doom o 3
  else (s.setCtx o (x.put a w chips)).txnSync

/-- A write staged by an origin, under its chip mask. -/
def State.stage (s : State) (o a : Nat) (w : Word) (parity : Bool) : State := s.stageAs o a w (s.txChip o) parity

/-! ### Aborts -/

/-- Record the outcome in TXN_RESULT of the issuer's bank, where it still shows this arming. -/
def State.txnResult (s : State) (o seq out cause : Nat) : State :=
  s.when (decide (s.fld TXN_RESULT.SEQ o = seq)) fun s => (s.setFld TXN_RESULT.OUT out o).setFld TXN_RESULT.CAUSE cause o

/-- An abort (R162): ABORTINFO when ABORT was clear, the flag, the outcome. -/
def State.txnAbort (s : State) (o seq cause : Nat) : State :=
  let s := s.when (!s.on TXN_FLAG.ABORT) fun s =>
    ((s.setFld TXN_ABORTINFO.SEQ seq).setFld TXN_ABORTINFO.CAUSE cause).setFld TXN_ABORTINFO.ORIGIN o
  (s.txnResult o seq 3 cause).raise TXN_FLAG.ABORT

/-- A bank that was building for an armed change that is gone: rebuilt from the values in force when another change is
due at its line, dropped otherwise, and the next waiting change takes the load. -/
def State.bankDrop (s : State) (n p : Nat) : State :=
  let others := s.armed.any fun t => t.line == some n && decide (p ∈ t.places)
  let x := s.port p
  match x.bank with
  | none => s
  | some b =>
    if b.due = some n ∧ !b.held then
      if others then s.buildBank p (some n) b.late b.quiet
      else
        let s := (s.setPort p { x with bank := none }).setFld FIRE_PORTSTAT.BANK_PEND 0 p
        match x.waiting with
        | [] => s
        | w :: rest => (s.updPort p fun y => { y with waiting := rest }).buildBank p (some w.line) w.late w.quiet
    else if others then s
    else s.setPort p { x with waiting := x.waiting.filter fun w => w.line != n }

/-- The same for a change that waited for a swath: its bank is dropped, or built again for the others that wait. -/
def State.bankDropSwath (s : State) (p : Nat) : State :=
  let x := s.port p
  match x.bank with
  | none => s
  | some b =>
    if !b.held then s
    else if s.armed.any fun t => t.nextSwath && decide (p ∈ t.places) then s.bankSwath p
    else (s.setPort p { x with bank := none }).setFld FIRE_PORTSTAT.BANK_PEND 0 p

/-- The bank in force after some changes. -/
def bankAfter (b : Nat) (cs : List CalChange) : Nat := cs.foldl (fun b c => c.swap.getD b) b

/-- An armed calibration change older than a sequence number exists. -/
def State.calOlder (s : State) (seq : Nat) : Bool :=
  s.armed.any fun t => (calChange? t.seq t.writes).isSome && decide (s.seqAge t.seq < s.seqAge seq)

/-- The committed changes that no armed change of a lower sequence number precedes any more are forgotten: the banks hold
them for good.
(DEDUCED, log entry 163.) -/
def State.calPrune (s : State) (under : Nat) (cs : List CalChange) : State :=
  let gone := cs.takeWhile fun c => !s.calOlder c.seq
  { s with cal := { s.cal with late := cs.drop gone.length, under := bankAfter under gone } }

/-- An entry that the closed loop leaves FAILED is reported to the host (R209). -/
def State.reportBin (s : State) (bin : Nat) : State :=
  ({ s with scaler := { s.scaler with left := bin :: s.scaler.left } } : State).emit (.report bin)

/-- The repairs of the closed loop after a transaction (R209): a commit gives the line of a repair's last one; an abort
leaves the entry FAILED, and it is reported. -/
def State.repairOf (s : State) (seq : Nat) (line : Option Nat) : State :=
  match s.scaler.repairs.find? (fun r => r.seq == seq), line with
  | none, _ => s
  | some r, some n =>
    let l := s.scaler.repairs.filterMap fun x => if x.seq = seq then (if r.final then some { x with line := some n } else none)
      else some x
    { s with scaler := { s.scaler with repairs := l } }
  | some r, none =>
    ({ s with scaler := { s.scaler with repairs := s.scaler.repairs.filter fun x => x.bin != r.bin } } : State).reportBin r.bin

/-- Abort an armed transaction and free its slot. -/
def State.abortSlot (s : State) (k : Nat) (t : Slot) (cause : Nat) : State :=
  let s := (s.setSlot k none).repairOf t.seq none
  let s := match t.line with
    | some n => forIn' t.places (fun p s => s.bankDrop n p) s
    | none => forIn' t.places (fun p s => s.bankDropSwath p) s
  let s := s.calPrune s.calUnder s.cal.late
  s.txnAbort t.origin t.seq cause

/-! ### Arming (R162 to R168) -/

/-- A calibration edit is valid (R146). -/
def editOk (e : Nat × Word) : Bool :=
  if e.1 = CAL_SUBEDIT.base then
    let v := CAL_SUBEDIT.SEL.ext e.2
    decide (e.2.toNat % 2 ^ 19 = 0) && decide (CAL_SUBEDIT.PORT.ext e.2 < 48) && decide (CAL_SUBEDIT.COL.ext e.2 < 4000)
      && v != 5 && v != 6
  else if e.1 = CAL_TRIMEDIT.base then
    decide (e.2.toNat % 2 ^ 16 = 0) && decide (CAL_TRIMEDIT.PORT.ext e.2 < 48) &&
      decide (CAL_TRIMEDIT.CHAN.ext e.2 < 4000)
  else true

/-- The LOG2 of the substitution log ring: values outside 10 to 20 act as 10. -/
def State.calLog2 (s : State) : Nat :=
  let v := s.fld CAL_LOGCFG.LOG2
  if 10 ≤ v ∧ v ≤ 20 then v else 10

/-- The LOG2 of the commit record ring: values outside 10 to 24 act as 12. -/
def State.recLog2 (s : State) : Nat :=
  let v := s.fld TXN_RLOGCFG.LOG2
  if 10 ≤ v ∧ v ≤ 24 then v else 12

/-- The ring has room for `need` more entries (R151, R175). -/
def ringRoom (log2 wr rd resv need : Nat) : Bool := decide ((wr + 2 ^ 24 - rd) % 2 ^ 24 + resv + need ≤ 2 ^ log2)

/-- The units of a record (R174), reserved at every arming (R175). -/
def State.recUnits (s : State) (nwr : Nat) : Nat := if s.on TXN_RLOGCFG.FULL then (nwr + 3) / 2 else 1

/-- The calibration flags of a change that is not exact: DEFERRED or LATE, with CAL_ERRPOS when neither was set
(R149). -/
def State.calMark (s : State) (f : Fld) (n : Nat) : State :=
  let clear := !s.on CAL_FLAG.DEFERRED && !s.on CAL_FLAG.LATE
  (s.when clear (·.setFld CAL_ERRPOS.STAMP (s.stampOf n).toNat)).raiseS f 0 (s.stampOf n)

/-- The calibration checks of Table 08-2 (causes 0x07 to 0x0A): the cause, 0 when they pass. -/
def State.calChecks (s : State) (t : Slot) : State × Nat :=
  let others := s.allSlots
  let edits := (editsOf t.writes).length
  if !t.writes.all editOk then (s.raise CAL_FLAG.EDIT_BAD, 7)
  else if 0 < edits ∧ 2048 < edits + others.foldl (fun a u => a + (editsOf u.writes).length) 0 then
    (s.raise CAL_FLAG.EDIT_FULL, 8)
  else if (calSwap? t.writes).isSome && others.any (fun u => (calSwap? u.writes).isSome) then
    (s.raise CAL_FLAG.SWAP_BUSY, 9)
  else if s.on CAL_LOGCFG.EN && !ringRoom s.calLog2 (s.fld CAL_LOGWR.IDX) (s.fld CAL_LOGRD.IDX)
      (s.fld CAL_LOGSTAT.RESV) (logsOf t.writes) then
    (s.raise CAL_FLAG.LOG_FULL, 10)
  else (s, 0)

/-- The forward position is before (n − 256) × 0x1_0000 (R95, R148). -/
def State.aheadOf (s : State) (n : Nat) : Bool := !atOrAfter s.pos.fwd (lineStamp (lineMod (n + 2 ^ 24 - 256)))

/-- The commit line of a mode at the completion of arming (Table 08-3, R166, R167): the slot with its line or its wait
for a swath. -/
def State.resolveSlot (s : State) (t : Slot) : Slot :=
  let d := s.pos.nextDec
  if t.mode = 1 then
    if s.scanInterval then { t with nextSwath := true } else { t with line := some (resolveLine t.target) }
  else if t.mode = 3 then { t with nextSwath := true }
  else if t.mode = 0 then
    if s.quiet then t
    else if s.scanInterval then { t with nextSwath := true }
    else { t with line := some (lineMod (d + 1)) }
  else t

/-- Exactness at arming (R148, R149): the slot with its judgement, and the DEFER and LATE effects of a calibration
change.
(DEDUCED, log entry 137.) -/
def State.judgeSlot (s : State) (t : Slot) : State × Slot :=
  let early := t.nextSwath || (match t.line with | some n => s.aheadOf n | none => false)
  let t := { t with early := early, byEmpty := !early && s.noRows }
  let known := t.line.isSome || (t.mode == 0 && !t.nextSwath)
  if (calChange? t.seq t.writes).isNone || early || t.byEmpty || !known then (s, t)
  else if !t.dist && (t.mode == 0 || t.mode == 1) && !s.on CAL_CTL.LATE_ACT then
    let m := lineMod (posLine s.pos.fwd + 257)
    (s.calMark CAL_FLAG.DEFERRED m, { t with line := some m, target := lineStamp m, early := true, deferred := true })
  else
    match t.line with
    | some n => (s.calMark CAL_FLAG.LATE n, t)
    | none => (s, t)

/-- The arming checks of Table 08-2 from cause 0x06 on: the cause (0: pass) and the slot with its reservations. A ring
whose EN is 0 refuses none, and reserves all the same (R151, R175).
(DEDUCED, log entry 200.) -/
def State.armChecks (s : State) (t : Slot) : State × Nat × Slot :=
  if (List.range 16).all (fun k => (s.slot? k).isSome) then (s, 6, t)
  else
    let c := if (calChange? t.seq t.writes).isSome then s.calChecks t else (s, 0)
    if c.2 ≠ 0 then (c.1, c.2, t)
    else
      let s := c.1
      let j := if t.dist then (s, s.resolveSlot t) else s.judgeSlot (s.resolveSlot t)
      let s := j.1
      let t := j.2
      let units := s.recUnits t.writes.length
      if t.mode = 1 ∧ !t.nextSwath ∧ t.line.any (fun n => lineSub n s.pos.nextDec == 0) then (s, 11, t)
      else if s.on TXN_RLOGCFG.EN && !ringRoom s.recLog2 (s.fld TXN_RLOGWR.IDX) (s.fld TXN_RLOGRD.IDX)
          (s.fld TXN_RLOGSTAT.RESV) units then (s, 12, t)
      else (s, 0, { t with units := units, logs := logsOf t.writes })

/-- The lowest free slot. -/
def State.freeSlot (s : State) : Nat := ((List.range 16).find? fun k => (s.slot? k).isNone).getD 0

/-- Another armed transaction stages an address of this one (R170). -/
def State.overlaps (s : State) (t : Slot) : Bool :=
  s.armed.any fun u => u.writes.any fun e => !isEditAddr e.1 && t.writes.any fun f => f.1 == e.1

/-- The slot takes an armed transaction: OVERLAP, TXN_RESULT, and the head banks of a known line or of a change whose line
is known to be swath line 0 of the next swath (R436): in swath mode, and in position or immediate mode under R167. -/
def State.placeSlot (s : State) (k : Nat) (t : Slot) : State :=
  let s := s.when (s.overlaps t) (·.raise TXN_FLAG.OVERLAP)
  let s := (s.setSlot k (some t)).txnResult t.origin t.seq 1 0
  match t.line with
  | some n => s.bankChanges t n (!t.early)
  | none => s.when (t.nextSwath && t.mode != 2 && t.mode != 4) (forIn' t.places fun p s => s.bankSwath p)

/-! ### Commit (R165 to R168, R144, R149) -/

/-- The registers of the frame-start set of port `n` (R196). -/
def frameSetHas (n a : Nat) : Bool :=
  a == VIS_EXPO.at n || a == VIS_PROC.at n || a == VIS_HROIX.at n || a == VIS_HROIY.at n || a == VIS_ARCH.at n ||
    a == VIS_ARCHTH.at n || (decide (VIS_SENSWR.at n 0 ≤ a) && decide (a < VIS_SENSWR.at n 0 + 16))

/-- A commit wrote a register of a frame-start set: the port's next frame start makes an activation (R196). -/
def State.frameSetWrite (s : State) (a : Nat) : State :=
  match (List.range 8).find? fun n => frameSetHas n a with
  | none => s
  | some n =>
    let x := SMap.get VPort.reset s.vis.port n
    { s with vis := { s.vis with port := SMap.set VPort.reset s.vis.port n { x with dirty := true } } }

/-- One staged write in force: every RWS field takes its value (R160). POS_CTL.SRC = 0b11 leaves SRC; a new source's
loop reference is set to est (R47). CAL_CTL and the edit queues act through the calibration change. -/
def State.commitWrite (s : State) (a : Nat) (w : Word) : State :=
  if isEditAddr a ∨ a = CAL_CTL.base then s
  else if a = POS_CTL.base then
    let v := POS_CTL.SRC.ext w
    if v = 3 then s
    else
      let changed := decide (v ≠ s.srcCh)
      let s := s.setFld POS_CTL.SRC v
      s.when (changed && decide (v < 2)) fun s => s.setEnc v { s.enc v with ref := s.pos.est }
  else (s.setWord a (mergeRws (fieldsAt a) (s.word a) w)).frameSetWrite a

/-- A 64-bit word of a log entry or a record. -/
def w64 (n : Nat) : BitVec 64 := BitVec.ofNat 64 n

/-- Word 0 of a substitution log entry (Table 07-4). -/
def logWord0 (kind : Nat) (late deferred : Bool) (seq : Nat) (pos : Word) : BitVec 64 :=
  w64 (kind * 2 ^ 60 + bit late * 2 ^ 59 + bit deferred * 2 ^ 58 + seq * 2 ^ 40 + pos.toNat)

/-- Word 1 of a substitution log entry; ENTRY_SEQ is filled in when the entry is written. -/
def logWord1 (port index old new : Nat) : BitVec 64 :=
  w64 (port * 2 ^ 42 + index * 2 ^ 30 + old * 2 ^ 24 + new * 2 ^ 18)

/-- An edit applied to a bank, with the log entry's KIND and its OLD and NEW (R144, R150). -/
def State.editLogged (s : State) (b : Nat) (e : CalEdit) : State × Nat × BitVec 64 :=
  match e with
  | .sub p c v => (s.applyEdit b e, 1, logWord1 p c (s.calSel b p c) v)
  | .trim p c t d => (s.applyEdit b e, 2, logWord1 p c (s.calChan b p c) (t * 4 + d))

/-- The two edits write one entry of a bank. -/
def CalEdit.same : CalEdit → CalEdit → Bool
  | .sub p c _, .sub q d _ => p == q && c == d
  | .trim p c _ _, .trim q d _ _ => p == q && c == d
  | _, _ => false

/-- What rows take from the entries of an edit stays as it is, whatever the active bank comes to hold (R149). -/
def State.keepRow (s : State) : CalEdit → State
  | .sub p c _ => s.setRowSel p c (s.rowSel p c + 1)
  | .trim p c _ _ => s.setRowChan p c (s.rowChan p c + 1)

/-- Rows take the value of an edit (R149). -/
def State.rowEdit (s : State) : CalEdit → State
  | .sub p c v => s.setRowSel p c (v + 1)
  | .trim p c t d => s.setRowChan p c (t * 4 + d + 1)

/-- Rows take the entry of an edit from the active bank. -/
def State.freeRow (s : State) : CalEdit → State
  | .sub p c _ => s.setRowSel p c 0
  | .trim p c _ _ => s.setRowChan p c 0

/-- What rows take once a change commits with changes of higher sequence numbers committed before it (R149): behind a swap
the edits of those changes, laid over the bank that the swap brings in; otherwise the value of each edit of the change,
but where a change behind it has swapped the banks or edited the same entry, the value that rows took before.
(DEDUCED, log entry 163; DEDUCED, log entry 199.) -/
def State.rowsAt (s : State) (c : CalChange) (behind : List CalChange) : State :=
  let es := (behind.map fun x => x.edits).flatten
  if c.swap.isSome then
    let s : State := { s with cal := { s.cal with rowSel := [], rowChan := [] } }
    forIn' es (fun e s => s.rowEdit e) s
  else
    let hidden (e : CalEdit) : Bool := (behind.any fun x => x.swap.isSome) || es.any e.same
    forIn' c.edits (fun e s => if hidden e then s.keepRow e else s.freeRow e) s

/-- A calibration change at its commit (R144, R150): the swap, then the edits in the bank that is active after it. What
rows take follows the sequence numbers (R149).
(DEDUCED, log entry 69; DEDUCED, log entry 163.)
(DEDUCED, log entry 199; DEDUCED, log entry 200.) -/
def State.calCommit (s : State) (t : Slot) (c : CalChange) (late : Bool) (stamp : Word) : State :=
  let w0 (kind : Nat) : BitVec 64 := logWord0 kind late t.deferred t.seq stamp
  let under := s.calUnder
  let below := s.cal.late.filter fun x => decide (s.seqAge x.seq < s.seqAge c.seq)
  let behind := s.cal.late.drop below.length
  let b := c.swap.getD (s.fld CAL_CTL.ACTIVE)
  let head := match c.swap with
    | some k => [w0 3, w64 (s.fld CAL_BANKTAG.TAG k * 2 ^ 18 + k * 2 ^ 17)]
    | none => []
  let r := c.edits.foldl (fun (p : State × List (BitVec 64)) e =>
    let x := p.1.editLogged b e
    (x.1, p.2 ++ [w0 x.2.1, x.2.2])) (s.rowsAt c behind, head)
  let s := r.1.setFld CAL_CTL.ACTIVE b
  let s := s.when (s.on CAL_LOGCFG.EN) fun s => s.txnUpd fun x => { x with logQ := x.logQ ++ [r.2] }
  s.calPrune under (below ++ c :: behind)

/-- The words of a commit record (R174, Table 08-7). -/
def State.recordOf (s : State) (t : Slot) (applied : List (Nat × Word)) (stamp : Word) (idle : Bool) :
    List (BitVec 64) :=
  let full := s.on TXN_RLOGCFG.FULL
  let w0 := w64 (t.seq * 2 ^ 48 + t.mode * 2 ^ 45 + bit t.gen * 2 ^ 44 + bit t.dist * 2 ^ 43 + bit idle * 2 ^ 42 +
    t.origin * 2 ^ 40 + stamp.toNat)
  let w1 := w64 (s.fld TXN_GEN.GEN * 2 ^ 48 + applied.length * 2 ^ 37 + bit full * 2 ^ 36 + s.timeNs)
  let ws := if full then applied.map fun e => w64 (e.1 * 2 ^ 40 + e.2.toNat) else []
  let all := [w0, w1] ++ ws
  if all.length % 2 = 0 then all else all ++ [w64 0xFFFFFF0000000000]

/-- A transaction takes effect (R165, R168, Table 08-6). At swath line 0 of a job's first page no page has opened yet as
far as R168 goes: step 1 of the boundary precedes step 2. -/
def State.commitSlot (s : State) (k : Nat) (t : Slot) (stamp : Word) (idle : Bool) : State :=
  if t.gen && !(s.quiet || s.scan.genDue) then s.abortSlot k t 14
  else
    let lost := t.writes.any fun e => s.regDown e.1
    let applied := t.writes.filter fun e => !s.regDown e.1
    let wasEmpty := s.noRows
    let s := forIn' applied (fun e s => s.commitWrite e.1 e.2) s
    let s := s.when lost (·.raise TXN_FLAG.RESET_LOSS)
    let s := s.when t.gen (·.addFld TXN_GEN.GEN 1)
    let s := (s.setSlot k none).repairOf t.seq (some (posLine stamp))
    let s := match calChange? t.seq applied with
      | none => s
      | some c =>
        let late := !t.early && !(t.byEmpty && wasEmpty)
        let s := s.when (late && (t.byEmpty || idle)) (·.calMark CAL_FLAG.LATE (posLine stamp))
        s.calCommit t c late stamp
    let s := s.when idle (·.bankChanges t s.pos.nextDec false true)
    let s := s.when (s.on TXN_RLOGCFG.EN) fun s =>
      s.txnUpd fun u => { u with records := u.records ++ [s.recordOf t applied stamp idle] }
    let s := ((s.setFld TXN_LASTCOM.SEQ t.seq).setFld TXN_LASTCOM.MODE t.mode).setFld TXN_LASTCOM.IDLE (bit idle)
    let s := s.setFld TXN_LASTPOS.STAMP stamp.toNat
    ((s.txnResult t.origin t.seq 2 0).raiseS TXN_FLAG.COMMIT 0 stamp).txnSync

/-- A time-mode trigger (R166, R167): a quiet device commits at once; otherwise the transaction resolves to line D + 1,
or to the next swath of a scan-mode job. A calibration change whose line becomes known here is late under LATE. -/
def State.trigger (s : State) (k : Nat) (t : Slot) : State :=
  if s.quiet then s.commitSlot k t s.pos.fwd true
  else if s.scanInterval then s.setSlot k (some { t with nextSwath := true, early := true })
  else
    let n := lineMod (s.pos.nextDec + 1)
    let cal := (calChange? t.seq t.writes).isSome && !t.byEmpty
    (s.when cal (·.calMark CAL_FLAG.LATE n)).setSlot k (some { t with line := some n })

/-- The arming ends in a slot; a time mode whose target is reached triggers at once (R166). -/
def State.armDone (s : State) (k : Nat) (t : Slot) : State :=
  let t := { t with places := s.placesOf t, armDec := s.pos.nextDec }
  let s := s.placeSlot k t
  if !t.dist && !t.nextSwath && t.line.isNone &&
      (t.mode == 0 || (t.mode == 4 && s.timeReached t.target.toNat t.targetNs)) then s.trigger k t
  else s

/-- A distributed network-time transaction becomes a position-mode commit at line `m` (R230), or in a scan-mode job one of
the next swath to arm (R167). -/
def State.trigAt (s : State) (k : Nat) (t : Slot) (m : Nat) : State :=
  if s.scanInterval then s.setSlot k (some { t with nextSwath := true, early := true })
  else
    let early := s.aheadOf m
    let s := s.setSlot k (some { t with line := some m, early := early })
    (s.when ((calChange? t.seq t.writes).isSome && !early && !t.byEmpty) (·.calMark CAL_FLAG.LATE m)).bankChanges
      t m (!early)

/-- The initiator's network time reaches the target of a distributed transaction (R230): TRIG with m = D +
BAR_COMMIT_LEAD. -/
def State.distTrigger (s : State) (k : Nat) (t : Slot) : State :=
  if t.issuer then
    let m := lineMod (s.nextLine + s.commitLead)
    (s.flood 6 [Word.of (t.iseq * 2 ^ 24 + m)]).trigAt k t m
  else s

/-! ### Distributed exchanges (R227 to R232) -/

/-- BAR_DXLAST after an outcome. -/
def State.dxLast (s : State) (init iseq out voter reason : Nat) : State :=
  ((((s.setFld BAR_DXLAST.INIT init).setFld BAR_DXLAST.ISEQ iseq).setFld BAR_DXLAST.OUT out).setFld BAR_DXLAST.VOTER
    voter).setFld BAR_DXLAST.REASON reason

/-- The arming of a distributed transaction is complete: its origin's context is free (R163). -/
def State.armingEnd (s : State) (t : Slot) : State :=
  s.when (t.issuer && (s.ctx t.origin).arming) (·.setCtx t.origin StageCtx.reset)

/-- An exchange ends without a commit (cause 0x0D): the slot is released. -/
def State.dxAbort (s : State) (d : Dx) (voter reason : Nat) : State :=
  let s := (s.updBar fun b => { b with dx := none }).dxLast d.init d.iseq 2 voter reason
  match d.slot.bind fun k => (s.slot? k).map fun t => (k, t) with
  | none => s
  | some (k, t) => (s.abortSlot k t 13).armingEnd t

/-- Every member of the map has voted YES. -/
def State.dxComplete (s : State) (d : Dx) : Bool := s.members.all fun i => d.votes.any fun v => v.1 == i && v.2

/-- An exchange in which every member voted YES arms on this chip (R228): its commit line is resolved at this completion of
the arming (R164, R167); a network-time target already past triggers at once (R166, R230). -/
def State.dxArm (s : State) (d : Dx) : State :=
  let s := (s.updBar fun b => { b with dx := none }).dxLast d.init d.iseq 1 0 0
  match d.slot.bind fun k => (s.slot? k).map fun t => (k, t) with
  | none => s
  | some (k, t) =>
    let s := (s.setSlot k none).armingEnd t
    let j := s.judgeSlot (s.resolveSlot { t with voting := false, line := none, nextSwath := false })
    let t := { j.2 with places := j.1.placesOf j.2, armDec := s.pos.nextDec }
    let s := j.1.placeSlot k t
    if t.mode = 4 ∧ !t.nextSwath ∧ t.line.isNone ∧ s.timeReached t.target.toNat t.targetNs then s.distTrigger k t else s

/-- BAR_DXLAST shows that an exchange was aborted already. -/
def State.dxEnded (s : State) (init iseq : Nat) : Bool :=
  s.fld BAR_DXLAST.OUT == 2 && s.fld BAR_DXLAST.INIT == init && s.fld BAR_DXLAST.ISEQ == iseq

/-- A vote is taken (R228): the first NO aborts, the last YES arms. BAR_DXLAST keeps the first NO.
(DEDUCED, log entry 118.) -/
def State.dxVote (s : State) (voter : Nat) (yes : Bool) (init iseq reason : Nat) : State :=
  let s := s.when (!yes) (·.raise BAR_FLAG.DX_ABORT)
  let other := match s.bar.dx with | some d => decide (d.init ≠ init ∨ d.iseq ≠ iseq) | none => true
  match s.bar.dx, other with
  | some d, false =>
    if !yes then s.dxAbort d voter reason
    else
      let d := { d with votes := (voter, true) :: d.votes }
      let s := s.updBar fun b => { b with dx := some d }
      if s.dxComplete d then s.dxArm d else s
  | _, _ => if yes || s.dxEnded init iseq then s else s.dxLast init iseq 2 voter reason

/-- The word of a VOTE message (Table 11-3). -/
def voteWord (iseq init : Nat) (yes : Bool) (reason : Nat) : Word :=
  Word.of (iseq * 2 ^ 24 + init * 2 ^ 20 + bit yes * 2 ^ 19 + reason * 2 ^ 11)

/-- The bar checks of Table 11-4, and before them the arming checks of Table 08-2: the reason, 0 for YES. -/
def State.dxChecks (s : State) (t : Slot) (doomed : Option Nat) (mgen : Nat) : State × Nat × Slot :=
  match doomed with
  | some c => (s, c, t)
  | none =>
    let r := s.armChecks t
    if r.2.1 ≠ 0 then r
    else if t.mode = 1 ∧ lineSub (resolveLine t.target) s.pos.nextDec < s.commitLead then (r.1, 0xF0, t)
    else if mgen ≠ s.fld BAR_STAT.MGEN then (r.1, 0xF2, t)
    else if !s.barActive then (r.1, 0xF3, t)
    else r

/-- This chip's vote goes out, unless it takes no part in the bar or casts no votes (Table 11-5). -/
def State.castVote (s : State) (t : Slot) (yes : Bool) (reason : Nat) : State :=
  s.when (s.on BAR_CTL.EN && !s.bar.mute) (·.flood 5 [voteWord t.iseq t.init yes reason])

/-- The exchange meets another one on this chip (R228, reason 0xF1): a NO vote, cause 0x0D. -/
def State.dxCollide (s : State) (t : Slot) : State :=
  let s := s.raise BAR_FLAG.DX_COLL
  let s := (s.castVote t false 0xF1).raise BAR_FLAG.DX_ABORT
  ((s.dxLast t.init t.iseq 2 s.barId 0xF1).armingEnd t).txnAbort t.origin t.seq 13

/-- A PREP on this chip, the initiator included (R228): its share is checked, its vote is cast and flooded. An exchange
that a NO vote has ended already aborts with it.
(DEDUCED, log entry 118.) -/
def State.dxPrep (s : State) (t : Slot) (doomed : Option Nat) (mgen : Nat) : State :=
  let vote (s : State) (yes : Bool) (reason : Nat) : State :=
    (s.castVote t yes reason).dxVote s.barId yes t.init t.iseq reason
  if s.bar.dx.isSome then s.dxCollide t
  else
    let ended := s.dxEnded t.init t.iseq
    let voter := s.fld BAR_DXLAST.VOTER
    let why := s.fld BAR_DXLAST.REASON
    let r := s.dxChecks t doomed mgen
    let d : Dx := { init := t.init, iseq := t.iseq, mgen := mgen, votes := [], slot := none }
    if r.2.1 ≠ 0 then
      let s := vote (r.1.updBar fun b => { b with dx := some d }) false r.2.1
      let s := s.when ended (·.dxLast t.init t.iseq 2 voter r.2.1)
      (s.armingEnd t).txnAbort t.origin t.seq 13
    else
      let k := r.1.freeSlot
      let d := { d with slot := some k }
      let s := (r.1.setSlot k (some { r.2.2 with voting := true })).updBar fun b => { b with dx := some d }
      let s := vote s true 0
      match s.bar.dx, ended with
      | some d, true => s.dxAbort d voter why
      | _, _ => s

/-- The WRITES messages of an exchange: pairs of address with mask and data, seven to a message (R227). -/
def writesMsgs : Nat → List ((Nat × Word) × Nat) → List (List Word)
  | 0, _ => []
  | _, [] => []
  | n + 1, l => ((l.take 7).map fun e => [Word.of (e.1.1 * 2 ^ 16 + e.2), e.1.2]).flatten :: writesMsgs n (l.drop 7)

/-- The PREP message (Table 11-3). -/
def State.prepWords (s : State) (t : Slot) (nwr : Nat) : List Word :=
  [Word.of (t.seq * 2 ^ 24 + t.mode * 2 ^ 21 + bit t.gen * 2 ^ 20 + nwr * 2 ^ 8 + s.fld BAR_STAT.MGEN), t.target,
    Word.of t.targetNs]

/-- The initiator's part (R227): WRITES, PREP, its own vote on its own share, in whatever bar state it is. -/
def State.dxStart (s : State) (t : Slot) (chips : List Nat) : State :=
  let l := t.writes.zip chips
  let s := (forIn' (writesMsgs 1024 l) (fun ws s => s.flood 3 ws) s).flood 4 (s.prepWords t t.writes.length)
  let share := (l.filter fun e => e.2.testBit s.barId).map fun e => e.1
  s.dxPrep { t with writes := share, init := s.barId, iseq := t.seq } none (s.fld BAR_STAT.MGEN)

/-! ### The arm command -/

/-- A write of TXN_ARM (R162): MODE, GEN and DIST are stored; with GO = 1 the open transaction is armed. `parity` is a
parity error in the staging store met at the arming. -/
def State.txnArm (s : State) (o : Nat) (w : Word) (parity : Bool) : State :=
  let s := ((s.setFld TXN_ARM.MODE (TXN_ARM.MODE.ext w) o).setFld TXN_ARM.GEN (TXN_ARM.GEN.ext w) o).setFld TXN_ARM.DIST
    (TXN_ARM.DIST.ext w) o
  if TXN_ARM.GO.ext w = 0 then s
  else if !(s.ctx o).isOpen then s.raise TXN_FLAG.CMD_SEQ
  else
    let x := s.ctx o
    let seq := s.txn.nextSeq
    let t : Slot :=
      { seq := seq, mode := TXN_ARM.MODE.ext w, gen := TXN_ARM.GEN.ext w == 1, dist := TXN_ARM.DIST.ext w == 1
        origin := o, writes := x.writes, target := s.reg TXN_TGT o, targetNs := s.fld TXN_TGTNS.NS o, line := none
        nextSwath := false, prep := false, early := false, byEmpty := false, deferred := false, units := 0, logs := 0
        issuer := true, voting := false, init := s.barId, iseq := seq, places := [], armDec := 0 }
    let s := s.txnUpd fun u => { u with nextSeq := (seq + 1) % 65536 }
    let dist := t.dist && (if parity then some 4 else x.doomed).isNone && decide (t.mode = 1 ∨ t.mode = 2 ∨ t.mode = 4)
    let s := (s.setCtx o { StageCtx.reset with arming := dist }).txnSync
    let s := ((s.setFld TXN_RESULT.SEQ seq o).setFld TXN_RESULT.OUT 0 o).setFld TXN_RESULT.CAUSE 0 o
    match (if parity then some 4 else x.doomed) with
    | some c => s.txnAbort o seq c
    | none =>
      if 4 < t.mode || (t.dist && (t.mode == 0 || t.mode == 3)) then s.txnAbort o seq 5
      else if t.dist then s.dxStart t x.chips
      else
        let r := s.armChecks t
        if r.2.1 ≠ 0 then r.1.txnAbort o seq r.2.1 else r.1.armDone r.1.freeSlot r.2.2

/-- TXN_SLOTCMD.CANCEL (R169). -/
def State.txnCancel (s : State) (k : Nat) : State :=
  match s.slot? k with
  | none => s
  | some t =>
    if t.voting then s
    else if t.prep then s.raise TXN_FLAG.CANCEL_REJ
    else s.abortSlot k t 1

/-- TXN_TIME_TRIGGER: network time reaches a slot's target (R166, R230). -/
def State.txnTimeTrigger (s : State) (k : Nat) : State :=
  match s.slot? k with
  | none => s
  | some t =>
    if t.voting || t.prep || t.line.isSome || t.nextSwath || t.mode != 4 || !s.timeReached t.target.toNat t.targetNs then s
    else if t.dist then s.distTrigger k t
    else s.trigger k t

/-! ### Preparation and the boundary (R164, R165) -/

/-- A page-mark transaction resolves to the line `n` at which a page opens, and prepares (R164, R436): a calibration change
is late (R149). -/
def State.markSlot (s : State) (n k : Nat) (t : Slot) : State :=
  let cal := (calChange? t.seq t.writes).isSome && !t.byEmpty
  let s := s.when cal (·.calMark CAL_FLAG.LATE n)
  (s.setSlot k (some { t with line := some n, prep := true })).bankChanges t n true

/-- The page-mark transactions that a page's opening at line `n` resolves, of those that are due. -/
def State.prepareMarks (s : State) (n : Nat) (due : Slot → Bool) : State :=
  forTo 16 (fun k s =>
    match s.slot? k with
    | some t => if !t.voting && !t.prep && !t.nextSwath && t.mode == 2 && t.line.isNone && due t then s.markSlot n k t else s
    | none => s) s

/-- The slots that prepare for a web line: those resolved to it, and page-mark transactions when a page opens at it. -/
def State.prepareFor (s : State) (n : Nat) (opens : Bool) : State :=
  forTo 16 (fun k s =>
    match s.slot? k with
    | none => s
    | some t =>
      if t.voting || t.prep || t.nextSwath then s
      else if t.line = some n then
        let late := t.mode == 4
        (s.setSlot k (some { t with prep := true })).when (late && !t.dist) (·.bankChanges t n true)
      else if t.mode = 2 ∧ t.line.isNone ∧ opens then s.markSlot n k t
      else s) s

/-- At a swath's arming, the transactions that wait for it prepare for its swath line 0 (R126, R167); they stay marked as
resolved to a swath line.
(DESIGN CHOICE, log entry 196.) -/
def State.prepareSwath (s : State) (firstOfPage : Bool) : State :=
  forTo 16 (fun k s =>
    match s.slot? k with
    | none => s
    | some t =>
      if !t.voting && !t.prep && (t.nextSwath || (t.mode == 2 && firstOfPage && t.line.isNone)) then
        s.setSlot k (some { t with line := some 0, nextSwath := true, prep := true, early := true })
      else s) s

/-- The slots with their numbers, in commit sequence order. -/
def State.slotsInOrder (s : State) : List (Nat × Slot) :=
  sortBy (fun e => s.seqAge e.2.seq) ((List.range 16).filterMap fun k => (s.slot? k).map fun t => (k, t))

/-- Prepared transactions take effect at a boundary, in sequence order (step 1 of Table 01-3). -/
def State.commitThose (s : State) (n : Nat) (due : Slot → Bool) : State :=
  forIn' (s.slotsInOrder.filter fun e => e.2.prep && due e.2) (fun e s =>
    match s.slot? e.1 with
    | some t => s.commitSlot e.1 t (s.stampOf n) false
    | none => s) s

/-- Every transaction whose commit position resolves to web line `n` takes effect. -/
def State.commitAt (s : State) (n : Nat) : State := s.commitThose n fun t => !t.nextSwath && t.line == some n

/-- At the first decision at or after swath line 0 every transaction that waited for the swath takes effect (R126, R167);
position targets are not compared in a swath. -/
def State.commitSwath (s : State) (q : Nat) : State := s.when (decide (q < 2 ^ 23)) (·.commitThose q fun t => t.nextSwath)

/-! ### Rings in DRAM (R150, R174) -/

/-- Write the units of a ring entry, 16 bytes each, wrapping at the ring's end; false when DRAM refused one. -/
def State.ringWrite (s : State) (base log2 idx : Nat) : List (BitVec 64) → State × Bool
  | a :: b :: t =>
    let r := s.dramWrite 7 (base * 16 + idx % 2 ^ log2 * 16) (bytes64 a ++ bytes64 b)
    let u := State.ringWrite r.1 base log2 (idx + 1) t
    (u.1, r.2 && u.2)
  | _ => (s, true)

/-- COMMIT_RECORD_WRITE: the oldest record reaches DRAM and TXN_RLOGWR.IDX advances past it. A record that DRAM refused
stays. -/
def State.recordWrite (s : State) : State :=
  match s.txn.records with
  | [] => s
  | r :: rest =>
    let i := s.fld TXN_RLOGWR.IDX
    let w := s.ringWrite (s.fld TXN_RLOGBASE.ADDR) s.recLog2 i r
    if w.2 then
      ((w.1.txnUpd fun u => { u with records := rest }).setFld TXN_RLOGWR.IDX (lineMod (i + r.length / 2))).txnSync
    else w.1

/-- The log entries of a commit with their ENTRY_SEQ filled in (Table 07-4). -/
def logSeq (i : Nat) : List (BitVec 64) → List (BitVec 64)
  | a :: b :: t => a :: (b ||| w64 (i % 65536 * 2 ^ 48)) :: logSeq (i + 1) t
  | l => l

/-- SUBST_LOG_WRITE: the entries of the oldest committed change reach DRAM and CAL_LOGWR.IDX advances past them. -/
def State.substLogWrite (s : State) : State :=
  match s.txn.logQ with
  | [] => s
  | r :: rest =>
    let i := s.fld CAL_LOGWR.IDX
    let w := s.ringWrite (s.fld CAL_LOGBASE.ADDR) s.calLog2 i (logSeq i r)
    if w.2 then
      ((w.1.txnUpd fun u => { u with logQ := rest }).setFld CAL_LOGWR.IDX (lineMod (i + r.length / 2))).txnSync
    else w.1

/-- A write of TXN_RLOGBASE or TXN_RLOGCFG (R175): accepted with nothing outstanding, else RLOG_REJ. -/
def State.rlogWrite (s : State) (cfg : Bool) (w : Word) : State :=
  if s.fld TXN_RLOGWR.IDX = s.fld TXN_RLOGRD.IDX ∧ s.fld TXN_RLOGSTAT.RESV = 0 then
    if cfg then
      ((s.setFld TXN_RLOGCFG.LOG2 (TXN_RLOGCFG.LOG2.ext w)).setFld TXN_RLOGCFG.EN (TXN_RLOGCFG.EN.ext w)).setFld
        TXN_RLOGCFG.FULL (TXN_RLOGCFG.FULL.ext w)
    else s.setFld TXN_RLOGBASE.ADDR (TXN_RLOGBASE.ADDR.ext w)
  else s.raise TXN_FLAG.RLOG_REJ

/-- A write of CAL_LOGBASE or CAL_LOGCFG (R151): accepted with nothing outstanding, else LOG_REJ. -/
def State.calLogWrite (s : State) (cfg : Bool) (w : Word) : State :=
  if s.fld CAL_LOGWR.IDX = s.fld CAL_LOGRD.IDX ∧ s.fld CAL_LOGSTAT.RESV = 0 then
    if cfg then (s.setFld CAL_LOGCFG.LOG2 (CAL_LOGCFG.LOG2.ext w)).setFld CAL_LOGCFG.EN (CAL_LOGCFG.EN.ext w)
    else s.setFld CAL_LOGBASE.ADDR (CAL_LOGBASE.ADDR.ext w)
  else s.raise CAL_FLAG.LOG_REJ

/-! ### Contexts lost, snapshots -/

/-- A failover or a core reset discards the Warden context (Table 08-4). -/
def State.loseWardenCtx (s : State) : State :=
  if (s.ctx 1).isOpen then ((s.setCtx 1 StageCtx.reset).txnSync).raise TXN_FLAG.OPEN_LOST else s

/-- A snapshot of all counters with pos_out (R158). -/
def State.snapshot (s : State) : State :=
  let m := s.regs.filter fun e => decide (TALLY_CNT.base ≤ e.1) && decide (e.1 < TALLY_CNT.base + 2048)
  (s.txnUpd fun u => { u with snap := m }).setReg TALLY_SNAPPOS s.posOut

end Sys2Proof.Machine
end

