-- ==== Sys2Proof/Machine/JobQ.lean ====
section
/-! DEFINITION. The job queue (spec/01_architecture.md): descriptors, release, job start, page starts with the page-mark
logic of R46, job failure (R23) and job end, and the arming of scan-mode swaths (R124). -/

namespace Sys2Proof.Machine

/-! ### Line-buffer rows -/

/-- A row of a port's line buffer: reference line `r` occupies row r mod 256 (R90). -/
def State.row (s : State) (p r : Nat) : Row := SMap.get Row.reset s.fire.rows (256 * p + r % 256)

/-- Set a row. -/
def State.setRow (s : State) (p r : Nat) (x : Row) : State :=
  { s with fire := { s.fire with rows := SMap.set Row.reset s.fire.rows (256 * p + r % 256) x } }

/-- Set every row of a run of ports EMPTY. -/
def State.emptyPorts (s : State) (p n : Nat) : State :=
  { s with fire := { s.fire with rows := SMap.eraseRange s.fire.rows (256 * p) (256 * n) } }

/-- Set every row whose tag lies before a line EMPTY (R92). -/
def State.clearBefore (s : State) (n : Nat) : State :=
  { s with fire := { s.fire with rows := s.fire.rows.filter fun e => lineAtOrAfter e.2.tag n } }

/-! ### The queue's registers -/

/-- The 7-bit index of a queue entry. -/
def QEnt.idx : QEnt → Nat
  | .job i _ _ => i
  | .page i _ => i

/-- A queue entry is a job descriptor. -/
def QEnt.isJob : QEnt → Bool
  | .job _ _ _ => true
  | .page _ _ => false

/-- FILL and RD_IDX as the occupied entries give them (Table 01-7). -/
def State.jqSync (s : State) : State :=
  let rd := match s.jq.q with
    | [] => s.fld SYS_JOBQ_STAT.WR_IDX
    | e :: _ => e.idx
  (s.setFld SYS_JOBQ_STAT.FILL s.jq.q.length).setFld SYS_JOBQ_STAT.RD_IDX rd

/-- Replace the queue's entries. -/
def State.setQueue (s : State) (q : List QEnt) : State := (s.jqUpd fun j => { j with q := q }).jqSync

/-- SYS_JOBQ_STAT.STATE written. -/
def State.setJobState (s : State) (v : Nat) : State := s.setFld SYS_JOBQ_STAT.STATE v

/-- INFO of JOB_DONE and JOB_FAILED (Table 12-5). -/
def jobInfo (jobId pageNo : Nat) : Word := Word.of (jobId * 2 ^ 24 + pageNo * 2 ^ 8)

/-! ### Decisions (R96, R97) -/

/-- Change the position unit's own state. -/
def State.posUpd (s : State) (f : PosSt → PosSt) : State := { s with pos := f s.pos }

/-- LAT_MAX (R96). -/
def State.latMax (s : State) : Nat :=
  let ports :=
    if s.drainLine s.pos.nextDec then s.jq.lastPorts
    else match s.jq.job with
      | some j => j.ports
      | none => (List.range 48).filter fun p => s.on SKID_PORTCFG.EN p
  ports.foldl (fun a p => max a (s.fld FIRE_KLAT.LAT p)) 0

/-- The decision position starts anew from the position of this cycle (R97).
(DESIGN CHOICE, log entry 197.) -/
def State.restartDecisions (s : State) : State :=
  let n := firstDecision (s.firePos s.latMax)
  let s := s.posUpd fun p => { p with fwd := s.posOut, revLatch := false, nextDec := n, decided := false }
  { s with fire := { s.fire with sinceLaunch := none } }

/-! ### Failure (R23) -/

/-- Steps 2, 3 and 5 of R23: the record, the flag, ENABLE. -/
def State.recordFail (s : State) (cause jobId pageNo : Nat) (stamp : Word) : State :=
  let s := s.when (!s.on SYS_JOBQ_FLAG.JOB_FAILED) fun s =>
    (((s.setFld SYS_JOBQ_FAIL.CAUSE cause).setFld SYS_JOBQ_FAIL.JOB_ID jobId).setFld SYS_JOBQ_FAIL.PAGE_NO
      pageNo).setFld SYS_JOBQ_FAILPOS.STAMP stamp.toNat
  (s.raiseAt SYS_JOBQ_FLAG.JOB_FAILED 0 0 (some stamp) (jobInfo jobId pageNo)).setFld SYS_JOBQ_CTL.ENABLE 0

/-- The page descriptors at the front of the queue up to and including a LAST one are dropped (R23 step 4). -/
def dropPages : List QEnt → List QEnt
  | .page _ d :: t => if d.last then t else dropPages t
  | l => l

/-- The pages of the job in force. -/
def State.jobPages (s : State) : List JPage :=
  match s.jq.job with
  | none => []
  | some j => s.jq.pages.filter fun p => p.jobSer == j.ser

/-- PAGE_NO of the page in progress or due to open; the first page descriptor, or 0 (R23).
(DESIGN CHOICE, log entry 150.) -/
def State.duePageNo (s : State) : Nat :=
  match (if s.jobState = 2 then s.openPage else none) with
  | some p => p.d.pageNo
  | none =>
    match s.jobPages.find? (fun p => p.ph == .waiting), s.jq.q with
    | some p, _ => p.d.pageNo
    | none, .page _ d :: _ => d.pageNo
    | none, _ => 0

/-- A stream drops what it holds of a job: blocks not yet decoded; it no longer reads for it. -/
def State.dropStream (s : State) (jobSer st : Nat) : State :=
  let other (ser : Nat) : Bool := match s.page? ser with | some p => p.jobSer != jobSer | none => false
  s.updStream st fun x =>
    { x with toFetch := x.toFetch.filter (fun b => other b.page), prefetched := x.prefetched.filter (fun b => other b.page)
             released := x.released.filter (fun b => other b.page), stopped := false
             inPage := x.inPage && other x.pageLo }

/-- The Skidder and the codec at the failure of a job: descriptors written back, blocks discarded (R78, R437). -/
def State.abandonJob (s : State) (jobSer : Nat) : State :=
  forTo 56 (fun st s => ((s.flushDescs jobSer st true).dropStream jobSer st).skidSync st) s

/-- The last line of the previous page once the job in force has failed from line `n` on (R435): a page that was open ends
on the line before; between pages it is the last line of the page that closed last; before the first page it stays.
(DESIGN CHOICE, log entry 185.) -/
def State.prevAfterFail (s : State) (n : Nat) : Option Nat :=
  match s.openPage with
  | some _ => some (lineSub n 1)
  | none =>
    match (s.jobPages.filter fun p => p.ph == .closed && p.start.isSome).getLast? with
    | some p => p.start.map fun m => lineMod (m + p.d.length + 2 ^ 24 - 1)
    | none => s.jq.prevLast

/-- This chip's arrivals at the barriers of a job's pages are withdrawn here.
(DESIGN CHOICE, log entry 166.) -/
def State.dropOwnArrivals (s : State) (jobId : Nat) : State :=
  s.updBar fun b => { b with arrived := b.arrived.filter fun a => !(a.1 == s.barId && a.2.1 == jobId) }

/-- What a job that fails leaves undelivered to the Scaler (R204): its pages that have a start, up to line E (R435).
(DEDUCED, log entry 202.) -/
def State.cutPages (s : State) (j : Job) (e : Nat) : List RefCut :=
  s.jobPages.filterMap fun p => p.start.bind fun n =>
    let last := lineMod (n + p.d.length + 2 ^ 24 - 1)
    let last := if !j.d.scan && lineAfter last e then e else last
    if lineAtOrAfter last n then
      some { ser := j.ser, scan := j.d.scan, first := n, last := last
             streams := (List.range 56).filter fun st => s.streamServes st p }
    else none

/-- The job in force fails with a cause from line `n` on (R23). -/
def State.failJob (s : State) (cause n : Nat) : State :=
  match s.jq.job with
  | none => s
  | some j =>
    let scan := s.inScan
    let prev := s.prevAfterFail n
    let e := lineSub n 1
    let c := cMaxIn s.skid.copy j.ports
    let cut := s.cutPages j e
    let s : State := { s with scaler := { s.scaler with cut := s.scaler.cut ++ cut } }
    let s := s.recordFail cause j.d.jobId s.duePageNo (s.stampOf n)
    let s := s.abandonJob j.ser
    let s := s.setQueue (dropPages s.jq.q)
    let s := s.jqUpd fun q =>
      { q with job := none, pages := q.pages.filter fun p => p.jobSer != j.ser
               prevLast := prev, lastE := some e, lastCmax := c, lastPorts := j.ports
               drain := none, clears := q.clears ++ [{ ser := j.ser, e := e, c := c }], pmMissed := false }
    let s : State := { s.dropOwnArrivals j.d.jobId with
      scan := { s.scan with genDue := false, asmDue := false }, fire := { s.fire with failSwath := none } }
    let s := s.when (j.d.scan && scan) fun s =>
      (((s.emptyPorts 0 8).setFld FIRE_SCANSTAT.SSTATE 0).jqUpd fun q =>
        { q with prevLast := none, lastE := none, clears := q.clears.dropLast }).restartDecisions
    s.setJobState 4

/-- A job in progress fails from the next line boundary. -/
def State.failNow (s : State) (cause : Nat) : State := s.failJob cause s.nextLine

/-- A released job that waits in the queue fails without starting: its descriptors leave the queue (R19, R23).
(DESIGN CHOICE, log entry 149.) -/
def State.failWaiting (s : State) (idx : Nat) (d : JobDesc) : State :=
  let before := s.jq.q.takeWhile fun e => e.idx != idx
  let after := (s.jq.q.drop before.length).drop 1
  let pg := match after with
    | .page _ d :: _ => d.pageNo
    | _ => 0
  let idle := s.jq.job.isNone
  let s := s.recordFail 5 d.jobId pg (s.stampOf s.nextLine)
  let s := s.setQueue (before ++ dropPages after)
  s.when idle (·.setJobState 4)

/-! ### Page starts (R14, R435, R46, R80) -/

/-- The last line of the page before a waiting page: not known yet (none), no previous page (some none), or known. -/
def State.prevEnd (s : State) (w : JPage) : Option (Option Nat) :=
  match (s.jobPages.filter fun p => decide (p.ser < w.ser)).getLast? with
  | some p => p.start.map fun n => some (lineMod (n + p.d.length + 2 ^ 24 - 1))
  | none => some s.jq.prevLast

/-- A waiting page is the next to open: no page of the job before it waits. -/
def State.nextToOpen (s : State) (w : JPage) : Bool :=
  s.jobPages.all fun p => decide (w.ser ≤ p.ser) || p.ph != .waiting

/-- The first page of its job. -/
def State.isFirst (s : State) (w : JPage) : Bool := s.jobPages.all fun p => decide (w.ser ≤ p.ser)

/-- A start line is settled: the first page of a job opens no earlier than E + C_max + 256 (R80). -/
def State.setStart (s : State) (w : JPage) (n : Nat) : State :=
  let c := match s.jq.job with | some j => cMaxIn s.skid.copy j.ports | none => 0
  match (if s.isFirst w then s.jq.lastE else none) with
  | some e =>
    let m := lineMod (e + max s.jq.lastCmax c + 256)
    if lineAfter m n then
      (s.raise SKID_FLAG.JOB_HELD).updPage w.ser fun p => { p with start := some m, known := s.pos.nextDec }
    else s.updPage w.ser fun p => { p with start := some n, known := s.pos.nextDec }
  | none => s.updPage w.ser fun p => { p with start := some n, known := s.pos.nextDec }

/-- What the page-mark logic does with a held stamp (R46). -/
inductive MarkAct where
  | early | blank | late | accept
  deriving DecidableEq, Repr

/-- The judgement of a held stamp, in the order of R46.
(DEDUCED, log entry 41.) -/
def State.judgeMark (s : State) (prev : Option Nat) (t : Word) : MarkAct :=
  let blankLines := s.fld POS_PM.BLANK
  if prev.any fun e => !lineAfter (resolveLine t) e then .early
  else if s.pos.lastMark.any fun l => atOrAfter t l && decide ((t - l).toNat ≤ blankLines * 65536) then .blank
  else if !atOrAfter t s.pos.fwd || decide ((t - s.pos.fwd).toNat < 64 * 65536) then .late
  else .accept

/-- The page-mark logic takes held stamps in order until one opens the waiting page (R46).
(DEDUCED, log entry 41.) -/
def State.takeMarks (w : JPage) (prev : Option Nat) : List Word → State → State
  | [], s => { s with pos := { s.pos with marks := [] } }
  | t :: rest, s =>
    match s.judgeMark prev t with
    | .early => State.takeMarks w prev rest (s.raise POS_FLAG.PM_EARLY)
    | .blank => State.takeMarks w prev rest s
    | .late => State.takeMarks w prev rest (s.raise POS_FLAG.PM_LATE)
    | .accept =>
      ({ s with pos := { s.pos with marks := rest, lastMark := some t } } : State).setStart w (resolveLine t)

/-- A decision line is settled: the unit runs, and on a follower the first beacon has come (R97, R223). -/
def State.decides (s : State) : Bool := s.moves && !(s.follows && s.fld POS_STAT.STATE == 1)

/-- Settle the start of one waiting page, if it can be settled now. A MARK = 0b01 page that is its job's first waits for
ENABLE in OFF, which leaves it no previous page, and without a previous page for a settled decision line (R435). -/
def State.planPage (s : State) (ser : Nat) : State :=
  match s.page? ser with
  | none => s
  | some w =>
    if w.ph ≠ .waiting ∨ w.start.isSome ∨ !s.jobPages.any (fun p => p.ser == ser) then s
    else
      match s.prevEnd w with
      | none => s
      | some prev =>
        if w.d.mark = 0 then
          let n := resolveLine w.d.pos
          if prev.any fun e => !lineAfter n e then (s.raise SYS_JOBQ_FLAG.DESC_INVALID).failNow 5
          else s.setStart w n
        else if w.d.mark = 1 then
          match prev with
          | some e => if s.isFirst w ∧ s.fld POS_STAT.STATE = 0 then s else s.setStart w (lineMod (e + 1))
          | none => if s.decides then s.setStart w s.pos.nextDec else s
        else if s.nextToOpen w then State.takeMarks w prev s.pos.marks s
        else s

/-- Settle the start of every waiting page of the job in force, in order. -/
def State.planPages (s : State) : State := forIn' (s.jobPages.map fun p => p.ser) (fun ser s => s.planPage ser) s

/-! ### Barriers (R233) -/

/-- A page with BARRIER = 1 arrives: its arrival is recorded, and flooded except in ALONE.
(DEDUCED, log entry 45.) -/
def State.barrierArrive (s : State) (jobId pageNo : Nat) : State :=
  let s := s.updBar fun b => { b with arrived := (s.barId, jobId, pageNo) :: b.arrived }
  s.when (s.bstate != 0) (·.flood 7 [Word.of (jobId * 2 ^ 24 + pageNo * 2 ^ 8)])

/-- The arrivals at a page's barrier are used up when the page opens.
(DESIGN CHOICE, log entry 166.) -/
def State.dropArrivals (s : State) (d : PageDesc) : State :=
  s.when d.barrier (·.updBar fun b => { b with arrived := b.arrived.filter fun a => a.2 != (d.jobId, d.pageNo) })

/-- The barrier of a page is complete on this chip.
(DEDUCED, log entry 45.) -/
def State.barrierDone (s : State) (jobId pageNo : Nat) : Bool :=
  let has (i : Nat) : Bool := decide ((i, jobId, pageNo) ∈ s.bar.arrived)
  if s.bstate = 0 then has s.barId
  else s.barActive && s.members.all has

/-- The page may open as far as its barrier is concerned. -/
def State.barrierOk (s : State) (d : PageDesc) : Bool := !d.barrier || s.barrierDone d.jobId d.pageNo

/-! ### Scan mode: arming a swath (R118, R119, R124) -/

/-- Word `w` of a pass entry (entries wrap after 255). -/
def State.passWord (s : State) (e w : Nat) : Word := SMap.get 0 s.scan.pass (2 * (e % 256) + w)

/-- DIR of a pass entry's word 0. -/
def passDir (w : Word) : Bool := w.getLsbD 39

/-- LAST of a pass entry's word 0. -/
def passLast (w : Word) : Bool := w.getLsbD 38

/-- REUSE of a pass entry's word 0: 0b11 acts as 0b00. -/
def passReuse (w : Word) : Nat := if w.toNat / 2 ^ 36 % 4 = 3 then 0 else w.toNat / 2 ^ 36 % 4

/-- FEED of a pass entry's word 0. -/
def passFeed (w : Word) : Nat := w.toNat / 2 ^ 11 % 65536

/-- X0 of a pass entry's word 1. -/
def passX0 (w : Word) : Nat := w.toNat / 2 ^ 16

/-- The swath coordinate of a carriage position (R119). -/
def swathCoord (rev : Bool) (x0 : Nat) (p : Word) : Word := if rev then lineStamp x0 - p else p - lineStamp x0

/-- The ports that fire in a scan-mode job. -/
def State.scanPorts (s : State) : List Nat := match s.jq.job with | some j => j.ports | none => []

/-- Arm a swath of a page: rows of ports 0 to 7 EMPTY, the pass entry loaded, the page instance of the swath, the
transactions that wait for it in preparation, the head banks for its placement (R124, R120, R126): of the ports that fire
and of every port that a change held to this swath touches (R95). A change whose line is known only now is late (R436). -/
def State.armSwath (s : State) (jobSer : Nat) (job : JobDesc) (d : PageDesc) (entry y : Nat) (first : Bool) : State :=
  let e := entry % 256
  let w0 := s.passWord e 0
  let x0 := passX0 (s.passWord e 1)
  let rev := passDir w0
  let ser := s.jq.pageSer
  let u := swathCoord rev x0 s.posOut
  let s := s.emptyPorts 0 8
  let s := s.jqUpd fun q =>
    { q with pageSer := ser + 1
             pages := (q.pages.map fun p => if p.ph = .opened then { p with ph := .closed } else p) ++
               [{ ser := ser, jobSer := jobSer, job := job, d := d, ph := .opened, start := some 0, known := 0, rev := rev
                  y := y, entry := w0, cspan := 0 }] }
  let q0 := firstDecision u
  let q := if lineAfter q0 (lineSub 0 1) then q0 else lineSub 0 1
  let s : State := { s with scan := { s.scan with swathLine := q, x0 := x0, rev := rev, feedWait := false
                                                  asmDue := decide (q < 2 ^ 23) }
                            pos := { s.pos with fwd := s.posOut, revLatch := false }
                            fire := { s.fire with failDue := if s.fire.failSwath = some jobSer then some (jobSer, 0)
                                                    else s.fire.failDue, failSwath := none } }
  let s := ((s.setFld FIRE_SCANSTAT.PASS e).setFld FIRE_SCANSTAT.SSTATE 1).setFld FIRE_SCANSTAT.Y y
  let s := s.when (rev && decide (passReuse w0 ≠ 0)) (·.raise FIRE_SCANFLAG.REUSE_IGN)
  let late := decide (-(64 * 65536 : Int) < signed 40 u.toNat)
  let s := s.when late fun s =>
    let clear := !s.on FIRE_SCANFLAG.FEED_ERR && !s.on FIRE_SCANFLAG.ARM_LATE
    (s.when clear fun s => s.setReg FIRE_SCANPOS s.posOut).raise FIRE_SCANFLAG.ARM_LATE
  let s := s.prepareSwath first
  let s := s.updPage ser fun p => { p with cspan := FIRE_SCANCFG.CSPAN.ext (s.regAtLine FIRE_SCANCFG 0 0) }
  let held := s.armed.filter fun t => t.prep && t.nextSwath
  let ports := (List.range 48).filter fun p => s.scanPorts.contains p || held.any fun t => t.places.contains p
  forIn' ports (fun p s =>
    s.bankChange p 0 (held.any fun t => t.places.contains p && (t.mode == 2 || t.mode == 4))) s

/-- A scan-mode page at the front of the queue opens when its first swath arms (R118). For the first page of a job GEN is
compared at step 2 of the boundary of swath line 0 (R21, R168, Table 06-2).
(DESIGN CHOICE, log entry 151.) -/
def State.scanOpen (s : State) : State :=
  match s.jq.job, s.jq.q with
  | some j, .page _ d :: rest =>
    let first := s.jobState == 1
    if !j.d.scan || (s.on FIRE_SCANSTAT.SSTATE && !s.scan.feedWait) || !s.barrierOk d then s
    else
      let s : State := { s with scan := { s.scan with genDue := first } }
      let s := ((s.setQueue rest).setJobState 2).dropArrivals d
      let s := s.setFld FIRE_OVSP_STAT.PAGE_CNT 0
      s.armSwath j.ser j.d d d.passIdx 0 true
  | _, _ => s

/-! ### Release and job start (R20, R21, R88) -/

/-- A page descriptor is released to the data path (R20): in a single-pass job it becomes a waiting page. -/
def State.releasePage (s : State) (d : PageDesc) : State :=
  match s.jq.job with
  | none => s
  | some j =>
    let s := s.jqUpd fun q => { q with job := some { j with lastSeen := j.lastSeen || d.last } }
    let s := s.when d.barrier (·.barrierArrive d.jobId d.pageNo)
    if j.d.scan then s.scanOpen
    else
      let ser := s.jq.pageSer
      let s := s.jqUpd fun q =>
        { q with pageSer := ser + 1
                 pages := q.pages ++ [{ ser := ser, jobSer := j.ser, job := j.d, d := d, ph := .waiting, start := none
                                        known := 0, rev := false, y := 0, entry := 0, cspan := 0 }] }
      s.planPages

/-- The page descriptors that stand before the next job descriptor. -/
def pagesAhead : List QEnt → List PageDesc
  | .page _ d :: t => d :: pagesAhead t
  | _ => []

/-- The row clear and the drain span of the job that ended last, with C_max taken over the ports of the next job too
(R80, R92, Table 05-2).
(DESIGN CHOICE, log entry 192.) -/
def JobQSt.widen (q : JobQSt) (ser c : Nat) : JobQSt :=
  { q with clears := q.clears.map (fun x => if x.ser + 1 = ser then { x with c := max x.c c } else x)
           drain := match q.drain, q.lastE with
             | some _, some e => some (lineMod (e + max q.lastCmax c + 255))
             | d, _ => d }

/-- A job starts (STATE 1): its descriptor is consumed, the Skidder takes its copy, and the pages that have arrived are
released (R20, R88, R116). Pages older than the job before it are forgotten.
(DESIGN CHOICE, log entry 151.) -/
def State.startJob (s : State) (d : JobDesc) (rest : List QEnt) : State :=
  let ser := s.jq.jobSer + 1
  let copy := s.skidRegs
  let ports := portsIn copy d.scan
  let s : State := { s with skid := { s.skid with prevCopy := s.skid.copy, copy := copy }
                            scaler := { s.scaler with cut := s.scaler.cut.filter fun c => !c.scan && decide (ser ≤ c.ser + 1) } }
  let s := (s.setQueue rest).jqUpd fun q =>
    { q.widen ser (cMaxIn copy ports) with
        job := some { ser := ser, d := d, lastSeen := false, ports := ports }, jobSer := ser
        pages := q.pages.filter fun p => decide (ser ≤ p.jobSer + 1) }
  let s := (s.setFld SYS_JOBQ_STAT.CUR_JOB d.jobId).setJobState 1
  let s := forTo 56 (fun st s => s.updStream st fun x => { x with stopped := false }) s
  let s := s.when (d.scan && (List.range 48).any fun p => decide (8 ≤ p) && portEnIn copy p) (·.raise FIRE_SCANFLAG.PORTS)
  forIn' (pagesAhead rest) (fun d s => s.releasePage d) s

/-- The data path starts the released job at the front of the queue when it is idle and ENABLE is set.
(DEDUCED, log entry 42.) -/
def State.tryStart (s : State) : State :=
  if s.jobState = 0 ∧ s.on SYS_JOBQ_CTL.ENABLE then
    match s.jq.q with
    | .job _ d true :: rest => s.startJob d rest
    | _ => s
  else s

/-- The job ends at its last line `e` (R99, JOB_DONE): the drain span begins, descriptors held back only by a barrier
are written back (R78), the next released job starts. After a scan-mode job decisions start anew on the web's lines.
(DESIGN CHOICE, log entry 185; DESIGN CHOICE, log entry 192.) -/
def State.endJob (s : State) (e pageNo : Nat) : State :=
  match s.jq.job with
  | none => s
  | some j =>
    let c := cMaxIn s.skid.copy j.ports
    let s := s.raiseAt SYS_JOBQ_FLAG.JOB_DONE 0 0 (some (s.stampOf e)) (jobInfo j.d.jobId pageNo)
    let s := forTo 56 (fun st s => s.flushDescs j.ser st false) s
    let s := s.jqUpd fun q =>
      { q with job := none, doneSer := some j.ser, pages := q.pages.map (fun p => if p.ph = .opened then { p with ph := .closed } else p)
               prevLast := if j.d.scan then none else some e, lastE := if j.d.scan then none else some e
               lastCmax := c, lastPorts := j.ports
               drain := if j.d.scan then none else some (lineMod (e + c + 255))
               clears := if j.d.scan then q.clears else q.clears ++ [{ ser := j.ser, e := e, c := c }] }
    ((s.setJobState 0).when j.d.scan fun s => (s.setFld FIRE_SCANSTAT.SSTATE 0).restartDecisions).tryStart

/-! ### Descriptors (R16 to R19) -/

/-- A parsed descriptor of four words. -/
inductive Desc where
  | job (d : JobDesc)
  | page (d : PageDesc)
  | bad
  deriving DecidableEq, Repr

/-- Bits `hi` to `lo` of a word. -/
def bitsAt (w : Word) (hi lo : Nat) : Nat := w.toNat / 2 ^ lo % 2 ^ (hi + 1 - lo)

/-- The fields of Tables 01-4 and 01-5; `bad` for a TYPE that is neither. -/
def parseDesc (w0 w1 w2 w3 : Word) : Desc :=
  if bitsAt w0 39 36 = 1 then
    .job { jobId := bitsAt w0 35 20, gen := bitsAt w0 19 4, scan := bitsAt w0 3 3 = 1, ovfBase := bitsAt w1 35 12
           ovfSize := bitsAt w2 39 16, lead := bitsAt w2 11 0 }
  else if bitsAt w0 39 36 = 2 then
    .page { jobId := bitsAt w0 35 20, pageNo := bitsAt w0 19 4, last := bitsAt w0 3 3 = 1, barrier := bitsAt w0 2 2 = 1
            mark := bitsAt w0 1 0, pos := w1, length := bitsAt w2 39 16, passIdx := bitsAt w2 15 0
            tag := bitsAt w3 31 0 }
  else .bad

/-- The validity of a job descriptor (R19). -/
def State.jobDescOk (s : State) (d : JobDesc) (w0 w1 w2 w3 : Word) : Bool :=
  decide (bitsAt w0 2 0 = 0) && decide (bitsAt w1 39 36 = 0) && decide (bitsAt w1 11 0 = 0) &&
    decide (bitsAt w2 15 12 = 0) && w3 == 0 && decide (32 ≤ d.lead) &&
    (d.ovfSize == 0 || decide ((d.ovfBase + d.ovfSize) * 4096 ≤ s.dramCap))

/-- The last job descriptor that waits in the queue, with whether it is released and whether a LAST page descriptor
stands behind it. -/
def lastJob : List QEnt → Option (Nat × JobDesc × Bool × Bool)
  | [] => none
  | .job i d r :: t =>
    match lastJob t with
    | some x => some x
    | none => some (i, d, r, t.any fun e => match e with | .page _ p => p.last | _ => false)
  | .page _ _ :: t => lastJob t

/-- The job a page descriptor is judged against: its JOB_ID and whether its LAST page has come. -/
def State.refJob (s : State) : Option (Nat × Bool) :=
  match lastJob s.jq.q with
  | some (_, d, _, seen) => some (d.jobId, seen)
  | none => s.jq.job.map fun j => (j.d.jobId, j.lastSeen)

/-- The validity of a page descriptor as far as it shows on arrival (R19). -/
def State.pageDescOk (s : State) (d : PageDesc) (w3 : Word) : Bool :=
  decide (bitsAt w3 39 32 = 0) && d.mark != 3 && d.length != 0 && decide (d.length % 8 = 0) &&
    (match s.refJob with
     | none => false
     | some (id, seen) => id == d.jobId && !seen)

/-- The waiting job that bears a JOB_ID, the latest first: its index, its descriptor, its release. -/
def waitingJob (id : Nat) : List QEnt → Option (Nat × JobDesc × Bool)
  | [] => none
  | .job i d r :: t => (waitingJob id t).or (if d.jobId = id then some (i, d, r) else none)
  | .page _ _ :: t => waitingJob id t

/-- An invalid descriptor: the flag, and the failure of the job it belongs to or follows when that job is in progress
or released (R19). A page descriptor belongs to the job its JOB_ID names; one that names no job, and every other invalid
descriptor, follows the last job descriptor in the queue, or with none waiting the job in force.
(DESIGN CHOICE, log entry 152.) -/
def State.descInvalid (s : State) (id : Option Nat) : State :=
  let s := s.raise SYS_JOBQ_FLAG.DESC_INVALID
  let fail (x : Nat × JobDesc × Bool) : State := if x.2.2 then s.failWaiting x.1 x.2.1 else s
  match id.bind fun k => waitingJob k s.jq.q with
  | some x => fail x
  | none =>
    if s.jq.job.any fun j => id == some j.d.jobId then s.failNow 5
    else
      match lastJob s.jq.q with
      | some (i, d, released, _) => fail (i, d, released)
      | none => s.failNow 5

/-- A descriptor takes the next entry. -/
def State.enqueue (s : State) (mk : Nat → QEnt) : State :=
  let i := s.fld SYS_JOBQ_STAT.WR_IDX
  let s := s.setFld SYS_JOBQ_STAT.WR_IDX ((i + 1) % 128)
  s.setQueue (s.jq.q ++ [mk i])

/-- A descriptor arrives (R16, R19, R20). -/
def State.jobdesc (s : State) (w0 w1 w2 w3 : Word) : State :=
  if 64 ≤ s.jq.q.length then s.raise SYS_JOBQ_FLAG.OVERRUN
  else
    match parseDesc w0 w1 w2 w3 with
    | .bad => s.descInvalid none
    | .job d => if s.jobDescOk d w0 w1 w2 w3 then s.enqueue fun i => .job i d false else s.descInvalid none
    | .page d =>
      if s.pageDescOk d w3 then
        let waits := (lastJob s.jq.q).isSome
        let s := s.enqueue fun i => .page i d
        if waits then s else s.releasePage d
      else s.descInvalid (some d.jobId)

/-- A write of SYS_JOBQ_REL (R20): an index one past a job descriptor releases that job; any other is ignored. -/
def State.jobqRelease (s : State) (rel : Nat) : State :=
  let hit (e : QEnt) : Bool := e.isJob && (e.idx + 1) % 128 == rel
  if s.jq.q.any hit then
    let s := s.setFld SYS_JOBQ_REL.REL_IDX rel
    (s.setQueue (s.jq.q.map fun e => match e with
      | .job i d r => if (i + 1) % 128 = rel then .job i d true else .job i d r
      | e => e)).tryStart
  else s

/-- A write of SYS_JOBQ_CTL (Table 01-6).
(DEDUCED, log entry 71.) -/
def State.jobqCtl (s : State) (flush enable : Bool) : State :=
  let failed := flush && s.jobRuns
  let s := s.when flush fun s => (s.failNow 10).setQueue []
  if failed then s
  else
    let was := s.on SYS_JOBQ_CTL.ENABLE
    let s := s.setFld SYS_JOBQ_CTL.ENABLE (bit enable)
    let s := s.when (enable && !was && s.jobState == 4) (·.setJobState 0)
    s.tryStart

/-- The current page of R22: the last page descriptor released for the job. -/
def State.currentPage (s : State) : Option JPage := s.jobPages.getLast?

/-- In scan mode the start that R22 waits for is not known yet: a released page has armed no swath, or the swath that
holds the current page's last line has not armed. -/
def State.swathLeft (s : State) : Bool :=
  match s.jq.job, s.currentPage with
  | some j, some p => j.d.scan && (pagesAhead s.jq.q != [] || !passLast p.entry)
  | _, _ => false

/-- UNDERRUN (R22): the deadline of the next page descriptor passes. It runs only for a job whose LAST page descriptor
has not been released and once the current page's start is known. -/
def State.underrun (s : State) : State :=
  match s.jq.job, s.currentPage with
  | some j, some p =>
    if !j.lastSeen && p.start.isSome && !s.swathLeft then (s.raise SYS_JOBQ_FLAG.UNDERRUN).failNow 7 else s
  | _, _ => s

/-- PM_MISSING (R46): no mark is accepted WIN lines past the end of the previous page. -/
def State.pmMissing (s : State) : State :=
  let s := s.planPages
  let waits := s.jobPages.any fun w => w.ph == .waiting && w.d.mark == 2 && w.start.isNone && s.nextToOpen w &&
    (s.prevEnd w).any fun e => e.isSome
  if waits && s.on POS_PM.WIN && !s.jq.pmMissed then
    (s.raise POS_FLAG.PM_MISSING).jqUpd fun q => { q with pmMissed := true }
  else s

/-- The line E + C_max + 256 of an ended job (R92). -/
def RowClr.line (x : RowClr) : Nat := lineMod (x.e + x.c + 256)

/-- The row clear whose line comes first by R29. -/
def firstClr : List RowClr → Option RowClr
  | [] => none
  | x :: t =>
    match firstClr t with
    | some y => if lineAfter x.line y.line then some y else some x
    | none => some x

/-- ROW_CLEAR (R92): the forward position reaches the first of the lines E + C_max + 256 of ended jobs: every row whose tag
lies before it is set EMPTY. -/
def State.rowClear (s : State) : State :=
  match firstClr s.jq.clears with
  | none => s
  | some x => (s.clearBefore x.line).jqUpd fun q => { q with clears := q.clears.erase x }

end Sys2Proof.Machine
end

