-- ==== Sys2Proof/Machine/SkidCmd.lean ====
section
/-! DEFINITION. The Skidder's events (spec/04_skidder_remap.md): descriptor reads and their checks, fetch deadlines,
slot fetches, release to the codec, late blocks, write-back, and the remap window. -/

namespace Sys2Proof.Machine

/-- The Skidder works: PD4 on, its block reset released. -/
def State.skidUp (s : State) : Bool := s.pdOn 4 && !s.blkHeld 48

/-- The page whose descriptors a stream reads next. -/
def State.descPage (s : State) (st : Nat) : Option JPage := (s.servedFrom st (s.stream st).pageLo).head?

/-! ### Faults (R82, Table 04-6) -/

/-- Record a Skidder fault: the captures when none of STARVE, LATE, DESC_ECC and RMAP_ECC was set, then the flag.
(DEDUCED, log entry 48.) -/
def State.skidFault (s : State) (f : Fld) (code st blk : Nat) (stamp : Word) : State :=
  let clear := !s.on SKID_FLAG.STARVE && !s.on SKID_FLAG.LATE && !s.on SKID_FLAG.DESC_ECC && !s.on SKID_FLAG.RMAP_ECC
  (s.when clear fun s =>
    (((s.setFld SKID_FAULTINFO.CODE code).setFld SKID_FAULTINFO.STREAM st).setFld SKID_FAULTINFO.BLK blk).setFld
      SKID_FAULTPOS.STAMP stamp.toNat).raiseS f 0 stamp

/-- The job that a page belongs to fails, when it is the job in force. -/
def State.failFor (s : State) (pg : JPage) (cause n : Nat) : State :=
  match s.jq.job with
  | some j => if j.ser = pg.jobSer then s.failJob cause n else s
  | none => s

/-- The first line a failure recorded at boundary `b` can take effect from: the line after it, unless later lines are
decided already.
(DEDUCED, log entry 44.) -/
def State.failLine (s : State) (b : Nat) : Nat :=
  let n := lineMod (b + 1)
  if lineAfter s.nextLine n then s.nextLine else n

/-! ### Descriptors (R73 to R77) -/

/-- A descriptor as read from its ring (Table 04-1). -/
structure RawDesc where
  w0 : Nat
  w1 : Nat
  deriving DecidableEq, Repr

/-- OWN, BARRIER, FIRST, LAST, EVT: bits 63 to 59 of word 0. -/
def RawDesc.flag (d : RawDesc) (b : Nat) : Bool := d.w0.testBit b

/-- TAG. -/
def RawDesc.tag (d : RawDesc) : Nat := d.w0 / 2 ^ 24 % 2 ^ 32

/-- SLOT. -/
def RawDesc.slot (d : RawDesc) : Nat := d.w0 % 2 ^ 24

/-- NBLK. -/
def RawDesc.nblk (d : RawDesc) : Nat := d.w1 / 2 ^ 52 % 2 ^ 12

/-- BLK. -/
def RawDesc.blk (d : RawDesc) : Nat := d.w1 / 2 ^ 31 % 2 ^ 21

/-- WHY of Table 04-4 for an owned descriptor of a page; 0 when every check passes. In a reverse swath checks 3 and 5 are
mirrored (R122).
(DESIGN CHOICE, log entry 189.) -/
def descWhy (d : RawDesc) (x : Stream) (pg : JPage) (ringLog2 : Nat) : Nat :=
  let n := pg.d.blocks
  let first := d.flag 61
  let last := d.flag 60
  let start := if pg.rev then d.blk + d.nblk == n else d.blk == 0
  let next := if pg.rev then d.blk + d.nblk == x.expBlk else d.blk == x.expBlk
  let atEnd := if pg.rev then d.blk == 0 else d.blk + d.nblk == n
  if d.w0 / 2 ^ 56 % 8 ≠ 0 ∨ d.w1 % 2 ^ 31 ≠ 0 then 1
  else if d.nblk = 0 ∨ 2 ^ ringLog2 < d.nblk then 2
  else if (first && (!start || x.inPage)) || (!first && !next) then 3
  else if !first && d.tag != pg.d.tag then 4
  else if n < d.blk + d.nblk ∨ last ≠ atEnd then 5
  else 0

/-- What a descriptor read found. -/
inductive ReadRes where
  | unowned | ecc | stale | bad | good
  deriving DecidableEq, Repr

/-- The descriptor record of a read descriptor. -/
def RawDesc.entry (d : RawDesc) (didx page : Nat) (dring : Word) : SkDesc :=
  { didx := didx, w0 := d.w0, barrier := d.flag 62, first := d.flag 61, last := d.flag 60, evt := d.flag 59, tag := d.tag
    slot := d.slot, nblk := d.nblk, blk := d.blk, done := 0, page := page, dring := dring }

/-- The block of a page that a stream's next descriptor should begin with.
(DEDUCED, log entry 47.) -/
def Stream.awaits (x : Stream) (pg : JPage) : Nat :=
  if x.inPage then (if pg.rev then x.expBlk - 1 else x.expBlk) else pg.blkAt 0

/-- A descriptor read returns for a page (R75 to R77): unowned, uncorrectable (code 0x04), stale, bad, or taken.
(DEDUCED, log entry 47; DEDUCED, log entry 48.)
(DESIGN CHOICE, log entry 190.) -/
def State.readDesc (s : State) (st : Nat) (pg : JPage) : State × ReadRes :=
  let m := s.copyOf pg
  let dring := copyReg m SKID_DRING st
  let i := s.fld SKID_DHEAD.IDX st
  let r := s.dramRead 0 (dringAddr dring i) 16
  let s := r.1
  match r.2 with
  | none => ((s.skidFault SKID_FLAG.DESC_ECC 4 st ((s.stream st).awaits pg) s.posOut).failFor pg 12 s.nextLine, .ecc)
  | some bs =>
    let d : RawDesc := { w0 := ofBytesBE (bs.take 8), w1 := ofBytesBE (bs.drop 8) }
    if !d.flag 63 then (s, .unowned)
    else
      let x := s.stream st
      let s := s.setFld SKID_DHEAD.IDX (i + 1) st
      let k := d.entry i pg.ser dring
      if !x.inPage && !(d.flag 61 && d.tag == pg.d.tag) then
        ((s.writeBack k 1).raise SKID_FLAG.STALE, .stale)
      else
        let why := descWhy d x pg (SKID_RING.RING_LOG2.ext (copyReg m SKID_RING st))
        if why ≠ 0 then
          let s := s.writeBack k 3
          let s := s.when (!s.on SKID_FLAG.DESC_BAD) fun s =>
            ((s.setFld SKID_DBADINFO.STREAM st).setFld SKID_DBADINFO.DIDX i).setFld SKID_DBADINFO.WHY why
          ((s.raise SKID_FLAG.DESC_BAD).updStream st fun x => { x with stopped := true }, .bad)
        else
          (s.updStream st fun x =>
            { x with descs := x.descs ++ [k], inPage := !d.flag 60, pageLo := if d.flag 60 then pg.ser + 1 else pg.ser
                     expBlk := if pg.rev then d.blk else d.blk + d.nblk }, .good)

/-- DESCRIPTOR_READ, DESCRIPTOR_POLL: the next descriptor of a stream is read, when a page awaits one (R75).
(DEDUCED, log entry 145.) -/
def State.descRead (s : State) (st : Nat) : State :=
  if !s.skidUp || !s.on SKID_CTL.ENABLE || (s.stream st).stopped then s
  else
    match s.descPage st with
    | none => s
    | some pg => (s.readDesc st pg).1.skidSync st

/-! ### Fetch deadlines (R81, R82) -/

/-- The descriptor of a stream that covers a block of a page. -/
def State.covering (s : State) (st : Nat) (pg : JPage) (blk : Nat) : Option SkDesc :=
  (s.stream st).descs.find? fun d => d.page == pg.ser && decide (d.blk ≤ blk) && decide (blk < d.blk + d.nblk)

/-- The reads made at a fetch deadline: stale descriptors are skipped until one is taken, bad or not owned. -/
def State.deadlineRead (pg : JPage) (st blk : Nat) : Nat → State → State
  | 0, s => s
  | n + 1, s =>
    if (s.covering st pg blk).isSome || (s.stream st).stopped || s.descPage st != some pg then s
    else
      let r := s.readDesc st pg
      match r.2 with
      | .stale => State.deadlineRead pg st blk n r.1
      | _ => r.1

/-- The byte address of a block's slot (R72).
(DESIGN CHOICE, log entry 189.) -/
def State.slotAddr (s : State) (st : Nat) (pg : JPage) (d : SkDesc) (blk : Nat) : Nat :=
  let r := copyReg (s.copyOf pg) SKID_RING st
  SKID_RING.BASE.ext r * 16 + (d.slot + (blk - d.blk)) % 2 ^ SKID_RING.RING_LOG2.ext r * slotBytes (SKID_RING.RATIO.ext r)

/-- The boundary a block's fetch deadline is taken at: L − LEAD_EFF, or the boundary at which the page's start became
known when that is later (R81, R125), and its stamp.
(DEDUCED, log entry 43.) -/
def State.deadlineOf (s : State) (pg : JPage) (l : Nat) : Nat × Word :=
  let b := lineSub l (s.leadEff pg)
  if pg.job.scan && decide (l < s.leadEff pg) then (lineSub 0 1, s.posOut)
  else
    let n := if lineAtOrAfter b pg.known then b else pg.known
    (n, s.stampOf n)

/-- FETCH_DEADLINE: the next block of a stream reaches its fetch deadline (R81, R82, R233). -/
def State.fetchDeadline (s : State) (st : Nat) : State :=
  if !s.skidUp then s
  else
    match s.dlBlock st with
    | none => s
    | some (pg, i) =>
      match s.blockLine pg st i with
      | none => s
      | some l =>
        let blk := pg.blkAt i
        let b := s.deadlineOf pg l
        if pg.ph == .waiting && !s.barrierOk pg.d then
          (s.raise BAR_FLAG.BARRIER_LATE).failFor pg 11 (if lineAfter s.nextLine b.1 then s.nextLine else b.1)
        else if !s.on SKID_CTL.ENABLE then
          (s.skidFault SKID_FLAG.STARVE 3 st blk b.2).failFor pg 1 (s.failLine b.1)
        else
          let s := State.deadlineRead pg st blk 65536 s
          match s.covering st pg blk, s.page? pg.ser with
          | some d, some _ =>
            let a := s.slotAddr st pg d blk
            (s.updStream st fun x =>
              { x with dlPage := if i + 1 = pg.d.blocks then pg.ser + 1 else pg.ser
                       dlCnt := if i + 1 = pg.d.blocks then 0 else i + 1
                       toFetch := x.toFetch ++ [{ page := pg.ser, blk := blk, addr := a, slot := [], spill := []
                                                  poison := false }] }).skidSync st
          | none, some _ => (s.skidFault SKID_FLAG.STARVE 1 st blk b.2).failFor pg 1 (s.failLine b.1)
          | _, none => s

/-! ### Fetch and release (R72, R81) -/

/-- What a block is checked against before its spill area is requested: behind an undecoded block of its stream the band
is open and the next BLK_SEQ follows that block's (R53, R65). -/
def State.fetchCtx (s : State) (st : Nat) (pg : JPage) (blk : Nat) : BlkCtx :=
  let x := s.stream st
  let c := s.blkCtx st pg blk
  match (x.released ++ x.prefetched).getLast? with
  | some b => { c with isOpen := true, seq := ((slotHdr b.slot).seq + 1) % 128 }
  | none => c

/-- The spill area of a slot: requested only when the block passes every check of its header and its index (R61). -/
def spillArea (slot : List Byte) (pg : JPage) (c : BlkCtx) : Option (Nat × Nat) :=
  if (slotHdr slot).spill && slotCheck slot c == 0 then
    some (pg.job.ovfBase * 4096 + (slotIdx slot).offset * 16, (slotIdx slot).len * 16)
  else none

/-- The block with its spill area fetched, where its checks let it be requested (R61, R72). -/
def State.fetchSpill (s : State) (pg : JPage) (c : BlkCtx) (b : Blk) : State × Blk :=
  match spillArea b.slot pg c with
  | none => (s, b)
  | some (a, k) =>
    let q := s.dramRead 0 a k
    match q.2 with
    | none => (q.1, { b with poison := true })
    | some sp => (q.1, { b with spill := sp })

/-- SLOT_FETCH_DONE: the oldest block that waits has its slot and spill data fetched (R72, R81); NEXT_BLK is the block after
it when no later one is known yet. While the Skidder's wrapper drains, the data is discarded on arrival, and counts
(R308).
(DESIGN CHOICE, log entry 188.) -/
def State.slotFetchDone (s : State) (st : Nat) : State :=
  match (s.stream st).toFetch with
  | [] => s
  | b :: rest =>
    if s.blkHeld 48 then ((s.updStream st fun x => { x with toFetch := rest }).isoCount 48 1).skidSync st
    else
    match s.page? b.page with
    | none => (s.updStream st fun x => { x with toFetch := rest }).skidSync st
    | some pg =>
      let n := slotBytes (s.ringRatio st pg)
      let done (s : State) (b : Blk) : State :=
        ((s.updStream st fun x => { x with toFetch := rest, prefetched := x.prefetched ++ [b] }).setFld SKID_SSTAT.NEXT_BLK
          (b.blk + 1) st).skidSync st
      if n = 0 then done s b
      else
        let r := s.dramRead 0 b.addr n
        match r.2 with
        | none => done r.1 { b with poison := true }
        | some slot =>
          let q := r.1.fetchSpill pg (r.1.fetchCtx st pg b.blk) { b with slot := slot }
          done q.1 q.2

/-- The line-buffer tag of line `i` of a block: the reference line, or the swath line (R90, R119). -/
def JPage.rowTag (pg : JPage) (blk i : Nat) : Nat :=
  match pg.start with
  | some n => if pg.rev then pg.d.length - 1 - (8 * blk + i) else lineMod (n + 8 * blk + i)
  | none => 0

/-- A codec error of Table 03-5 (R62): flag, capture, job failure.
(DEDUCED, log entry 54.)
(DESIGN CHOICE, log entry 157.)
(DEDUCED, log entry 183.) -/
def State.codecError (s : State) (st : Nat) (pg : JPage) (blk code seq : Nat) : State :=
  let f := if code = 0x10 then CODEC_FLAG.POOL_EXHAUST else if code = 0x11 then CODEC_FLAG.POOL_RANGE
    else if code = 0x20 then CODEC_FLAG.ECC else if code = 0x21 then CODEC_FLAG.CTX_ECC else CODEC_FLAG.FORMAT
  let clear := !s.on CODEC_FLAG.FORMAT && !s.on CODEC_FLAG.POOL_EXHAUST && !s.on CODEC_FLAG.POOL_RANGE &&
    !s.on CODEC_FLAG.ECC && !s.on CODEC_FLAG.CTX_ECC
  let line := (s.blockLine pg st (pg.placeOf blk)).getD 0
  let s := s.when clear fun s =>
    (((s.setFld CODEC_ERRINFO.CODE code).setFld CODEC_ERRINFO.STREAM st).setFld CODEC_ERRINFO.BLK_SEQ seq).setFld
      CODEC_ERRLINE.STAMP (s.stampOf line).toNat
  (s.raiseS f 0 (s.stampOf line)).failFor pg (if code = 0x10 ∨ code = 0x11 then 2 else 12) s.nextLine

/-- A row becomes PENDING for a line (Table 05-1); in a swath with two streams the part that came first stays. -/
def State.pendRow (s : State) (p tag : Nat) : State :=
  let r := s.row p tag
  if r.st = .pending ∧ r.tag = tag then s else s.setRow p tag { Row.reset with tag := tag, st := .pending }

/-- BLOCK_RELEASE: the oldest fetched block is released to the codec: its eight rows turn PENDING (R81, R90). A ring
without a slot size fails check 0x02 here (R72). A codec in block reset answers with an error response, which counts, and
the block stays with the Skidder (R308).
(DEDUCED, log entry 50.)
(DEDUCED, log entry 198.) -/
def State.blockRelease (s : State) (st : Nat) : State :=
  match (s.stream st).prefetched with
  | [] => s
  | b :: rest =>
    if s.blkHeld 49 then s.isoCount 49 1
    else
    match s.page? b.page with
    | none => (s.updStream st fun x => { x with prefetched := rest }).skidSync st
    | some pg =>
      let s := s.updStream st fun x => { x with prefetched := rest }
      if s.ringRatio st pg = 0 then (s.codecError st pg b.blk 2 0).skidSync st
      else
        let s := s.updStream st fun x => { x with released := x.released ++ [b] }
        (forTo 8 (fun i s => s.pendRow (portOfStream st) (pg.rowTag b.blk i)) s).skidSync st

/-- LATE: the forward position reaches the base launch line of the oldest block that is not decoded (R82). -/
def State.lateBlock (s : State) (st : Nat) : State :=
  let x := s.stream st
  match x.released ++ x.prefetched ++ x.toFetch with
  | [] => s
  | b :: _ =>
    match s.page? b.page with
    | none => s
    | some pg =>
      match s.blockLine pg st (pg.placeOf b.blk) with
      | none => s
      | some l => (s.skidFault SKID_FLAG.LATE 2 st b.blk (s.stampOf l)).failFor pg 1 (s.failLine l)

/-! ### Write-back (R74, R78) -/

/-- A stream has decoded every block whose base launch line is at or before a line (R78). -/
def State.decodedTo (s : State) (l st : Nat) : Bool :=
  let x := s.stream st
  match (s.servedFrom st x.decPage).head? with
  | none => true
  | some p =>
    match s.blockLine p st (if p.ser = x.decPage then x.decCnt else 0) with
    | none => true
    | some m => lineAfter m l

/-- The fence of a barrier descriptor (R78): the line of its last block is passed on every stream. -/
def State.fenceOk (s : State) (st : Nat) (d : SkDesc) : Bool :=
  match s.page? d.page with
  | none => true
  | some pg =>
    let last := if pg.rev then d.blk else d.blk + d.nblk - 1
    match s.blockLine pg st (pg.placeOf last) with
    | none => true
    | some l => (List.range 56).all fun t => s.decodedTo l t

/-- A descriptor of a stream may be written back: all its blocks are in the line buffer, and for a barrier descriptor
every one before it on its stream is written back and its fence is passed (R74, R78). -/
def State.wbReady (s : State) (st : Nat) (d : SkDesc) : Bool :=
  d.done == d.nblk && (!d.barrier || ((s.stream st).descs.head? == some d && s.fenceOk st d))

/-- DESC_WRITEBACK: the oldest descriptor of a stream that may be written back is (R74, R78). -/
def State.descWriteback (s : State) (st : Nat) : State :=
  match (s.stream st).descs.find? (s.wbReady st) with
  | none => s
  | some d => (s.writeBack d 0).updStream st fun x => { x with descs := x.descs.erase d }

/-! ### The remap window (R84, R87, R434) -/

/-- SKID_RMAPIDX names an entry. -/
def State.rmapIdxOk (s : State) : Bool := decide (s.fld SKID_RMAPIDX.PORT < 48) && decide (s.fld SKID_RMAPIDX.COL < 4000)

/-- The index into the remap words that SKID_RMAPIDX names. -/
def State.rmapIdx (s : State) : Nat :=
  8000 * s.fld SKID_RMAPIDX.PORT + 2 * s.fld SKID_RMAPIDX.COL + s.fld SKID_RMAPIDX.WORD

/-- AUTOINC of the remap window: WORD, then COL, then PORT, wrapping at the last entry. -/
def State.rmapAdvance (s : State) : State :=
  if !s.on SKID_RMAPIDX.AUTOINC then s
  else
    let i := (s.rmapIdx + 1) % 384000
    ((s.setFld SKID_RMAPIDX.PORT (i / 8000)).setFld SKID_RMAPIDX.COL (i % 8000 / 2)).setFld SKID_RMAPIDX.WORD (i % 2)

/-- The words of an entry hold a legal value (R87): reserved fields, SEL and the candidates in use.
(DEDUCED, log entry 51.) -/
def rmapOk (w0 w1 w : Word) (word : Nat) : Bool :=
  let sel := rmSel w0
  let inUse (k : Nat) : Bool := !decide (k ≤ rmNalt w0) || decide (rmCand w0 w1 k < 4000)
  if word = 0 then
    w.toNat / 2 ^ 24 % 2 ^ 11 == 0 && (decide (sel ≤ 3) || sel == 7) && (List.range 4).all inUse
  else w.toNat / 2 ^ 24 == 0 && inUse 2 && inUse 3

/-- RMAP_WRITE: a write of SKID_RMAPDATA (R87). `loader` writes are held to the same rules. -/
def State.rmapWrite (s : State) (w : Word) : State :=
  if !s.rmapIdxOk then s.raise SKID_FLAG.RMAP_RANGE
  else
    let word := s.fld SKID_RMAPIDX.WORD
    let i := s.rmapIdx
    let w0 := if word = 0 then w else s.rmapWord (i - 1)
    let w1 := if word = 0 then s.rmapWord (i + 1) else w
    let s := if !s.betweenJobs then s.raise SKID_FLAG.RMAP_REJ
      else if !rmapOk w0 w1 w word then s.raise SKID_FLAG.RMAP_RANGE
      else s.setRmapWord i w
    s.rmapAdvance

/-- A read of SKID_RMAPDATA: the indexed word; 0 at an index that names no entry (R434). -/
def State.rmapRead (s : State) : State × Word :=
  if s.rmapIdxOk then (s.rmapAdvance, s.rmapWord s.rmapIdx) else (s, 0)

end Sys2Proof.Machine
end

