-- ==== Sys2Proof/Machine/Codec.lean ====
section
/-! DEFINITION. The codec's commands (spec/03_opzo_block_format.md): decoding of blocks with the row writes (R85, R142,
R121), the Scaler's reference sums (R203), encoding (R68, R69, R123), context transfers (R66). -/

namespace Sys2Proof.Machine

/-- Change the codec's own state. -/
def State.codecUpd (s : State) (f : CodecSt → CodecSt) : State := { s with codec := f s.codec }

/-- An encode stream. -/
def State.encStream (s : State) (e : Nat) : Enc := SMap.get Enc.reset s.codec.enc e

/-- The archive of a port's frame has left the encode stream: ARCH_BUSY ends (R193, R195). -/
def State.archEnd (e n : Nat) (s : State) : State :=
  let x := SMap.get VPort.reset s.vis.port n
  if x.arch = some e ∧ (s.encStream e).lines = [] then
    ({ s with vis := { s.vis with port := SMap.set VPort.reset s.vis.port n { x with arch := none } } }).setFld
      VIS_PORTSTAT.ARCH_BUSY 0 n
  else s

/-- No encode stream codes a frame any more: ARCH_BUSY of every port ends (R193). -/
def State.archDrop (s : State) : State :=
  forTo 8 (fun n s =>
    let x := SMap.get VPort.reset s.vis.port n
    s.when x.arch.isSome fun s =>
      ({ s with vis := { s.vis with port := SMap.set VPort.reset s.vis.port n { x with arch := none } } } : State).setFld
        VIS_PORTSTAT.ARCH_BUSY 0 n) s

/-- Set an encode stream, with CODEC_STAT.ENC_BUSY and the end of an archive. -/
def State.setEncStream (s : State) (e : Nat) (x : Enc) : State :=
  let s := s.codecUpd fun c => { c with enc := SMap.set Enc.reset c.enc e x }
  let s := s.setFld CODEC_STAT.ENC_BUSY (bit (s.codec.enc.any fun y => decide (8 ≤ y.2.lines.length)))
  forTo 8 (State.archEnd e) s

/-! ### Row writes (R85, R86, R121, R142) -/

/-- A dot of a page line in logical columns as the row write takes it. -/
abbrev LogicalLine := Array Nat

/-- The logical columns of a line of 200 words. -/
def colsOf (ws : List Word) : LogicalLine := ((ws.map fun w => (List.range 20).map fun k => dotField w k).flatten).toArray

/-- A bit of a mask (R121). -/
def State.maskBit (s : State) (mask row col : Nat) : Bool := (SMap.get 0 s.scan.mask (32 * mask + row)).testBit col

/-- The logical columns of a line in a swath: feed shift and mask (R121). -/
def State.swathCols (s : State) (pg : JPage) (i : Nat) (main aux : LogicalLine) : LogicalLine :=
  let y := pg.y % 4000
  let men := pg.entry.getLsbD 35
  let mask := pg.entry.toNat / 2 ^ 31 % 16
  ((List.range 4000).map fun c =>
    let r := y + c
    let v := if r < 4000 then main.getD r 0 else aux.getD (r - 4000) 0
    if men && !s.maskBit mask (i % 32) ((pg.y + c) % 32) then 0 else v).toArray

/-- The routing, channel entries and code-map word of a view. -/
structure ViewTables where
  view : CalView
  route : Routing
  chan : Array Nat
  cmw : Nat

/-- The tables of every view that a list of launch lines meets. -/
def State.viewTables (s : State) (p : Nat) (pend : List (Option Nat × CalChange)) (lines : List Nat) : List ViewTables :=
  let vs := (lines.map (calViewFor s.calUnder pend)).eraseDups
  vs.map fun v => { view := v, route := s.routing v p, chan := s.chanTable v p, cmw := s.calMap v.bank p }

/-- The fine delay of every channel of a port at a line (R93).
(DEDUCED, log entry 65.) -/
def State.fineDelays (s : State) (p n : Nat) : Array Nat := (s.placement p n).map fun t => clampPlace t / 16

/-- The channel words of one line: for each channel the column selected at its launch line, through the code map. -/
def rowWords (active : Nat) (pend : List (Option Nat × CalChange)) (tabs : List ViewTables) (delay : Array Nat) (base : Nat)
    (cols : LogicalLine) : List Word :=
  let pick (v : CalView) : Option ViewTables := tabs.find? fun t => t.view == v
  let one := if pend.isEmpty then tabs.head? else none
  packLine fun ch =>
    let tab := match one with
      | some t => some t
      | none => pick (calViewFor active pend (lineMod (base + delay.getD ch 0)))
    match tab with
    | none => 0
    | some t =>
      match t.route.src.getD ch none with
      | none => 0
      | some c => mapDot t.cmw (t.chan.getD ch 0 % 4) (cols.getD c 0)

/-- Write one line of a port: its logical columns go through the remap and the code maps, the row turns READY.
(DEDUCED, log entry 65.) -/
def State.writeRow (s : State) (p tag : Nat) (words : List Word) : State :=
  s.setRow p tag { Row.reset with tag := tag, st := .ready, words := words }

/-- The eight lines of a decoded block as launch lines of their rows (R79). -/
def State.rowBase (s : State) (pg : JPage) (p blk i : Nat) : Nat := lineMod (pg.rowTag blk i + s.pageCoarse pg p)

/-- The lines whose logical columns are whole, with the row updated where one stream's part still lacks (R121). -/
def State.formLine (s : State) (st : Nat) (pg : JPage) (blk i : Nat) (ws : List Word) : State × Option LogicalLine :=
  if !pg.job.scan then (s, some (colsOf ws))
  else if pg.y % 4000 = 0 then (s, some (s.swathCols pg (8 * blk + i) (colsOf ws) #[]))
  else
    let p := portOfStream st
    let tag := pg.rowTag blk i
    let r := s.row p tag
    let r := if st < 48 then { r with main := some ws } else { r with aux := some ws }
    match r.main, r.aux with
    | some a, some b => (s, some (s.swathCols pg (8 * blk + i) (colsOf a) (colsOf b)))
    | _, _ => (s.setRow p tag r, none)

/-- The eight lines of a block written into the line buffer (R90). -/
def State.writeBlock (s : State) (st : Nat) (pg : JPage) (blk : Nat) (ws : List Word) : State :=
  let p := portOfStream st
  let pend := s.calPending
  let bases := (List.range 8).map fun i => s.rowBase pg p blk i
  let delay := s.fineDelays p (bases.getD 0 0)
  let dset := if pend.isEmpty then [0] else delay.toList.eraseDups
  let lines := (bases.map fun b => dset.map fun d => lineMod (b + d)).flatten
  let tabs := s.viewTables p pend (if pend.isEmpty then bases.take 1 else lines)
  let active := s.calUnder
  forTo 8 (fun i s =>
    let f := s.formLine st pg blk i (blockRow ws i)
    match f.2 with
    | none => f.1
    | some cols =>
      f.1.writeRow p (pg.rowTag blk i) (rowWords active pend tabs delay (bases.getD i 0) cols)) s

/-! ### Reference sums (R203) -/

/-- log2 of the columns per bin (VIS_SCCFG.BIN as it acts). -/
def State.scBin (s : State) : Nat := let b := s.fld VIS_SCCFG.BIN; if b < 2 then 2 else if 4 < b then 4 else b

/-- log2 of the lines per reference row (VIS_SCCFG.SUMLOG2 as it acts). -/
def State.scSum (s : State) : Nat := min 5 (s.fld VIS_SCCFG.SUMLOG2)

/-- The weight of a dot code. -/
def State.scWeight (s : State) (v : Nat) : Nat :=
  match v with
  | 1 => s.fld VIS_SCCFG.WS
  | 2 => s.fld VIS_SCCFG.WM
  | 3 => s.fld VIS_SCCFG.WL
  | _ => 0

/-- The Scaler runs. -/
def State.scalerOn (s : State) : Bool := s.pdOn 6 && s.on VIS_SCCFG.EN

/-- Reference line `line` of a stream, decoded, is delivered to the Scaler. -/
def State.scaleLine (s : State) (st line : Nat) (ws : List Word) : State :=
  if !s.scalerOn then s
  else
    let b := s.scBin
    let p := portOfStream st
    let row := line / 2 ^ s.scSum
    let key := 65536 * row + 4000 * p / 2 ^ b
    let n := 4000 / 2 ^ b
    let cols := colsOf ws
    let w := (List.range 4).map s.scWeight
    let old := (SMap.range 0 s.scaler.sums key n).toArray
    let new := (List.range n).map fun j =>
      old.getD j 0 + (List.range (2 ^ b)).foldl (fun a c => a + w.getD (cols.getD (j * 2 ^ b + c) 0) 0) 0
    let had := SMap.get 0 s.scaler.got (64 * row + st)
    { s with scaler := { s.scaler with
        sums := SMap.setRange 0 s.scaler.sums key new
        got := SMap.set 0 s.scaler.got (64 * row + st) (Nat.lor had (2 ^ (line % 2 ^ s.scSum))) } }

/-- The reference line of page line `i` of a page (R203). -/
def JPage.refLine (pg : JPage) (i : Nat) : Nat := lineMod (pg.start.getD 0 + i)

/-- The eight lines of a block delivered to the Scaler, of a main or an auxiliary stream, under their reference lines
(R203).
(DEDUCED, log entry 131.) -/
def State.scaleBlock (s : State) (st : Nat) (pg : JPage) (blk : Nat) (ws : List Word) : State :=
  forTo 8 (fun i s => s.scaleLine st (pg.refLine (8 * blk + i)) (blockRow ws i)) s

/-! ### Decoding (R61 to R65, R437) -/

/-- An uncorrectable bank word in a row write (R152). -/
def State.bankEcc (s : State) : State :=
  let clear := !s.on CAL_FLAG.BANK_ECC && !s.on CAL_FLAG.DEFERRED && !s.on CAL_FLAG.LATE
  let stamp := s.posOut
  ((s.when clear (·.setFld CAL_ERRPOS.STAMP stamp.toNat)).raiseS CAL_FLAG.BANK_ECC 0 stamp).failNow 12

/-- The outcome of the checks and the decoding of a block (Table 03-5): a code, or the words and the classes.
(DEDUCED, log entry 5.) -/
def State.decodeTry (s : State) (st : Nat) (pg : JPage) (b : Blk) (ctxEcc : Bool) : Except Nat (List Word × Classes) :=
  if b.slot = [] then .error 0x20
  else
    let e := slotCheck b.slot (s.blkCtx st pg b.blk)
    if e ≠ 0 then .error e
    else if b.poison then .error 0x20
    else if ctxEcc then .error 0x21
    else
      let h := slotHdr b.slot
      let c := s.codecCtx st
      let line := if h.band then [] else c.line
      let cls : Classes := if h.band then Classes.initial else { copy := c.copy, rep := c.rep, lit := c.lit }
      decodeBlock line cls (payloadOf b.slot b.spill)

/-- The context saved after a block (R54, R65). -/
def ctxAfter (h : BlkHdr) (ratio : Nat) (ws : List Word) (cls : Classes) : Ctx :=
  { line := blockRow ws 7, copy := cls.copy, rep := cls.rep, lit := cls.lit, bandOpen := true, seq := (h.seq + 1) % 128
    tag := h.tag, ratio := ratio }

/-- A decoded block is counted on its stream and its descriptor. -/
def State.blockDone (s : State) (st : Nat) (pg : JPage) (b : Blk) (spill : Bool) : State :=
  let i := pg.placeOf b.blk + 1
  let s := s.updStream st fun x =>
    { x with decPage := if i = pg.d.blocks then pg.ser + 1 else pg.ser, decCnt := if i = pg.d.blocks then 0 else i
             descs := x.descs.map fun d =>
               if d.page = pg.ser ∧ d.blk ≤ b.blk ∧ b.blk < d.blk + d.nblk then { d with done := d.done + 1 } else d }
  let s := s.addFld CODEC_STRSTAT.BLOCKS 1 st
  (s.when spill (·.addFld CODEC_STRSTAT.SPILLED 1 st)).skidSync st

/-- The encode stream that a forward swath's decoded lines go to (R123). -/
def reuseTo (st : Nat) (pg : JPage) : Option Nat :=
  let r := passReuse pg.entry
  if !pg.job.scan || pg.rev then none
  else if r = 1 ∧ st < 48 then some st
  else if r = 2 ∧ 48 ≤ st then some (st - 48)
  else none

/-- An encode stream takes lines of a source (SRC) while it is enabled. -/
def State.encFeed (s : State) (e src : Nat) (lines : List (List Word)) : State :=
  if s.on CODEC_ENCCFG.ENABLE e && s.fld CODEC_ENCCFG.SRC e == src then
    let x := s.encStream e
    s.setEncStream e { x with lines := x.lines ++ lines }
  else s

/-- BLOCK_DECODE: an engine takes a stream's oldest released block, checks it, decodes it and writes its rows (R61 to
R65); errors follow R62, R152 and Table 04-6. With CODEC_CTL.ENABLE = 0 only a block that an engine has already goes on.
(DESIGN CHOICE, log entry 156.) -/
def State.blockDecode (s : State) (st : Nat) (f : DecFaults) : State :=
  match s.codecUp && (s.on CODEC_CTL.ENABLE || s.inEngine st), (s.stream st).released with
  | true, b :: rest =>
    let s := s.updStream st fun x => { x with released := rest }
    match s.page? b.page with
    | none => s.skidSync st
    | some pg =>
      let q := if b.spill = [] && !b.poison then s.fetchSpill pg (s.blkCtx st pg b.blk) b else (s, b)
      let s := q.1
      let b := q.2
      let seq := (slotHdr b.slot).seq
      match s.decodeTry st pg b f.ctxEcc with
      | .error e => (s.codecError st pg b.blk e seq).skidSync st
      | .ok (ws, cls) =>
        let h := slotHdr b.slot
        let s := s.setCodecCtx st (ctxAfter h (s.ringRatio st pg) ws cls)
        let s := s.scaleBlock st pg b.blk ws
        let s := match reuseTo st pg with
          | some e => s.encFeed e 1 ((List.range 8).map (blockRow ws))
          | none => s
        let s := s.when f.bankCorr (·.raise CAL_FLAG.BANK_CORR)
        if f.rmapEcc || f.bankEcc then
          let n := s.nextLine
          let s := s.when f.rmapEcc fun s => (s.skidFault SKID_FLAG.RMAP_ECC 5 st b.blk s.posOut).failFor pg 12 n
          (s.when f.bankEcc (·.bankEcc)).skidSync st
        else (s.writeBlock st pg b.blk ws).blockDone st pg b h.spill
  | _, _ => s

/-! ### Encoding (R68, R69) -/

/-- CODEC_ENCCFG written (Table 03-12): refused whole with RATIO = 0b00; ENABLE = 1 resets the pool use and opens a
band.
(DEDUCED, log entry 55.)
(DESIGN CHOICE, log entry 159.) -/
def State.encCfgWrite (s : State) (e : Nat) (w : Word) : State :=
  if CODEC_ENCCFG.RATIO.ext w = 0 then s.raise CODEC_FLAG.ENC_REJ
  else
    let s := ((s.setFld CODEC_ENCCFG.ENABLE (CODEC_ENCCFG.ENABLE.ext w) e).setFld CODEC_ENCCFG.RATIO
      (CODEC_ENCCFG.RATIO.ext w) e)
    let s := (s.setFld CODEC_ENCCFG.TAG (CODEC_ENCCFG.TAG.ext w) e).setFld CODEC_ENCCFG.SRC (CODEC_ENCCFG.SRC.ext w) e
    let en := CODEC_ENCCFG.ENABLE.ext w == 1
    let s := s.when en (·.setFld CODEC_ENCSTAT.POOL_USED 0 e)
    s.when (en || CODEC_ENCCFG.BAND_NEXT.ext w == 1) fun s => s.setEncStream e { s.encStream e with bandNext := true }

/-- BAND_NEXT: the stream's next block opens a band (R69). -/
def State.bandNext (s : State) (e : Nat) : State := s.setEncStream e { s.encStream e with bandNext := true }

/-- A coded block's slot and spill area: header, payload, index (R52, R58); `fits` tells whether the pool takes it. -/
def blockBytes (h : BlkHdr) (bits : List Bool) (offset : Nat) (fits : Bool) : List Byte × List Byte :=
  let n := slotBytes h.ratio
  if h.spill then
    let c := cap1 h.ratio
    let len := spillUnits h.ratio h.cbits
    let x : OvfIdx := if fits then { offset := offset, len := len, mark := 0x5A, low := 0 }
      else { offset := 0xFFFFFF, len := 0, mark := 0x5A, low := 0 }
    (bytesBE 8 h.word ++ packBits (c / 8) (bits.take c) ++ bytesBE 8 x.word,
      if fits then packBits (16 * len) (bits.drop c) else [])
  else (bytesBE 8 h.word ++ packBits (n - 8) bits, [])

/-- ENC_BLOCK: the encoder codes the next eight lines of a stream (R68), spilling to its pool (R58, R69).
(DESIGN CHOICE, log entry 160.) -/
def State.encBlock (s : State) (e : Nat) : State :=
  let x := s.encStream e
  if !s.codecUp || !s.on CODEC_ENCCFG.ENABLE e || x.lines.length < 8 then s
  else
    let words := (x.lines.take 8).flatten
    let c := s.codecCtx (56 + e)
    let band := x.bandNext || s.fld CODEC_ENCCFG.SRC e == 1
    let r := if band then encodeBlock [] Classes.initial words
      else encodeBlock c.line { copy := c.copy, rep := c.rep, lit := c.lit } words
    let ratio := s.fld CODEC_ENCCFG.RATIO e
    let cbits := r.1.length
    let spill := decide (cap0 ratio < cbits)
    let h : BlkHdr := { ver := 1, band := band, spill := spill, ratio := ratio, tag := s.fld CODEC_ENCCFG.TAG e
                        seq := if band then 0 else c.seq, cbits := cbits }
    let used := s.fld CODEC_ENCSTAT.POOL_USED e
    let need := if spill then spillUnits ratio cbits else 0
    let fits := decide ((used + need) * 16 ≤ s.fld CODEC_ENCPOOL.SIZE e * 4096)
    let bytes := blockBytes h r.1 used fits
    let slot := s.fld CODEC_ENCDST.BASE e * 16 + x.slot % 2 ^ s.fld CODEC_ENCDST.RING_LOG2 e * slotBytes ratio
    let s := (s.dramWrite 5 slot bytes.1).1
    let s := s.when (spill && fits) fun s =>
      ((s.dramWrite 5 (s.fld CODEC_ENCPOOL.BASE e * 4096 + used * 16) bytes.2).1).setFld CODEC_ENCSTAT.POOL_USED
        (used + need) e
    let s := s.when (spill && !fits) (·.raise CODEC_FLAG.ENC_POOL)
    let s := s.setCodecCtx (56 + e) (ctxAfter h ratio words r.2)
    (s.addFld CODEC_ENCSTAT.BLOCKS 1 e).setEncStream e { bandNext := false, slot := x.slot + 1, lines := x.lines.drop 8 }

/-! ### Context transfers (R66) -/

/-- The Landing's bytes.
(DESIGN CHOICE, log entry 12.) -/
def State.landingBytes (s : State) (a n : Nat) : List Byte := SMap.range 0 s.landing a n

/-- Write the Landing: bytes of a checkpoint copy that is sealing keep their values (R343). -/
def State.setLanding (s : State) (a : Nat) (bs : List Byte) : State :=
  let old := s.landingBytes a bs.length
  let new := (List.range bs.length).map fun i =>
    if s.on WARD_CKPTSTAT.SEALING ((a + i) / 131072) then old.getD i 0 else bs.getD i 0
  { s with landing := SMap.setRange 0 s.landing a new }

/-- A stream holds a block queued or in the encoder (R66).
(DESIGN CHOICE, log entry 158.) -/
def State.streamBusy (s : State) (i : Nat) : Bool :=
  if i < 56 then (s.stream i).released != [] else (s.encStream (i - 56)).lines != []

/-- CTX_XFER_GO: a write of CODEC_CTXXFER with GO = 1 (R66).
(DEDUCED, log entry 52; DEDUCED, log entry 53.) -/
def State.ctxXferGo (s : State) (load : Bool) (i : Nat) : State :=
  let s := (s.setFld CODEC_CTXXFER.DIR (bit load)).setFld CODEC_CTXXFER.STREAM i
  let landing := s.on CODEC_CTXADDR.SPACE
  let addr := s.fld CODEC_CTXADDR.ADDR
  let bad := s.codec.xfer.isSome || (load && s.streamBusy i) || (landing && decide (262144 - 1088 < addr * 16))
  if bad then s.raise CODEC_FLAG.CTX_BUSY
  else
    let x : Xfer :=
      { load := load, stream := i, landing := landing, addr := addr, record := if load then [] else (s.codecCtx i).bytes }
    (s.codecUpd fun k => { k with xfer := some x }).setFld CODEC_STAT.XFER_BUSY 1

/-- CTX_XFER_DONE: the transfer in progress ends (R66). A load whose record DRAM delivers poisoned leaves the context
unchanged and sets CTX_ECC (Table 13-3).
(DEDUCED, log entry 53.) -/
def State.ctxXferDone (s : State) : State :=
  match s.codec.xfer with
  | none => s
  | some x =>
    let s := (s.codecUpd fun k => { k with xfer := none }).setFld CODEC_STAT.XFER_BUSY 0
    let a := x.addr * 16
    match x.load, x.landing with
    | true, true => s.setCodecCtx x.stream (Ctx.ofBytes (s.landingBytes a 1088))
    | true, false =>
      let r := s.dramRead 5 a 1088
      match r.2 with
      | some bs => r.1.setCodecCtx x.stream (Ctx.ofBytes bs)
      | none => r.1.raise CODEC_FLAG.CTX_ECC
    | false, true => s.setLanding a x.record
    | false, false => (s.dramWrite 5 a x.record).1

end Sys2Proof.Machine
end

