-- ==== Sys2Proof/Machine/Gdma.lean ====
section
/-! DEFINITION. The GDMA engine (spec/24_register_reference.md, R430 to R433): starting, aborting, one unit of copy or
fill, completion, and the segment registers of a running channel. -/

namespace Sys2Proof.Machine

/-- Channel `c` runs. -/
def State.gdmaRuns (s : State) (c : Nat) : Bool := s.fld GDMA_CHSTAT.CSTATE c == 1

/-- Set a channel's state and its BUSY bit. -/
def State.gdmaState (s : State) (c v : Nat) : State :=
  let busy := s.fld GDMA_STAT.BUSY
  let m := 2 ^ c
  let busy := if v = 1 then busy ||| m else if busy.testBit c then busy - m else busy
  (s.setFld GDMA_CHSTAT.CSTATE v c).setFld GDMA_STAT.BUSY busy

/-- A channel ends: the cycle is noted, in which a GO still meets it running (Table 24-7). -/
def State.gdmaOver (s : State) (c v : Nat) : State :=
  let s := s.gdmaState c v
  { s with gdma := { s.gdma with ended := SMap.set 0 s.gdma.ended c (s.cycle + 1) } }

/-- A channel runs, or has ended in this cycle. -/
def State.gdmaBusy (s : State) (c : Nat) : Bool := s.gdmaRuns c || SMap.get 0 s.gdma.ended c == s.cycle + 1

/-- A refusal or an error: the flag, and the capture of the first since REJ and ERR were both clear (Table 24-6). -/
def State.gdmaErr (s : State) (f : Fld) (c seg why : Nat) : State :=
  let clear := !s.on GDMA_FLAG.REJ && !s.on GDMA_FLAG.ERR
  (s.raise f).when clear fun s =>
    ((s.setFld GDMA_ERRINFO.CHAN c).setFld GDMA_ERRINFO.SEG seg).setFld GDMA_ERRINFO.WHY why

/-- A refused start or segment write (R431). -/
def State.gdmaRej (s : State) (c seg why : Nat) : State := s.gdmaErr GDMA_FLAG.REJ c seg why

/-- The first segment of the first `n` that has the property. -/
def firstSeg (n : Nat) (p : Nat → Bool) : Option Nat := (List.range n).find? p

/-- The units of segment `k`. -/
def State.segUnits (s : State) (c k : Nat) : Nat := s.fld GDMA_SLEN.UNITS c k

/-- A range of units lies within its space: 2^SIZE bytes of DRAM, 262,144 bytes of the Landing. -/
def State.inSpace (s : State) (landing : Bool) (addr units : Nat) : Bool :=
  decide ((addr + units) * 16 ≤ (if landing then 262144 else s.dramCap))

/-- A segment reaches beyond its space (WHY 0x4). -/
def State.segBeyond (s : State) (c k : Nat) : Bool :=
  let n := s.segUnits c k
  !(s.inSpace (s.on GDMA_SDST.SPACE c k) (s.fld GDMA_SDST.ADDR c k) n) ||
    (!s.on GDMA_SSRC.FILL c k && !(s.inSpace (s.on GDMA_SSRC.SPACE c k) (s.fld GDMA_SSRC.ADDR c k) n))

/-- A segment's source and destination overlap in the same space (WHY 0x5). -/
def State.segOverlap (s : State) (c k : Nat) : Bool :=
  let n := s.segUnits c k
  let a := s.fld GDMA_SSRC.ADDR c k
  let d := s.fld GDMA_SDST.ADDR c k
  !s.on GDMA_SSRC.FILL c k && s.on GDMA_SSRC.SPACE c k == s.on GDMA_SDST.SPACE c k &&
    decide (a < d + n) && decide (d < a + n)

/-- A reserved field of a segment's registers, or of the CHCTL word, is not zero (WHY 0x6). -/
def reservedSet (fields : List Fld) (w : Word) : Bool :=
  (w &&& ~~~ (fields.foldl (fun m f => m ||| f.mask) 0)) != 0

/-- The refusal of a start, with the segment: the codes of Table 24-6, the lowest that applies.
(DEDUCED, log entry 90.) -/
def State.gdmaWhy (s : State) (c nseg : Nat) (abort reserved : Bool) : Option (Nat × Nat) :=
  if !s.on GDMA_CTL.EN then some (1, 0)
  else if s.gdmaBusy c then some (2, 0)
  else if nseg = 0 ∨ 16 < nseg then some (3, 0)
  else
    match firstSeg nseg (fun k => s.segUnits c k == 0), firstSeg nseg (s.segBeyond c), firstSeg nseg (s.segOverlap c) with
    | some k, _, _ => some (3, k)
    | none, some k, _ => some (4, k)
    | none, none, some k => some (5, k)
    | none, none, none => if abort || reserved then some (6, 0) else none

/-- A running channel ends early (R432): its flag, CSTATE 0b11; ERR for POISON and LOST. -/
def State.gdmaEnd (s : State) (c : Nat) (f : Fld) (why : Nat) : State :=
  let s := s.when (why != 0) fun s => s.gdmaErr GDMA_FLAG.ERR c (s.fld GDMA_CHSTAT.SEG c) why
  (s.raise f c).gdmaOver c 3

/-- ABORT, or EN cleared, for a running channel: units are whole, so it ends between two of them (R432). -/
def State.gdmaStop (s : State) (c : Nat) : State :=
  if s.gdmaRuns c then s.gdmaEnd c GDMA_CHFLAG.ABORTED 0 else s

/-- A write of GDMA_CHCTL[c] (R431, R432).
(DEDUCED, log entry 90.) -/
def State.chctlWrite (s : State) (c : Nat) (w : Word) : State :=
  let go := GDMA_CHCTL.GO.ext w == 1
  let abort := GDMA_CHCTL.ABORT.ext w == 1
  let nseg := GDMA_CHCTL.NSEG.ext w
  let reserved := reservedSet [GDMA_CHCTL.GO, GDMA_CHCTL.ABORT, GDMA_CHCTL.NSEG] w
  if go then
    match s.gdmaWhy c nseg abort reserved with
    | some (why, k) => s.gdmaRej c k why
    | none =>
      let s := s.setFld GDMA_CHCTL.NSEG nseg c
      ((s.setFld GDMA_CHSTAT.SEG 0 c).setFld GDMA_CHSTAT.UNITS 0 c).gdmaState c 1
  else if s.gdmaRuns c && nseg != s.fld GDMA_CHCTL.NSEG c then (s.gdmaRej c 0 2).when abort (·.gdmaStop c)
  else (s.setFld GDMA_CHCTL.NSEG nseg c).when abort (·.gdmaStop c)

/-- A write of a segment register: ignored with REJ while the channel runs (R431). -/
def State.segWrite (s : State) (r : Reg) (c k : Nat) (w : Word) : State :=
  if s.gdmaRuns c then s.gdmaRej c k 2
  else s.setReg r (((fieldsAt (r.at c k)).foldl (fun m f => m ||| f.mask) 0) &&& w) c k

/-- GDMA_CTL.EN cleared (R432): every running channel is aborted. -/
def State.gdmaDisable (s : State) : State := forTo 16 (fun c s => s.gdmaStop c) (s.setFld GDMA_CTL.EN 0)

/-- How a unit's source read ended: the bytes, poisoned (also beyond the capacity, R267), or refused by the memory
controller (R278, R279). -/
inductive UnitRead where
  | bytes (bs : List Byte)
  | poison
  | lost
  deriving DecidableEq, Repr

/-- The fill pattern four times, most significant byte first. -/
def fillUnit (pattern : Nat) : List Byte := ((List.replicate 4 (bytesBE 4 pattern)).flatten)

/-- Read the source unit `u` of segment `k` (R431, R432). `ecc` says that the Landing word reads uncorrectable.
(DEDUCED, log entry 92.) -/
def State.unitRead (s : State) (c k u : Nat) (ecc : Bool) : State × UnitRead :=
  if s.on GDMA_SSRC.FILL c k then (s, .bytes (fillUnit (s.fld GDMA_SFILL.PATTERN c k)))
  else
    let a := (s.fld GDMA_SSRC.ADDR c k + u) * 16
    if s.on GDMA_SSRC.SPACE c k then (s, if ecc then .poison else .bytes (s.landingBytes a 16))
    else
      let gate := s.dramGate a 16
      let lost := gate != .go && gate != .range
      let r := s.dramRead 8 a 16
      (r.1, if lost then .lost else match r.2 with | some bs => .bytes bs | none => .poison)

/-- Write the destination unit; false where the memory controller refuses it.
(DEDUCED, log entry 92.) -/
def State.unitWrite (s : State) (c k u : Nat) (bs : List Byte) : State × Bool :=
  let a := (s.fld GDMA_SDST.ADDR c k + u) * 16
  if s.on GDMA_SDST.SPACE c k then (s.setLanding a bs, true) else s.dramWrite 8 a bs

/-- The segment and the unit that a running channel writes next; none after the last unit of the last segment. -/
def State.gdmaNext (s : State) (c : Nat) : Option (Nat × Nat) :=
  let k := s.fld GDMA_CHSTAT.SEG c
  let u := s.fld GDMA_CHSTAT.UNITS c
  if u < s.segUnits c k then some (k, u)
  else if k + 1 < s.fld GDMA_CHCTL.NSEG c then some (k + 1, 0)
  else none

/-- The channel whose turn it is: the running channels with a unit left share client 8 unit by unit (R431). -/
def State.gdmaTurn (s : State) : Option Nat :=
  ((List.range 16).map fun k => (s.gdma.last + 1 + k) % 16).find? fun c => s.gdmaRuns c && (s.gdmaNext c).isSome

/-- GDMA_UNIT: the channel whose turn it is copies or fills one 16-byte unit, or ends early with POISON or LOST (R431,
R432).
(DEDUCED, log entry 91.) -/
def State.gdmaUnit (s : State) (c : Nat) (ecc : Bool) : State :=
  match (if s.gdmaTurn = some c then s.gdmaNext c else none) with
  | none => s
  | some (k, u) =>
    let s : State := { s with gdma := { s.gdma with last := c } }
    let s := (s.setFld GDMA_CHSTAT.SEG k c).setFld GDMA_CHSTAT.UNITS u c
    let r := s.unitRead c k u ecc
    match r.2 with
    | .poison => r.1.gdmaEnd c GDMA_CHFLAG.POISON 8
    | .lost => r.1.gdmaEnd c GDMA_CHFLAG.LOST 9
    | .bytes bs =>
      let d := r.1.unitWrite c k u bs
      if d.2 then d.1.setFld GDMA_CHSTAT.UNITS (u + 1) c else d.1.gdmaEnd c GDMA_CHFLAG.LOST 9

/-- GDMA_DONE: every write of the last segment is committed (R431). -/
def State.gdmaDone (s : State) (c : Nat) : State :=
  if s.gdmaRuns c && (s.gdmaNext c).isNone then (s.raise GDMA_CHFLAG.DONE c).gdmaOver c 2 else s

end Sys2Proof.Machine
end

