-- ==== Sys2Proof/Machine/Pos.lean ====
section
/-! DEFINITION. The position unit (spec/02_web_position.md): encoder decoding, the index, the tracking loop, lock and
fault, probes and the forward position. -/

namespace Sys2Proof.Machine

/-- Change an encoder channel. -/
def State.updEnc (s : State) (n : Nat) (f : EncCh → EncCh) : State := s.setEnc n (f (s.enc n))

/-- POS_STAT.STATE: 0 OFF, 1 ACQUIRE, 2 LOCKED, 3 FAULTY. -/
def State.posState (s : State) : Nat := s.fld POS_STAT.STATE

/-- The channel drives the web position. -/
def State.isSource (s : State) (n : Nat) : Bool := !s.follows && s.srcCh == n

/-! ### The forward position (R40) -/

/-- A position in the coordinate that the forward rule compares (R40, R119). -/
def State.fwdCoord (s : State) (p : Word) : Word := if s.inScan then swathCoord s.scan.rev s.scan.x0 p else p

/-- Reverse travel counts: in scan mode only from the arming of a swath to its end, the span its coordinate is defined on
(R119).
(DEDUCED, log entry 162.) -/
def State.revCounts (s : State) : Bool :=
  !s.inScan || s.fld FIRE_SCANSTAT.SSTATE == 1 || s.fld FIRE_SCANSTAT.SSTATE == 2

/-- The forward position follows pos_out; reverse travel beyond REV_LIMIT sets REVERSE once per reversal (R40).
(DEDUCED, log entry 40.)
(DEDUCED, log entry 162.) -/
def State.updateFwd (s : State) : State :=
  if s.posState = 0 then s
  else
    let p := s.posOut
    if after (s.fwdCoord p) (s.fwdCoord s.pos.fwd) then s.posUpd fun x => { x with fwd := p, revLatch := false }
    else if s.revCounts && !s.pos.revLatch &&
        decide (s.fld POS_POLICY.REV_LIMIT * 65536 < (s.fwdCoord s.pos.fwd - s.fwdCoord p).toNat) then
      (s.posUpd fun x => { x with revLatch := true }).raise POS_FLAG.REVERSE
    else s

/-! ### Encoder fault (R43) -/

/-- What the declaration of a faulty encoder does (R43, Table 02-4). -/
def State.declareFault (s : State) (cause : Nat) : State :=
  let s := (s.posUpd fun p => { p with vel := 0 }).updBar fun b => { b with beaconOk := false }
  let s := s.setFld POS_SPEED.LINE_RATE 0
  let stamp := s.posOut
  let s := ((s.setFld POS_STAT.STATE 3).setFld POS_STAT.LOCKED 0).setFld POS_STAT.FAULTY 1
  let s := (s.setFld POS_STAT.FCAUSE cause).setReg POS_EVTPOS stamp
  (s.raiseS POS_FLAG.ENC_FAULT 0 stamp).failNow 9

/-- The encoder is declared faulty with a cause while the unit runs (R41, R43).
(DEDUCED, log entry 40.) -/
def State.encFault (s : State) (cause : Nat) : State :=
  if s.posState = 0 ∨ s.posState = 3 then s else s.declareFault cause

/-! ### Counts (R34 to R36, R38) -/

/-- The signed count of a channel, with its interval and QI_LEVEL bookkeeping: `m` counts, reverse or forward. -/
def State.count (s : State) (n m : Nat) (rev : Bool) : State :=
  let d : Int := if rev then -(m : Int) else m
  let cnt := Word.of (unsigned 40 ((s.reg POS_ENCCNT n).toNat + d))
  let s := s.setReg POS_ENCCNT cnt n
  let step : BitVec 56 := BitVec.ofInt 56 (d * (s.reg POS_RATIO).toNat)
  let src := s.isSource n
  let v := (s.enc n).valid + m
  let s := s.updEnc n fun e =>
    { e with ref := if src then e.ref + step else e.ref, since := e.since + d, valid := v % 4096 }
  let s := s.when (decide (4096 ≤ v)) (·.setFld POS_ENCSTAT.QI_LEVEL (s.fld POS_ENCSTAT.QI_LEVEL n - 1) n)
  s.when src (·.setFld POS_STAT.DIR (bit rev))

/-- A speed sample of a channel: the interval in cycles (R35); EDGE_RATE of the source in units of 64 counts/s. -/
def State.speedSample (s : State) (n i : Nat) : State :=
  let s := s.updEnc n fun e => { e with lastP := i }
  s.when (s.isSource n && decide (0 < i)) (·.setFld POS_SPEED.EDGE_RATE (min (2 ^ 20 - 1) (18750000 / i)))

/-- QI_LEVEL of the source channel is above QI_LIMIT (R34). -/
def State.qiOver (s : State) : Bool :=
  let lim := s.fld POS_POLICY.QI_LIMIT
  !s.follows && lim != 0 && decide (lim < s.fld POS_ENCSTAT.QI_LEVEL s.srcCh)

/-- QI_LEVEL of the source channel above QI_LIMIT declares the encoder faulty (R34), where QI_LEVEL grows. -/
def State.qiTest (s : State) : State := s.when s.qiOver (·.encFault 1)

/-- The same where a commit has lowered QI_LIMIT or moved SRC to a channel above it. -/
def State.qiSettle (s : State) : State := s.when (s.moves && s.qiOver) (·.encFault 1)

/-- Illegal quadrature (R34). -/
def State.quadIllegal (s : State) (n : Nat) : State :=
  let s := s.raise POS_ENCFLAG.QUAD_ILLEGAL n
  let s := s.setFld POS_ENCSTAT.UNCERT (min 65535 (s.fld POS_ENCSTAT.UNCERT n + 2)) n
  let s := s.setFld POS_ENCSTAT.QI_LEVEL (min 255 (s.fld POS_ENCSTAT.QI_LEVEL n + 1)) n
  s.when (s.isSource n) (·.qiTest)

/-- An index event (R37): the reference, the check against PERIOD or TEETH, IDX_ACT (Table 02-2). -/
def State.indexCheck (s : State) (n : Nat) : State :=
  let e := s.enc n
  if !e.idxRef then s.setEnc n { e with idxRef := true, since := 0 }
  else
    let period := if s.fld POS_ENCCFG.MODE n = 2 then s.fld POS_TOOTH.TEETH n else s.fld POS_IDXCFG.PERIOD n
    let d : Int := e.since - period
    let s := s.updEnc n fun e => { e with since := 0 }
    if d = 0 then
      let s := s.when (s.on POS_ENCSTAT.CORR_PEND n) fun s =>
        (s.updEnc n fun e =>
          { e with ref := e.ref - BitVec.ofInt 56 (e.held * (s.reg POS_RATIO).toNat), held := 0 }).setFld
          POS_ENCSTAT.CORR_PEND 0 n
      s.setFld POS_ENCSTAT.UNCERT 0 n
    else
      let stamp := s.posOut
      let s := (s.setFld POS_IDXSTAT.DIFF (unsigned 24 d) n).setReg POS_IDXPOS stamp n
      let s := s.raise POS_ENCFLAG.INDEX_MISMATCH n
      let s := (s.updEnc n fun e => { e with held := 0 }).setFld POS_ENCSTAT.CORR_PEND 0 n
      if !s.isSource n then s
      else
        match s.fld POS_POLICY.IDX_ACT with
        | 1 => (s.updEnc n fun e => { e with held := d }).setFld POS_ENCSTAT.CORR_PEND 1 n
        | 2 => s.encFault 3
        | _ => s

/-- The direction of a quadrature change: reverse or not, INVERT = 0 (R34). -/
def quadRev (a0 a1 b1 : Bool) : Bool := if a0 != a1 then a1 == b1 else b1 != a1

/-- An accepted change in quadrature mode (R34, R35). -/
def State.quadEdge (s : State) (n : Nat) (a0 b0 a1 b1 : Bool) : State :=
  if a0 == a1 && b0 == b1 then s
  else if a0 != a1 && b0 != b1 then s.quadIllegal n
  else
    let rev := quadRev a0 a1 b1 != s.on POS_ENCCFG.INVERT n
    let e := s.enc n
    let same := e.lastRev == some rev
    let s := (s.setEnc n { e with acc := 0, lastRev := some rev }).count n 1 rev
    s.when same (·.speedSample n e.acc)

/-- The direction of a tooth (POS_TOOTH.DIR_SRC). -/
def State.toothRev (s : State) (n : Nat) (b : Bool) : Bool :=
  (match s.fld POS_TOOTH.DIR_SRC n with | 1 => true | 2 => b | _ => false) != s.on POS_ENCCFG.INVERT n

/-- A rising edge of A in tooth-wheel mode (R36). The interval after an extra tooth is tested as every other is, and is no
speed sample.
(DEDUCED, log entry 39.)
(DESIGN CHOICE, log entry 153.) -/
def State.toothEdge (s : State) (n : Nat) (b : Bool) : State :=
  let rev := s.toothRev n b
  let e := s.enc n
  let i := e.acc
  let same := e.lastRev == some rev
  let s := s.setEnc n { e with acc := 0, lastRev := some rev, skipNext := false }
  let sample (s : State) : State := s.when (!e.skipNext) (·.speedSample n i)
  if !same then s.count n 1 rev
  else if e.lastP = 0 then sample (s.count n 1 rev)
  else if e.lastP * s.fld POS_TOOTH.GAP_NUM n < i * 8 then
    (s.count n (1 + s.fld POS_TOOTH.MISS n) rev).indexCheck n
  else if s.fld POS_TOOTH.MISS n = 0 ∧ i * 8 < e.lastP * s.fld POS_TOOTH.EXTRA_NUM n then
    (s.updEnc n fun e => { e with skipNext := true }).indexCheck n
  else sample (s.count n 1 rev)

/-- ENCODER_EDGE: the accepted levels of A and B of a channel after its filter, `dt` CK_CORE cycles after the accepted
change before (R34 to R36). A held input keeps its level (R31).
(DEDUCED, log entry 216.) -/
def State.encoderEdge (s : State) (n : Nat) (a b : Bool) (dt : Nat) : State :=
  let e := s.enc n
  let a1 := if e.wireA || !s.railOk 1 then e.lvlA else a
  let b1 := if e.wireB || !s.railOk 1 then e.lvlB else b
  let s := s.setEnc n { e with lvlA := a1, lvlB := b1, acc := e.acc + dt }
  match s.fld POS_ENCCFG.MODE n with
  | 1 => s.quadEdge n e.lvlA e.lvlB a1 b1
  | 2 => if !e.lvlA && a1 then s.toothEdge n b1 else s
  | _ => s

/-- INDEX_EVENT: a rise of Z (R37), ignored while the Z pair is in wire disagreement (R31). -/
def State.indexEvent (s : State) (n : Nat) : State :=
  if s.fld POS_ENCCFG.MODE n = 1 ∧ s.on POS_ENCCFG.Z_EN n ∧ !(s.enc n).wireZ ∧ s.railOk 1 then s.indexCheck n else s

/-- WIRE_DISAGREEMENT: a pair stays in wire disagreement beyond WIRE_DLY (R31); pair 0 A, 1 B, 2 Z.
(DESIGN CHOICE, log entry 186.) -/
def State.wireDisagreement (s : State) (n pair : Nat) : State :=
  let e := s.enc n
  if pair = 0 then
    let s := (s.setEnc n { e with wireA := true }).raise POS_ENCFLAG.WIRE_A n
    s.when (s.isSource n && s.on POS_POLICY.WIRE_ACT) (·.encFault 2)
  else if pair = 1 then
    let s := (s.setEnc n { e with wireB := true }).raise POS_ENCFLAG.WIRE_B n
    s.when (s.isSource n && s.on POS_POLICY.WIRE_ACT) (·.encFault 2)
  else (s.setEnc n { e with wireZ := true }).raise POS_ENCFLAG.WIRE_Z n

/-- WIRE_DISAGREEMENT_END: the pair agrees again, at the level given; the input resumes with its next edge (R31). -/
def State.wireEnd (s : State) (n pair : Nat) (level : Bool) : State :=
  let e := s.enc n
  if !s.railOk 1 then s
  else if pair = 0 then s.setEnc n { e with wireA := false, lvlA := level }
  else if pair = 1 then s.setEnc n { e with wireB := false, lvlB := level }
  else s.setEnc n { e with wireZ := false }

/-! ### The loop (R38, R41, R129) -/

/-- The bandwidth in hertz: clamped to 10 to 5,000 (R38). -/
def State.loopBw (s : State) : Nat := min 5000 (max 10 (s.fld POS_LOOP.BW))

/-- ki of R38. -/
def loopKi (bw : Nat) : Int := (bw * bw * 32367 / 1024 : Nat)

/-- kp of R38. -/
def loopKp (bw : Nat) : Int := (bw * 133393700 : Nat)

/-- The absolute line rate in lines per second, 20 bits (POS_SPEED.LINE_RATE). -/
def lineRate (vel : BitVec 56) : Nat := min (2 ^ 20 - 1) (vel.toInt.natAbs * 18750000 / 2 ^ 32)

/-- FIRE_MAXRATE.RATE as it acts (R128). -/
def State.maxRate (s : State) : Nat := max 1 (min 120000 (s.fld FIRE_MAXRATE.RATE))

/-- The overspeed warning (R129). -/
def State.ovspWarn (s : State) : State :=
  let r := s.fld POS_SPEED.LINE_RATE
  if s.pos.ovspArmed && decide (s.maxRate * 95 < r * 100) then
    (s.posUpd fun p => { p with ovspArmed := false }).raise FIRE_OVSP_FLAG.WARN
  else if !s.pos.ovspArmed && decide (r * 100 < s.maxRate * 90) then s.posUpd fun p => { p with ovspArmed := true }
  else s

/-- The lock test of a loop update (R41): `e` is the loop error before the update. -/
def State.lockTest (s : State) (e : Int) : State :=
  let x := (e / 65536).natAbs
  let thr := s.fld POS_LOOP.LOCK_THR
  if s.posState = 1 then
    let c := if x < thr then s.pos.lockCnt + 1 else 0
    if 256 ≤ c then
      ((s.posUpd fun p => { p with lockCnt := 0 }).setFld POS_STAT.LOCKED 1).setFld POS_STAT.STATE 2
    else s.posUpd fun p => { p with lockCnt := c }
  else if s.posState = 2 ∧ 4 * thr < x then
    let stamp := s.posOut
    let s := ((s.setFld POS_STAT.LOCKED 0).setFld POS_STAT.STATE 1).setReg POS_EVTPOS stamp
    let s := (s.posUpd fun p => { p with lockCnt := 0 }).raiseS POS_FLAG.LOCK_LOST 0 stamp
    s.when (s.on POS_POLICY.LOCK_ACT) (·.encFault 4)
  else s

/-- LOOP_UPDATE (R38): est and vel advance, the lock is tested, the overspeed warning is judged. On a follower e = 0
(R223). -/
def State.loopUpdate (s : State) : State :=
  if s.posState = 0 then s
  else if s.posState = 3 then s.posUpd fun p => { p with k := 0 }
  else if s.follows then
    let s := s.posUpd fun p => { p with est := p.est + p.vel, k := 0 }
    ((s.setFld POS_SPEED.LINE_RATE (lineRate s.pos.vel)).ovspWarn).updateFwd
  else
    let e := ((s.enc s.srcCh).ref - s.pos.est).toInt
    let bw := s.loopBw
    let vel := s.pos.vel + BitVec.ofInt 56 (e * loopKi bw / 2 ^ 48)
    let est := s.pos.est + vel + BitVec.ofInt 56 (e * loopKp bw / 2 ^ 48)
    let s := s.posUpd fun p => { p with est := est, vel := vel, k := 0 }
    let s := s.setFld POS_SPEED.LINE_RATE (lineRate vel)
    ((s.lockTest e).ovspWarn).updateFwd

/-! ### Enable and rearm (Table 02-3) -/

/-- The index references and the uncertainty of a channel cleared. -/
def State.clearEnc (s : State) (n : Nat) : State :=
  let s := s.updEnc n fun e => { e with idxRef := false, held := 0 }
  ((s.setFld POS_ENCSTAT.QI_LEVEL 0 n).setFld POS_ENCSTAT.UNCERT 0 n).setFld POS_ENCSTAT.CORR_PEND 0 n

/-- ENABLE written 1 in OFF.
(DEDUCED, log entry 37.) -/
def State.posStart (s : State) : State :=
  let s := s.posUpd fun p => { p with est := if s.follows then p.est else (s.enc s.srcCh).ref, vel := 0, k := 0, lockCnt := 0 }
  let s := (s.clearEnc 0).clearEnc 1
  let s := ((s.setFld POS_STAT.STATE 1).setFld POS_STAT.FAULTY 0).setFld POS_SPEED.LINE_RATE 0
  let s := s.restartDecisions
  (s.jqUpd fun q => { q with prevLast := none }).planPages

/-- ENABLE written 0: during a job the encoder is declared faulty first (R42); the position stays as it is.
(DEDUCED, log entry 37.)
(DESIGN CHOICE, log entry 154.) -/
def State.posStop (s : State) : State :=
  let s := s.when s.jobRuns (·.declareFault 5)
  ((s.setFld POS_STAT.STATE 0).setFld POS_STAT.LOCKED 0).setFld POS_STAT.FAULTY 0

/-- POS_CTL.ENABLE written (R41, R42). -/
def State.posEnable (s : State) (en : Bool) : State :=
  let s := s.setFld POS_CTL.ENABLE (bit en)
  if en then (if s.posState = 0 then s.posStart else s)
  else if s.posState = 0 then s else s.posStop

/-- A wire disagreement on A or B of the source holds REARM back under WIRE_ACT = FAULT (Table 02-3). -/
def State.wireHeld (s : State) : Bool :=
  s.on POS_POLICY.WIRE_ACT && !s.follows && ((s.enc s.srcCh).wireA || (s.enc s.srcCh).wireB)

/-- POS_CTL.REARM written 1 (R41): leaves FAULTY; on a follower once a beacon with FAULTY = 0 has been taken (R224).
(DESIGN CHOICE, log entry 155.) -/
def State.rearm (s : State) : State :=
  if s.posState ≠ 3 ∨ s.wireHeld ∨ (s.follows && !s.bar.beaconOk) then s
  else
    let s := s.when (!s.follows) fun s => s.updEnc s.srcCh fun e => { e with ref := s.pos.est, held := 0 }
    let s := (s.posUpd fun p => { p with vel := 0, k := 0, lockCnt := 0 }).setFld POS_SPEED.LINE_RATE 0
    let s := s.when (!s.follows) fun s =>
      ((s.setFld POS_ENCSTAT.QI_LEVEL 0 s.srcCh).setFld POS_ENCSTAT.UNCERT 0 s.srcCh).setFld POS_ENCSTAT.CORR_PEND 0
        s.srcCh
    let s := (s.updEnc 0 fun e => { e with idxRef := false }).updEnc 1 fun e => { e with idxRef := false }
    let s := ((s.setFld POS_STAT.STATE 1).setFld POS_STAT.FAULTY 0).setFld POS_STAT.FCAUSE 0
    s.restartDecisions.planPages

/-! ### Probes and page marks (R44, R46) -/

/-- A page-mark stamp reaches the page-mark logic (R46): at most 8 are held. -/
def State.pmStamp (s : State) (t : Word) : State :=
  if 8 ≤ s.pos.marks.length then s.raise POS_FLAG.PM_OVF
  else (s.posUpd fun p => { p with marks := p.marks ++ [t] }).planPages

/-- A probe's FIFO: stamps with their edge (true: falling). -/
def State.probeFifo (s : State) (p : Nat) : List (Word × Bool) := SMap.get [] s.pos.probes p

/-- Set a probe's FIFO. -/
def State.setProbeFifo (s : State) (p : Nat) (l : List (Word × Bool)) : State :=
  s.posUpd fun x => { x with probes := SMap.set [] x.probes p l }

/-- The stamp of a probe edge (R33, R44): pos_out, which holds its own projection, projected backwards by the probe's
FILT + EXTRA, plus OFFSET lines. -/
def State.probeStamp (s : State) (p : Nat) : Word :=
  let c := s.fld POS_PROBECFG.FILT p + s.fld POS_LATCOMP.EXTRA
  let ofs := s.sfld POS_PROBECFG.OFFSET p
  s.posAt ((s.latComp : Int) - c) + Word.of (unsigned 40 (ofs * 65536))

/-- The probe takes an edge of this kind (POS_PROBECFG.EDGE). -/
def State.probeTakes (s : State) (p : Nat) (falling : Bool) : Bool :=
  match s.fld POS_PROBECFG.EDGE p with
  | 1 => !falling
  | 2 => falling
  | 3 => true
  | _ => false

/-- PROBE_EDGE: a filtered probe edge is accepted (R44). The page-mark probe's stamp also goes to the page-mark logic
(R46), and on a leader to the bar (R225). -/
def State.probeEdge (s : State) (p : Nat) (falling : Bool) : State :=
  if !s.probeTakes p falling ∨ !s.railOk 1 then s
  else
    let t := s.probeStamp p
    let l := s.probeFifo p
    let s := if 8 ≤ l.length then s.raiseAt POS_FLAG.PROBE_OVF 0 p none 0 else s.setProbeFifo p (l ++ [(t, falling)])
    if s.fld POS_PM.PROBE = p then
      let s := s.when (s.bstate == 1) (·.flood 2 [t])
      if s.follows then s else s.pmStamp t
    else s

/-- PROBE_FIFO_POP: a read of POS_PROBEFIFO returns the oldest stamp and pops it (R48). -/
def State.probePop (s : State) (p : Nat) : Word × State :=
  match s.probeFifo p with
  | [] => (0, s)
  | (t, _) :: rest => (t, s.setProbeFifo p rest)

end Sys2Proof.Machine
end

