-- ==== Sys2Proof/Machine/Bar.lean ====
section
/-! DEFINITION. The bar link's messages and the bar state (spec/11_bar_link_time.md): reception and forwarding (R221),
beacons (R222 to R224), exchanges (R227 to R232), bar-wide operations (R234), membership (R235, R236), network time (R238
to R240). -/

namespace Sys2Proof.Machine

/-! ### Hops (R221) -/

/-- A message goes on out of the other port with HOP + 1. -/
def State.forward (s : State) (e : Nat) (m : BarMsg) : State :=
  s.sendMsg (1 - e) { m with hop := (m.hop + 1) % 16 }

/-- The chip forwards: EN = 1, and not a leader that gave way to another (R217, Table 11-5).
(DEDUCED, log entry 113.) -/
def State.forwards (s : State) : Bool := s.on BAR_CTL.EN && !(s.bstate == 4 && s.on BAR_CFG.ROLE)

/-- A message is taken on a port: ignored on a port that is not up; out of sequence it is discarded and the last
accepted one acknowledged again; otherwise it is acknowledged and handed over.
(DEDUCED, log entry 114.) -/
def State.barTake (s : State) (e hseq : Nat) (f : State → State) : State :=
  if !s.barUp e then s
  else
    let r := (s.barPort e).rxSeq
    if hseq ≠ r then s.sendBarAck e ((r + 255) % 256)
    else f ((s.updBarPort e fun b => { b with rxSeq := (r + 1) % 256 }).sendBarAck e r)

/-- A message that the chip forwards as it stands, then acts on when it takes part in the bar. -/
def State.barMsg (s : State) (e hseq : Nat) (m : BarMsg) (act : State → State) : State :=
  s.barTake e hseq fun s =>
    let s := s.when s.forwards (·.forward e m)
    s.when (s.on BAR_CTL.EN) act

/-- The capture of BAR_ERRPOS: the first of PORT_DOWN and BEACON_LOST. -/
def State.barErr (s : State) (f : Fld) : State :=
  let clear := !s.on BAR_FLAG.PORT_DOWN && !s.on BAR_FLAG.BEACON_LOST
  (s.when clear fun s => s.setReg BAR_ERRPOS s.posOut).raise f

/-- Messages that waited follow as far as sixteen are held. -/
def State.pump (e : Nat) : Nat → State → State
  | 0, s => s
  | n + 1, s =>
    match (s.barPort e).queue with
    | [] => s
    | m :: rest =>
      if (s.barPort e).held.length < 16 then
        State.pump e n ((s.updBarPort e fun b => { b with queue := rest }).putMsg e m)
      else s

/-- BAR_ACK: an ACK of HSEQ: every message up to it is acknowledged. -/
def State.barAck (s : State) (e hseq : Nat) : State :=
  if !s.barUp e then s
  else
    let b := s.barPort e
    match b.held.findIdx? fun h => h.1 == hseq with
    | none => s
    | some i => State.pump e 16 (s.updBarPort e fun b => { b with held := b.held.drop (i + 1) })

/-- The CRC of a message as received is right: header word and body words (R220). -/
def barCrcOk (hdr : Word) (words : List Word) : Bool :=
  crc16 (toBits 24 (hdr.toNat / 2 ^ 16) ++ (words.map fun w => toBits 40 w.toNat).flatten) == hdr.toNat % 2 ^ 16

/-- MSG_CRC: a message with a bad CRC or a reserved TYPE is discarded; no ACK is sent. -/
def State.msgCrc (s : State) (e : Nat) (hdr : Word) (words : List Word) : State :=
  let type := hdr.toNat / 2 ^ 36
  s.when (s.barUp e && (!barCrcOk hdr words || type == 0 || type == 15)) (·.raise BAR_FLAG.MSG_CRC)

/-! ### Membership (R235, R236) -/

/-- The bar context is empty and held for no exchange. -/
def State.ctxClear (s : State) : State := ((s.setCtx 2 StageCtx.reset).txnSync).updBar fun b => { b with ctxOf := none }

/-- BAR_STAT.BSTATE written. A chip that leaves ISOLATED votes again; one that leaves the bar drops the writes staged for
an exchange.
(DEDUCED, log entry 117.) -/
def State.setBstate (s : State) (v : Nat) : State :=
  let s := (s.setFld BAR_STAT.BSTATE v).updBar fun b => { b with mute := false }
  s.when (v == 0 || v == 4) fun s =>
    (s.ctxClear).updBar fun b => { b with mapSeen := false, rejoin := false, leaving := false }

/-- ALONE: no map is in force.
(DEDUCED, log entry 117.) -/
def State.goAlone (s : State) : State := (s.setFld BAR_STAT.MEMBERS 0).setBstate 0

/-- A member map as a set of bar IDs. -/
def mapBits (l : List Nat) : Nat := l.foldl (fun a i => a ||| 2 ^ i) 0

/-- The leader's new MAP: MGEN + 1, without the bar IDs it refuses. -/
def State.sendMap (s : State) (ids : List Nat) : State :=
  let ids := ids.filter fun i => !s.bar.refused.contains i
  let s := s.updBar fun b => { b with refused := [], joins := b.joins.filter fun j => ids.contains j.1 }
  let g := (s.fld BAR_STAT.MGEN + 1) % 256
  let s := (s.setFld BAR_STAT.MEMBERS (mapBits ids)).setFld BAR_STAT.MGEN g
  s.flood 9 [Word.of (mapBits ids * 2 ^ 24 + g * 2 ^ 16)]

/-- An exchange or a bar-wide operation is in progress. -/
def State.barBusy (s : State) : Bool := s.bar.dx.isSome || s.bar.snapLines != [] || s.bar.gopReset

/-- A JOIN applied by the leader: a bar ID that is a member already is left out of the next MAP. -/
def State.applyJoin (s : State) (id e hop : Nat) : State :=
  if id ∈ s.members then s.updBar fun b => { b with refused := id :: b.refused }
  else (s.updBar fun b => { b with joins := (id, e, hop) :: b.joins.filter fun j => j.1 != id }).sendMap (id :: s.members)

/-- A LEAVE applied by the leader. -/
def State.applyLeave (s : State) (id : Nat) : State :=
  if id ∈ s.members ∧ id ≠ s.barId then s.sendMap (s.members.filter fun i => i != id) else s

/-- The requests held are applied once no exchange and no bar-wide operation is in progress (R235). -/
def State.barSettle (s : State) : State :=
  if s.bar.wait = [] ∨ s.barBusy then s
  else
    let l := s.bar.wait
    let s := s.updBar fun b => { b with wait := [] }
    if s.bstate ≠ 1 then s
    else forIn' l (fun r s => if r.1 then s.applyJoin r.2.1 r.2.2.1 r.2.2.2 else s.applyLeave r.2.1) s

/-- R232: every armed distributed transaction whose preparation has not begun is cancelled with cause 0x01, an exchange
in its vote phase aborts with 0x0D, and the writes staged for one are dropped. -/
def State.cancelDist (s : State) : State :=
  let s := (match s.bar.dx with | some d => s.dxAbort d 0 0 | none => s).ctxClear
  forTo 16 (fun k s =>
    match s.slot? k with
    | some t => if t.dist && !t.prep && !t.voting then s.abortSlot k t 1 else s
    | none => s) s

/-- The leader removes members (R235). -/
def State.pruneMembers (s : State) (gone : Nat → Bool) : State :=
  if s.members.any gone then s.sendMap (s.members.filter fun i => !gone i) else s

/-- Members noted on a side of the leader beyond a number of hops. -/
def State.beyond (s : State) (e hop i : Nat) : Bool := s.bar.joins.any fun j => j.1 == i && j.2.1 == e && decide (hop < j.2.2)

/-- The lanes of a bar port that are block-locked or deskewed. -/
def State.barLanes (s : State) (e : Nat) : List Nat :=
  [2 * e, 2 * e + 1].filter fun l => decide (2 ≤ s.fld BAR_LSTAT.BSTATE l)

/-- A port that is aligned goes down (R221): BREAK out of the other port, R232, and the bar state of Table 11-5. Its lanes
are no longer deskewed. A port that still trains sends nothing; it shows down once none of its lanes is locked.
(DEDUCED, log entry 167.) -/
def State.barPortDown (s : State) (e : Nat) : State :=
  if s.fld BAR_PORTSTAT.LSTATE e < 2 then s.setFld BAR_PORTSTAT.LSTATE (bit (s.barLanes e != [])) e
  else
    let up := s.on BAR_PORTSTAT.UPSTREAM e
    let s := forIn' (s.barLanes e) (fun l s => s.setFld BAR_LSTAT.BSTATE 2 l) s
    let s := (s.updBarPort e fun _ => BarPort.reset).setReg BAR_PORTSTAT 0 e
    let s := s.barErr BAR_FLAG.PORT_DOWN
    let s := s.sendMsg (1 - e) { kind := 12, orig := s.barId, hop := 0, words := [Word.of (e * 2 ^ 39)] }
    let s := s.when s.barActive (·.cancelDist)
    if !s.barUp 0 && !s.barUp 1 then s.goAlone
    else if s.bstate = 1 then s.pruneMembers fun i => s.bar.joins.any fun j => j.1 == i && j.2.1 == e
    else if s.bstate = 3 ∧ up then s.setBstate 4
    else s

/-- HOP_RETRY: 100 ns without an ACK: every message held is sent again, each counted; a message sent four times takes
the port down. -/
def State.hopRetry (s : State) (e : Nat) : State :=
  let b := s.barPort e
  if !s.barUp e ∨ b.held = [] then s
  else if b.held.any fun h => decide (4 ≤ h.2.2) then s.barPortDown e
  else
    let s := forIn' b.held (fun h s => (s.raise BAR_FLAG.HOP_RETRY).emit (barPkt e h.1 h.2.1)) s
    s.updBarPort e fun b => { b with held := b.held.map fun h => (h.1, h.2.1, h.2.2 + 1) }

/-- A chip with ROLE = 1 enters LEAD: MEMBERS = own ID; MAP.
(DEDUCED, log entry 117.) -/
def State.enterLead (s : State) : State :=
  ((s.updBar fun b => { b with joins := [], refused := [], wait := [] }).setBstate 1).setFld BAR_STAT.LEADER s.barId
    |>.sendMap [s.barId]

/-- JOIN toward the leader; JOINING. -/
def State.sendJoin (s : State) : State :=
  let e := if s.on BAR_PORTSTAT.UPSTREAM 0 then 0 else 1
  (s.sendMsg e { kind := 10, orig := s.barId, hop := 0, words := [] }).setBstate 2

/-- HOPDLY from the 256 ECHO exchanges (R219): round trip and turnaround of each, in cycles; the mean of half their
difference, rounded to the nearest.
(DEDUCED, log entry 167.) -/
def hopDelay (echoes : List (Nat × Nat)) : Nat := (((echoes.take 256).map fun x => x.1 - x.2).foldl (· + ·) 0 + 256) / 512

/-- The ECHO exchanges of a port that has become aligned: its own 256 go out, and each of the neighbour's 256 is returned with
the turnaround that this chip has counted, which is a free value (R219).
(PRESUMED, log entry 210.) -/
def State.sendEchoes (s : State) (e : Nat) : State :=
  let s := forTo 256 (fun _ s => s.emit (.echo e none)) s
  forTo 256 (fun _ s => s.draw.2.emit (.echo e (some (s.draw.1.toNat % 65536)))) s

/-- BAR_PORT_ALIGN: with both lanes locked the port is aligned: the lanes' offsets absorbed up to 16 blocks (R249), else
SKEW_ERR. It then measures HOPDLY by its ECHO exchanges with the neighbour, and with the 256th it is up (R219).
(DEDUCED, log entry 167.) -/
def State.barPortAlign (s : State) (e skew0 skew1 : Nat) (echoes : List (Nat × Nat)) (nbr : Nat) : State :=
  if s.blkHeld (56 + e) || !s.pdOn 8 || s.barUp e || (s.barLanes e).length < 2 then s
  else
    let l := 2 * e
    if 16 < skew0 ∨ 16 < skew1 then
      (s.when (decide (16 < skew0)) (·.raise BAR_LFLAG.SKEW_ERR l)).when (decide (16 < skew1)) (·.raise BAR_LFLAG.SKEW_ERR (l + 1))
        |>.barPortDown e
    else
      let s := ((s.setFld BAR_LSTAT.SKEW skew0 l).setFld BAR_LSTAT.SKEW skew1 (l + 1)).setFld BAR_LSTAT.BSTATE 3 l
      let s := ((s.setFld BAR_LSTAT.BSTATE 3 (l + 1)).updBarPort e fun _ => BarPort.reset).sendEchoes e
      if echoes.length < 256 then s.setFld BAR_PORTSTAT.LSTATE 2 e
      else
        let s := ((s.setFld BAR_PORTSTAT.LSTATE 3 e).setFld BAR_PORTSTAT.HOPDLY (hopDelay echoes) e).setFld BAR_PORTSTAT.NBR nbr e
        if s.bstate = 0 ∧ s.on BAR_CTL.EN ∧ s.on BAR_CFG.ROLE then s.enterLead else s

/-- BAR_EN: BAR_CTL.EN written. With both ports down the chip stays in ALONE (Table 11-5). -/
def State.barEn (s : State) (en : Bool) : State :=
  let s := s.setFld BAR_CTL.EN (bit en)
  if !en then (if s.bstate = 0 then s else s.goAlone)
  else if s.bstate ≠ 0 then s
  else if !s.barUp 0 && !s.barUp 1 then s
  else if s.on BAR_CFG.ROLE then s.enterLead
  else if s.bar.mapSeen then s.sendJoin
  else s

/-- BAR_LEAVE: BAR_CTL.LEAVE in FOLLOW: LEAVE, then a MAP without the own ID. -/
def State.barLeave (s : State) : State :=
  if s.bstate = 3 then (s.flood 11 []).updBar fun b => { b with leaving := true } else s

/-- REJOIN: from ISOLATED with ROLE = 0, once a MAP has been taken.
(DEDUCED, log entry 117.) -/
def State.rejoin (s : State) : State :=
  if s.bstate ≠ 4 ∨ s.on BAR_CFG.ROLE then s
  else if s.bar.mapSeen then s.sendJoin
  else s.updBar fun b => { b with rejoin := true }

/-- ID_DUP: JOINING for 100 µs without a MAP that lists the own ID: no votes from now on.
(DEDUCED, log entry 116.) -/
def State.idDup (s : State) : State :=
  if s.bstate = 2 then ((s.raise BAR_FLAG.ID_DUP).setBstate 4).updBar fun b => { b with mute := true } else s

/-- A MAP as a follower takes it. -/
def State.takeMap (s : State) (e orig ids gen : Nat) : State :=
  let s := ((s.setFld BAR_PORTSTAT.UPSTREAM 1 e).setFld BAR_PORTSTAT.UPSTREAM 0 (1 - e)).setFld BAR_STAT.LEADER orig
  let s := s.updBar fun b => { b with mapSeen := true }
  if !s.on BAR_CTL.EN then s
  else
    let s := ((s.setFld BAR_STAT.MEMBERS ids).setFld BAR_STAT.MGEN gen).raise BAR_FLAG.MAP_CHG
    let mine := ids.testBit s.barId
    match s.bstate with
    | 0 => s.sendJoin
    | 2 => if mine then s.setBstate 3 else s
    | 3 => if !mine && s.bar.leaving then s.goAlone else s
    | 4 => if s.bar.rejoin then s.sendJoin else s
    | _ => s

/-- MAP (R217, R235): a leader of lower bar ID makes a leader give way; neither case is forwarded. -/
def State.mapMsg (s : State) (e hseq orig hop ids gen : Nat) : State :=
  s.barTake e hseq fun s =>
    if s.on BAR_CFG.ROLE then
      if s.bstate = 1 ∧ orig < s.barId then (s.raise BAR_FLAG.DUAL_LEAD).setBstate 4 else s
    else
      let m : BarMsg := { kind := 9, orig := orig, hop := hop, words := [Word.of (ids * 2 ^ 24 + gen * 2 ^ 16)] }
      (s.when s.forwards (·.forward e m)).takeMap e orig ids gen

/-- JOIN at the leader. -/
def State.joinMsg (s : State) (e hseq orig hop : Nat) : State :=
  s.barMsg e hseq { kind := 10, orig := orig, hop := hop, words := [] } fun s =>
    if s.bstate ≠ 1 then s
    else if s.barBusy then s.updBar fun b => { b with wait := b.wait ++ [(true, orig, e, hop)] }
    else s.applyJoin orig e hop

/-- LEAVE at the leader. -/
def State.leaveMsg (s : State) (e hseq orig hop : Nat) : State :=
  s.barMsg e hseq { kind := 11, orig := orig, hop := hop, words := [] } fun s =>
    if s.bstate ≠ 1 then s
    else if s.barBusy then s.updBar fun b => { b with wait := b.wait ++ [(false, orig, e, hop)] }
    else s.applyLeave orig

/-- BREAK (R232, R235): the leader removes the members beyond a port that failed away from it. -/
def State.breakMsg (s : State) (e hseq orig hop west : Nat) : State :=
  s.barMsg e hseq { kind := 12, orig := orig, hop := hop, words := [Word.of (west * 2 ^ 39)] } fun s =>
    let s := (s.raise BAR_FLAG.BREAK_RX).when s.barActive (·.cancelDist)
    if s.bstate = 1 ∧ west = e then
      let h := match s.bar.joins.find? fun j => j.1 == orig with | some j => j.2.2 | none => hop
      s.pruneMembers fun i => s.beyond e h i
    else s

/-! ### Beacons (R222 to R225) -/

/-- The body of a BEACON: AGE as the leader sets it, LINE for a boundary. -/
def State.beaconWords (s : State) (age : Nat) (line : Bool) : List Word :=
  [s.posOut, Word.of (unsigned 40 s.pos.vel.toInt),
   Word.of (age % 65536 * 2 ^ 24 + s.bar.bseq * 2 ^ 16 + s.fld POS_STAT.FAULTY * 2 ^ 15 + s.fld POS_STAT.FCAUSE * 2 ^ 12 +
     bit s.uncertain * 2 ^ 11 + bit line * 2 ^ 10)]

/-- BEACON_SEND and BEACON_KEEPALIVE: the leader's beacon, out of both ports. -/
def State.beaconOut (s : State) (age : Nat) (line : Bool) : State :=
  if s.bstate ≠ 1 then s
  else
    let ws := s.beaconWords age line
    (s.flood 1 ws).updBar fun b => { b with bseq := (b.bseq + 1) % 256 }

/-- The position state set from a beacon (R223). -/
def State.setFromBeacon (s : State) (pos : Word) (vel : Int) (age : Nat) : State :=
  let v : BitVec 56 := BitVec.ofInt 56 vel
  let est : BitVec 56 := BitVec.ofNat 56 (pos.toNat * 2 ^ 16) + BitVec.ofInt 56 (v.toInt * age / 64)
  let s := s.posUpd fun p => { p with est := est, vel := v, k := 0 }
  s.setFld POS_SPEED.LINE_RATE (lineRate v)

/-- A follower takes a beacon: R223, R224. Its first beacon after ENABLE or REARM locks it, and decisions start from the
position it brings.
(DEDUCED, log entry 117.) -/
def State.takeBeacon (s : State) (pos : Word) (vel : Int) (age : Nat) (faulty : Bool) (fcause : Nat) (unc : Bool) : State :=
  let s := s.setFld POS_STAT.UNCERTAIN (bit unc)
  let s := s.when (!faulty) (·.updBar fun b => { b with beaconOk := true })
  if s.posState = 0 ∨ s.posState = 3 then s
  else if faulty then (s.setFromBeacon pos vel age).encFault fcause
  else
    let first := s.posState == 1
    let s := s.setFromBeacon pos vel age
    if first then ((s.setFld POS_STAT.STATE 2).setFld POS_STAT.LOCKED 1).restartDecisions.planPages else s.updateFwd

/-- BEACON: forwarded with its AGE raised by HOPDLY of the receiving port and by the forwarding delay. -/
def State.beaconMsg (s : State) (e hseq orig hop : Nat) (w0 w1 w2 : Word) (delay : Nat) : State :=
  s.barTake e hseq fun s =>
    let age := w2.toNat / 2 ^ 24 + s.fld BAR_PORTSTAT.HOPDLY e
    let fwd : BarMsg :=
      { kind := 1, orig := orig, hop := hop
        words := [w0, w1, Word.of ((age + delay) % 65536 * 2 ^ 24 + w2.toNat % 2 ^ 24)] }
    let s := s.when s.forwards (·.forward e fwd)
    s.when (s.bstate == 3 && s.on BAR_PORTSTAT.UPSTREAM e && s.follows) fun s =>
      s.takeBeacon w0 w1.toInt age (w2.getLsbD 15) (w2.toNat / 2 ^ 12 % 8) (w2.getLsbD 11)

/-- BEACON_LOST: no beacon for BTIMEOUT µs (R224, Table 11-5): a follower of the bar's position declares its encoder
faulty, also one that a port's failure has cut off before (R232).
(DEDUCED, log entry 117.) -/
def State.beaconLost (s : State) : State :=
  if s.bstate ≠ 3 ∧ !(s.follows && s.moves) then s
  else
    let s := s.barErr BAR_FLAG.BEACON_LOST
    let s := s.when s.follows (·.encFault 6)
    if s.bstate = 3 then (s.cancelDist).setBstate 4 else s

/-- PMARK: the leader's page-mark stamp in place of the probe's (R225). -/
def State.pmarkMsg (s : State) (e hseq orig hop : Nat) (t : Word) : State :=
  s.barMsg e hseq { kind := 2, orig := orig, hop := hop, words := [t] } fun s =>
    s.when (s.bstate == 3 && s.follows) (·.pmStamp t)

/-! ### Exchanges (R227 to R232) -/

/-- The bar context is held for another initiator's exchange. -/
def State.ctxBusy (s : State) (orig : Nat) : Bool := s.bar.ctxOf.any (fun o => o != orig) || s.bar.dx.isSome

/-- The pairs of a WRITES body: address, mask, data. -/
def writePairs : List Word → List (Nat × Nat × Word)
  | a :: d :: t => (a.toNat / 2 ^ 16, a.toNat % 65536, d) :: writePairs t
  | _ => []

/-- WRITES: the share of this chip is staged in the bar context. A body has at most 14 words; a word without its partner is
no pair.
(DEDUCED, log entry 118.) -/
def State.writesMsg (s : State) (e hseq orig hop : Nat) (ws : List Word) : State :=
  let ws := ws.take 14
  s.barMsg e hseq { kind := 3, orig := orig, hop := hop, words := ws } fun s =>
    if s.ctxBusy orig then s
    else
      let s := s.updBar fun b => { b with ctxOf := some orig }
      let s := s.when (!(s.ctx 2).isOpen) (·.setCtx 2 { StageCtx.reset with isOpen := true })
      forIn' (writePairs ws) (fun p s => s.when (p.2.1.testBit s.barId) (·.stageAs 2 p.1 p.2.2 p.2.1 false)) s

/-- The slot of a PREP on a member: origin 2, its own sequence number. -/
def State.prepSlot (s : State) (orig : Nat) (w0 w1 w2 : Word) : Slot :=
  { seq := s.txn.nextSeq, mode := w0.toNat / 2 ^ 21 % 8, gen := w0.getLsbD 20, dist := true, origin := 2
    writes := (s.ctx 2).writes, target := w1, targetNs := w2.toNat % 2 ^ 32, line := none, nextSwath := false
    prep := false, early := false, byEmpty := false, deferred := false, units := 0, logs := 0, issuer := false
    voting := false, init := orig, iseq := w0.toNat / 2 ^ 24, places := [], armDec := 0 }

/-- PREP on a member (R228): its share, unless the bar context is held for another initiator's exchange.
(DEDUCED, log entry 118.) -/
def State.prepMsg (s : State) (e hseq orig hop : Nat) (w0 w1 w2 : Word) : State :=
  s.barMsg e hseq { kind := 4, orig := orig, hop := hop, words := [w0, w1, w2] } fun s =>
    let t := s.prepSlot orig w0 w1 w2
    let s := s.txnUpd fun u => { u with nextSeq := (u.nextSeq + 1) % 65536 }
    let s := ((s.setFld TXN_RESULT.SEQ t.seq 2).setFld TXN_RESULT.OUT 0 2).setFld TXN_RESULT.CAUSE 0 2
    if s.bar.ctxOf.any fun o => o != orig then s.dxCollide t
    else s.ctxClear.dxPrep t (s.ctx 2).doomed (w0.toNat % 256)

/-- VOTE (R228). -/
def State.voteMsg (s : State) (e hseq orig hop : Nat) (w : Word) : State :=
  s.barMsg e hseq { kind := 5, orig := orig, hop := hop, words := [w] } fun s =>
    s.when s.barActive (·.dxVote orig (w.getLsbD 19) (w.toNat / 2 ^ 20 % 16) (w.toNat / 2 ^ 24) (w.toNat / 2 ^ 11 % 256))

/-- TRIG: the initiator's network-time trigger (R230). -/
def State.trigMsg (s : State) (e hseq orig hop : Nat) (w : Word) : State :=
  s.barMsg e hseq { kind := 6, orig := orig, hop := hop, words := [w] } fun s =>
    forTo 16 (fun k s =>
      match s.slot? k with
      | some t =>
        if t.dist && !t.voting && !t.prep && t.mode == 4 && t.line.isNone && t.init == orig && t.iseq == w.toNat / 2 ^ 24
        then s.trigAt k t (w.toNat % 2 ^ 24) else s
      | none => s) s

/-- DX_TIMEOUT: votes are missing DX_TIMEOUT µs after PREP. -/
def State.dxTimeout (s : State) : State := match s.bar.dx with | some d => s.dxAbort d 0 0 | none => s

/-! ### Barrier, snapshot, reset (R233, R234) -/

/-- ARRIVE: an arrival of a member; a scan-mode page that waited for it may open. -/
def State.arriveMsg (s : State) (e hseq orig hop jobId pageNo : Nat) : State :=
  s.barMsg e hseq
    { kind := 7, orig := orig, hop := hop, words := [Word.of (jobId * 2 ^ 24 + pageNo * 2 ^ 8)] } fun s =>
    (s.updBar fun b => { b with arrived := (orig, jobId, pageNo) :: b.arrived.filter fun a => a != (orig, jobId, pageNo) }).scanOpen

/-- GOP taken by a member (R234). -/
def State.gopMsg (s : State) (e hseq orig hop op m : Nat) : State :=
  s.barMsg e hseq { kind := 8, orig := orig, hop := hop, words := [Word.of (op * 2 ^ 38 + m * 2 ^ 14)] } fun s =>
    if !s.barActive then s
    else
      match op with
      | 0 => s.updBar fun b => { b with snapLines := b.snapLines ++ [(m, false)] }
      | 1 => s.snapshot
      | 2 => s.updBar fun b => { b with gopReset := true }
      | _ => s

/-- A write of BAR_GOP with GO = 1: snapshot at line (0), snapshot now (1), reset (2). -/
def State.gopStart (s : State) (op : Nat) : State :=
  if s.on BAR_GOP.BUSY then s
  else
    let s := s.setFld BAR_GOP.OP op
    let m := if op = 0 then lineMod (s.nextLine + s.commitLead) else 0
    let send (s : State) : State := s.when s.barActive (·.flood 8 [Word.of (op * 2 ^ 38 + m * 2 ^ 14)])
    match op with
    | 0 => (send s).setFld BAR_GOP.BUSY 1 |>.updBar fun b => { b with snapLines := b.snapLines ++ [(m, true)] }
    | 1 => (send s).snapshot
    | 2 => (send s).setFld BAR_GOP.BUSY 1 |>.updBar fun b => { b with gopReset := true }
    | _ => s

/-! ### Network time (R238 to R240) -/

/-- AGE × 0.8333 ns in units of 2^−40 ns.
(DEDUCED, log entry 115.) -/
def ageTime (age : Nat) : Nat := age * 0xD555555555

/-- The body of a TIME message. -/
def State.timeWords (s : State) (age : Nat) : List Word :=
  [Word.of s.timeS, Word.of (s.timeS / 2 ^ 40 * 2 ^ 32 + s.timeNs), Word.of (age % 65536 * 2 ^ 24)]

/-- TIME_SEND: the leader's TIME message. -/
def State.timeSend (s : State) (age : Nat) : State := s.when (s.bstate == 1) fun s => s.flood 13 (s.timeWords age)

/-- A follower in SRC = BAR loads the time and corrects its rate by what it saw over the last interval (R239). -/
def State.takeTime (s : State) (sec ns age : Nat) : State :=
  let t := timeMod (timeOf sec ns + ageTime age)
  let s := match s.bar.lastTime with
    | none => s
    | some t0 =>
      let own := timeMod (s.net.time + 2 ^ 48 * secUnits - t0)
      let led := timeMod (t + 2 ^ 48 * secUnits - t0)
      if own = 0 then s else s.setReg ETH_TADDEND (Word.of ((s.reg ETH_TADDEND).toNat * led / own))
  (s.setTime t).updBar fun b => { b with lastTime := some t }

/-- TIME: forwarded with its AGE raised, and taken by a follower. -/
def State.timeMsg (s : State) (e hseq orig hop : Nat) (w0 w1 w2 : Word) (delay : Nat) : State :=
  s.barTake e hseq fun s =>
    let age := w2.toNat / 2 ^ 24 + s.fld BAR_PORTSTAT.HOPDLY e
    let fwd : BarMsg :=
      { kind := 13, orig := orig, hop := hop, words := [w0, w1, Word.of ((age + delay) % 65536 * 2 ^ 24)] }
    let s := s.when s.forwards (·.forward e fwd)
    s.when (s.bstate == 3 && s.fld ETH_TCFG.SRC == 2) fun s =>
      s.takeTime (w1.toNat / 2 ^ 32 * 2 ^ 40 + w0.toNat) (w1.toNat % 2 ^ 32) age

/-- TIME_S_READ: the seconds, with the whole counter latched. -/
def State.timeSRead (s : State) : State × Word :=
  ({ s with net := { s.net with latch := Word.of (s.timeS / 2 ^ 40 * 2 ^ 32 + s.timeNs) } }, Word.of s.timeS)

/-- TIME_S_WRITE: the held seconds value. -/
def State.timeSWrite (s : State) (w : Word) : State := { s with net := { s.net with heldS := w.toNat } }

/-- TIME_NS_WRITE: the counter loads. -/
def State.timeNsWrite (s : State) (w : Word) : State :=
  s.setTime (timeOf (w.toNat / 2 ^ 32 * 2 ^ 40 + s.net.heldS) (w.toNat % 2 ^ 32))

/-- TIME_STEP: a signed step in nanoseconds.
(DEDUCED, log entry 126.) -/
def State.timeStep (s : State) (w : Word) : State :=
  (s.setTime ((s.net.time : Int) + w.toInt * 2 ^ 40 + 2 ^ 48 * secUnits).toNat).raise ETH_FLAG.TIME_STEP

/-- The MAC runs: enabled, its domain on, out of block reset. -/
def State.macRuns (s : State) : Bool := s.on ETH_CTL.EN && s.pdOn 9 && !s.blkHeld 69

/-- SCHEDULED_LAUNCH: a frame is queued with a launch time; a time already past sends it at once with LAUNCH_LATE. -/
def State.scheduledLaunch (s : State) (sec ns : Nat) (frame : List Byte) : State :=
  if !s.macRuns then s
  else if s.timeReached sec ns then (s.raise ETH_FLAG.LAUNCH_LATE).emit (.ethFrame frame)
  else { s with net := { s.net with txq := s.net.txq ++ [(timeOf sec ns, frame)] } }

/-- The queued frames whose launch time the counter has reached leave, in the order queued (R240). -/
def State.launchFrames (s : State) : State :=
  if !s.macRuns then s
  else
    let due := s.net.txq.filter fun x => decide (x.1 ≤ s.net.time)
    if due = [] then s
    else
      let s := { s with net := { s.net with txq := s.net.txq.filter fun x => decide (s.net.time < x.1) } }
      forIn' due (fun x s => s.emit (.ethFrame x.2)) s

/-- Bytes of a frame replaced from a place on. -/
def putBytes (f : List Byte) (i : Nat) (bs : List Byte) : List Byte := f.take i ++ bs ++ f.drop (i + bs.length)

/-- The frame check sequence of a frame, least significant byte first.
(PRESUMED, log entry 34.) -/
def fcs (f : List Byte) : List Byte := (bytesBE 4 (crc32 f)).reverse

/-- ONE_STEP_INSERT: a Sync or Delay_Req frame leaves with the network time in originTimestamp (R240): 34 bytes into
the PTP message, which follows the Ethernet header, or the IPv4 and UDP headers whose checksum is set to 0.
(PRESUMED, log entry 34.) -/
def State.oneStepInsert (s : State) (frame : List Byte) : State :=
  if !s.macRuns then s
  else
    let stamp := bytesBE 6 s.timeS ++ bytesBE 4 s.timeNs
    let f := if s.on ETH_PTPCFG.UDP then putBytes (putBytes frame 40 [0, 0]) 76 stamp else putBytes frame 48 stamp
    s.emit (.ethFrame (f ++ fcs f))

/-- LINK_CHG: the receive clock or the in-band link status appears or disappears. -/
def State.linkChg (s : State) (up : Bool) : State :=
  if s.pdOn 9 && !s.blkHeld 69 && s.on ETH_STAT.LINK != up then (s.setFld ETH_STAT.LINK (bit up)).raise ETH_FLAG.LINK_CHG else s

end Sys2Proof.Machine
end

