-- ==== Sys2Proof/Machine/DramCmd.lean ====
section
/-! DEFINITION. The DRAM commands of the table (spec/13_dram_controller.md): requests and their completion, the
scrubber, refresh, MR4, ZQ and page closing, initialisation and the block reset of the controller. -/

namespace Sys2Proof.Machine

/-- The controller is in RUN and can be reached. -/
def State.dramRuns (s : State) : Bool := s.pdOn 7 && !s.blkHeld 54 && s.fld DRAM_STAT.STATE == 4

/-- The devices are initialised and not in self-refresh, in CHECK, ZERO or RUN: refresh, MR4 and ZQ go on (R275). -/
def State.dramLive (s : State) : Bool :=
  s.pdOn 7 && !s.blkHeld 54 && decide (2 ≤ s.fld DRAM_STAT.STATE) && decide (s.fld DRAM_STAT.STATE ≤ 4)

/-! ### Requests of the table -/

/-- The outgoing Warden core's writes are cut off: the overlap window of R341 runs (WARD_STAT.SSTATE TAKEOVER or
RELEASING, ISO_DONE not yet). -/
def State.coreCut (s : State) : Bool :=
  (s.fld WARD_STAT.SSTATE == 2 || s.fld WARD_STAT.SSTATE == 3) && !s.on WARD_STAT.ISO_DONE

/-- What a write request leaves for read requests of its cycle: each burst as it stood before (R273). -/
def State.tiesOf (s : State) (client addr n : Nat) : List DTie :=
  (burstsOf addr n).map fun b =>
    { client := client, burst := b, ser := 0, bytes := s.dramBytes (b * 64) 64, errs := (List.range' (b * 8) 8).map s.cwErr }

/-- The writes of this cycle are kept with their serial numbers. -/
def State.noteTies (s : State) (l : List DTie) : State :=
  let l := l.map fun t => { t with ser := s.dram.ser }
  { s with dram := { s.dram with tie := (s.cycle, (if s.dram.tie.1 = s.cycle then s.dram.tie.2 else []) ++ l) } }

/-- Read requests of this cycle by clients of a higher index come after a write request: they return what it wrote
(R273).
(DEDUCED, log entry 208.) -/
def State.refreshReads (s : State) (client addr n : Nat) : State :=
  let rq := s.dram.rq.map fun d =>
    if d.waits && !d.eng && d.cyc == s.cycle && decide (client < d.client) && (burstsOf addr n).contains d.burst then
      { d with ser := s.dram.ser + 1, bytes := s.dramBytes (d.burst * 64) 64
               errs := (List.range' (d.burst * 8) 8).map s.cwErr, newer := [] }
    else d
  { s with dram := { s.dram with rq := rq } }

/-- DRAM_WRITE_REQUEST: a client write is committed or discarded (R272); a write of a Warden core that was not committed
before its wrapper closed is discarded (R341). -/
def State.dramWriteRequest (s : State) (client addr : Nat) (bytes : List Byte) : State :=
  if client = 9 ∧ s.coreCut then s
  else
    let n := bytes.length
    let r := s.dramWrite client addr bytes
    if r.2 then ((r.1.noteTies (s.tiesOf client addr n)).refreshReads client addr n) else r.1

/-- DRAM_READ_REQUEST: a read enters its read queues, after the matching queued writes are drained; a refused one is
answered poisoned at once (R267, R272, R278, R279). -/
def State.dramReadRequest (s : State) (client addr n : Nat) : State :=
  match s.dramGate addr n with
  | .go => s.askReads ((burstsOf addr n).map (readPart client addr n))
  | g => (s.gateFlag g).answerPoison client addr n

/-! ### Scheduling (R275, R276) -/

/-- A read of an RT client waits on a subchannel. -/
def State.rtWaits (s : State) (q : Nat) : Bool :=
  s.dram.rq.any fun d => d.waits && d.burst % 4 == q && d.client != 10 && s.cliClass d.client == 0

/-- REFRESH: a same-bank refresh falls due. While an RT read waits, or a write queue is drained for a read, it is
postponed, up to four; the fifth is issued and REF_FORCED is set; otherwise it is issued, and postponed ones are made up
(R273, R275).
(DEDUCED, log entry 172.) -/
def State.refresh (s : State) (q rank : Nat) (draining : Bool) : State :=
  if s.dramLive then
    if s.rtWaits q || draining then
      if s.owed q rank < 4 then s.setOwed q rank (s.owed q rank + 1)
      else (s.refreshOnce q rank).raise DRAM_FLAG.REF_FORCED
    else (s.refreshOnce q rank).makeUp q rank
  else s

/-- DRAM_READ_COMPLETE: a scheduling opportunity on a subchannel (R276, R268, R269, R383). With no read to choose nothing
happens.
(DEDUCED, log entry 147.) -/
def State.dramReadComplete (s : State) (q : Nat) (busy : List Nat) (errs : List (Nat × Nat)) : State :=
  if s.dramRuns then s.serveNext q busy errs else s

/-- The scrubber's read of the last burst of the capacity is on its way. -/
def State.scrubEnding (s : State) : Bool :=
  s.dram.rq.any fun d => d.client == 10 && decide (s.dramCap ≤ d.burst * 64 + 64)

/-- SCRUB: one burst of each subchannel is read with the scrubber as client, at once where no other read waits. DRAM_SCRUBPOS
moves on; once the last burst of the capacity has been read SCRUB_DONE is set and the pass starts again (R271, R276). -/
def State.scrub (s : State) (errs : List (Nat × Nat)) : State :=
  if s.dramRuns && s.on DRAM_CTL.SCRUB_EN && !s.scrubEnding then
    let a := s.fld DRAM_SCRUBPOS.ADDR
    let s := s.when (decide (a + 256 < s.dramCap)) (·.setFld DRAM_SCRUBPOS.ADDR (a + 256))
    let s := s.askReads ((List.range 4).map fun i => readPart 10 (a / 256 * 256) 256 (a / 256 * 4 + i))
    forTo 4 (fun q s => if s.rqCount q = 1 then s.serveNext q [] errs else s) s
  else s

/-- MR4_POLL: MR4 of every rank is read; DRAM_TEMP shows the hottest rank, REF2X a rate above 1x, HOT a temperature
above the operating limit too (R275). -/
def State.mr4Poll (s : State) (rr0 rr1 rr2 rr3 : Nat) (above1x hot : Bool) : State :=
  if s.dramLive then
    let s := (((s.setFld DRAM_TEMP.RR rr0 0).setFld DRAM_TEMP.RR rr1 1).setFld DRAM_TEMP.RR rr2 2).setFld DRAM_TEMP.RR
      rr3 3
    let s := (s.toRanks 1).setFld DRAM_STAT.REF2X (bit above1x)
    s.when (above1x && hot) (·.raise DRAM_FLAG.HOT)
  else s

/-- ZQ_CAL: ZQCal Start, then ZQCal Latch, of every rank (R275). -/
def State.zqCal (s : State) : State := if s.dramLive then (s.toRanks 2).toRanks 5 else s

/-- PAGE_IDLE_CLOSE: an open row without access for IDLE cycles is closed; the predictor stays (R274). -/
def State.pageIdleClose (s : State) (q rank group bank : Nat) : State :=
  if s.dramRuns && s.fld DRAM_PAGE.MODE != 1 then s.closeBank (((q * 2 + rank) * 8 + group) * 4 + bank) else s

/-! ### Initialisation (R278, Table 13-8) -/

/-- The devices' contents are lost: nothing listed, no damage recorded, predictors at 2. -/
def State.dramLose (s : State) : State :=
  { s with dram := { s.dram with mem := [], damage := [], undef := none, known := [], pat := [], banks := [], wq := []
                                 owed := [], refBank := [] } }

/-- RESET_n of the devices takes a level (R278). -/
def State.setRstN (s : State) (v : Bool) : State :=
  ({ s with dram := { s.dram with rstN := v } } : State).when (v != s.dram.rstN) (·.emit (.dramReset v))

/-- The controller ends in OFF without contents: RESET_n low, RETAINED 0 (Table 13-8, R279). -/
def State.dramOff (s : State) : State :=
  let s := (s.dramLose.setRstN false).setFld DRAM_STAT.RETAINED 0
  { s with dram := { s.dram with ioLatch := false } }

/-- The devices leave self-refresh, ZQ is calibrated, every predictor is 2 (Table 13-8). -/
def State.dramWake (s : State) : State :=
  (((({ s with dram := { s.dram with banks := [] } } : State).toRanks 6).toRanks 2).toRanks 5).setFld DRAM_STAT.STATE 4

/-- INIT_FAIL with its cause: FAILED.
(DEDUCED, log entry 136.) -/
def State.initFail (s : State) (cause : Nat) : State :=
  ((s.setFld DRAM_STAT.FCAUSE cause).setFld DRAM_STAT.STATE 6).raise DRAM_FLAG.INIT_FAIL

/-- Send the valid DRAM_MRINIT entries in index order to the subchannels they name. -/
def State.sendMrInit (s : State) : State :=
  forTo 32 (fun j s =>
    if s.on DRAM_MRINIT.V j then
      forTo 4 (fun q s =>
        if (s.fld DRAM_MRINIT.QMASK j).testBit q then
          s.emit (.dramCmd q 4 (s.fld DRAM_MRINIT.MA j * 256 + s.fld DRAM_MRINIT.OP j))
        else s) s
    else s) s

/-- The effect of INIT written 1 (Table 13-8), DRAM_CTL holding RETAIN and ZERO. -/
def State.dramInit (s : State) : State :=
  let st := s.fld DRAM_STAT.STATE
  let geom := geomSize (s.fld DRAM_GEOM.WIDTH) (s.fld DRAM_GEOM.DENS) (s.fld DRAM_GEOM.RANKS) != 0
  let retain := s.on DRAM_CTL.RETAIN
  let retained := s.on DRAM_STAT.RETAINED
  if s.blkHeld 54 then s.raise DRAM_FLAG.NOT_READY
  else if st ≠ 0 ∧ st ≠ 6 then s
  else if retain && !retained then s.initFail 3
  else if !geom then (if retain then s else (s.dramLose).setFld DRAM_STAT.RETAINED 0).initFail 1
  else if retain then
    if st = 0 then (s.setFld DRAM_STAT.RETAINED 0).dramWake else s
  else
    let s := s.dramLose
    let s := ((s.setFld DRAM_STAT.RETAINED 0).setFld DRAM_STAT.FCAUSE 0).setFld DRAM_STAT.FAILQ 0
    let s := (s.setFld DRAM_STAT.PROGRESS 0).setFld DRAM_STAT.STATE 1
    let s := (({ s with dram := { s.dram with rstN := true } } : State).emit (.dramReset false)).emit (.dramReset true)
    s.sendMrInit.toRanks 2

/-- DRAM_ZQ_DONE: ZQ completes in INIT, the check patterns are written and read back. -/
def State.dramZqDone (s : State) : State :=
  if s.fld DRAM_STAT.STATE = 1 ∧ s.blkHeld 54 = false then (s.toRanks 5).setFld DRAM_STAT.STATE 2 else s

/-- The addresses of the first 4 KiB of every rank of every subchannel, 16 KiB for each rank (R278, Table 13-2): with two
ranks (x8 devices) bit 19 is the rank. -/
def State.patternAreas (s : State) : List Nat := if s.on DRAM_GEOM.RANKS then [0, 2 ^ 19] else [0]

/-- DRAM_CHECK_DONE: a mismatch fails the initialisation; otherwise the controller zero-fills, or runs with contents
that are not defined but where the last check pattern stands.
(DEDUCED, log entry 170.) -/
def State.dramCheckDone (s : State) (failq : Nat) : State :=
  if s.fld DRAM_STAT.STATE ≠ 2 ∨ s.blkHeld 54 = true then s
  else if failq % 16 ≠ 0 then (s.setFld DRAM_STAT.FAILQ failq).initFail 2
  else if s.on DRAM_CTL.ZERO then s.setFld DRAM_STAT.STATE 3
  else
    let s := s.dramLose
    let s := { s with dram := { s.dram with undef := some s.freeCtr, pat := s.patternAreas }, freeCtr := s.freeCtr + 1 }
    s.setFld DRAM_STAT.STATE 4

/-- DRAM_ZERO_DONE: the last zero burst is committed; every byte reads 0. What PROGRESS shows after the fill is open:
a free value.
(DESIGN CHOICE, log entry 15.) -/
def State.dramZeroDone (s : State) : State :=
  if s.fld DRAM_STAT.STATE ≠ 3 ∨ s.blkHeld 54 = true then s
  else
    let s := s.dramLose
    let d := s.draw
    (d.2.setFld DRAM_STAT.PROGRESS d.1.toNat).setFld DRAM_STAT.STATE 4

/-! ### Block reset and power (R279) -/

/-- Every read that waits is answered poisoned; `f` follows for each request. The scrubber's are dropped. -/
def State.poisonReads (s : State) (f : State → State) : State :=
  let s' := forIn' s.dram.rq (fun d s =>
    if d.client = 10 then s else (s.answerPoison d.client (d.burst * 64 + d.off) d.n).when d.last f) s
  { s' with dram := { s'.dram with rq := [] } }

/-- Bit 54 of SYS_BLKRST is written 1 in RUN: every queued read is answered poisoned at once (R279 step 2). -/
def State.dramHold (s : State) : State :=
  s.when (s.fld DRAM_STAT.STATE == 4) (·.poisonReads fun s => (s.raise DRAM_FLAG.LOST).isoCount 54 1)

/-- The DRAM block reset asserted, its wrapper drained (R279): from RUN committed writes are completed, all banks are
precharged and every rank goes to self-refresh; an initialisation has ended in OFF. -/
def State.dramResetAssert (s : State) : State :=
  let st := s.fld DRAM_STAT.STATE
  if st = 4 then
    let s := forTo 4 (fun q s => s.issueWrites q 64) s.dramHold
    let s := { s with dram := { s.dram with wq := [], banks := [] } }
    ((s.toRanks 7).toRanks 3).setFld DRAM_STAT.STATE 5
  else if st = 1 ∨ st = 2 ∨ st = 3 then s.dramOff.setFld DRAM_STAT.STATE 0
  else s

/-- The DRAM block reset released: SELFREF returns to RUN. -/
def State.dramResetRelease (s : State) : State := if s.fld DRAM_STAT.STATE = 5 then s.dramWake else s

/-- PD7 switched off (R279): from SELFREF the I/O cells hold the devices in self-refresh and the contents are retained;
otherwise they are lost. -/
def State.dramPowerOff (s : State) : State :=
  if s.fld DRAM_STAT.STATE = 5 then
    ({ s with dram := { s.dram with ioLatch := true } } : State).setFld DRAM_STAT.RETAINED 1
  else s.dramOff

/-- PD7 is on again: the controller drives the lines itself (R279). -/
def State.dramPowerOn (s : State) : State := { s with dram := { s.dram with ioLatch := false } }

end Sys2Proof.Machine
end

