-- ==== Sys2Proof/Machine/Disp.lean ====
section
/-! DEFINITION. The operator display (spec/20_display.md): the timing check of EN, frame starts and the latching of
layers and rectangles, composition and the rectangle checks, underruns, the line counter, the block reset. -/

namespace Sys2Proof.Machine

/-! ### Timing (R377, R378) -/

/-- The pixels of a line, HTOT. -/
def State.htot (s : State) (o : Nat) : Nat :=
  s.fld DISP_HTIM.HSYNC o + s.fld DISP_HTIM.HBP o + s.fld DISP_HTIM.HACT o + s.fld DISP_HTIM.HFP o

/-- The lines of a frame, VTOT. -/
def State.vtot (s : State) (o : Nat) : Nat :=
  s.fld DISP_VTIM.VSYNC o + s.fld DISP_VTIM.VBP o + s.fld DISP_VTIM.VACT o + s.fld DISP_VTIM.VFP o

/-- The output runs: its domain is on and its block is not held. -/
def State.dispUp (s : State) (o : Nat) : Bool := s.pdOn 9 && !s.blkHeld (58 + o)

/-- The CK_CORE cycles of a pixel: four make a cycle of CK_PIX, DIV of those a pixel (R377). -/
def State.pixTicks (s : State) (o : Nat) : Nat := 4 * s.fld DISP_CTL.DIV o

/-- The line of the frame that is being sent, by the cycles since its start; the last one stays until the next frame start
(R378). -/
def State.dispLine (s : State) (o : Nat) : Nat := min ((s.dout o).tick / s.pixTicks o / s.htot o) (s.vtot o - 1)

/-- The lines of a frame before its first active one. -/
def State.vLead (s : State) (o : Nat) : Nat := s.fld DISP_VTIM.VSYNC o + s.fld DISP_VTIM.VBP o

/-- The smallest divider of an output in its mode (Table 20-1). -/
def State.divMin (s : State) (o : Nat) : Nat := if o = 1 then 4 else if s.on DISP_CTL.LINKS 0 then 2 else 3

/-- The timing of an output is one that EN = 1 accepts (R378). -/
def State.timingOk (s : State) (o : Nat) : Bool :=
  let h := [s.fld DISP_HTIM.HACT o, s.fld DISP_HTIM.HFP o, s.fld DISP_HTIM.HSYNC o, s.fld DISP_HTIM.HBP o]
  let v := [s.fld DISP_VTIM.VFP o, s.fld DISP_VTIM.VSYNC o, s.fld DISP_VTIM.VBP o]
  let hact := s.fld DISP_HTIM.HACT o
  let vact := s.fld DISP_VTIM.VACT o
  decide (s.divMin o ≤ s.fld DISP_CTL.DIV o) && decide (16 ≤ hact) && decide (hact ≤ 4096) && decide (1 ≤ vact) &&
    decide (vact ≤ 4096) && (h.drop 1 ++ v).all (fun w => w != 0) && decide (s.htot o ≤ 8191) &&
    !(o == 0 && s.on DISP_CTL.LINKS 0 && h.any (fun w => w % 2 == 1))

/-- An output drives its balls from its first EN = 1 on (R377, R384). -/
def State.dispDrive (s : State) (o : Nat) : State := s.setDout o { s.dout o with driven := true }

/-- A write of EN: 1 is refused with TIM_BAD, and EN is 0, while the timing is not one of R378.
(DEDUCED, log entry 82.) -/
def State.dispEnWrite (s : State) (o : Nat) (en : Bool) : State :=
  if en && !s.timingOk o then (s.setFld DISP_CTL.EN 0 o).raise DISP_FLAG.TIM_BAD o
  else (s.setFld DISP_CTL.EN (bit en) o).when (en && s.dispUp o) (·.dispDrive o)

/-! ### Frame start (R380, R384) -/

/-- A layer's fields as a frame start latches them. -/
def State.latchLayer (s : State) (o l : Nat) : DLayer :=
  { en := s.on DISP_LCFG.EN o l && s.fld DISP_LCFG.FMT o l != 3
    fmt := s.fld DISP_LCFG.FMT o l, alpha := s.fld DISP_LCFG.GALPHA o l
    x := s.fld DISP_LCFG.X o l, y := s.fld DISP_LCFG.Y o l
    w := s.fld DISP_LSIZE.W o l, h := s.fld DISP_LSIZE.H o l
    base := s.fld DISP_LBASE.BASE o l, stride := s.fld DISP_LSTRIDE.STRIDE o l }

/-- A rectangle's fields as a frame start latches them. -/
def State.latchRect (s : State) (o k : Nat) : DRect :=
  { en := s.on DISP_RECTA.EN o k, x0 := s.fld DISP_RECTA.X0 o k, y0 := s.fld DISP_RECTA.Y0 o k
    x1 := s.fld DISP_RECTB.X1 o k, y1 := s.fld DISP_RECTB.Y1 o k, exp := s.fld DISP_RCRCEXP.CRC o k }

/-- The active lines that the layers of a frame take to be fetched: up to the last one that an enabled layer covers
(R379, R381). -/
def linesToFetch (vact : Nat) (ls : List DLayer) : Nat :=
  ls.foldl (fun m l => if l.en then max m (min (l.y + l.h) vact) else m) 0

/-- An output as a frame starts. -/
def State.newFrameOut (s : State) (o : Nat) (en : Bool) : DOut :=
  let ls := (List.range 4).map (s.latchLayer o)
  { scanning := en, layers := ls, rects := (List.range 4).map (s.latchRect o), early := [], bgFrom := [], bad := [], tick := 0
    fetched := 0, toFetch := linesToFetch (s.fld DISP_VTIM.VACT o) ls, shown := 0, rows := []
    crcs := List.replicate 4 (BitVec.allOnes 32), done := [], driven := (s.dout o).driven }

/-- A frame start: every field is latched, LAYER_INUSE clears, the frame is counted; with EN = 0 the output blanks from here
on, and a blanked output has no further frame start (R380, R384).
(DEDUCED, log entry 81.) -/
def State.frameLatch (s : State) (o : Nat) : State :=
  let en := s.on DISP_CTL.EN o
  if s.dispUp o && (en || (s.dout o).scanning) then
    let s := s.setDout o (s.newFrameOut o en)
    let s := forTo 4 (fun l s => s.setFld DISP_LCUR.BASE (s.fld DISP_LBASE.BASE o l) o l) s
    let s := ((s.setFld DISP_STAT.LAYER_INUSE 0 o).addFld DISP_STAT.FRAME 1 o).setFld DISP_STAT.LINE 0 o
    s.raise DISP_FLAG.FSTART o
  else s

/-- DISP_FRAME_START: the first frame of an output, or the next one in the last line of the frame before; at no other line
does a frame start (R378).
(DEDUCED, log entry 81; DEDUCED, log entry 212.) -/
def State.dispFrameStart (s : State) (o : Nat) : State :=
  if (s.dout o).scanning && s.dispLine o + 1 != s.vtot o then s else s.frameLatch o

/-- A write of DISP_LBASE[o][l]: LAYER_INUSE until the frame start that latches it (R380). -/
def State.layerBaseWrite (s : State) (o l : Nat) (w : Word) : State :=
  let s := s.setFld DISP_LBASE.BASE (DISP_LBASE.BASE.ext w) o l
  s.setFld DISP_STAT.LAYER_INUSE (s.fld DISP_STAT.LAYER_INUSE o ||| 2 ^ l) o

/-! ### Composition (R379, R383) -/

/-- An 8-bit colour. -/
structure Rgb where
  r : Nat
  g : Nat
  b : Nat
  deriving DecidableEq, Repr

/-- A colour from a 24-bit word, R in [23:16]. -/
def Rgb.of (v : Nat) : Rgb := { r := v / 65536 % 256, g := v / 256 % 256, b := v % 256 }

/-- One channel of R379's composition: source s, destination d, alpha a2 of 0 to 256. -/
def blendCh (a2 sc d : Nat) : Nat := (sc * a2 + d * (256 - a2)) / 256

/-- A pixel with alpha placed over the colour beneath it (R379). -/
def blend (ga pa : Nat) (src dst : Rgb) : Rgb :=
  let a := pa * (ga + ga / 128) / 256
  let a2 := a + a / 128
  { r := blendCh a2 src.r dst.r, g := blendCh a2 src.g dst.g, b := blendCh a2 src.b dst.b }

/-- Bytes per pixel of a format. -/
def pixBytes (fmt : Nat) : Nat := if fmt = 0 then 4 else 2

/-- The alpha and the colour of a pixel's bytes, most significant byte first (R379).
(DESIGN CHOICE, log entry 18.)
(DEDUCED, log entry 182.) -/
def pixelOf (fmt v : Nat) : Nat × Rgb :=
  match fmt with
  | 0 => (v / 2 ^ 24, Rgb.of (v % 2 ^ 24))
  | 1 =>
    (255, { r := (Config.expand5 (BitVec.ofNat 5 (v / 2048))).toNat, g := (Config.expand6 (BitVec.ofNat 6 (v / 32))).toNat
            b := (Config.expand5 (BitVec.ofNat 5 v)).toNat })
  | _ => (255, { r := v / 256, g := v / 256, b := v / 256 })

/-- The byte address of a layer's pixel at column i and row j. -/
def DLayer.pixAddr (l : DLayer) (i j : Nat) : Nat := l.base * 16 + j * l.stride * 16 + i * pixBytes l.fmt

/-- An enabled layer covers a pixel of the active area.
(DEDUCED, log entry 79.) -/
def DLayer.covers (l : DLayer) (x y : Nat) : Bool :=
  l.en && decide (l.x ≤ x) && decide (x < l.x + l.w) && decide (l.y ≤ y) && decide (y < l.y + l.h)

/-- The bytes of a layer's pixel in a fetched row; poisoned or not fetched: none. -/
def DOut.pixel (d : DOut) (k : Nat) (l : DLayer) (x y : Nat) : Option (List Byte) :=
  let a := l.pixAddr (x - l.x) (y - l.y)
  let n := pixBytes l.fmt
  if d.bad.any fun r => decide (a < r.1 + r.2) && decide (r.1 < a + n) then none
  else
    (d.rows.find? fun r => r.1 == y && r.2.1 == k).map fun r => (r.2.2.drop ((x - l.x) * n)).take n

/-- The composed pixel of an output at (x, y): background, then the layers from the bottom; background where the data
did not come in time or was poisoned (R379, R383).
(DEDUCED, log entry 80.)
(DEDUCED, log entry 182.) -/
def State.composed (s : State) (o x y : Nat) : Rgb :=
  let d := s.dout o
  let bg := Rgb.of (s.fld DISP_CTL.BG o)
  let tops := d.layers.zipIdx.filter fun l => l.1.covers x y
  if d.bgFrom.any (fun e => e.1 == y && decide (e.2 ≤ x)) then bg
  else if tops.any (fun l => (d.pixel l.2 l.1 x y).isNone) then bg
  else
    tops.foldl (fun c l =>
      let p := pixelOf l.1.fmt (ofBytesBE ((d.pixel l.2 l.1 x y).getD []))
      blend l.1.alpha p.1 p.2 c) bg

/-! ### Fetching and showing lines (R379, R382, R383) -/

/-- The row of a layer for active line `y` is fetched, burst by burst, as client 1; a poisoned burst shows BG (R383). -/
def State.fetchRow (o y : Nat) (e : DLayer × Nat) (s : State) : State :=
  let l := e.1
  let n := (min l.w (s.fld DISP_HTIM.HACT o - l.x)) * pixBytes l.fmt
  let a := l.pixAddr 0 (y - l.y)
  if !l.en || decide (y < l.y) || decide (l.y + l.h ≤ y) then s
  else
    let r := (burstsOf a n).foldl (fun (p : State × List Byte) b =>
      let lo := max a (b * 64)
      let m := min (a + n) (b * 64 + 64) - lo
      let d := p.1.dramRead 1 lo m
      match d.2 with
      | some bs => (d.1, p.2 ++ bs)
      | none => (d.1.poisonLine (b * 64) 64 o y, p.2 ++ List.replicate m 0)) (s, [])
    r.1.setDout o { r.1.dout o with rows := (r.1.dout o).rows ++ [(y, e.2, r.2)] }

/-- The next active line of an output is fetched. -/
def State.fetchLine (o : Nat) (s : State) : State :=
  let d := s.dout o
  let s := forIn' d.layers.zipIdx (State.fetchRow o d.fetched) s
  s.setDout o { s.dout o with fetched := d.fetched + 1 }

/-- The lines before active line `y` are fetched, as far as the frame has any (R383). -/
def State.fetchTo (s : State) (o y : Nat) : State :=
  let d := s.dout o
  forTo (min y d.toFetch - d.fetched) (fun _ s => State.fetchLine o s) s

/-- The bytes R, G, B of the composed pixels of a line, from column `x0` to `x1`. -/
def State.lineBytes (s : State) (o y x0 x1 : Nat) : List Byte :=
  ((List.range' x0 (x1 + 1 - x0)).map fun x =>
    let c := s.composed o x y
    [BitVec.ofNat 8 c.r, BitVec.ofNat 8 c.g, BitVec.ofNat 8 c.b]).flatten

/-! ### Rectangle checks (R382) -/

/-- The last column and line of a rectangle within the active area; none when nothing of it is left. -/
def State.clipRect (s : State) (o : Nat) (r : DRect) : Option (Nat × Nat) :=
  let x1 := min r.x1 (s.fld DISP_HTIM.HACT o - 1)
  let y1 := min r.y1 (s.fld DISP_VTIM.VACT o - 1)
  if r.x0 ≤ x1 ∧ r.y0 ≤ y1 then some (x1, y1) else none

/-- The CRC register of rectangle `k` after active line `y` (R382). -/
def State.crcLine (s : State) (o y k : Nat) : BitVec 32 :=
  let d := s.dout o
  let c := d.crcs.getD k (BitVec.allOnes 32)
  match d.rects[k]? with
  | none => c
  | some r =>
    match (if r.en then s.clipRect o r else none) with
    | none => c
    | some (x1, y1) =>
      if r.y0 ≤ y ∧ y ≤ y1 then (s.lineBytes o y r.x0 x1).foldl crc32Byte c else c

/-- The next active line of an output has been shown: the CRCs go on over it, and its rows are not needed any more.
(DEDUCED, log entry 212.) -/
def State.showLine (o : Nat) (s : State) : State :=
  let s := s.fetchTo o ((s.dout o).shown + 1)
  let d := s.dout o
  s.setDout o { d with crcs := (List.range 4).map (s.crcLine o d.shown), shown := d.shown + 1
                       rows := d.rows.filter fun r => decide (d.shown < r.1) }

/-- The active lines before `y` have been shown. -/
def State.showTo (s : State) (o y : Nat) : State :=
  forTo (min y (s.fld DISP_VTIM.VACT o) - (s.dout o).shown) (fun _ s => State.showLine o s) s

/-- A write has hit the range of a layer that a rectangle shows pixels of (R381). -/
def DOut.hitRect (d : DOut) (r : DRect) (x1 y1 : Nat) : Bool :=
  d.early.any fun k =>
    match d.layers[k]? with
    | some l => l.en && decide (l.x ≤ x1) && decide (r.x0 < l.x + l.w) && decide (l.y ≤ y1) && decide (r.y0 < l.y + l.h)
    | none => false

/-- The CRC of a rectangle: free where a write hit the range of a layer it shows in this frame, since the panel may have shown
old data, new data or a mixture (R381, R382).
(DESIGN CHOICE, log entry 17.) -/
def State.rectCrc (s : State) (o k : Nat) (r : DRect) (x1 y1 : Nat) : State × Nat :=
  if (s.dout o).hitRect r x1 y1 then (s.draw.2, s.draw.1.toNat % 2 ^ 32)
  else (s, (~~~ (s.dout o).crcs.getD k 0).toNat)

/-- CRC_MISM: at the end of a rectangle's last line its CRC is stored and compared with the value latched for the frame, once
in a frame (R382). -/
def State.rectEnd (s : State) (o k : Nat) : State :=
  let d := s.dout o
  match (if d.scanning && !d.done.contains k then d.rects[k]? else none) with
  | none => s
  | some r =>
    match (if r.en then s.clipRect o r else none) with
    | none => s
    | some (x1, y1) =>
      let s := s.showTo o (y1 + 1)
      let s := s.setDout o { s.dout o with done := k :: (s.dout o).done }
      let c := s.rectCrc o k r x1 y1
      let s := c.1.setFld DISP_RCRC.CRC c.2 o k
      if c.2 = r.exp then s
      else
        let clear := !s.on DISP_FLAG.CRC_MISM o
        (s.raise DISP_FLAG.CRC_MISM o).when clear fun s => s.setFld DISP_ERRINFO.FRAME (s.fld DISP_STAT.FRAME o) o

/-! ### Underrun, the line counter and the block reset (R383, R384) -/

/-- DISP_UNDERRUN: data missing for active line y from column x on; BG for the rest of the line. A line already shown has
none.
(DEDUCED, log entry 182.) -/
def State.dispUnderrun (s : State) (o y x : Nat) : State :=
  let d := s.dout o
  if d.scanning && decide (d.shown ≤ y) then
    let clear := !s.on DISP_FLAG.UNDERRUN o && !s.on DISP_FLAG.POISON o
    let line := s.vLead o + y
    let s := (s.raise DISP_FLAG.UNDERRUN o).setDout o { d with bgFrom := d.bgFrom ++ [(y, x)] }
    s.when clear fun s => (s.setFld DISP_ERRINFO.LINE line o).setFld DISP_ERRINFO.FRAME (s.fld DISP_STAT.FRAME o) o
  else s

/-- A new line begins: the active lines before it have been shown, the rectangles that end with them are checked, and the
layers fetch up to two lines ahead (R378, R382, R383).
(DEDUCED, log entry 212.) -/
def State.dispNewLine (s : State) (o line : Nat) : State :=
  let s := s.setFld DISP_STAT.LINE line o
  let y := line - s.vLead o
  let s := s.showTo o y
  let s := forTo 4 (fun k s =>
    match (s.dout o).rects[k]? with
    | some r =>
      match s.clipRect o r with
      | some (_, y1) => if y1 < y then s.rectEnd o k else s
      | none => s
    | none => s) s
  if s.vLead o ≤ line + 2 then s.fetchTo o (line + 3 - s.vLead o) else s

/-- One CK_CORE cycle of an output: the place in the frame moves on, and after the last pixel of the last line the next frame
starts (R377, R378). A blanked output's clock runs on (R384).
(DEDUCED, log entry 212.) -/
def State.dispTick (s : State) (o : Nat) : State :=
  let d := s.dout o
  if d.scanning then
    let t := d.tick + 1
    if s.pixTicks o * s.htot o * s.vtot o ≤ t then s.frameLatch o
    else
      let was := s.dispLine o
      let s := s.setDout o { d with tick := t }
      if s.dispLine o = was then s else s.dispNewLine o (s.dispLine o)
  else if d.driven then s.setDout o { d with tick := (d.tick + 1) % s.pixTicks o }
  else s

/-! ### The interfaces (R377, R378, R384) -/

/-- The levels of an output's sync, data enable and pixel clock, and its colour, as they stand. -/
structure DPins where
  hsync : Bool
  vsync : Bool
  de : Bool
  clk : Bool
  rgb : Rgb
  deriving DecidableEq, Repr

/-- Pixel `col` of line `line` of a frame: sync, back porch, active and front porch in that order (R378). -/
def State.pixelPins (s : State) (o line col : Nat) : Bool × Bool × Bool × Rgb :=
  let h := decide (col < s.fld DISP_HTIM.HSYNC o)
  let v := decide (line < s.fld DISP_VTIM.VSYNC o)
  let x0 := s.fld DISP_HTIM.HSYNC o + s.fld DISP_HTIM.HBP o
  let y0 := s.vLead o
  let act := decide (x0 ≤ col) && decide (col < x0 + s.fld DISP_HTIM.HACT o) && decide (y0 ≤ line) &&
    decide (line < y0 + s.fld DISP_VTIM.VACT o)
  (h, v, act, if act then s.composed o (col - x0) (line - y0) else Rgb.of 0)

/-- What an output sends (R377, R378): the sync levels by HPOL and VPOL, the data changing on the falling edge of the clock,
which is high in the second half of a pixel. A blanked output has data, DE and sync at their inactive levels (R384). -/
def State.dispPins (s : State) (o : Nat) : DPins :=
  let d := s.dout o
  let n := s.pixTicks o
  let p := if d.scanning then s.pixelPins o (s.dispLine o) (d.tick / n % s.htot o) else (false, false, false, Rgb.of 0)
  { hsync := p.1 != s.on DISP_CTL.HPOL o, vsync := p.2.1 != s.on DISP_CTL.VPOL o, de := p.2.2.1
    clk := decide (n ≤ 2 * (d.tick % n)), rgb := p.2.2.2 }

/-- The seven bits of each of the four data pairs of a link for one pixel, in the order sent (R377): VESA keeps the two low
bits of each colour on the fourth pair, the other way round from JEIDA.
(PRESUMED, log entry 211.) -/
def ldiBits (jeida : Bool) (c : Rgb) (hs vs de : Bool) : List (List Bool) :=
  let b (v i : Nat) : Bool := v.testBit (if jeida then (i + 2) % 8 else i)
  [[b c.g 0, b c.r 5, b c.r 4, b c.r 3, b c.r 2, b c.r 1, b c.r 0],
   [b c.b 1, b c.b 0, b c.g 5, b c.g 4, b c.g 3, b c.g 2, b c.g 1],
   [de, vs, hs, b c.b 5, b c.b 4, b c.b 3, b c.b 2],
   [false, b c.b 7, b c.b 6, b c.g 7, b c.g 6, b c.r 7, b c.r 6]]

/-- The seven bits of a link's clock pair for one period of the LVDS clock.
(PRESUMED, log entry 211.) -/
def ldiClock : List Bool := [true, true, false, false, false, true, true]

/-- What link `k` of output 0 sends in the LVDS clock period that is running: its four data pairs. On a single link each pixel
goes out on link 0; on a dual link, whose clock is half the pixel rate, link 0 carries the even pixels and link 1 the odd
ones (R377).
(PRESUMED, log entry 211.) -/
def State.ldiLink (s : State) (k : Nat) : List (List Bool) :=
  let d := s.dout 0
  let dual := s.on DISP_CTL.LINKS 0
  let col := d.tick / s.pixTicks 0 % s.htot 0
  let col := if dual then col / 2 * 2 + k else col
  let p := if d.scanning then s.pixelPins 0 (s.dispLine 0) col else (false, false, false, Rgb.of 0)
  if k = 1 && !dual then List.replicate 4 (List.replicate 7 false)
  else ldiBits (s.on DISP_CTL.MAP 0) p.2.2.2 (p.1 != s.on DISP_CTL.HPOL 0) (p.2.1 != s.on DISP_CTL.VPOL 0) p.2.2.1

/-! ### Block reset (R384) -/

/-- The block reset of an output: fetched data discarded; LAYER_INUSE, DISP_LCUR and DISP_STAT cleared (R384). -/
def State.dispReset (s : State) (o : Nat) : State :=
  let s := forTo 4 (fun l s => s.resetReg DISP_LCUR o l) (s.setDout o DOut.reset)
  s.resetReg DISP_STAT o

end Sys2Proof.Machine
end

