-- ==== Sys2Proof/Machine/Hlnk.lean ====
section
/-! DEFINITION. The Opzo link (spec/12_opzo_link.md): lanes of the host link and of the bar ports, training, filler
columns, PRBS31 testing, sequence and replay, credits, the reception of packets and the event queue's delivery. -/

namespace Sys2Proof.Machine

/-- Change the host link's own state. -/
def State.hlUpd (s : State) (f : HlnkSt → HlnkSt) : State := { s with hlnk := f s.hlnk }

/-- HLNK_STAT.LSTATE: 0 DOWN, 1 TRAIN, 2 CONFIG, 3 UP. -/
def State.hlState (s : State) : Nat := s.fld HLNK_STAT.LSTATE

/-- The host lane group runs: its domain on, out of block reset. -/
def State.hlRuns (s : State) : Bool := s.pdOn 8 && !s.blkHeld 55

/-! ### Lanes: 0 to 7 of the host link, 8 to 11 of the bar ports (R264) -/

/-- Raise a lane flag: the field of a host lane, or of a bar lane. -/
def State.laneRaise (s : State) (l : Nat) (h b : Fld) : State := if l < 8 then s.raise h l else s.raise b (l - 8)

/-- Set a lane field. -/
def State.laneSet (s : State) (l : Nat) (h b : Fld) (v : Nat) : State := if l < 8 then s.setFld h v l else s.setFld b v (l - 8)

/-- Read a lane field. -/
def State.laneFld (s : State) (l : Nat) (h b : Fld) : Nat := if l < 8 then s.fld h l else s.fld b (l - 8)

/-- The lane group of a lane runs. -/
def State.laneRuns (s : State) (l : Nat) : Bool := s.pdOn 8 && !s.blkHeld (if l < 8 then 55 else 56 + (l - 8) / 2)

/-- BSTATE of a lane: 0 no signal, 1 clock recovered, 2 block-locked, 3 deskewed. -/
def State.laneState (s : State) (l : Nat) : Nat := s.laneFld l HLNK_LSTAT.BSTATE BAR_LSTAT.BSTATE

/-- HLNK_STAT.LOCKED: the host lanes locked here. -/
def State.lockSync (s : State) : State :=
  s.setFld HLNK_STAT.LOCKED ((List.range 8).foldl (fun a l => a + bit (decide (2 ≤ s.laneState l)) * 2 ^ l) 0)

/-- Set BSTATE of a lane. -/
def State.setLane (s : State) (l v : Nat) : State := (s.laneSet l HLNK_LSTAT.BSTATE BAR_LSTAT.BSTATE v).lockSync

/-- An invalid header on a lane. -/
def State.hdrErr (s : State) (l : Nat) : State := s.laneRaise l HLNK_LFLAG.HDR_ERR BAR_LFLAG.HDR_ERR

/-! ### Credits and sending (R259, R260) -/

/-- The credit left in an upstream class: the limit received beyond the blocks sent, by R29 at 30 bits. -/
def State.credit (s : State) (cls : Nat) : Nat :=
  let d := (SMap.get 0 s.hlnk.limit cls + 2 ^ 30 - SMap.get 0 s.hlnk.sent cls) % 2 ^ 30
  if d < 2 ^ 29 then d else 0

/-- RSP_AVAIL and EVT_AVAIL follow the credit. -/
def State.creditSync (s : State) : State :=
  (s.setFld HLNK_CREDIT.RSP_AVAIL (min 1023 (s.credit 2))).setFld HLNK_EVQ.EVT_AVAIL (min 1023 (s.credit 3))

/-- An upstream packet as it goes onto the link (Table 12-5): REG_RESP, EVENT. -/
def upPkt (seq : Nat) : Out → Out
  | .regResp tag stat data => linkPkt 8 seq (Word.of (tag % 256 * 2 ^ 32 + stat % 2 ^ 32) :: data)
  | .event e => linkPkt 9 seq [Word.of (e.idx % 2 ^ 11 * 2 ^ 29 + bit e.uncertain * 2 ^ 28), e.stamp, e.info, e.count]
  | _ => linkPkt 0 seq []

/-- A packet goes onto the link: its blocks count in its class. -/
def State.putUp (s : State) (p : UpPkt) : State :=
  let s := s.hlUpd fun h => { h with sent := SMap.set 0 h.sent p.cls ((SMap.get 0 h.sent p.cls + p.blocks) % 2 ^ 30) }
  ((s.emit (upPkt p.seq p.body)).emit p.body).creditSync

/-- A new packet can be sent: UP, nothing waits to be sent again, fewer than 64 unacknowledged, credit in its class. -/
def State.canSend (s : State) (cls blocks : Nat) : Bool :=
  s.hlState == 3 && s.hlnk.resend == [] && decide (s.hlnk.replay.length < 64) && decide (blocks ≤ s.credit cls)

/-- A new packet takes the next SEQ. -/
def State.sendUp (s : State) (cls blocks : Nat) (body : Out) : State :=
  let p : UpPkt := { seq := s.fld HLNK_SEQ.TX_NEXT, cls := cls, blocks := blocks, body := body }
  let s := s.setFld HLNK_SEQ.TX_NEXT ((p.seq + 1) % 256)
  (s.hlUpd fun h => { h with replay := h.replay ++ [p] }).putUp p

/-- The blocks of a response: header, W0, the data of a read, CRC word. -/
def rspBlocks : Out → Nat
  | .regResp _ _ d => 3 + d.length
  | _ => 3

/-- What waits is sent as far as credit goes: packets to be sent again first, then responses. -/
def State.hlPump : Nat → State → State
  | 0, s => s
  | n + 1, s =>
    if s.hlState ≠ 3 then s
    else
      match s.hlnk.resend, s.hlnk.waitRsp with
      | p :: rest, _ =>
        if p.blocks ≤ s.credit p.cls then State.hlPump n ((s.hlUpd fun h => { h with resend := rest }).putUp p) else s
      | [], r :: rest =>
        if s.canSend 2 (rspBlocks r) then
          State.hlPump n ((s.hlUpd fun h => { h with waitRsp := rest }).sendUp 2 (rspBlocks r) r)
        else s
      | [], [] => s

/-- Send what waits. -/
def State.pumpUp (s : State) : State := State.hlPump (s.hlnk.resend.length + s.hlnk.waitRsp.length) s

/-- EVENT_SEND: the oldest queued event is sent while the link is UP and class 3 has credit (R262). -/
def State.eventSend (s : State) : State :=
  match s.hlnk.evq with
  | [] => s
  | e :: rest =>
    if s.canSend 3 6 then (s.hlUpd fun h => { h with evq := rest }).sendUp 3 6 (.event e) else s

/-! ### Link states (R252) -/

/-- The widest code up to a limit: lanes 0 to 2^w − 1 enabled, locked here and at the other end. -/
def State.widest (s : State) (remote : Nat) : Nat → Option Nat
  | 0 => if s.on HLNK_LCFG.EN 0 && decide (2 ≤ s.laneState 0) && remote.testBit 0 then some 0 else none
  | w + 1 =>
    if (List.range (2 ^ (w + 1))).all fun l => s.on HLNK_LCFG.EN l && decide (2 ≤ s.laneState l) && remote.testBit l then
      some (w + 1)
    else s.widest remote w

/-- The link enters TRAIN. -/
def State.toTrain (s : State) : State :=
  let s := (s.setFld HLNK_STAT.LSTATE 1).hlUpd fun h => { h with confCols := 0, resend := [] }
  s.emit (.train false (s.fld HLNK_CFG.WIDTH_MAX) s.hlnk.srst)

/-- The link leaves UP. -/
def State.hlDown (s : State) : State := (s.raise HLNK_FLAG.LINK_DOWN).toTrain

/-- A fault on a lane below W retrains: from UP with LINK_DOWN, from CONFIG without. -/
def State.hlLose (s : State) : State :=
  if s.hlState = 3 then s.hlDown else if s.hlState = 2 then s.toTrain else s

/-- The link enters UP: fresh counts, credit granted, unacknowledged packets sent again. -/
def State.hlUp (s : State) : State :=
  let w := s.hlnk.width
  let s := (s.setFld HLNK_STAT.LSTATE 3).setFld HLNK_STAT.WIDTH w
  let s := s.hlUpd fun h =>
    { h with srst := false, tries := 0, sent := [], limit := [], recv := [], granted := [(0, 1024), (1, 32768)]
             resend := h.replay }
  let s := (s.emit (.credit 0 1024)).emit (.credit 1 32768)
  let s := s.raise HLNK_FLAG.LINK_UP
  (s.when (decide (w < s.fld HLNK_CFG.WIDTH_MAX)) (·.raise HLNK_FLAG.WIDTH_DEG)).creditSync

/-- Sequence state of both directions reset (R259); the training sends SRST until the next UP (R252).
(DEDUCED, log entry 120.) -/
def State.seqReset (s : State) : State :=
  (s.resetReg HLNK_SEQ).hlUpd fun h => { h with replay := [], resend := [], tries := 0, srst := true }

/-- A TRAIN column in TRAIN: the lanes deskew; with lane 0 aligned the width is settled. -/
def State.trainCol (s : State) (remote : Nat) : State :=
  match s.widest remote (s.fld HLNK_CFG.WIDTH_MAX) with
  | none => s
  | some w =>
    let s := (s.setFld HLNK_STAT.LSTATE 2).hlUpd fun h => { h with width := w, confCols := 0 }
    s.emit (.train true w s.hlnk.srst)

/-- The offsets of a column on the locked lanes it stands on: SKEW, and deskewed up to 16 blocks, else SKEW_ERR and no
longer deskewed (R249). -/
def State.deskew (s : State) (skews : List Nat) : State :=
  forTo 8 (fun l s =>
    if s.laneState l < 2 then s
    else
      match skews[l]? with
      | none => s
      | some k =>
        if k ≤ 16 then (s.setFld HLNK_LSTAT.SKEW k l).setLane l 3 else (s.raise HLNK_LFLAG.SKEW_ERR l).setLane l 2) s

/-- A column is skewed beyond 16 blocks on a lane below a number (R249). -/
def overSkew (n : Nat) (skews : List Nat) : Bool := (skews.take n).any fun k => decide (16 < k)

/-- TRAIN: a column of TRAIN blocks is received: the remote LOCKED mask, CONF, width code, SRST, lane offsets.
(DEDUCED, log entry 120.) -/
def State.train (s : State) (remote : Nat) (conf : Bool) (width : Nat) (srst : Bool) (skews : List Nat) : State :=
  if s.hlState = 0 ∨ !s.hlRuns then s
  else
    let s := s.when (s.hlState == 3) (·.hlDown)
    let s := s.setFld HLNK_STAT.REMOTE remote
    let s := s.when srst (·.seqReset)
    let s := s.deskew skews
    if s.hlState = 1 then (if s.laneState 0 = 3 then s.trainCol remote else s)
    else if overSkew (2 ^ s.hlnk.width) skews then s.toTrain
    else if !conf then s.hlUpd fun h => { h with confCols := 0 }
    else if width ≠ s.hlnk.width then s.toTrain
    else if s.hlnk.confCols + 1 < 16 then s.hlUpd fun h => { h with confCols := h.confCols + 1 }
    else s.hlUp

/-- HLNK_EN: HLNK_CTL.EN written. -/
def State.hlnkEn (s : State) (en : Bool) : State :=
  let s := s.setFld HLNK_CTL.EN (bit en)
  if !en then s.setFld HLNK_STAT.LSTATE 0
  else if s.hlState = 0 ∧ s.hlRuns then s.toTrain
  else s

/-- RETRAIN: HLNK_CTL.RETRAIN written in UP. -/
def State.retrain (s : State) : State := if s.hlState = 3 then s.hlDown else s

/-- HLNK_TRAIN_TIMEOUT: TRAIN_TMO µs in TRAIN and CONFIG. -/
def State.trainTimeout (s : State) : State :=
  if s.hlState = 1 ∨ s.hlState = 2 then (s.raise HLNK_FLAG.TRAIN_FAIL).toTrain else s

/-! ### Lane events -/

/-- BLOCK_LOCK: 64 consecutive valid headers. A bar port that was down trains (R241).
(DEDUCED, log entry 167.) -/
def State.blockLock (s : State) (l : Nat) : State :=
  if s.laneRuns l && decide (s.laneState l < 2) then
    let e := (l - 8) / 2
    (s.setLane l 2).when (decide (8 ≤ l) && s.fld BAR_PORTSTAT.LSTATE e == 0) (·.setFld BAR_PORTSTAT.LSTATE 1 e)
  else s

/-- A lane of a link in use fails: the host link retrains, a bar port goes down. -/
def State.laneFail (s : State) (l : Nat) : State :=
  if 8 ≤ l then s.barPortDown ((l - 8) / 2)
  else if l < 2 ^ (if s.hlState = 3 then s.fld HLNK_STAT.WIDTH else s.hlnk.width) then s.hlLose
  else s

/-- LOCK_LOST_LANE: `n` invalid headers not reported before, each an HDR_ERR on a lane in any state; with the sixteenth
within 64 blocks (`lost`) a locked lane loses lock (R251).
(DEDUCED, log entry 124.) -/
def State.lockLost (s : State) (l n : Nat) (lost : Bool) : State :=
  if !s.laneRuns l then s
  else
    let s := forTo n (fun _ s => s.hdrErr l) s
    if !lost || decide (s.laneState l < 2) then s
    else ((s.laneRaise l HLNK_LFLAG.LOCK_LOST BAR_LFLAG.LOCK_LOST).setLane l 1).laneFail l

/-- STUFF_ERR: a stuffed bit of the wrong value; its block's header is invalid. -/
def State.stuffErr (s : State) (l : Nat) : State :=
  if s.laneRuns l then (s.laneRaise l HLNK_LFLAG.STUFF_ERR BAR_LFLAG.STUFF_ERR).hdrErr l else s

/-- The lanes of a link in use: the host link (0), the east port (1), the west port (2). -/
def State.linkLanes (s : State) (g : Nat) : List Nat :=
  match g with
  | 0 => List.range (2 ^ s.fld HLNK_STAT.WIDTH)
  | 1 => [8, 9]
  | _ => [10, 11]

/-- A link is UP. -/
def State.linkIsUp (s : State) (g : Nat) : Bool := if g = 0 then s.hlState == 3 else s.barUp (g - 1)

/-- EB_ERR: the elastic store of a link overflows or underflows: lane 0's flag, and the link retrains (R249). -/
def State.ebErr (s : State) (g : Nat) : State :=
  if !s.linkIsUp g then s
  else
    let l := (s.linkLanes g).headD 0
    (s.laneRaise l HLNK_LFLAG.EB_ERR BAR_LFLAG.EB_ERR).laneFail l

/-- FILLER: a FILLER column is received with the store at `level` columns, the lanes' FSEQ values and offsets (R249). -/
def State.filler (s : State) (g level : Nat) (fseq skews : List Nat) : State :=
  if !s.linkIsUp g then s
  else
    let ls := s.linkLanes g
    let l0 := ls.headD 0
    let now := if 18 < level then level - 1 else if level < 14 then level + 1 else level
    let s := s.laneSet l0 HLNK_LSTAT.EB_LEVEL BAR_LSTAT.EB_LEVEL now
    let bad := ls.filter fun l => fseq[l - l0]? != fseq[0]? || decide (16 < skews.getD (l - l0) 0)
    let s := forIn' ls (fun l s =>
      s.when (decide (skews.getD (l - l0) 0 ≤ 16)) (·.laneSet l HLNK_LSTAT.SKEW BAR_LSTAT.SKEW (skews.getD (l - l0) 0))) s
    let s := forIn' bad (fun l s => s.laneRaise l HLNK_LFLAG.SKEW_ERR BAR_LFLAG.SKEW_ERR) s
    if bad = [] then s else s.laneFail l0

/-! ### PRBS31 (R253) -/

/-- The link of a lane is enabled: HLNK_CTL.EN, or BAR_CTL.EN for a bar lane. -/
def State.linkEnabled (s : State) (l : Nat) : Bool := if l < 8 then s.on HLNK_CTL.EN else s.on BAR_CTL.EN

/-- Set a counter register of a lane. -/
def State.laneSetReg (s : State) (l : Nat) (h b : Reg) (w : Word) : State := if l < 8 then s.setReg h w l else s.setReg b w (l - 8)

/-- A write that sets TX_EN or RX_EN while the link is enabled is ignored (R253). -/
def State.prbsRefused (s : State) (l : Nat) (tx rx : Bool) : Bool := (tx || rx) && s.linkEnabled l

/-- PRBS_CTL: TX_EN, RX_EN and INV written; the write is refused whole while the link is enabled. -/
def State.prbsCtl (s : State) (l : Nat) (tx rx inv : Bool) : State :=
  if s.prbsRefused l tx rx then s.laneRaise l HLNK_LFLAG.PRBS_REJ BAR_LFLAG.PRBS_REJ
  else
    let was := s.laneFld l HLNK_LPRBS.TX_EN BAR_LPRBS.TX_EN == 1
    let s := s.when (tx || was) (·.emit (.prbs l tx inv))
    let s := ((s.laneSet l HLNK_LPRBS.TX_EN BAR_LPRBS.TX_EN (bit tx)).laneSet l HLNK_LPRBS.RX_EN BAR_LPRBS.RX_EN
      (bit rx)).laneSet l HLNK_LPRBS.INV BAR_LPRBS.INV (bit inv)
    if rx then
      let s := (s.laneSetReg l HLNK_LPRBSERR BAR_LPRBSERR 0).laneSetReg l HLNK_LPRBSBITS BAR_LPRBSBITS 0
      (s.hlUpd fun h => { h with prbsBits := SMap.set 0 h.prbsBits l 0 }).laneSet l HLNK_LSTAT.PRBS_LOCK BAR_LSTAT.PRBS_LOCK 0
    else s.laneSet l HLNK_LSTAT.PRBS_LOCK BAR_LSTAT.PRBS_LOCK 0

/-- ERR_INJ: one transmitted bit is inverted while the generator runs. -/
def State.errInj (s : State) (l : Nat) : State :=
  s.when (s.laneFld l HLNK_LPRBS.TX_EN BAR_LPRBS.TX_EN == 1) (·.emit (.errInj l))

/-- Add to a Tally counter. -/
def State.addTally (s : State) (t n : Nat) : State := s.setReg TALLY_CNT (s.reg TALLY_CNT t + Word.of n) t

/-- Bits compared by a locked checker since the last report, `errs` of them wrong.
(DEDUCED, log entry 123.) -/
def State.prbsCount (s : State) (l bits errs : Nat) : State :=
  let top := 2 ^ 40 - 1
  let acc := SMap.get 0 s.hlnk.prbsBits l + bits
  let kb := if l < 8 then s.reg HLNK_LPRBSBITS l else s.reg BAR_LPRBSBITS (l - 8)
  let er := if l < 8 then s.reg HLNK_LPRBSERR l else s.reg BAR_LPRBSERR (l - 8)
  let s := s.hlUpd fun h => { h with prbsBits := SMap.set 0 h.prbsBits l (acc % 1024) }
  let s := s.laneSetReg l HLNK_LPRBSBITS BAR_LPRBSBITS (Word.of (min top (kb.toNat + acc / 1024)))
  let s := s.laneSetReg l HLNK_LPRBSERR BAR_LPRBSERR (Word.of (min top (er.toNat + errs)))
  if errs = 0 then s
  else
    let s := s.laneRaise l HLNK_LFLAG.PRBS_ERR BAR_LFLAG.PRBS_ERR
    s.addTally ((if l < 8 then 1472 + 8 * l else 1536 + 8 * (l - 8)) + HLNK_LFLAG.PRBS_ERR.lo) (errs - 1)

/-- PRBS_LOCK: 64 error-free bits with RX_EN = 1 lock the checker; `bits` are compared while it is locked, `errs` of them
wrong.
(DEDUCED, log entry 123.) -/
def State.prbsLock (s : State) (l bits errs : Nat) : State :=
  s.when (s.laneRuns l && s.laneFld l HLNK_LPRBS.RX_EN BAR_LPRBS.RX_EN == 1) fun s =>
    (s.laneSet l HLNK_LSTAT.PRBS_LOCK BAR_LSTAT.PRBS_LOCK 1).prbsCount l bits (min errs bits)

/-- PRBS_LOCK_LOSS: 256 errors within 1,024 bits, after `bits` compared with `errs` wrong in all since the lock. -/
def State.prbsLockLoss (s : State) (l bits errs : Nat) : State :=
  if s.laneFld l HLNK_LSTAT.PRBS_LOCK BAR_LSTAT.PRBS_LOCK = 1 then
    (s.prbsCount l bits (min errs bits)).laneSet l HLNK_LSTAT.PRBS_LOCK BAR_LSTAT.PRBS_LOCK 0
  else s

/-! ### Acknowledgement and replay (R258, R259) -/

/-- Packets up to a SEQ are acknowledged. -/
def State.hlAcked (s : State) (seq : Nat) : State :=
  match s.hlnk.replay.findIdx? fun p => p.seq == seq with
  | none => s
  | some i =>
    let gone := (s.hlnk.replay.take (i + 1)).map fun p => p.seq
    let s := s.hlUpd fun h =>
      { h with replay := h.replay.drop (i + 1), tries := 0, resend := h.resend.filter fun p => !gone.contains p.seq }
    s.setFld HLNK_SEQ.TX_ACKED seq

/-- Every unacknowledged packet is sent again; after eight replays without an advancing ACK the link retrains.
(DEDUCED, log entry 122.) -/
def State.hlReplay (s : State) : State :=
  if s.hlnk.replay = [] then s
  else if 8 ≤ s.hlnk.tries then (s.raise HLNK_FLAG.REPLAY_FAIL).hlDown
  else ((s.hlUpd fun h => { h with tries := h.tries + 1, resend := h.replay }).raise HLNK_FLAG.REPLAY).pumpUp

/-- ACK. -/
def State.linkAck (s : State) (seq : Nat) : State := if s.hlState = 3 then (s.hlAcked seq).pumpUp else s

/-- NAK: names the last SEQ accepted; the rest is sent again. -/
def State.linkNak (s : State) (seq : Nat) : State := if s.hlState = 3 then (s.hlAcked seq).hlReplay else s

/-- REPLAY: RPL_TMO µs without an ACK that advances.
(DEDUCED, log entry 122.) -/
def State.replayTimeout (s : State) : State := if s.hlState = 3 then s.hlReplay else s

/-- CREDIT: the cumulative limit of a class that the host grants (2 and 3). -/
def State.linkCredit (s : State) (cls limit : Nat) : State :=
  if s.hlState = 3 ∧ (cls = 2 ∨ cls = 3) then
    ((s.hlUpd fun h => { h with limit := SMap.set 0 h.limit cls limit }).creditSync).pumpUp
  else s

/-- CTL_BAD: a link control block of a reserved kind, or a control block with TYPE 0x0. -/
def State.ctlBad (s : State) : State := s.when (s.hlState != 0) (·.raise HLNK_FLAG.CTL_BAD)

/-! ### Reception (R257, R258) -/

/-- One of the four flags that HLNK_ERRINFO goes by is set (R257). -/
def State.hdrFault (s : State) : Bool :=
  s.on HLNK_FLAG.HDR_CRC || s.on HLNK_FLAG.PKT_CRC || s.on HLNK_FLAG.PKT_BAD || s.on HLNK_FLAG.CREDIT_OVF

/-- HLNK_ERRINFO of the first faulty packet since none of its four flags was set.
(DESIGN CHOICE, log entry 209.) -/
def State.pktErr (s : State) (type seq why : Nat) : State :=
  if s.hdrFault || s.hlnk.errCap then s
  else
    let s := s.hlUpd fun h => { h with errCap := true }
    ((s.setFld HLNK_ERRINFO.TYPE type).setFld HLNK_ERRINFO.SEQ seq).setFld HLNK_ERRINFO.WHY why

/-- A NAK goes out: the last SEQ accepted. -/
def State.sendNak (s : State) : State :=
  (s.emit (.nak ((s.fld HLNK_SEQ.RX_NEXT + 255) % 256))).raise HLNK_FLAG.NAK_TX

/-- HDR_CRC: a header fails HCRC. -/
def State.hdrCrc (s : State) : State :=
  if s.hlState = 3 then ((s.pktErr 0 0 1).raise HLNK_FLAG.HDR_CRC).sendNak else s

/-- An ACK goes out: the latest SEQ accepted. -/
def State.sendAck (s : State) : State := s.emit (.ack ((s.fld HLNK_SEQ.RX_NEXT + 255) % 256))

/-- The credit of a packet's blocks returns to its class; a reserved TYPE has none.
(DEDUCED, log entry 32; DEDUCED, log entry 121.) -/
def State.returnCredit (s : State) (cls blocks : Nat) : State :=
  if 1 < cls then s else
  let l := (SMap.get 0 s.hlnk.granted cls + blocks) % 2 ^ 30
  (s.hlUpd fun h => { h with granted := SMap.set 0 h.granted cls l }).emit (.credit cls l)

/-- The blocks of a class received since UP lie beyond its credit limit, `behind` blocks of it being held back (R260), by
R29 at 30 bits. -/
def State.overCredit (s : State) (cls behind : Nat) : Bool :=
  decide (cls < 2 ∧ 2 ^ 29 ≤ (SMap.get 0 s.hlnk.granted cls + 2 ^ 31 - behind % 2 ^ 30 - SMap.get 0 s.hlnk.recv cls) % 2 ^ 30)

/-- The body of a packet as its LEN counts it, without its CRC word. -/
def pktBody (words : List Word) (f : PktFault) : List Word := if f = .empty then [] else words.take 4094

/-- The blocks of a class credit that earlier packets still hold. -/
def pktBehind : PktFault → Nat
  | .behind n => n
  | _ => 0

/-- The blocks a packet takes: its header, its body words and its CRC word (R260). -/
def pktBlocks (words : List Word) (f : PktFault) : Nat := (pktBody words f).length + (if f = .empty then 1 else 2)

/-- The blocks of a packet counted into its class since UP (R260). -/
def State.countIn (s : State) (cls blocks : Nat) : State :=
  s.hlUpd fun h => { h with recv := SMap.set 0 h.recv cls ((SMap.get 0 h.recv cls + blocks) % 2 ^ 30) }

/-- What follows an accepted packet while the link is still UP: its ACK, its credit, and what the link still has to send. -/
def State.tookPkt (s : State) (cls blocks : Nat) : State :=
  if s.hlState = 3 then (s.sendAck.returnCredit cls blocks).pumpUp else s

/-- A downstream packet arrives: TYPE, SEQ, body words, and WHY it would be bad (0: it is not). `perform` is done when it
is accepted.
(DEDUCED, log entry 121.)
(DEDUCED, log entry 148.) -/
def State.downPkt (s : State) (type seq cls : Nat) (words : List Word) (f : PktFault) (why : Nat)
    (perform : State → State) : State :=
  let blocks := pktBlocks words f
  let s := s.when (s.hlState == 3 && decide (cls < 2)) (·.countIn cls blocks)
  let next := s.fld HLNK_SEQ.RX_NEXT
  if s.hlState ≠ 3 then s
  else if f = .crc then (((s.pktErr type seq 2).raise HLNK_FLAG.PKT_CRC).sendNak).returnCredit cls blocks
  else if seq ≠ next then
    if (next + 256 - seq) % 256 ≤ 64 then s.sendAck.returnCredit cls blocks
    else ((s.pktErr type seq 8).sendNak).returnCredit cls blocks
  else
    let s := s.setFld HLNK_SEQ.RX_NEXT ((next + 1) % 256)
    let s :=
      if why ≠ 0 then (s.pktErr type seq why).raise HLNK_FLAG.PKT_BAD
      else if s.overCredit cls (pktBehind f) then (s.pktErr type seq 7).raise HLNK_FLAG.CREDIT_OVF
      else perform s
    s.tookPkt cls blocks

/-- RASTER (R256): W0 the byte address, W1 the count of 16-byte units less one, then the bytes. -/
def State.rasterPkt (s : State) (seq : Nat) (words : List Word) (f : PktFault) : State :=
  let words := pktBody words f
  let w0 := words.getD 0 0
  let w1 := words.getD 1 0
  let nu := w1.toNat / 2 ^ 32 + 1
  let a := w0.toNat % 2 ^ 36
  let why :=
    if words.length ≠ (16 * nu + 4) / 5 + 2 then 4
    else if w0.toNat / 2 ^ 36 ≠ 0 ∨ w1.toNat % 2 ^ 32 ≠ 0 then 5
    else if a % 16 ≠ 0 ∨ s.dramCap < a + 16 * nu then 6
    else 0
  let bytes := (((words.drop 2).map fun w => bytesBE 5 w.toNat).flatten).take (16 * nu)
  s.downPkt 3 seq 1 words f why fun s => (s.dramWrite 3 a bytes).1

/-- JOBDESC (R256): the descriptor enters the job queue. -/
def State.jobdescPkt (s : State) (seq : Nat) (words : List Word) (f : PktFault) : State :=
  let words := pktBody words f
  s.downPkt 4 seq 1 words f (if words.length ≠ 4 then 4 else 0) fun s =>
    s.jobdesc (words.getD 0 0) (words.getD 1 0) (words.getD 2 0) (words.getD 3 0)

/-- A packet of reserved or upstream TYPE.
(DEDUCED, log entry 121.) -/
def State.reservedPkt (s : State) (type seq : Nat) (words : List Word) (f : PktFault) : State :=
  s.downPkt type seq 2 words f 3 fun s => s

/-- WHY of a register packet (Table 12-6). -/
def regPktWhy (words : List Word) (write : Bool) : Nat :=
  let w0 := words.getD 0 0
  let n := w0.toNat / 16 % 16 + 1
  if words.length ≠ (if write then n + 1 else 1) then 4
  else if w0.toNat % 4 ≠ 0 ∨ (w0.getLsbD 3 ∧ 2 ^ 24 < w0.toNat / 2 ^ 16 + n) then 5
  else 0

/-- The host lane group enters block reset: DOWN, sequence state and replay buffer cleared, the next training sends SRST
(R252, R259); the lane state and the PRBS counters are cleared.
(DEDUCED, log entry 125.) -/
def State.hlnkReset (s : State) : State :=
  let s := (s.setFld HLNK_STAT.LSTATE 0).seqReset
  let s := s.hlUpd fun h => { h with srst := true, confCols := 0, width := 0, waitRsp := [], sent := [], limit := [], granted := [], recv := [], errCap := false
                                     prbsBits := h.prbsBits.filter fun e => decide (8 ≤ e.1) }
  let s := forTo 8 (fun l s => ((s.resetReg HLNK_LSTAT l).resetReg HLNK_LPRBSERR l).resetReg HLNK_LPRBSBITS l) s
  (s.lockSync).creditSync

end Sys2Proof.Machine
end

