-- ==== Sys2Proof/Machine/Kerf.lean ====
section
/-! DEFINITION. The Kerf ports (spec/05_line_buffers_firing.md): HEAD_EN, the link states, bank and waveform loads,
telemetry, self-test, GO and strobes, the delay table. -/

namespace Sys2Proof.Machine

/-! ### HEAD_EN (R113) -/

/-- The hot-plug state holds HEAD_EN low: DISABLE, BAR_LEAVE, SAFE or INSERTING (R406). -/
def State.hpHolds (s : State) : Bool := let h := s.fld SYS_HPSTAT.HSTATE; decide (3 ≤ h) && decide (h ≤ 6)

/-- SYS_HPSTAT.SAFE_OUT: HP_SAFE is released (R405). -/
def State.safeOut (s : State) : Bool :=
  s.aonHold || s.fld SYS_HPSTAT.HSTATE == 5 || s.fld SYS_HPSTAT.HSTATE == 6

/-- The first condition of R113 that fails, as HEN_CAUSE codes it; 0 when all hold. -/
def State.henCause (s : State) (p : Nat) : Nat :=
  if s.aonHold then 1
  else if !s.pdOn 4 || !s.pdOn 8 || s.blkHeld p then 2
  else if !s.on FIRE_PORTCTL.HEN p then 3
  else if !s.portUp p then 4
  else if (s.port p).faultLatch then 5
  else if s.hpHolds then 6
  else 0

/-- HEAD_EN of a port follows its conditions. -/
def State.henSync (s : State) (p : Nat) : State :=
  let c := s.henCause p
  (s.setFld FIRE_PORTSTAT.HEN_CAUSE c p).setFld FIRE_PORTSTAT.HEN_OUT (bit (c == 0)) p

/-- HEAD_EN of every port, and HP_SAFE, follow their conditions. -/
def State.henSyncAll (s : State) : State :=
  let was := s.on SYS_HPSTAT.SAFE_OUT
  let s := forTo 48 (fun p s => s.henSync p) s
  let now := s.safeOut
  let s := s.setFld SYS_HPSTAT.SAFE_OUT (bit now)
  s.when (was != now) (·.emit (.hpSafe now))

/-! ### Port state (R110, Table 05-8) -/

/-- LSTATE of a port: 0 OFF, 1 TRAIN, 2 IDLE, 3 RUN. -/
def State.lstate (s : State) (p : Nat) : Nat := s.fld FIRE_PORTSTAT.LSTATE p

/-- A port leaves for OFF or TRAIN: it holds no bank and no GO is due. -/
def State.dropLink (s : State) (p st : Nat) : State :=
  let s := s.updPort p fun x => { x with bank := none, waiting := [], goDue := [], strobes := [], ackOk := none }
  ((s.setFld FIRE_PORTSTAT.LSTATE st p).setFld FIRE_PORTSTAT.BANK_PEND 0 p).henSync p

/-- LINK_EN = 0, or a port block reset: lanes idle, HEAD_EN low, rows EMPTY. -/
def State.portOff (s : State) (p : Nat) : State := (s.dropLink p 0).emptyPorts p 1

/-- Record the stamp of the first of NAK, LINK_DOWN, TEL_LOST, HEAD_FAULT and TBL_ERR, then set the flag (R114). -/
def State.portErr (s : State) (f : Fld) (p : Nat) (stamp : Word) : State :=
  let clear := !s.on FIRE_PORTFLAG.NAK p && !s.on FIRE_PORTFLAG.LINK_DOWN p && !s.on FIRE_PORTFLAG.TEL_LOST p &&
    !s.on FIRE_PORTFLAG.HEAD_FAULT p && !s.on FIRE_PORTFLAG.TBL_ERR p
  (s.when clear (·.setFld FIRE_ERRPOS.STAMP stamp.toNat p)).raiseS f p stamp

/-- LINK_EN written. -/
def State.linkEn (s : State) (p : Nat) (en : Bool) : State :=
  let s := s.setFld FIRE_PORTCTL.LINK_EN (bit en) p
  if !en then s.portOff p
  else if s.lstate p = 0 ∧ !s.blkHeld p ∧ s.pdOn 8 then s.setFld FIRE_PORTSTAT.LSTATE 1 p
  else s

/-- A port in RUN with RUN = 0 returns to IDLE once the strobes of the line in progress are issued (Table 05-8). -/
def State.runEnd (s : State) (p : Nat) : State :=
  if s.lstate p = 3 ∧ !s.on FIRE_PORTCTL.RUN p ∧ (s.port p).strobes = [] then
    (s.setFld FIRE_PORTSTAT.LSTATE 2 p).henSync p
  else s

/-- RUN written: cleared in RUN, the port sends no further GO, finishes the line in progress and returns to IDLE. -/
def State.kerfRun (s : State) (p : Nat) (run : Bool) : State :=
  let s := s.setFld FIRE_PORTCTL.RUN (bit run) p
  if !run && s.lstate p == 3 then (s.updPort p fun x => { x with goDue := [] }).runEnd p else s

/-- A port sends GO and lines: in RUN with RUN = 1. -/
def State.sendsGo (s : State) (p : Nat) : Bool := s.lstate p == 3 && s.on FIRE_PORTCTL.RUN p

/-- KERF_RUN_ENTER: HEAD_EN has been high for SETTLE µs, READY and no bank load in progress: the port enters RUN. -/
def State.kerfRunEnter (s : State) (p : Nat) : State :=
  if s.lstate p = 2 ∧ s.on FIRE_PORTCTL.RUN p ∧ s.on FIRE_PORTSTAT.HEN_OUT p ∧ s.on FIRE_PORTSTAT.READY p ∧
      !s.on FIRE_PORTSTAT.BANK_PEND p then s.setFld FIRE_PORTSTAT.LSTATE 3 p
  else s

/-- HEN written: 1 clears the HEAD_FAULT latch. -/
def State.hen (s : State) (p : Nat) (en : Bool) : State :=
  let s := s.setFld FIRE_PORTCTL.HEN (bit en) p
  (s.when en (·.updPort p fun x => { x with faultLatch := false })).henSync p

/-- TRAIN_FAIL: 1 ms in TRAIN; training restarts. -/
def State.trainFail (s : State) (p : Nat) : State :=
  s.when (s.lstate p == 1) (·.raise FIRE_PORTFLAG.TRAIN_FAIL p)

/-- LINK_DOWN: return alignment lost in IDLE or RUN. -/
def State.linkDown (s : State) (p : Nat) : State :=
  if s.portUp p then (s.portErr FIRE_PORTFLAG.LINK_DOWN p s.posOut).dropLink p 1 else s

/-! ### Bank loads (R107, R436) -/

/-- The next change that waits takes the load, its bank built from the values in force at its line; with none waiting, the
changes that wait for a swath do. A change whose GO has gone already is held back (R436). -/
def State.nextBank (s : State) (p now : Nat) : State :=
  match (s.port p).waiting with
  | [] => s.when (s.armed.any fun t => t.nextSwath && t.line.isNone && decide (p ∈ t.places)) (·.bankSwath p)
  | w :: rest =>
    let s := s.updPort p fun y => { y with waiting := rest }
    let back := !w.late && lineAtOrAfter now w.line
    (s.when back (·.raise FIRE_GFLAG.TRIM_LATE)).buildBank p (some w.line) (w.late || back) w.quiet

/-- A TABLE packet is acknowledged: at the last one the load is done; the load on entry to IDLE makes bank 0 active. -/
def State.tableOk (s : State) (p code : Nat) : State :=
  match (s.port p).bank with
  | none => s
  | some b =>
    let b := { b with left := b.left.filter fun e => e.1 != code }
    if b.left ≠ [] then s.updPort p fun x => { x with bank := some b }
    else
      let s := s.setFld FIRE_PORTSTAT.BANK_PEND 0 p
      match b.due with
      | some _ => s.updPort p fun x => { x with bank := some b }
      | none =>
        let s := (s.updPort p fun x => { x with bank := none }).setFld FIRE_PORTSTAT.BANK 0 p
        s.nextBank p (lineSub s.nextLine 1)

/-- A table segment failed three times (R107): TBL_ERR, the load begins again, a job in progress fails from the bank's
line, or from the line whose decision comes next; for the bank of a swath that is not armed yet, from line 0 of that
swath.
(DEDUCED, log entry 62.) -/
def State.tblErr (s : State) (p : Nat) (b : BankLoad) : State :=
  let next := s.nextLine
  let n := match b.due with
    | some m => if lineAfter next m then next else m
    | none => next
  let s := s.portErr FIRE_PORTFLAG.TBL_ERR p (match b.due with | some m => s.stampOf m | none => s.stampOf next)
  let codes := if b.due.isSome then bankPackets b.bank else bankPackets 0 ++ bankPackets 1
  let s := s.sendBank p { b with left := codes }
  match s.jq.job with
  | none => s
  | some j =>
    if b.held then { s with fire := { s.fire with failSwath := some j.ser } }
    else
    let n := match s.fire.failDue with
      | some (ser, m) => if ser = j.ser ∧ lineAfter n m then m else n
      | none => n
    if n = next then s.failJob 12 n else { s with fire := { s.fire with failDue := some (j.ser, n) } }

/-- An attempt of a TABLE packet failed, by a NAK or a missing ACK: sent again, up to three times in all.
(DEDUCED, log entry 62.) -/
def State.tableFail (s : State) (p code : Nat) : State :=
  match (s.port p).bank with
  | none => s
  | some b =>
    match b.left.find? fun e => e.1 == code with
    | none => s
    | some (_, k) =>
      if 2 ≤ k then s.tblErr p b
      else
        let b := { b with left := b.left.map fun e => if e.1 = code then (e.1, e.2 + 1) else e }
        (s.updPort p fun x => { x with bank := some b }).sendTable p b code

/-! ### Waveform loads (R103) -/

/-- A staged value of SET or COOL of a port equals a set. -/
def State.waveStaged (s : State) (p set : Nat) : Bool :=
  let ws := ((List.range 3).map fun o => (s.ctx o).writes).flatten ++ (s.allSlots.map fun t => t.writes).flatten
  ws.any fun e => e.1 == FIRE_WAVE.at p && (FIRE_WAVE.SET.ext e.2 == set || FIRE_WAVE.COOL.ext e.2 == set)

/-- Send one WAVE packet. -/
def State.sendWave (s : State) (p : Nat) (w : WLoad) (seg : Nat) : State :=
  s.emit (wavePkt p w.set seg ((w.image.drop (256 * seg)).take 256))

/-- A waveform load ends with a flag. -/
def State.wloadEnd (s : State) (p : Nat) (f : Fld) : State :=
  ((s.updPort p fun x => { x with wload := none }).setFld FIRE_PORTSTAT.WLOAD_BUSY 0 p).raise f p

/-- WLOAD_GO: FIRE_WLOAD written with GO = 1 (R103). A poisoned read of the image ends the load (Table 13-3).
(DEDUCED, log entry 66.) -/
def State.wloadGo (s : State) (p set nseg : Nat) : State :=
  let s := (s.setFld FIRE_WLOAD.TARGET set p).setFld FIRE_WLOAD.NSEG nseg p
  let bad := nseg == 0 || decide (64 < nseg) || !s.portUp p || (s.port p).wload.isSome ||
    s.fld FIRE_WAVE.SET p == set || s.fld FIRE_WAVE.COOL p == set || s.waveStaged p set
  if bad then s.raise FIRE_PORTFLAG.WLOAD_REJ p
  else
    let r := s.dramRead 6 (s.fld FIRE_WADDR.ADDR p * 16) (256 * nseg)
    match r.2 with
    | none => r.1.wloadEnd p FIRE_PORTFLAG.WLOAD_ERR
    | some bs =>
      let w : WLoad := { set := set, left := (List.range nseg).map fun g => (g, 0), image := bs }
      let s := (r.1.updPort p fun x => { x with wload := some w }).setFld FIRE_PORTSTAT.WLOAD_BUSY 1 p
      forTo nseg (fun g s => s.sendWave p w g) s

/-- An ACK for a WAVE packet. -/
def State.waveAck (s : State) (p set seg : Nat) (ok : Bool) : State :=
  match (s.port p).wload with
  | none => s
  | some w =>
    if w.set ≠ set then s
    else if ok then
      let w := { w with left := w.left.filter fun e => e.1 != seg }
      if w.left = [] then s.wloadEnd p FIRE_PORTFLAG.WLOAD_DONE
      else s.updPort p fun x => { x with wload := some w }
    else
      match w.left.find? fun e => e.1 == seg with
      | none => s
      | some (_, k) =>
        if 2 ≤ k then s.wloadEnd p FIRE_PORTFLAG.WLOAD_ERR
        else
          let w := { w with left := w.left.map fun e => if e.1 = seg then (e.1, e.2 + 1) else e }
          (s.updPort p fun x => { x with wload := some w }).sendWave p w seg

/-- WAVE_ACK_TIMEOUT: an ACK missing for 100 µs ends the load. -/
def State.waveTimeout (s : State) (p : Nat) : State :=
  if (s.port p).wload.isSome then s.wloadEnd p FIRE_PORTFLAG.WLOAD_ERR else s

/-- KERF_ACK: an ACK packet (Table 05-7): its kind, its reference and its status.
(DEDUCED, log entry 5.) -/
def State.kerfAck (s : State) (p kind ref status : Nat) : State :=
  if s.lstate p < 2 then s
  else if kind = 1 then
    if status = 0 then s.updPort p fun x => { x with ackOk := some ref } else s
  else if kind = 2 then if status = 0 then s.tableOk p (ref / 65536) else s.tableFail p (ref / 65536)
  else if kind = 3 then s.waveAck p (ref / 65536) (ref / 256 % 256) (status == 0)
  else s

/-! ### Telemetry (R110, R111, R133) -/

/-- The temperature limit of a port is reached in this line window (R133). -/
def State.limitReached (s : State) (p : Nat) : State :=
  (s.updPort p fun x => { x with limit := true }).raise FIRE_THFLAG.LIMIT p

/-- The port enters IDLE from TRAIN: CMD 0x02 with the telemetry interval, both banks loaded, the armed changes taken in
order of commit line (R107, R110). -/
def State.trainDone (s : State) (p : Nat) : State :=
  let s := s.setFld FIRE_PORTSTAT.LSTATE 2 p
  let s := s.emit (cmdPkt p 2 (max 1 (s.fld FIRE_HEADCFG.INTERVAL p)))
  let s := s.buildBank p none false false
  let lines := s.armed.filterMap fun t => if p ∈ t.places then t.line else none
  let s := forIn' (sortBy (fun m => lineSub m s.nextLine) lines) (fun m s =>
    s.waitBank p { line := m, late := false, quiet := false }) s
  s.henSync p

/-- TEMP_PACKET (Table 05-7): temperatures, READY, supply fault, over-temperature, valid sets.
(DEDUCED, log entry 5.)
(DESIGN CHOICE, log entry 193.) -/
def State.tempPacket (s : State) (p : Nat) (t0 t1 : Int) (ready supply hot : Bool) (wvalid : Nat) : State :=
  let st := s.lstate p
  if st = 0 then s
  else
    let m := max t0 t1
    let s := s.updPort p fun x =>
      { x with t0 := t0, t1 := t1, lost := false, tempCycle := some s.cycle
               winMin := some (match x.winMin with | some w => min w m | none => m) }
    let s := ((s.setFld FIRE_TEMP.T0 (unsigned 12 t0) p).setFld FIRE_TEMP.T1 (unsigned 12 t1) p).setFld
      FIRE_THSTAT.TMAX (unsigned 12 m) p
    let s := (s.setFld FIRE_PORTSTAT.READY (bit ready) p).setFld FIRE_PORTSTAT.WVALID wvalid p
    let s := s.when (decide (s.sfld FIRE_THCFG.HI p ≤ m)) (·.limitReached p)
    if st = 1 then s.trainDone p
    else if supply || hot then
      let s := s.portErr FIRE_PORTFLAG.HEAD_FAULT p s.posOut
      ((s.updPort p fun x => { x with faultLatch := true, goDue := [], strobes := [] }).setFld FIRE_PORTSTAT.LSTATE 2 p).henSync
        p
    else s

/-- TEL_CRC: a return packet with a bad CRC, or of a reserved type, is discarded (R108). -/
def State.telCrc (s : State) (p : Nat) : State := s.when (s.lstate p != 0) (·.raise FIRE_PORTFLAG.TEL_CRC p)

/-- TEL_LOST: AGE exceeds TIMEOUT in IDLE or RUN (R111), once for each loss. -/
def State.telLost (s : State) (p : Nat) : State :=
  if s.portUp p && !(s.port p).lost then
    let s := (s.portErr FIRE_PORTFLAG.TEL_LOST p s.posOut).updPort p fun x => { x with lost := true }
    s.when (s.on FIRE_PORTCTL.TEL_ACT p) (·.limitReached p)
  else s

/-- FIRE_TEMP.AGE: microseconds since the last TEMP packet, saturating; 0xFFFF before the first. -/
def State.tempAge (s : State) (p : Nat) : Nat :=
  match (s.port p).tempCycle with
  | some c => min 65535 ((s.cycle - c) / 1200)
  | none => 65535

/-! ### Self-test (R112) -/

/-- FIRE_TEST_GO: accepted only in IDLE. -/
def State.fireTestGo (s : State) (p : Nat) : State :=
  if s.lstate p = 2 then (s.updPort p fun x => { x with testSegs := some [] }).emit (cmdPkt p 1 0)
  else s.raise FIRE_PORTFLAG.TEST_REJ p

/-- TEST_PACKET: a segment of the bitmap reaches DRAM; with the eighth, bytes 504 to 511 are written 0 and TEST_DONE is
set. Bits [3:0] of the last byte are 0. -/
def State.testPacket (s : State) (p seg : Nat) (bytes : List Byte) : State :=
  match (s.port p).testSegs with
  | none => s
  | some got =>
    let a := s.fld FIRE_TADDR.ADDR p * 16
    let bs := bytes.set 62 (bytes.getD 62 0 &&& 0xF0)
    let s := (s.dramWrite 6 (a + 63 * seg) bs).1
    let got := (seg :: got).eraseDups
    if 8 ≤ got.length then
      let s := (s.dramWrite 6 (a + 504) (List.replicate 8 0)).1
      (s.updPort p fun x => { x with testSegs := none, tested := true }).raise FIRE_PORTFLAG.TEST_DONE p
    else s.updPort p fun x => { x with testSegs := some got }

/-- TEST_TIMEOUT: segments missing 50 ms after the command. -/
def State.testTimeout (s : State) (p : Nat) : State :=
  if (s.port p).testSegs.isSome then
    (s.updPort p fun x => { x with testSegs := none }).raise FIRE_PORTFLAG.TEST_REJ p
  else s

/-! ### GO and strobes (R97, R100, R107) -/

/-- At the GO for line `n` the pending bank becomes active when it is loaded; a bank not loaded by the GO of its line is
held back (R95, R436). The bank of a time-mode change that committed quietly waits for the first line launched; a bank
for a swath not armed yet waits for its swath. -/
def State.bankGo (s : State) (p n : Nat) (launched : Bool) : State :=
  match (s.port p).bank with
  | none => s
  | some b =>
    match b.due with
    | none => s
    | some m =>
      if b.held || !lineAtOrAfter n m then s
      else if b.left = [] then
        let s := (s.updPort p fun x => { x with bank := none }).setFld FIRE_PORTSTAT.BANK b.bank p
        s.nextBank p n
      else if b.late || (b.quiet && !launched) then s
      else (s.raise FIRE_GFLAG.TRIM_LATE).updPort p fun x => { x with bank := some { b with late := true } }

/-- PORT_GO: the port sends the GO that is due (R97, R102, R105, R107).
(DEDUCED, log entry 61.) -/
def State.portGo (s : State) (p : Nat) : State :=
  match (s.port p).goDue with
  | [] => s
  | g :: rest =>
    let s := s.updPort p fun x => { x with goDue := rest }
    if !s.sendsGo p then s
    else
      let s := s.bankGo p g.line g.strobes
      let s := (s.emit (.go p g.fire g.wset (s.fld FIRE_PORTSTAT.BANK p) (g.line % 2))).setFld FIRE_PORTSTAT.WSET g.wset p
      let s := s.when g.fire (·.addFld FIRE_LSTAT.LINES 1 p)
      s.when g.strobes (·.updPort p fun x => { x with strobes := x.strobes ++ [(g.line, 0)] })

/-- STROBE_ISSUE: the next strobe of a launched line (R100): phases 0 to 15 in order.
(DEDUCED, log entry 61.) -/
def State.strobeIssue (s : State) (p : Nat) : State :=
  match (s.port p).strobes with
  | [] => s
  | (n, k) :: rest =>
    let s := s.updPort p fun x => { x with strobes := if k = 15 then rest else (n, k + 1) :: rest }
    (s.when (s.lstate p == 3) (·.emit (.strobe p k))).runEnd p

/-! ### The delay table (R94, R434) -/

/-- AUTOINC of the delay-table window, wrapping after word 1,333. -/
def State.dlyAdvance (s : State) (p : Nat) : State :=
  s.when (s.on FIRE_DLYIDX.AUTOINC p) fun s => s.setFld FIRE_DLYIDX.WORD ((s.fld FIRE_DLYIDX.WORD p + 1) % 1334) p

/-- Set a delay-table entry. -/
def State.setDly (s : State) (p ch v : Nat) : State :=
  if ch < 4000 then { s with fire := { s.fire with delay := SMap.set 0 s.fire.delay (4096 * p + ch) v } } else s

/-- DLY_WRITE: a write of FIRE_DLYDATA (R94). -/
def State.dlyWrite (s : State) (p : Nat) (w : Word) : State :=
  let i := s.fld FIRE_DLYIDX.WORD p
  if 1333 < i then s.raise FIRE_GFLAG.DLY_REJ
  else
    let s := if s.betweenJobs then
        ((s.setDly p (3 * i) (FIRE_DLYDATA.ENT0.ext w)).setDly p (3 * i + 1) (FIRE_DLYDATA.ENT1.ext w)).setDly p
          (3 * i + 2) (FIRE_DLYDATA.ENT2.ext w)
      else s.raise FIRE_GFLAG.DLY_REJ
    s.dlyAdvance p

/-- A read of FIRE_DLYDATA. -/
def State.dlyRead (s : State) (p : Nat) : State × Word :=
  let i := s.fld FIRE_DLYIDX.WORD p
  if 1333 < i then (s, 0)
  else
    let e (k : Nat) : Nat := if 3 * i + k < 4000 then s.dlyEnt p (3 * i + k) else 0
    (s.dlyAdvance p, Word.of (e 0 * 2 ^ 24 + e 1 * 2 ^ 12 + e 2))

end Sys2Proof.Machine
end

