-- ==== Sys2Proof/Machine/Mot.lean ====
section
/-! DEFINITION. The motion axes (spec/18_motion.md): move queue, steps, start events, stops and faults, currents, the
chopper, the stall check and the encoder count. -/

namespace Sys2Proof.Machine

/-- An axis. -/
def State.axis (s : State) (n : Nat) : Axis := SMap.get Axis.reset s.mot n

/-- Set an axis, with its queue level. -/
def State.setAxis (s : State) (n : Nat) (x : Axis) : State :=
  let s : State := { s with mot := SMap.set Axis.reset s.mot n x }
  s.setFld MOT_STAT.QLEVEL x.queue.length n

/-- Change an axis. -/
def State.updAxis (s : State) (n : Nat) (f : Axis → Axis) : State := s.setAxis n (f (s.axis n))

/-- ASTATE: 0 OFF, 1 IDLE, 2 WAIT, 3 RUN, 4 FAULT. -/
def State.astate (s : State) (n : Nat) : Nat := s.fld MOT_STAT.ASTATE n

/-- Set ASTATE. -/
def State.setAstate (s : State) (n v : Nat) : State := s.setFld MOT_STAT.ASTATE v n

/-- The current in force (R355): on the ramp it goes linearly to HOLD over 1 ms, 1,200,000 CK_CORE cycles.
(DESIGN CHOICE, log entry 146.) -/
def State.curNow (s : State) (n : Nat) : Nat :=
  let x := s.axis n
  match x.ramp with
  | none => x.cur
  | some (start, goal) =>
    ((x.cur : Int) + Int.tdiv (((goal : Int) - x.cur) * (min 1200000 (s.cycle - start) : Nat)) 1200000).toNat

/-- The axis is reduced: the current in force is below RUN (Table 18-6). -/
def State.reduced (s : State) (n : Nat) : Bool := decide (s.curNow n < s.fld MOT_CUR.RUN n)

/-- A new current in force (R355), with REDUCED. -/
def State.setCur (s : State) (n c : Nat) : State :=
  (s.updAxis n fun x => { x with cur := c, ramp := none }).setFld MOT_STAT.REDUCED (bit (decide (c < s.fld MOT_CUR.RUN n))) n

/-- The motion outputs are held by the hot-plug logic (R406). -/
def State.hpGates (s : State) : Bool := s.fld SYS_HPSTAT.HSTATE == 5 || s.fld SYS_HPSTAT.HSTATE == 6

/-- The axis may be stopped: IDLE, WAIT or RUN. -/
def State.axisUp (s : State) (n : Nat) : Bool := let a := s.astate n; a == 1 || a == 2 || a == 3

/-- MOT_EN of an axis is active: in IDLE, WAIT and RUN (Table 18-2), unless the hot-plug logic holds it (R406). -/
def State.motEnNow (s : State) (n : Nat) : Bool := s.axisUp n && !s.hpGates

/-- MOT_EN of an axis takes its level at the ball: active high with EN_POL = 0. -/
def State.motEnOut (s : State) (n : Nat) : State := s.emit (.motEn n (s.motEnNow n != s.on MOT_AXCFG.EN_POL n))

/-- The bridges of an axis in BRIDGE mode are switched off. -/
def State.bridgesOff (s : State) (n : Nat) : State := s.when (s.fld MOT_AXCFG.MODE n == 1) (·.emit (.bridgesOff n))

/-- The axis's inputs act: PD9 on, the axis out of block reset, its rail good (R325, R401). -/
def State.axisSenses (s : State) (n : Nat) : Bool := s.pdOn 9 && !s.blkHeld (60 + n) && s.railOk 1

/-! ### Intervals (R354) -/

/-- MIN_IVL as it acts: in STEPDIR mode at least twice the step width (Table 18-4). -/
def State.minIvl (s : State) (n : Nat) : Nat :=
  let m := s.fld MOT_AXCFG.MIN_IVL n
  if s.fld MOT_AXCFG.MODE n = 2 then max m (2 * s.fld MOT_CHOP.BLANK n) else m

/-- Load an interval: the clamp of a step's interval, its flag, the whole cycles to wait and the fraction carried. The one
interval of a dwell is not clamped (Table 18-1). -/
def State.loadIvl (s : State) (n : Nat) (m : Move) (left : Nat) (acc : Int) (frac : Nat) : State :=
  let lo : Int := s.minIvl n * 256
  let hi : Int := (2 ^ 24 - 1) * 256
  let ivl := if m.nstep = 0 then acc else if acc < lo then lo else if hi < acc then hi else acc
  let s := s.when (ivl != acc) (·.raise MOT_FLAG.IVL_CLAMP n)
  let frac := frac + (ivl % 256).toNat
  s.updAxis n fun x =>
    { x with run := some { m := m, left := left, ivl := ivl, frac := frac % 256, wait := (ivl / 256).toNat + frac / 256 } }

/-- The delay of a move's first step beyond its interval: in STEPDIR mode at least DIR_SETUP cycles after a change of
MOT_DIR (R354), and WAKE µs, of 100 CK_SLOW cycles each, on a reduced axis (R355). -/
def State.firstWait (s : State) (n : Nat) (turned reduced : Bool) (ivl : Nat) : Nat :=
  let w := if s.fld MOT_AXCFG.MODE n = 2 ∧ turned then max ivl (s.fld MOT_STALL.DIR_SETUP n) else ivl
  if reduced then w + 100 * s.fld MOT_CUR.WAKE n else w

/-- A move starts (R354, R355); `joint` is the direction of a predecessor that ends in the same cycle.
(DESIGN CHOICE, log entry 175.) -/
def State.startMove (s : State) (n : Nat) (m : Move) (joint : Option Bool) : State :=
  let same := joint == some m.dir
  let x := s.axis n
  let reduced := s.reduced n
  let s := s.when (m.blend && joint.isSome && !same) (·.raise MOT_FLAG.BLEND_IGN n)
  let acc : Int := match x.last with
    | some l => if m.blend && same && m.nstep != 0 then l + m.di else m.i0
    | none => m.i0
  let frac := match x.run with | some r => r.frac | none => 0
  let s := (s.setAstate n 3).setCur n (s.fld MOT_CUR.RUN n)
  let s := s.when (x.dir != m.dir && s.fld MOT_AXCFG.MODE n == 2) (·.emit (.motDir n (!m.dir)))
  (s.loadIvl n m m.nstep acc frac).updAxis n fun y =>
    { y with dir := m.dir, run := y.run.map fun r => { r with wait := s.firstWait n (x.dir != m.dir) reduced r.wait } }

/-- The queue's head is taken: a HOLD move starts only on a pending start event (R358); otherwise the axis waits. One whose
event is pending at the joint starts there, in the cycle in which its predecessor ends (R354, R363).
(DEDUCED, log entry 178.) -/
def State.takeMove (s : State) (n : Nat) (joint : Option Bool) : State :=
  match (s.axis n).queue with
  | [] => (s.updAxis n fun x => { x with run := none }).setAstate n 1
  | m :: rest =>
    if m.hold && !s.on MOT_STAT.PEND n then (s.updAxis n fun x => { x with run := none }).setAstate n 2
    else
      let s := s.when m.hold (·.setFld MOT_STAT.PEND 0 n)
      (s.updAxis n fun x => { x with queue := rest }).startMove n m joint

/-- An axis that stands looks at its queue. -/
def State.kick (s : State) (n : Nat) : State :=
  if s.astate n = 1 ∧ (s.axis n).queue ≠ [] then s.takeMove n none else s

/-! ### Stops (R360) -/

/-- The last interval used on the axis was below SAFE_IVL: it may overrun (R356, R360).
(DEDUCED, log entry 74.) -/
def State.atSpeed (s : State) (n : Nat) : Bool :=
  match (s.axis n).last with
  | some l => decide (l < s.fld MOT_AXCFG.SAFE_IVL n * 256)
  | none => false

/-- A stop: no further step, queue and pending event flushed, MOT_STOPPOS, SUSPECT from a speed.
(DEDUCED, log entry 74.) -/
def State.motStop (s : State) (n : Nat) : State :=
  let fast := s.atSpeed n
  let s := s.updAxis n fun x => { x with queue := [], run := none, halting := false, markDue := 0 }
  let s := (s.setFld MOT_STAT.PEND 0 n).setReg MOT_STOPPOS (s.reg MOT_POS n) n
  s.when fast (·.setFld MOT_STAT.SUSPECT 1 n)

/-- A fault of Table 18-3: the flag, the stop, MOT_EN inactive and the bridges off, FAULT with the capture of the first.
(DEDUCED, log entry 180.) -/
def State.motFault (s : State) (f : Fld) (n : Nat) : State :=
  let s := s.raise f n
  if s.axisUp n then
    let s := s.when (!s.on MOT_FLAG.FAULT n) (·.setFld MOT_FAULTINFO.BIT f.lo n)
    ((((s.motStop n).raise MOT_FLAG.FAULT n).setAstate n 4).motEnOut n).bridgesOff n
  else s

/-- STOP: MOT_CMD.STOP. -/
def State.motCmdStop (s : State) (n : Nat) : State :=
  if s.axisUp n then (s.motStop n).setAstate n 1 else s

/-- HALT: the move in progress finishes, then the rest of the queue is flushed.
(DEDUCED, log entry 180.) -/
def State.motHalt (s : State) (n : Nat) : State :=
  if s.astate n = 3 then s.updAxis n fun x => { x with halting := true }
  else
    let s := s.updAxis n fun x => { x with queue := [] }
    s.when (s.astate n == 2) (·.setAstate n 1)

/-- A start event (R358): starts the HOLD move that waits, else is held pending; a second one is dropped.
(DEDUCED, log entry 180.) -/
def State.startEvent (s : State) (n : Nat) : State :=
  if s.astate n = 2 then (s.setFld MOT_STAT.PEND 1 n).takeMove n none
  else if s.on MOT_STAT.PEND n then s.raise MOT_FLAG.TRIG_OVR n
  else s.setFld MOT_STAT.PEND 1 n

/-! ### Commands -/

/-- MOVE_PUSH: MOT_QW2 written (R353).
(DEDUCED, log entry 180.) -/
def State.movePush (s : State) (n : Nat) (w2 : Word) : State :=
  let s := s.setReg MOT_QW2 w2 n
  let w0 := s.reg MOT_QW0 n
  let w1 := s.reg MOT_QW1 n
  let full := decide (16 ≤ (s.axis n).queue.length)
  let bad := decide (w0.toNat % 2 ^ 12 ≠ 0 ∨ w1.toNat % 2 ^ 8 ≠ 0 ∨ w2.toNat % 2 ^ 16 ≠ 0)
  if full || bad then (s.when full (·.raise MOT_FLAG.QFULL n)).when bad (·.raise MOT_FLAG.CFG_REJ n)
  else
    let m : Move :=
      { dir := w0.getLsbD 39, blend := w0.getLsbD 38, hold := w0.getLsbD 37, mark := w0.getLsbD 36
        nstep := w0.toNat / 2 ^ 12 % 2 ^ 24, i0 := w1.toNat / 2 ^ 8, di := signed 24 (w2.toNat / 2 ^ 16) }
    (s.updAxis n fun x => { x with queue := x.queue ++ [m] }).kick n

/-- The references of the stall check taken (R359). -/
def State.takeRefs (s : State) (n : Nat) : State :=
  s.updAxis n fun x => { x with enc0 := s.reg MOT_ENCCNT n, pos0 := s.reg MOT_POS n }

/-- The axis turns on (Table 18-2); a bridge fault that is present takes it to FAULT (Table 18-3).
(DEDUCED, log entry 180.) -/
def State.axisOn (s : State) (n : Nat) : State :=
  let s := ((s.setAstate n 1).takeRefs n).motEnOut n
  let s := s.updAxis n fun x => { x with chA := ChopPhase.reset, chB := ChopPhase.reset }
  let s := s.setCur n (s.fld MOT_CUR.HOLD n)
  if (s.axis n).fltLow then s.motFault MOT_FLAG.BRIDGE_FLT n else s.kick n

/-- The axis turns off: a stop, MOT_EN inactive, the bridges off, OFF. -/
def State.axisOff (s : State) (n : Nat) : State := (((s.motStop n).setAstate n 0).motEnOut n).bridgesOff n

/-- AXIS_ENABLE: MOT_AXCFG.EN written (Table 18-2). -/
def State.axisEnable (s : State) (n : Nat) (en : Bool) : State :=
  let s := s.setFld MOT_AXCFG.EN (bit en) n
  let mode := s.fld MOT_AXCFG.MODE n
  if !en then s.axisOff n
  else if s.astate n = 0 then if mode = 1 ∨ mode = 2 then s.axisOn n else s
  else if s.astate n = 4 ∧ !(s.axis n).fltLow then s.axisOn n
  else s

/-- SYNC: the references taken, SUSPECT cleared. -/
def State.motSync (s : State) (n : Nat) : State := (s.takeRefs n).setFld MOT_STAT.SUSPECT 0 n

/-- MOT_POS_WRITE: only in IDLE (R352); SUSPECT clears (R360). -/
def State.motPosWrite (s : State) (n : Nat) (w : Word) : State :=
  if s.astate n = 1 then (s.setReg MOT_POS w n).setFld MOT_STAT.SUSPECT 0 n else s.raise MOT_FLAG.CFG_REJ n

/-- The move in progress has ended: its mark report falls due, a halt flushes, the next move follows at the joint. -/
def State.moveEnd (s : State) (n : Nat) (m : Move) : State :=
  let s := s.when m.mark (·.updAxis n fun x => { x with markDue := x.markDue + 1 })
  let s := s.when (s.axis n).halting (·.updAxis n fun x => { x with queue := [], halting := false })
  let empty := (s.axis n).queue == []
  let s := s.takeMove n (some m.dir)
  s.when (empty && s.atSpeed n) fun s =>
    (s.raise MOT_FLAG.QUNDER n).setFld MOT_STAT.SUSPECT 1 n

/-- The microsteps of one step (R352). -/
def State.microsteps (s : State) (n : Nat) : Nat := 2 ^ (8 - min 8 (s.fld MOT_AXCFG.MRES n))

/-- The limit input is active: low with LIM_POL = 0, high with LIM_POL = 1. -/
def State.limActive (s : State) (n : Nat) : Bool := (s.axis n).limHigh == s.on MOT_STALL.LIM_POL n

/-- The step would run into the active limit (Table 18-3). -/
def State.atLimit (s : State) (n : Nat) (dir : Bool) : Bool := s.limActive n && s.on MOT_STALL.LIM_DIR n == dir

/-- The limit stops the axis. -/
def State.limitStop (s : State) (n : Nat) : State := ((s.raise MOT_FLAG.LIMIT n).motStop n).setAstate n 1

/-- STEP: the interval of the move in progress elapses (R354): one step, or the end of a dwell, whose
interval is then the last one used.
(DEDUCED, log entry 73.) -/
def State.motStep (s : State) (n : Nat) : State :=
  match (if s.astate n = 3 then (s.axis n).run else none) with
  | none => s
  | some r =>
    if r.left = 0 then (s.updAxis n fun x => { x with last := some r.ivl }).moveEnd n r.m
    else if s.atLimit n r.m.dir then s.limitStop n
    else
      let d := Word.of (s.microsteps n)
      let s := s.setReg MOT_POS (if r.m.dir then s.reg MOT_POS n - d else s.reg MOT_POS n + d) n
      let s := s.when (!s.hpGates && s.fld MOT_AXCFG.MODE n == 2) (·.emit (.step n (!r.m.dir)))
      let s := s.updAxis n fun x => { x with last := some r.ivl }
      if r.left = 1 then s.moveEnd n r.m else s.loadIvl n r.m (r.left - 1) (r.ivl + r.m.di) r.frac

/-- MOT_CUR written: while the axis runs the current in force is RUN (R355). -/
def State.curWritten (s : State) (n : Nat) : State :=
  if s.astate n = 3 then s.setCur n (s.fld MOT_CUR.RUN n) else s

/-- CURRENT_REDUCE: STBY_DLY ms at standstill: the ramp to HOLD begins (R355).
(DESIGN CHOICE, log entry 146.) -/
def State.currentReduce (s : State) (n : Nat) : State :=
  s.when ((s.astate n == 1 || s.astate n == 2) && (s.axis n).ramp.isNone)
    (·.updAxis n fun x => { x with ramp := some (s.cycle, s.fld MOT_CUR.HOLD n) })

/-- MOT_STAT as it reads: REDUCED follows the current in force. -/
def State.motStatRead (s : State) (n : Nat) : Word := MOT_STAT.REDUCED.ins (s.reg MOT_STAT n) (bit (s.reduced n))

/-! ### Sensing (R357, R359, R362) -/

/-- MOT_ERATIO as a number with 32 fraction bits. -/
def State.eratio (s : State) (n : Nat) : Int := (s.reg MOT_ERATIO n).toNat

/-- dev of R359. -/
def State.motDev (s : State) (n : Nat) : Int :=
  let x := s.axis n
  signed 40 (s.reg MOT_ENCCNT n - x.enc0 - Word.of (unsigned 40
    (signed 40 (s.reg MOT_POS n - x.pos0).toNat * s.eratio n / 2 ^ 32))).toNat

/-- STALL: |dev| has exceeded WINDOW for FILT ticks (R359): the flag in every state, the stop where the axis is up.
(DEDUCED, log entry 180.) -/
def State.motStall (s : State) (n : Nat) : State :=
  if s.axisSenses n && s.on MOT_STALL.STALL_EN n && decide (s.fld MOT_STALL.WINDOW n < (s.motDev n).natAbs) then
    let s := (s.raise MOT_FLAG.STALL n).setFld MOT_STAT.SUSPECT 1 n
    if s.on MOT_STALL.STALL_ACT n then s.motCmdStop n else s
  else s

/-- BRIDGE_FLT: the fault input has been low for 1 µs, or is high again. The input is ignored while its rail is lost (R401).
-/
def State.bridgeFlt (s : State) (n : Nat) (low : Bool) : State :=
  if !s.railOk 1 then s
  else
    let s := s.updAxis n fun x => { x with fltLow := low }
    if low && s.axisSenses n then s.motFault MOT_FLAG.BRIDGE_FLT n else s

/-- OVERCUR: the sense of a phase is above OC_THR. -/
def State.overCur (s : State) (n : Nat) : State := s.when (s.axisSenses n && s.axisUp n) (·.motFault MOT_FLAG.OVERCUR n)

/-- LIMIT: the level of the limit input changes; active while a move steps in direction LIM_DIR it stops the axis. The input
is ignored while its rail is lost (R401). -/
def State.motLimit (s : State) (n : Nat) (high : Bool) : State :=
  if !s.railOk 1 then s
  else
  let s := s.updAxis n fun x => { x with limHigh := high }
  match (if s.astate n = 3 then (s.axis n).run else none) with
  | some r => if s.atLimit n r.m.dir && decide (0 < r.left) then s.limitStop n else s
  | none => s

/-- MOT_ENCODER_EDGE: the levels of QA and QB after a change, decoded ×4 (R359) while the axis is out of block reset; a
change of both counts nothing, and the inputs are ignored while their rail is lost (R401).
(DESIGN CHOICE, log entry 175.) -/
def State.motEncoderEdge (s : State) (n : Nat) (a b : Bool) : State :=
  if !s.railOk 1 then s
  else
  let x := s.axis n
  let s := s.setAxis n { x with qa := a, qb := b }
  if (x.qa == a) == (x.qb == b) || s.blkHeld (60 + n) then s
  else s.setReg MOT_ENCCNT (if quadRev x.qa a b then s.reg MOT_ENCCNT n - 1 else s.reg MOT_ENCCNT n + 1) n

/-- 2,047 times the sine of the first quarter of the 1,024 angles, rounded down (R352). -/
def sinQuarter : List Nat :=
  [0, 12, 25, 37, 50, 62, 75, 87, 100, 112, 125, 138, 150, 163, 175, 188, 200, 213, 225, 238, 250, 263, 275, 287, 300, 312, 325, 337, 349, 362, 374, 387] ++
  [399, 411, 423, 436, 448, 460, 472, 485, 497, 509, 521, 533, 545, 558, 570, 582, 594, 606, 618, 630, 642, 654, 665, 677, 689, 701, 713, 724, 736, 748, 760, 771] ++
  [783, 794, 806, 818, 829, 840, 852, 863, 875, 886, 897, 909, 920, 931, 942, 953, 964, 976, 987, 998, 1008, 1019, 1030, 1041, 1052, 1063, 1073, 1084, 1095, 1105, 1116, 1126] ++
  [1137, 1147, 1158, 1168, 1178, 1188, 1199, 1209, 1219, 1229, 1239, 1249, 1259, 1269, 1279, 1288, 1298, 1308, 1317, 1327, 1337, 1346, 1355, 1365, 1374, 1383, 1393, 1402, 1411, 1420, 1429, 1438] ++
  [1447, 1456, 1465, 1473, 1482, 1491, 1499, 1508, 1516, 1525, 1533, 1541, 1550, 1558, 1566, 1574, 1582, 1590, 1598, 1605, 1613, 1621, 1629, 1636, 1644, 1651, 1659, 1666, 1673, 1680, 1687, 1695] ++
  [1702, 1708, 1715, 1722, 1729, 1736, 1742, 1749, 1755, 1762, 1768, 1774, 1781, 1787, 1793, 1799, 1805, 1811, 1816, 1822, 1828, 1834, 1839, 1845, 1850, 1855, 1861, 1866, 1871, 1876, 1881, 1886] ++
  [1891, 1895, 1900, 1905, 1909, 1914, 1918, 1923, 1927, 1931, 1935, 1939, 1943, 1947, 1951, 1955, 1958, 1962, 1966, 1969, 1972, 1976, 1979, 1982, 1985, 1988, 1991, 1994, 1997, 1999, 2002, 2005] ++
  [2007, 2010, 2012, 2014, 2016, 2018, 2021, 2022, 2024, 2026, 2028, 2030, 2031, 2033, 2034, 2035, 2037, 2038, 2039, 2040, 2041, 2042, 2043, 2043, 2044, 2045, 2045, 2046, 2046, 2046, 2046, 2046] ++
  [2047]

/-- An entry of the first quarter of the sine table: exact at 0 and at the amplitude, else rounded down or up.
(DESIGN CHOICE, log entry 175.) -/
def sinEntry (f : Nat) : Nat := sinQuarter.getD f 0 + (if f = 0 ∨ f = 256 then 0 else bit (Config.sinUp f))

/-- The sine table at an electrical angle (R352): the quarters mirror the first one, the second half is negative.
(DESIGN CHOICE, log entry 175.) -/
def sin12 (t : Nat) : Int :=
  let h := t % 512
  let v := sinEntry (if h ≤ 256 then h else 512 - h)
  if t % 1024 < 512 then v else -(v : Int)

/-- The target current of a phase at the electrical angle (R352): phase A by the sine, phase B by the cosine. -/
def State.phaseTarget (s : State) (n phase : Nat) : Int :=
  let t := (s.reg MOT_POS n).toNat % 1024
  (s.curNow n : Int) * sin12 (if phase = 0 then t else t + 256) / 2 ^ 11

/-- The polarity of a phase: true for a negative target. -/
def State.phaseNeg (s : State) (n phase : Nat) : Bool := decide (s.phaseTarget n phase < 0)

/-- The threshold that ends a phase's drive (upper) or its decay (lower), from the adaptive offset in force (R357). -/
def State.chopThr (s : State) (n phase : Nat) (c : ChopPhase) : Nat :=
  let t : Int := (s.phaseTarget n phase).natAbs
  let h : Int := s.fld MOT_CHOP.HYST n / 2
  let v := if c.drive then t + h + c.ofs else t - h + c.ofs
  (max 0 (min 1023 v)).toNat

/-- The decay of MOT_CHOP as it acts: the reserved code is mixed. -/
def State.chopDecay (s : State) (n : Nat) : Nat := min 2 (s.fld MOT_CHOP.DECAY n)

/-- The adaptive offset after a chopper cycle (R357). -/
def State.chopOfs (s : State) (n tOn tOff : Nat) (ofs : Int) : Int :=
  if s.on MOT_CHOP.ADAPT n then
    let h : Int := s.fld MOT_CHOP.HYST n
    let t := Int.tdiv (s.fld MOT_CHOP.SNS_DLY n * h * ((tOn : Int) - tOff)) (2 * tOn * tOff)
    max (-h) (min h (ofs + (t - ofs) / 8))
  else 0

/-- The comparator is ignored `t` cycles into a phase: for BLANK cycles after a switch of the bridge (R357); a mixed decay
switches once more, from fast to slow, after FASTT cycles.
(DEDUCED, log entry 214.) -/
def State.blanked (s : State) (n : Nat) (drive : Bool) (t : Nat) : Bool :=
  let b := s.fld MOT_CHOP.BLANK n
  let f := s.fld MOT_CHOP.FASTT n
  decide (t < b) || (!drive && s.chopDecay n == 2 && decide (f ≤ t) && decide (t < f + b))

/-- CHOPPER_THRESHOLD: a phase reaches upper after `t` cycles of drive, or lower after `t` cycles of decay (R357). -/
def State.chopper (s : State) (n phase : Nat) (upper : Bool) (t : Nat) : State :=
  if s.fld MOT_AXCFG.MODE n ≠ 1 ∨ !s.axisUp n ∨ !s.axisSenses n then s
  else
    let x := s.axis n
    let c := if phase = 0 then x.chA else x.chB
    let t := max 1 t
    if (c.drive != upper) || (!upper && decide (t < s.fld MOT_CHOP.TOFF_MIN n)) || s.blanked n c.drive t then s
    else
      let c := if upper then { c with drive := false, tOn := t }
        else { c with drive := true, ofs := s.chopOfs n c.tOn t c.ofs }
      let s := s.setAxis n (if phase = 0 then { x with chA := c } else { x with chB := c })
      s.when (!s.hpGates)
        (·.emit (.bridge n phase c.drive (s.phaseNeg n phase) (s.chopDecay n) (s.fld MOT_CHOP.FASTT n) (s.chopThr n phase c)))

/-- A phase is driven towards at least a quarter of RUN: the open-motor check counts its drive phases (Table 18-3). -/
def State.openChecked (s : State) (n phase : Nat) : Bool :=
  decide (s.fld MOT_CUR.RUN n ≤ 4 * (s.phaseTarget n phase).natAbs)

/-- OPEN_MOTOR: a phase has not reached upper within 64 drive phases of at least 1 µs each; the chopper drives in BRIDGE
mode. -/
def State.openMotor (s : State) (n : Nat) : State :=
  s.when (s.axisSenses n && s.axisUp n && s.fld MOT_AXCFG.MODE n == 1 && (s.openChecked n 0 || s.openChecked n 1))
    (·.motFault MOT_FLAG.OPEN n)

/-- An axis block reset (R363): a stop as R360 gives, then the registers that a reset does not keep; MOT_STOPPOS holds the
position of that stop, and SUSPECT what it says.
(DEDUCED, log entry 75.) -/
def State.axisReset (s : State) (n : Nat) : State :=
  let stop := s.reg MOT_POS n
  let fast := s.atSpeed n
  let s := s.axisOff n
  let keep := s.axis n
  let x : Axis := { Axis.reset with limHigh := keep.limHigh, fltLow := keep.fltLow, qa := keep.qa, qb := keep.qb }
  let s : State := { s with mot := SMap.set Axis.reset s.mot n x }
  let s := (s.setFld MOT_AXCFG.EN 0 n).resetReg MOT_STAT n
  let s := forIn' [MOT_FLAG, MOT_FLAGEN, MOT_QW0, MOT_QW1, MOT_QW2, MOT_POS, MOT_ENCCNT, MOT_FAULTINFO, MOT_CMD]
    (fun r s => s.resetReg r n) s
  (s.setReg MOT_STOPPOS stop n).setFld MOT_STAT.SUSPECT (bit fast) n

end Sys2Proof.Machine
end

