-- ==== Sys2Proof/Machine/Lite.lean ====
section
/-! DEFINITION. Inspection lighting and the status matrix (spec/19_lighting.md). -/

namespace Sys2Proof.Machine

/-- Change the lighting block's own state. -/
def State.liteUpd (s : State) (f : LiteSt → LiteSt) : State := { s with lite := f s.lite }

/-- The lighting block runs: PD9 on, out of block reset. -/
def State.liteRuns (s : State) : Bool := s.pdOn 9 && !s.blkHeld 68

/-- CSTATE: 0 OFF, 1 IDLE, 2 WAIT, 3 ON, 4 RECOVER, 5 FAULT. -/
def State.cstate (s : State) (c : Nat) : Nat := s.fld LITE_CHSTAT.CSTATE c

/-- Set CSTATE. -/
def State.setCstate (s : State) (c v : Nat) : State := s.setFld LITE_CHSTAT.CSTATE v c

/-- Channel MODE: 0 OFF, 1 CONT, 2 STROBE_CAM, 3 STROBE_POS. -/
def State.liteMode (s : State) (c : Nat) : Nat := s.fld LITE_CH.MODE c

/-- What LITE_EN of a channel does at the ball: active high with EN_POL = 0, active low with EN_POL = 1 (R365). -/
def State.liteBall (s : State) (c : Nat) (on : Bool) : Out := .liteEn c (on != s.on LITE_CH.EN_POL c)

/-- LITE_EN of a channel changes at the ball, unless the hot-plug logic holds it. -/
def State.liteEn (s : State) (c : Nat) (on : Bool) : State := s.when (!s.hpGates) (·.emit (s.liteBall c on))

/-! ### Derating (R366, R370, R371) -/

/-- A temperature input's own state. -/
def State.tin (s : State) (g : Nat) : LiteTin := SMap.get LiteTin.reset s.lite.tin g

/-- The derating factor f of a channel, in 1/1024. -/
def State.liteFactor (s : State) (c : Nat) : Nat :=
  if !s.on LITE_CH.DRT_EN c then 1024
  else
    let g := s.fld LITE_CH.TSRC c
    let fl := s.fld LITE_LVL.FLOOR c
    if (s.tin g).fault then fl
    else
      let raw := s.fld LITE_TEMP.CODE g
      let code := if s.on LITE_TINCFG.TPOL g then 1023 - raw else raw
      max fl (1024 - (code - s.fld LITE_LVL.KNEE c) * s.fld LITE_LVL.SLOPE c / 16)

/-- dac of a channel. -/
def State.liteDac (s : State) (c : Nat) : Nat := s.fld LITE_LVL.LEVEL c * s.liteFactor c / 1024 % 1024

/-- The DAC code applied. -/
def State.setDac (s : State) (c v : Nat) : State :=
  if s.fld LITE_CHSTAT.DAC c = v then s else (s.setFld LITE_CHSTAT.DAC v c).emit (.lite c v)

/-- A change of level or derating: DERATED and its flag, and dac at once in IDLE and in CONT (R366). -/
def State.liteLevel (s : State) (c : Nat) : State :=
  let d := decide (s.liteFactor c < 1024)
  let s := s.when (d && !s.on LITE_CHSTAT.DERATED c) (·.raise LITE_CHFLAG.DERATE c)
  let s := s.setFld LITE_CHSTAT.DERATED (bit d) c
  s.when (s.cstate c == 1 || (s.cstate c == 3 && s.liteMode c == 1)) (·.setDac c (s.liteDac c))

/-- The channels that derate from an input take its factor anew. -/
def State.tinLevel (s : State) (g : Nat) : State :=
  forTo 16 (fun c s => s.when (s.fld LITE_CH.TSRC c == g) (·.liteLevel c)) s

/-- TEMP_SAMPLE: a temperature input is converted (R370, R371). -/
def State.tempSample (s : State) (g code : Nat) : State :=
  if !s.liteRuns ∨ !s.railOk 1 then s
  else
    let x := s.tin g
    let edge := code == 0 || code == 1023
    let x := if edge then { x with stuck := min 4 (x.stuck + 1), fine := 0 } else { x with stuck := 0, fine := min 4 (x.fine + 1) }
    let enter := !x.fault && x.stuck == 4
    let x := { x with fault := (x.fault || enter) && x.fine != 4 }
    let s := (s.setFld LITE_TEMP.CODE code g).liteUpd fun l => { l with tin := SMap.set LiteTin.reset l.tin g x }
    let s := s.when enter (·.raiseAt LITE_FLAG.TIN_FAULT 0 g none 0)
    s.tinLevel g

/-! ### Channels (Table 19-1) -/

/-- Change a channel's own state. -/
def State.setLiteCh (s : State) (c : Nat) (x : LiteCh) : State :=
  s.liteUpd fun l => { l with ch := SMap.set LiteCh.reset l.ch c x }

/-- The channel turns off: LITE_EN inactive, LITE_DIM at 0 V, in state OFF or FAULT. -/
def State.liteStop (s : State) (c st : Nat) : State := (((s.liteEn c false).setDac c 0).setCstate c st)

/-- The channel starts in its mode. -/
def State.liteStart (s : State) (c : Nat) : State :=
  let s := s.liteUpd fun l => { l with driven := if l.driven.contains c then l.driven else c :: l.driven }
  let s := (s.setLiteCh c LiteCh.reset).setDac c (s.liteDac c)
  if s.liteMode c = 1 then (s.setCstate c 3).liteEn c true else s.setCstate c 1

/-- LITE_CH_WRITE: LITE_CH was written with MODE `was` before (Tables 19-1 and 19-3).
(DEDUCED, log entry 76; DEDUCED, log entry 78.) -/
def State.liteChWritten (s : State) (c was : Nat) : State :=
  let st := s.cstate c
  if !s.liteRuns then s
  else if s.liteMode c = 0 then (s.liteStop c 0).liteLevel c
  else if st = 0 ∨ st = 5 then (s.liteStart c).liteLevel c
  else if st = 2 ∨ st = 3 ∨ was ≠ s.liteMode c then ((s.liteStop c 0).liteStart c).liteLevel c
  else s.liteLevel c

/-- The lighting block is released: what was written while it was held is taken into account (R370).
(DEDUCED, log entry 76.) -/
def State.liteRelease (s : State) : State := forTo 16 (fun c s => s.liteLevel c) s

/-- A channel's own state. -/
def State.liteCh (s : State) (c : Nat) : LiteCh := SMap.get LiteCh.reset s.lite.ch c

/-- A request that meets the channel in WAIT asks for the pulse that another port's request of this same cycle started
(R367). A port's own second request comes in a later cycle.
(DEDUCED, log entry 208.) -/
def State.sameStrobe (s : State) (c asker : Nat) : Bool :=
  s.cstate c == 2 && (s.liteCh c).asked == s.cycle + 1 && !(s.liteCh c).askers.contains asker

/-- A strobe request from a source, a camera (mode 2) or the channel's own target (mode 3), made by `asker`: the camera port,
16 for the target. Requests of several ports in one cycle make one pulse; any other outside IDLE is skipped (R367). -/
def State.strobeReq (s : State) (c src asker : Nat) : State :=
  let x := s.liteCh c
  if !s.liteRuns ∨ s.liteMode c ≠ src then s
  else if s.cstate c = 1 then (s.setLiteCh c { x with asked := s.cycle + 1, askers := [asker] }).setCstate c 2
  else if s.sameStrobe c asker then s.setLiteCh c { x with askers := asker :: x.askers }
  else s.raise LITE_CHFLAG.STRB_SKIP c

/-- LITE_TARGET_CROSS: the position taken LEAD cycles ahead crosses the target of a STROBE_POS channel, which does not lie
behind it (R368).
(DEDUCED, log entry 213.) -/
def State.liteTarget (s : State) (c : Nat) : State :=
  if !s.liteRuns ∨ s.liteMode c ≠ 3 ∨ !s.comesTo (s.fld LITE_STRB.LEAD c) (s.reg LITE_SPOS c) then s
  else
    let pitch := max 0x10000 (s.reg LITE_SPITCH c).toNat
    (s.strobeReq c 3 16).setReg LITE_SPOS (s.reg LITE_SPOS c + Word.of pitch) c

/-- STROBE_DELAY_END: DLY cycles have elapsed. -/
def State.strobeDelayEnd (s : State) (c : Nat) : State := if s.cstate c = 2 then (s.setCstate c 3).liteEn c true else s

/-- The channel's runs of open and short readings after a check: a run is taken once it is FCNT checks long, and ends with
the first check that reads otherwise (R369).
(DEDUCED, log entry 218.) -/
def State.senseRuns (s : State) (c code : Nat) : LiteCh :=
  let x := s.liteCh c
  let fc := max 1 (s.fld LITE_CH.FCNT c)
  let opens := if s.fld LITE_CH.OPEN_THR c < code then min 16 (x.opens + 1) else 0
  let shorts := if code < s.fld LITE_CH.SHORT_THR c then min 16 (x.shorts + 1) else 0
  { x with opens := opens, shorts := shorts, openTaken := decide (opens ≠ 0) && (x.openTaken || decide (fc ≤ opens))
           shortTaken := decide (shorts ≠ 0) && (x.shortTaken || decide (fc ≤ shorts)) }

/-- A sense check (R369): a run of FCNT readings sets OPEN or SHORT once and acts as in Table 19-1.
(DEDUCED, log entry 218.) -/
def State.liteCheck (s : State) (c code : Nat) : State :=
  let was := s.liteCh c
  let x := s.senseRuns c code
  let openNow := x.openTaken && !was.openTaken
  let shortNow := x.shortTaken && !was.shortTaken
  let s := (s.setFld LITE_CHSTAT.SENSE code c).setLiteCh c x
  let s := s.when openNow (·.raise LITE_CHFLAG.OPEN c)
  let s := s.when shortNow (·.raise LITE_CHFLAG.SHORT c)
  if shortNow || (openNow && s.on LITE_CH.OPEN_ACT c) then (s.liteStop c 5).raise LITE_CHFLAG.FAULT c else s

/-- STROBE_WIDTH_END: WIDTH cycles have elapsed; pulses of WIDTH ≥ 16 are checked on the last sample. -/
def State.strobeWidthEnd (s : State) (c code : Nat) : State :=
  if s.cstate c ≠ 3 ∨ s.liteMode c = 1 then s
  else
    let s := (s.liteEn c false).setCstate c 4
    s.when (decide (16 ≤ s.fld LITE_STRB.WIDTH c) && s.railOk 1) (·.liteCheck c code)

/-- RECOVER_END: MIN_OFF µs have elapsed. -/
def State.recoverEnd (s : State) (c : Nat) : State :=
  if s.cstate c = 4 then (s.setCstate c 1).setDac c (s.liteDac c) else s

/-- CONT_CHECK: the sample of every microsecond in CONT. -/
def State.contCheck (s : State) (c code : Nat) : State :=
  if s.cstate c = 3 ∧ s.liteMode c = 1 ∧ s.railOk 1 then s.liteCheck c code else s

/-- A channel in LITE has a fault flag set: LITE_FAULT of a frame (R184). -/
def State.liteFaulty (s : State) (mask : Nat) : Bool :=
  (List.range 16).any fun c => mask.testBit c && (s.on LITE_CHFLAG.FAULT c || s.on LITE_CHFLAG.OPEN c || s.on LITE_CHFLAG.SHORT c)

/-! ### The status matrix (R373, R374) -/

/-- MATRIX_SWAP: SWAP written 1. -/
def State.matrixSwap (s : State) : State := s.setFld LITE_MXCTL.PEND 1

/-- Row time in CK_SLOW cycles, and the pre-charge. -/
def State.rowCycles (s : State) : Nat × Nat :=
  let t := max 20 (s.fld LITE_MXTIM.ROW_T)
  let p := s.fld LITE_MXTIM.PCHG
  (t * 100, if t * 100 ≤ p then t * 50 else p)

/-- The on-time of an LED with a 2-bit code.
(DESIGN CHOICE, log entry 176.) -/
def State.ledCycles (s : State) (code : Nat) : Nat :=
  let r := s.rowCycles
  let blink := max 1 (s.fld LITE_MXCTL.BLINK)
  let b := match code with
    | 1 => s.fld LITE_MXCTL.BRIGHT
    | 2 => if (s.lite.frame - 1) / blink % 2 = 0 then s.fld LITE_MXCTL.BRIGHT else 0
    | 3 => s.fld LITE_MXCTL.DIMLVL
    | _ => 0
  (r.1 - r.2) * b / 256

/-- A matrix frame begins: a pending copy is made. -/
def State.matrixFrame (s : State) : State :=
  let s := s.liteUpd fun l => { l with frame := l.frame + 1 }
  if s.on LITE_MXCTL.PEND then
    let rows := (List.range 8).map fun r => s.fld LITE_MXROW.LEDS r
    (s.liteUpd fun l => { l with rows := rows }).setFld LITE_MXCTL.PEND 0
  else s

/-- ROW_SLOT: a row slot begins: pre-charge, then the row and its columns at their polarities (R373).
(DESIGN CHOICE, log entry 176.) -/
def State.rowSlot (s : State) : State :=
  if !s.liteRuns ∨ !s.on LITE_MXCTL.EN then s
  else
    let r := s.lite.row
    let s := if r = 0 then s.matrixFrame else s
    let leds := s.lite.rows.getD r 0
    let t := s.rowCycles
    let s := s.emit (.matrixRow r t.2 t.1 (!s.on LITE_MXCTL.ROW_POL) (!s.on LITE_MXCTL.COL_POL)
      ((List.range 16).map fun c => s.ledCycles (leds / 4 ^ c % 4)))
    s.liteUpd fun l => { l with row := (r + 1) % 8 }

/-- LITE_MXCTL.EN written: the scan starts from row 0. -/
def State.matrixEn (s : State) (was : Bool) : State :=
  s.when (s.on LITE_MXCTL.EN && !was) (·.liteUpd fun l => { l with row := 0, frame := 0, scanned := true })

/-- The lighting block enters block reset (R375): every register but LITE_TEMP returns to its reset value.
(DEDUCED, log entry 181.) -/
def State.liteReset (s : State) : State :=
  let t := (List.range 4).map fun g => s.reg LITE_TEMP g
  let s := forTo 16 (fun c s => s.liteEn c false) s
  let s := (s.resetRegs 0x2E0000 0x10000).liteUpd fun _ => LiteSt.reset
  forTo 4 (fun g s => s.setReg LITE_TEMP (t.getD g 0) g) s

end Sys2Proof.Machine
end

