-- ==== Sys2Proof/Machine/Scaler.lean ====
section
/-! DEFINITION. The Scaler's reference ring, measurement and nozzle-health map (spec/10_closed_loop_determinism.md). -/

namespace Sys2Proof.Machine

/-- Change the Scaler's own state. -/
def State.scUpd (s : State) (f : ScalerSt → ScalerSt) : State := { s with scaler := f s.scaler }

/-! ### The reference ring (R203, R204) -/

/-- log2 of the rows of the reference ring: values outside 4 to 16 act as 10. -/
def State.refLog2 (s : State) : Nat :=
  let l := s.fld VIS_SCREF.LOG2
  if 4 ≤ l ∧ l ≤ 16 then l else 10

/-- The slot of the ring a reference row lies in. -/
def State.refSlot (s : State) (row : Nat) : Nat := row % 2 ^ s.refLog2

/-- The number of bins. -/
def State.scBins (s : State) : Nat := 192000 / 2 ^ s.scBin

/-- The byte address of a bin of a row. -/
def State.refAddr (s : State) (row bin : Nat) : Nat := s.fld VIS_SCREF.BASE * 4096 + s.refSlot row * s.scBins + bin

/-- Line `k` of a reference row belongs to a page (R203). -/
def State.refOn (s : State) (pg : JPage) (row k : Nat) : Bool :=
  match pg.start with
  | some n => decide (lineSub (row * 2 ^ s.scSum + k) n < pg.d.length)
  | none => false

/-- Every stream that serves a page has delivered the page's lines of a reference row (R204). -/
def State.refHas (s : State) (pg : JPage) (row : Nat) : Bool :=
  (List.range 56).all fun st => !s.streamServes st pg ||
    (List.range (2 ^ s.scSum)).all fun k => !s.refOn pg row k || (SMap.get 0 s.scaler.got (64 * row + st)).testBit k

/-- A page that a failed job cut short lacks no line of a reference row (R204). -/
def State.cutHas (s : State) (c : RefCut) (row : Nat) : Bool :=
  c.streams.all fun st => (List.range (2 ^ s.scSum)).all fun k =>
    let n := lineMod (row * 2 ^ s.scSum + k)
    !(lineAtOrAfter n c.first && lineAtOrAfter c.last n) || (SMap.get 0 s.scaler.got (64 * row + st)).testBit k

/-- The job in force is a scan-mode job. -/
def State.scanJob (s : State) : Bool := s.jq.job.any fun j => j.d.scan

/-- A reference row is complete (R204): every enabled port has delivered all its lines, which in a web-mode job is so only
once the forward position has passed its last reference line plus C_max; a row of lines that a failed job left undelivered
never is.
(DEDUCED, log entry 131.) -/
def State.refWhole (s : State) (row : Nat) : Bool :=
  let c := match s.jq.job with
    | some j => cMaxIn s.skid.copy j.ports
    | none => s.jq.lastCmax
  s.jq.pages.all (fun pg => s.refHas pg row) && s.scaler.cut.all (fun c => s.cutHas c row) &&
    (s.scanJob || lineAtOrAfter (posLine s.pos.fwd) (lineMod ((row + 1) * 2 ^ s.scSum - 1 + c)))

/-- A reference value as it is stored; beyond a byte (two streams of one port) the spec states none: a free value.
(DESIGN CHOICE, log entry 168.) -/
def State.refByte (s : State) (v : Nat) : State × Byte :=
  if v < 256 then (s, BitVec.ofNat 8 v)
  else
    let d := s.draw
    (d.2, d.1.setWidth 8)

/-- A row was written already (R204): it stands in its slot, or in a web-mode job a row at or after it was, since rows are
complete in their order. -/
def State.refDone (s : State) (row : Nat) : Bool :=
  let line (r : Nat) : Nat := lineMod (r * 2 ^ s.scSum)
  SMap.get 0 s.scaler.rows (s.refSlot row) == row + 1 ||
    (!s.scanJob && s.scaler.newest.any fun m => !lineAfter (line row) (line m))

/-- REF_ROW_WRITE: reference row `row`, complete and not yet written, is written (R204).
(DEDUCED, log entry 131.)
(DEDUCED, log entry 202.) -/
def State.refRowWrite (s : State) (row : Nat) : State :=
  if !s.scalerOn ∨ s.refDone row ∨ !s.refWhole row then s
  else
    let n := s.scBins
    let sums := SMap.range 0 s.scaler.sums (65536 * row) n
    let r := sums.foldl (fun (a : State × List Byte) x =>
      let v := a.1.refByte (16 * x / 2 ^ (s.scBin + s.scSum))
      (v.1, v.2 :: a.2)) (s, [])
    let t := (r.1.dramWrite 4 (s.refAddr row 0) r.2.reverse).1
    t.scUpd fun c =>
      { c with sums := SMap.eraseRange c.sums (65536 * row) n, got := SMap.eraseRange c.got (64 * row) 64
               rows := SMap.set 0 c.rows (s.refSlot row) (row + 1), newest := if s.scanJob then c.newest else some row }

/-! ### The health map (R207, R208) -/

/-- Entry fields of Table 10-1. -/
def hmState (w : Word) : Nat := w.toNat / 2 ^ 38
def hmScore (w : Word) : Nat := w.toNat / 2 ^ 30 % 256
def hmDark (w : Word) : Nat := w.toNat / 2 ^ 29 % 2
def hmColx (w : Word) : Nat := w.toNat / 2 ^ 25 % 16
def hmHold (w : Word) : Nat := w.toNat % 2 ^ 24

/-- An entry from its fields. -/
def hmEntry (st score dark colx hold : Nat) : Word :=
  Word.of (st * 2 ^ 38 + score * 2 ^ 30 + dark * 2 ^ 29 + colx * 2 ^ 25 + hold)

/-- VIS_HMSTAT follows the FIFO and the map. -/
def State.hmSync (s : State) : State :=
  (s.setFld VIS_HMSTAT.LEVEL s.scaler.fifo.length).setFld VIS_HMSTAT.NFAIL
    (s.scaler.map.countP fun e => hmState e.2 == 2)

/-- Set a map entry. -/
def State.setHm (s : State) (bin : Nat) (w : Word) : State :=
  (s.scUpd fun c =>
    { c with map := SMap.set 0 c.map bin w, bad := c.bad.filter fun b => b != bin
             left := if hmState w = 2 then c.left else c.left.filter fun b => b != bin }).hmSync

/-- VIS_SCLOOP takes effect with a frame published (R215). -/
def State.loopNow (s : State) : State := s.scUpd fun c => { c with loop := s.reg VIS_SCLOOP }

/-- Entries come to an uncorrectable error. -/
def State.hmDamage (s : State) (bins : List Nat) : State :=
  s.scUpd fun c => { c with bad := c.bad ++ bins.filter fun b => decide (b < s.scBins) && !c.bad.contains b }

/-- An entry is met: an uncorrectable error sets HM_ECC and rewrites it as 0 (R208). -/
def State.hmCheck (s : State) (bin : Nat) : State :=
  if s.scaler.bad.contains bin then (s.setHm bin 0).raise VIS_SCFLAG.HM_ECC else s

/-- A FIFO entry: the new state of a bin, with the row's first reference line. -/
def State.hmPush (s : State) (bin : Nat) (w : Word) (line : Nat) : State :=
  let e := Word.of (hmState w * 2 ^ 38 + hmDark w * 2 ^ 37 + hmColx w * 2 ^ 33 + bin * 2 ^ 17)
  if s.scaler.fifo.length < 64 then
    ((s.scUpd fun c => { c with fifo := c.fifo ++ [(e, line)] }).hmSync).raise VIS_SCFLAG.HM_CHANGE
  else s.raise VIS_SCFLAG.HM_OVF

/-- The outcome of scoring a cell (R206): clean, or light or dark with its column. -/
inductive Score where
  | clean
  | light (colx : Nat)
  | dark (colx : Nat)
  deriving DecidableEq, Repr

/-- The first two rows of Table 10-2: score, DARK and COLX.
(DEDUCED, log entry 134.) -/
def scoreStep (up : Nat) (w : Word) : Score → Word
  | .clean => hmEntry (hmState w) (hmScore w - 1) (hmDark w) (hmColx w) (hmHold w)
  | .light c => hmEntry (hmState w) (min 255 (hmScore w + up)) 0 c (hmHold w)
  | .dark c => hmEntry (hmState w) (min 255 (hmScore w + up)) 1 c (hmHold w)

/-- An entry with another state. -/
def hmTo (st : Nat) (w : Word) : Word := hmEntry st (hmScore w) (hmDark w) (hmColx w) (hmHold w)

/-- A scored cell of a view applied to its bin's entry, which is not HELD (Table 10-2). -/
def State.hmScored (s : State) (n bin line : Nat) (sc : Score) : State :=
  let w := SMap.get 0 s.scaler.map bin
  let v := scoreStep (s.fld VIS_SCTHR.UP n) w sc
  let x := hmScore v
  if hmState w = 0 ∧ s.fld VIS_SCTHR.T_SUS n ≤ x then (s.setHm bin (hmTo 1 v)).hmPush bin (hmTo 1 v) line
  else if hmState w = 1 ∧ s.fld VIS_SCTHR.T_FAIL n ≤ x then (s.setHm bin (hmTo 2 v)).hmPush bin (hmTo 2 v) line
  else if hmState w = 1 ∧ x = 0 then (s.setHm bin (hmTo 0 v)).hmPush bin (hmTo 0 v) line
  else s.setHm bin v

/-- A scored cell reaches the map (R208). -/
def State.hmApply (s : State) (n bin line : Nat) (sc : Score) : State :=
  let s := s.hmCheck bin
  let w := SMap.get 0 s.scaler.map bin
  if hmState w ≠ 3 then s.hmScored n bin line sc
  else if !lineAtOrAfter line (hmHold w) then s
  else
    let v := hmEntry 0 0 (hmDark w) (hmColx w) 0
    ((s.setHm bin v).hmPush bin v line).hmScored n bin line sc

/-- SCALER_ENABLE and every other write of VIS_SCCFG (R207, R215).
(DEDUCED, log entry 134.) -/
def State.scCfgWrite (s : State) (w : Word) : State :=
  let w := w &&& 0xFFFFE00000
  let was := s.on VIS_SCCFG.EN
  let en := VIS_SCCFG.EN.ext w == 1
  if was && (w &&& 0x7FFFFFFFFF) != (s.reg VIS_SCCFG &&& 0x7FFFFFFFFF) then s.raise VIS_SCFLAG.CFG_REJ
  else
    let s := s.setReg VIS_SCCFG w
    let s := s.when (en && !was) (·.scUpd fun c => { c with sums := [], got := [], rows := [], newest := none, cut := [] })
    s.when en fun s => (s.scUpd fun c => { c with map := [], bad := [], left := [] }).hmSync

/-- VIS_SCREF written (R215). -/
def State.scRefWrite (s : State) (w : Word) : State :=
  if s.on VIS_SCCFG.EN then s.raise VIS_SCFLAG.CFG_REJ else s.setReg VIS_SCREF (w &&& 0xFFFFFFFF1F)

/-- VIS_SCVIEW written (R215): a view in use takes only EN, and P0 + NP stays within 48. -/
def State.scViewWrite (s : State) (n : Nat) (w : Word) : State :=
  let w := w &&& 0xFFFFFFF800
  let busy := s.on VIS_SCVIEW.EN n && (w &&& 0x7FFFFFFFFF) != (s.reg VIS_SCVIEW n &&& 0x7FFFFFFFFF)
  if busy || decide (48 < VIS_SCVIEW.P0.ext w + VIS_SCVIEW.NP.ext w) then s.raise VIS_SCFLAG.CFG_REJ
  else s.setReg VIS_SCVIEW w n

/-- VIS_SCGEO or VIS_SCDIST written (R215). -/
def State.scGeoWrite (s : State) (r : Reg) (n : Nat) (w : Word) : State :=
  if s.on VIS_SCVIEW.EN n then s.raise VIS_SCFLAG.CFG_REJ else s.setReg r w n

/-- AUTOINC of VIS_HMIDX, wrapping after the last bin (R434). -/
def State.hmAdvance (s : State) : State :=
  s.when (s.on VIS_HMIDX.AUTOINC) fun s =>
    let b := s.fld VIS_HMIDX.BIN + 1
    s.setFld VIS_HMIDX.BIN (if b < s.scBins then b else 0)

/-- HM_WRITE: VIS_HMDATA written (R208, R434). -/
def State.hmWrite (s : State) (w : Word) : State :=
  let b := s.fld VIS_HMIDX.BIN
  if s.scBins ≤ b then s.raise VIS_SCFLAG.CFG_REJ else (s.setHm b (w &&& ~~~ 0x1000000)).hmAdvance

/-- VIS_HMDATA read. -/
def State.hmRead (s : State) : State × Word :=
  let b := s.fld VIS_HMIDX.BIN
  if s.scBins ≤ b then (s, 0)
  else
    let s := s.hmCheck b
    (s.hmAdvance, SMap.get 0 s.scaler.map b)

/-- HM_FIFO_POP: VIS_HMFIFO read (Table 10-6). -/
def State.hmPop (s : State) : State × Word :=
  match s.scaler.fifo with
  | [] => (s, 0)
  | (e, line) :: rest =>
    (((s.scUpd fun c => { c with fifo := rest }).setFld VIS_HMLINE.LINE line).hmSync, e)

/-! ### Measuring (R205, R206) -/

/-- The first reference line a frame images: r of y = 0. -/
def State.refFirst (s : State) (n : Nat) (stamp : Word) : Nat := lineSub (posLine stamp) (s.fld VIS_SCDIST.DIST n)

/-- A pixel added to its cell. -/
def Cell.add (c : Cell) (dark col : Nat) : Cell :=
  { sum := c.sum + dark, count := c.count + 1
    lo := min c.lo dark
    loCols := if dark < c.lo then 2 ^ col else if dark = c.lo then Nat.lor c.loCols (2 ^ col) else c.loCols
    hi := max c.hi dark
    hiCols := if c.count = 0 ∨ c.hi < dark then 2 ^ col else if dark = c.hi then Nat.lor c.hiCols (2 ^ col) else c.hiCols }

/-- The Scaler takes processed line `y` of a frame of port `n` (R205). -/
def State.measure (s : State) (n y : Nat) (outs : List Nat) (f : VFrame) : VFrame :=
  if !s.scalerOn || !s.on VIS_SCVIEW.EN n then f
  else
    let r0 := s.refFirst n f.stamp
    let row := (r0 % 2 ^ s.scSum + y * s.fld VIS_SCDIST.LPY n / 256) / 2 ^ s.scSum
    let b := s.scBin
    let p0 := s.fld VIS_SCVIEW.P0 n
    let np := s.fld VIS_SCVIEW.NP n
    let add (cells : SMap Cell) (e : Nat × Nat) : SMap Cell :=
      let v : Int := s.sfld VIS_SCGEO.COL0 n + ((e.1 * s.fld VIS_SCGEO.SCALE n / 65536 : Nat) : Int)
      if v < 0 ∨ (4000 * np : Nat) ≤ v then cells
      else
        let bar := 4000 * p0 + v.toNat
        let key := 65536 * row + bar / 2 ^ b
        SMap.set Cell.reset cells key ((SMap.get Cell.reset cells key).add ((65535 - e.2) / 256) (v.toNat % 2 ^ b))
    { f with cells := ((List.range outs.length).zip outs).foldl add f.cells }

/-- The `k`-th set bit of a mask, counted from bit 0. -/
def nthBit (mask k : Nat) : Nat := ((List.range 16).filter fun i => mask.testBit i).getD k 0

/-- The columns a mask holds. -/
def bitCount (mask : Nat) : Nat := ((List.range 16).filter fun i => mask.testBit i).length

/-- COLX of a deviant cell: the column of its extreme pixel; among several pixels of that value the spec names none, so
a free value chooses one of them.
(DESIGN CHOICE, log entry 19.) -/
def State.pickCol (s : State) (mask : Nat) : State × Nat :=
  if bitCount mask ≤ 1 then (s, nthBit mask 0)
  else
    let d := s.draw
    (d.2, nthBit mask (d.1.toNat % bitCount mask))

/-- A cell compared with its reference (R206): none when it stays unscored. -/
def State.scoreCell (s : State) (n ref : Nat) (c : Cell) : State × Option Score :=
  let p := ref * s.fld VIS_SCVIEW.KGAIN n / 128 + s.fld VIS_SCVIEW.BASE n
  let d : Int := (p : Int) - (c.sum / c.count : Nat)
  let thr : Int := s.fld VIS_SCTHR.THR n
  if s.fld VIS_SCTHR.REF_MIN n ≤ ref ∧ thr < d then
    let k := s.pickCol c.loCols
    (k.1, some (.light k.2))
  else if d < -thr then
    let k := s.pickCol c.hiCols
    (k.1, some (.dark k.2))
  else if ref < s.fld VIS_SCTHR.REF_MIN n then (s, none)
  else (s, some .clean)

/-- The cells of one row of a published frame, in ascending bins. `first` is the row's first reference line; a cell of
`lost` is discarded in favour of the write it meets. -/
def State.scoreRow (s : State) (n row first : Nat) (cells : List (Nat × Cell)) (lost : List (Nat × Nat)) : State :=
  let held := SMap.get 0 s.scaler.rows (s.refSlot row)
  let gone (s : State) : State := forIn' cells (fun _ s => s.raise VIS_SCFLAG.REF_GONE) s
  if held = 0 then forIn' cells (fun _ s => s.raise VIS_SCFLAG.REF_LATE) s
  else if held ≠ row + 1 then
    if lineAfter ((held - 1) * 2 ^ s.scSum) first then gone s
    else forIn' cells (fun _ s => s.raise VIS_SCFLAG.REF_LATE) s
  else
    let lo := 4000 * s.fld VIS_SCVIEW.P0 n / 2 ^ s.scBin
    let hi := (4000 * (s.fld VIS_SCVIEW.P0 n + s.fld VIS_SCVIEW.NP n) - 1) / 2 ^ s.scBin
    let r := s.dramRead 4 (s.refAddr row lo) (hi + 1 - lo)
    match r.2 with
    | none => gone r.1
    | some bytes =>
      let refs := bytes.toArray
      forIn' cells (fun c s =>
        let k := s.scoreCell n ((refs.getD (c.1 - lo) 0).toNat) c.2
        match k.2 with
        | none => k.1
        | some sc => if lost.contains (first, c.1) then k.1 else k.1.hmApply n c.1 first sc) r.1

/-- A published frame is scored (R205 to R208): the cells with at least 4 pixels, of the rows whose reference lines are
all imaged, in ascending order of row and bin. -/
def State.scoreFrame (s : State) (n height : Nat) (f : VFrame) (lost : List (Nat × Nat)) : State :=
  if !s.scalerOn || !s.on VIS_SCVIEW.EN n then s
  else
    let w := 2 ^ s.scSum
    let r0 := s.refFirst n f.stamp
    let off := r0 % w
    let last := off + (height - 1) * s.fld VIS_SCDIST.LPY n / 256
    let rows := (List.range ((last + 1) / w)).filter fun k => decide (off ≤ k * w)
    forIn' rows (fun k s =>
      let first := lineMod (r0 - off + k * w)
      let cells := (f.cells.filter fun e => e.1 / 65536 == k && decide (4 ≤ e.2.count)).map fun e => (e.1 % 65536, e.2)
      s.when (cells != []) (·.scoreRow n (first / w) first cells lost)) s

end Sys2Proof.Machine
end

