-- ==== Sys2Proof/Machine/Vis.lean ====
section
/-! DEFINITION. Camera ports, triggers, inspection pipelines, frames, sensor settings and control buses
(spec/09_inspection_pipeline.md). -/

namespace Sys2Proof.Machine

/-! ### Ports and frames -/

/-- A camera port. -/
def State.vport (s : State) (n : Nat) : VPort := SMap.get VPort.reset s.vis.port n

/-- The lines a port's staging store holds. -/
def VPort.level (x : VPort) : Nat := x.frames.foldl (fun a f => a + f.staged.length) 0

/-- Set a camera port, with LEVEL and TFIFO of VIS_PORTSTAT. -/
def State.setVport (s : State) (n : Nat) (x : VPort) : State :=
  let s := { s with vis := { s.vis with port := SMap.set VPort.reset s.vis.port n x } }
  (s.setFld VIS_PORTSTAT.LEVEL x.level n).setFld VIS_PORTSTAT.TFIFO x.tfifo.length n

/-- Change a camera port. -/
def State.updVport (s : State) (n : Nat) (f : VPort → VPort) : State := s.setVport n (f (s.vport n))

/-- PSTATE: 0 disabled, 1 between frames, 2 in frame, 3 discarding. -/
def State.pstate (s : State) (n : Nat) : Nat := s.fld VIS_PORTSTAT.PSTATE n

/-- A port receives: PD6 on and EN.
(DEDUCED, log entry 216.) -/
def State.camOn (s : State) (n : Nat) : Bool := s.pdOn 6 && s.on VIS_PORTCFG.EN n && s.railOk 0

/-- The trigger position of a port (R181). -/
def State.trigPos (s : State) (n : Nat) : Word := s.posAt (s.latComp + s.fld VIS_TRIG.LEAD n)

/-! ### Pipelines (R185 to R188) -/

/-- MODE of a pipeline: 0 SINGLE, 1 MUX_FRAME, 2 MUX_STRIPE; the reserved value acts as SINGLE. -/
def State.pipeMode (s : State) (k : Nat) : Nat := s.fld VIS_PIPECFG.MODE k % 3

/-- STRIPE as it acts. -/
def State.pipeStripe (s : State) (k : Nat) : Nat :=
  let v := s.fld VIS_PIPECFG.STRIPE k
  if v = 0 ∨ 8 < v then 8 else v

/-- Which input of a pipeline configuration a port is: 1 input A, 2 input B. -/
def inputOf (w : Word) (n : Nat) : Option Nat :=
  if VIS_PIPECFG.SRC_A.ext w = n then some 1
  else if VIS_PIPECFG.MODE.ext w % 3 ≠ 0 ∧ VIS_PIPECFG.SRC_B.ext w = n then some 2
  else none

/-- The enabled pipeline that takes a port, and as which input. -/
def State.pipeOf (s : State) (n : Nat) : Option (Nat × Nat) :=
  ((List.range 4).filterMap fun k =>
    if s.on VIS_PIPECFG.EN k && !s.blkHeld (50 + k) then (inputOf (s.reg VIS_PIPECFG k) n).map fun i => (k, i) else none).head?

/-- The port of an input. -/
def State.inputPort (s : State) (k i : Nat) : Nat := if i = 1 then s.fld VIS_PIPECFG.SRC_A k else s.fld VIS_PIPECFG.SRC_B k

/-- The inputs of a pipeline. -/
def State.inputs (s : State) (k : Nat) : List Nat := if s.pipeMode k = 0 then [1] else [1, 2]

/-- The frame that a port's lines are processed for: the oldest in progress whose lines are not all processed; frames that
wait for their publication come before it. -/
def State.servable (s : State) (n : Nat) : Option VFrame :=
  (s.vport n).frames.find? fun f => decide (f.done < s.fld VIS_PORTCFG.HEIGHT n)

/-- An input has a line staged. -/
def State.hasLine (s : State) (k i : Nat) : Bool :=
  match s.servable (s.inputPort k i) with
  | some f => f.staged != []
  | none => false

/-- An input holds STRIPE lines or the last line of its frame (R188). -/
def State.stripeReady (s : State) (k i : Nat) : Bool :=
  let n := s.inputPort k i
  match s.servable n with
  | some f => decide (s.pipeStripe k ≤ f.staged.length) ||
      (f.staged != [] && decide (f.done + f.staged.length = s.fld VIS_PORTCFG.HEIGHT n))
  | none => false

/-- The input to serve after `cur` has come to a boundary or has nothing more (R187, R188): 0 idle.
(DEDUCED, log entry 133.) -/
def State.nextInput (s : State) (k cur : Nat) : Nat :=
  let other := (s.inputs k).filter fun i => i != cur
  let own := (s.inputs k).filter fun i => i == cur
  if s.pipeMode k = 2 then
    (((other.filter fun i => s.stripeReady k i) ++ own.filter (s.hasLine k) ++ other.filter (s.hasLine k)).head?).getD 0
  else
    ((other ++ own).filter fun i => (s.servable (s.inputPort k i)).isSome).head?.getD 0

/-- Take the next decision of which input a pipeline serves.
(DEDUCED, log entry 133.) -/
def State.serveInput (s : State) (k cur : Nat) : State :=
  let s := s.setFld VIS_PIPESTAT.SERVE (s.nextInput k cur) k
  { s with vis := { s.vis with stripe := SMap.set 0 s.vis.stripe k 0 } }

/-- An idle pipeline looks for an input. -/
def State.serveIdle (s : State) (n : Nat) : State :=
  match s.pipeOf n with
  | some (k, _) => s.when (s.fld VIS_PIPESTAT.SERVE k == 0) (·.serveInput k 0)
  | none => s

/-! ### Drops (R189) -/

/-- A drop is recorded: CAUSE, FSEQ and the stamp if DROP was clear, the flag and its Tally. -/
def State.recordDrop (s : State) (n cause fseq : Nat) (stamp : Word) : State :=
  let clear := !s.on VIS_PFLAG.DROP n
  let s := s.when clear fun s =>
    ((s.setFld VIS_DROPINFO.CAUSE cause n).setFld VIS_DROPINFO.FSEQ fseq n).setFld VIS_DROPPOS.STAMP stamp.toNat n
  s.raise VIS_PFLAG.DROP n

/-- The pipeline decides again when the frame it serves is gone. -/
def State.afterDrop (s : State) (n : Nat) (head : Bool) : State :=
  match s.pipeOf n with
  | some (k, i) => s.when (head && s.fld VIS_PIPESTAT.SERVE k == i) (·.serveInput k i)
  | none => s

/-- A frame in progress is dropped whole: its lines, statistics and Scaler cells go; while it is being received the rest
of it is discarded. -/
def State.dropFrame (s : State) (n cause : Nat) (f : VFrame) : State :=
  let head := (s.vport n).frames.head? == some f
  let s := s.updVport n fun x => { x with frames := x.frames.filter fun g => g.fseq != f.fseq }
  let s := s.when (!f.ended) (·.setFld VIS_PORTSTAT.PSTATE 3 n)
  (s.recordDrop n cause f.fseq f.stamp).afterDrop n head

/-- The frame being received.
(DEDUCED, log entry 128.) -/
def State.rxFrame (s : State) (n : Nat) : Option VFrame :=
  if s.pstate n = 2 then (s.vport n).frames.getLast? else none

/-- The frame being received is dropped; one that no pipeline takes is checked no further. -/
def State.dropRx (s : State) (n cause : Nat) : State :=
  match s.rxFrame n with
  | some f => s.dropFrame n cause f
  | none => s.updVport n fun x => { x with check := none }

/-- Every frame in progress on a port is dropped with cause 0x6. -/
def State.dropFrames (s : State) (n : Nat) : State := forIn' (s.vport n).frames (fun f s => s.dropFrame n 6 f) s

/-- A port's frames in progress are dropped and its trigger FIFO is emptied (R183). -/
def State.dropAll (s : State) (n : Nat) : State :=
  (s.dropFrames n).updVport n fun x => { x with tfifo := [], check := none }

/-! ### Control buses (R197, R199, R200) -/

/-- A control bus. -/
def State.cci (s : State) (b : Nat) : CciBus := SMap.get CciBus.reset s.vis.cci b

/-- Set a control bus, with SENS_BUSY of its two ports. -/
def State.setCci (s : State) (b : Nat) (x : CciBus) : State :=
  let s := { s with vis := { s.vis with cci := SMap.set CciBus.reset s.vis.cci b x } }
  let busy (n : Nat) : Nat := bit (x.queue.any fun j => j.port == some n)
  (s.setFld VIS_PORTSTAT.SENS_BUSY (busy (2 * b)) (2 * b)).setFld VIS_PORTSTAT.SENS_BUSY (busy (2 * b + 1)) (2 * b + 1)

/-- The bus is on. -/
def State.cciOn (s : State) (b : Nat) : Bool :=
  s.pdOn 6 && (s.fld VIS_CCICFG.MODE b == 1 || s.fld VIS_CCICFG.MODE b == 2)

/-- A free bus starts the next transfer that waits.
(DEDUCED, log entry 132.) -/
def State.cciKick (s : State) (b : Nat) : State :=
  let x := s.cci b
  if x.busy || !s.cciOn b then s
  else
    match x.queue with
    | { left := t :: _, .. } :: _ =>
      (s.setCci b { x with busy := true }).emit (.cci b (!t.rd) t.w16 t.dev t.addr (if t.w16 then t.data else t.data % 256))
    | _ => s

/-- Something to send joins the bus's queue.
(DEDUCED, log entry 132.) -/
def State.cciPut (s : State) (b : Nat) (j : CciJob) : State :=
  let x := s.cci b
  (s.setCci b { x with queue := x.queue ++ [j] }).cciKick b

/-- CCI_CMD: VIS_CCICMD written (R200). With GO = 1 one transfer is issued, unless a command of the bus is still busy or
the bus is off.
(DEDUCED, log entry 132.) -/
def State.cciCmd (s : State) (b : Nat) (w : Word) : State :=
  let s := (((s.setFld VIS_CCICMD.RD (VIS_CCICMD.RD.ext w) b).setFld VIS_CCICMD.W16 (VIS_CCICMD.W16.ext w) b).setFld
    VIS_CCICMD.DEV (VIS_CCICMD.DEV.ext w) b).setFld VIS_CCICMD.ADDR (VIS_CCICMD.ADDR.ext w) b
  if VIS_CCICMD.GO.ext w = 0 ∨ !s.cciOn b ∨ s.fld VIS_CCIDATA.STAT b = 1 then s
  else
    let t : CciX := { rd := s.on VIS_CCICMD.RD b, w16 := s.on VIS_CCICMD.W16 b, dev := s.fld VIS_CCICMD.DEV b
                      addr := s.fld VIS_CCICMD.ADDR b, data := s.fld VIS_CCIDATA.WDATA b }
    (s.setFld VIS_CCIDATA.STAT 1 b).cciPut b { port := none, gen := 0, late := false, left := [t] }

/-- An activation is late (R197): SENS_LATE, and the frames that carry its generation are unsure (R198). -/
def State.sensLate (s : State) (n gen : Nat) : State :=
  (s.updVport n fun x =>
    { x with hist := x.hist.map (fun h => if h.1 = gen then (h.1, true) else h)
             frames := x.frames.map fun f => if f.gen = gen then { f with unsure := true } else f }).raise
    VIS_PFLAG.SENS_LATE n

/-- A list in a bus's queue becomes late. -/
def State.lateJobs (s : State) (b n : Nat) : State :=
  let x := s.cci b
  let due := x.queue.filter fun j => j.port == some n && !j.late
  let s := s.setCci b { x with queue := x.queue.map fun j => if j.port = some n then { j with late := true } else j }
  forIn' due (fun j s => s.sensLate n j.gen) s

/-- CCI_TRANSFER_DONE: the transfer on a bus completes (R197, R200). -/
def State.cciDone (s : State) (b : Nat) (ack : Bool) (data : Nat) : State :=
  let x := s.cci b
  match x.busy, x.queue with
  | true, j :: rest =>
    let t := j.left.head?
    let left := j.left.drop 1
    let nak := !ack && j.port.isSome
    let j' := { j with left := left, late := j.late || nak }
    let s := s.setCci b { queue := if left = [] then rest else j' :: rest, busy := false }
    let s := match j.port with
      | none =>
        let rd := match t with | some t => t.rd && ack | none => false
        let v := match t with | some t => if t.w16 then data else data % 256 | none => 0
        (s.when rd (·.setFld VIS_CCIDATA.RDATA v b)).setFld VIS_CCIDATA.STAT (if ack then 2 else 3) b
      | some n =>
        let s := s.when nak (·.raise VIS_PFLAG.SENS_NAK n)
        s.when (nak && !j.late) (·.sensLate n j.gen)
    s.cciKick b
  | _, _ => s

/-! ### Frame start (R183, R196 to R198) -/

/-- The frame-start set in force. -/
def State.frameSet (s : State) (n : Nat) : FrameSet :=
  { expo := s.reg VIS_EXPO n, sens := (List.range 16).map fun j => s.reg VIS_SENSWR n j, proc := s.reg VIS_PROC n
    hroix := s.reg VIS_HROIX n, hroiy := s.reg VIS_HROIY n, arch := s.reg VIS_ARCH n, archth := s.reg VIS_ARCHTH n }

/-- The list that an activation sends (R197). -/
def State.sensList (s : State) (n : Nat) (f : FrameSet) : List CciX :=
  (f.sens.take (min 16 (VIS_EXPO.NWR.ext f.expo))).map fun w =>
    { rd := false, w16 := VIS_SENSWR.W16.ext w == 1, dev := s.fld VIS_EXPO.DEV n, addr := VIS_SENSWR.ADDR.ext w
      data := VIS_SENSWR.DATA.ext w }

/-- ACTIVATION: the values in force become active, AGEN advances, the list goes out (R196, R197).
(DEDUCED, log entry 129.) -/
def State.activate (s : State) (n : Nat) : State :=
  if !(s.vport n).dirty then s
  else
    let f := s.frameSet n
    let s := s.updVport n fun x => { x with dirty := false, active := f }
    let s := s.addFld VIS_GEN.AGEN 1 n
    let l := s.sensList n f
    s.when (l != []) (·.cciPut (n / 2) { port := some n, gen := s.fld VIS_GEN.AGEN n, late := false, left := l })

/-- The stamp of a frame start, whether it is untriggered, and LITE_FAULT (R183, R184). Every frame start takes the oldest
entry of the trigger FIFO, in free run too. -/
def State.frameStamp (s : State) (n : Nat) : State × Word × Bool × Bool :=
  if s.fld VIS_TRIG.MODE n = 2 then
    (s.updVport n fun x => { x with tfifo := x.tfifo.drop 1 }, s.trigPos n, false, false)
  else
    match (s.vport n).tfifo with
    | (p, lf) :: rest => (s.updVport n fun x => { x with tfifo := rest }, p, false, lf)
    | [] => (s.raise VIS_PFLAG.UNTRIG n, s.trigPos n, true, false)

/-- The A values after a frame start: the newest first, eight kept; an activation at this start is not late yet. -/
def State.pushGen (s : State) (n : Nat) (act : Bool) : State :=
  let g := s.fld VIS_GEN.AGEN n
  s.updVport n fun x =>
    let late := match x.hist with | h :: _ => h.2 && !act | [] => false
    { x with hist := ((g, late) :: x.hist).take 8 }

/-- The ring has no free slot for the frame that starts (Table 09-4, cause 0x2).
(DEDUCED, log entry 127.) -/
def State.ringFull (s : State) (n : Nat) : Bool :=
  decide (2 ^ min 12 (s.fld VIS_FRING.LOG2 n) ≤ (s.fld VIS_FRWR.IDX n + 2 ^ 16 - s.fld VIS_FRRD.IDX n) % 2 ^ 16)

/-- The frame that a frame start opens. -/
def State.newFrame (s : State) (n : Nat) (stamp : Word) (untrig liteFault : Bool) : VFrame :=
  let x := s.vport n
  let h := x.hist.getD (VIS_EXPO.LAT_FR.ext x.active.expo) (0, false)
  { fseq := s.fld VIS_PORTSTAT.FSEQ n, idx := s.fld VIS_FRWR.IDX n, stamp := stamp, untrig := untrig, liteFault := liteFault, sec := s.timeS
    ns := s.timeNs, gen := h.1, pgen := s.fld VIS_GEN.AGEN n, unsure := h.2, set := x.active, rx := 0, ended := false
    staged := [], done := 0, crc := BitVec.allOnes 32, hist := [], zones := [], cells := [] }

/-- A packet's header (Table 09-2): 0 sound, 1 corrected, 2 uncorrectable. Answers whether the packet stands. -/
def State.hdrCheck (s : State) (n hdr : Nat) : State × Bool :=
  if hdr = 2 then ((s.raise VIS_PFLAG.PKT_ERR n).dropRx n 3, false)
  else (s.when (hdr == 1) (·.raise VIS_PFLAG.HDR_CORR n), true)

/-- A frame opens, or is dropped at its start (causes 0x6 and 0x2). A port that no pipeline takes goes on checking its
frame (R185). -/
def State.openFrame (s : State) (n : Nat) (f : VFrame) : State :=
  if (s.pipeOf n).isNone then
    ((s.setFld VIS_PORTSTAT.PSTATE 3 n).updVport n fun x => { x with check := some 0 }).recordDrop n 6 f.fseq f.stamp
  else if s.ringFull n then (s.setFld VIS_PORTSTAT.PSTATE 3 n).recordDrop n 2 f.fseq f.stamp
  else
    let s := (s.updVport n fun x => { x with frames := x.frames ++ [f] }).setFld VIS_PORTSTAT.PSTATE 2 n
    match s.pipeOf n with
    | some (k, _) => s.when (s.pipeMode k != 2) (·.serveIdle n)
    | none => s

/-- FRAME_START on a virtual channel.
(DEDUCED, log entry 128.)
(DEDUCED, log entry 183.) -/
def State.frameStart (s : State) (n vc hdr : Nat) : State :=
  if !s.camOn n then s
  else
    let h := s.hdrCheck n hdr
    let s := h.1
    if !h.2 then s
    else if vc ≠ s.fld VIS_PORTCFG.VC n then s.raise VIS_PFLAG.VC_DROP n
    else
      let s := s.when (s.pstate n == 2 || (s.vport n).check.isSome) fun s => (s.raise VIS_PFLAG.FRAME_ERR n).dropRx n 4
      let s := s.addFld VIS_PORTSTAT.FSEQ 1 n
      let t := s.frameStamp n
      let s := t.1.lateJobs (n / 2) n
      let act := (s.vport n).dirty
      let s := (s.activate n).pushGen n act
      let f := s.newFrame n t.2.1 t.2.2.1 t.2.2.2
      (s.setFld VIS_GEN.LASTGEN f.gen n).openFrame n f

/-! ### Lines and frame end (R178, R180, R186) -/

/-- Bits per pixel of a data type (R178). -/
def pixBits (dt : Nat) : Nat := match dt with | 0x2A => 8 | 0x2B => 10 | 0x2C => 12 | 0x2D => 14 | _ => 0

/-- A line that breaks Table 09-2: its length is not WIDTH, or it comes after HEIGHT lines. -/
def State.badLine (s : State) (n rx : Nat) (pixels : List Nat) : Bool :=
  pixels.length != s.fld VIS_PORTCFG.WIDTH n || decide (s.fld VIS_PORTCFG.HEIGHT n ≤ rx)

/-- A line of the frame being received enters the staging store (R180, R186); one of a frame that no pipeline takes is
only checked. -/
def State.takeLine (s : State) (n : Nat) (pixels : List Nat) : State :=
  match s.rxFrame n with
  | none =>
    match (s.vport n).check with
    | none => s.when (s.pstate n == 1) (·.raise VIS_PFLAG.FRAME_ERR n)
    | some k =>
      if s.badLine n k pixels then (s.raise VIS_PFLAG.FRAME_ERR n).updVport n fun x => { x with check := none }
      else s.updVport n fun x => { x with check := some (k + 1) }
  | some f =>
    if s.badLine n f.rx pixels then
      (s.raise VIS_PFLAG.FRAME_ERR n).dropFrame n 4 f
    else if 8 ≤ (s.vport n).level then s.dropFrame n 1 f
    else
      (s.updVport n fun x =>
        { x with frames := x.frames.map fun g =>
            if g.fseq = f.fseq then { g with rx := g.rx + 1, staged := g.staged ++ [pixels] } else g }).serveIdle n

/-- LINE_PACKET: a long packet of a data type on a virtual channel, with its header check and payload CRC. -/
def State.linePacket (s : State) (n vc dt hdr : Nat) (crcOk : Bool) (pixels : List Nat) : State :=
  if !s.camOn n then s
  else
    let h := s.hdrCheck n hdr
    let s := h.1
    if !h.2 then s
    else if vc ≠ s.fld VIS_PORTCFG.VC n ∨ dt ≠ s.fld VIS_PORTCFG.DT n then s.raise VIS_PFLAG.VC_DROP n
    else if !crcOk then (s.raise VIS_PFLAG.PKT_ERR n).dropRx n 3
    else s.takeLine n pixels

/-- FRAME_END: the frame is whole after HEIGHT lines, otherwise dropped. -/
def State.frameEnd (s : State) (n vc hdr : Nat) : State :=
  if !s.camOn n then s
  else
    let h := s.hdrCheck n hdr
    let s := h.1
    if !h.2 then s
    else if vc ≠ s.fld VIS_PORTCFG.VC n then s.raise VIS_PFLAG.VC_DROP n
    else if s.pstate n = 3 then
      let short := (s.vport n).check.any fun k => k != s.fld VIS_PORTCFG.HEIGHT n
      ((s.when short (·.raise VIS_PFLAG.FRAME_ERR n)).updVport n fun x => { x with check := none }).setFld
        VIS_PORTSTAT.PSTATE 1 n
    else
      match s.rxFrame n with
      | none => s.raise VIS_PFLAG.FRAME_ERR n
      | some f =>
        let s := if f.rx ≠ s.fld VIS_PORTCFG.HEIGHT n then (s.raise VIS_PFLAG.FRAME_ERR n).dropFrame n 4 f
          else s.updVport n fun x =>
            { x with frames := x.frames.map fun g => if g.fseq = f.fseq then { g with ended := true } else g }
        s.setFld VIS_PORTSTAT.PSTATE 1 n

/-- LANE_ERR: a start-of-transmission sync error or a failed deskew; the packet is discarded. -/
def State.laneErr (s : State) (n : Nat) : State := s.when (s.camOn n) (·.raise VIS_PFLAG.LANE_ERR n)

/-! ### Triggers (R181 to R184) -/

/-- TRIGGER_CROSS: the trigger position crosses the target, which does not lie behind it, `cycles` CK_CORE cycles after the
port's last crossing.
(DEDUCED, log entry 213.) -/
def State.triggerCross (s : State) (n cycles : Nat) : State :=
  if !s.pdOn 6 ∨ s.fld VIS_TRIG.MODE n ≠ 1 ∨ !s.comesTo (s.fld VIS_TRIG.LEAD n) (s.reg VIS_TRIGPOS n) then s
  else
    let x := s.vport n
    let since := x.sincePulse.map (· + cycles)
    let target := s.reg VIS_TRIGPOS n
    let soon := match since with | some c => decide (c < s.fld VIS_TRIGTIME.MINGAP n * 1200) | none => false
    let s :=
      if soon || decide (4 ≤ x.tfifo.length) then (s.updVport n fun x => { x with sincePulse := since }).raise VIS_PFLAG.TRIG_SKIP n
      else
        let lite := s.fld VIS_TRIG.LITE n
        let lf := s.liteFaulty lite
        let s := s.updVport n fun x => { x with tfifo := x.tfifo ++ [(target, lf)], sincePulse := some 0, pulse := true }
        let s := s.emit (.trigPulse n (!s.on VIS_TRIG.POL n))
        forTo 16 (fun c s => s.when (lite.testBit c) (·.strobeReq c 2 n)) s
    s.setReg VIS_TRIGPOS (target + Word.of (max 0x10000 (s.reg VIS_TRIGPITCH n).toNat)) n

/-- TRIGGER_PULSE_END: WIDTH µs have passed. -/
def State.pulseEnd (s : State) (n : Nat) : State :=
  if (s.vport n).pulse then (s.updVport n fun x => { x with pulse := false }).emit (.trigPulse n (s.on VIS_TRIG.POL n)) else s

/-! ### Processing (R190, R191) -/

/-- A processed pixel. -/
def procPixel (bits black gain v : Nat) : Nat :=
  let t : Int := ((v * 2 ^ (16 - bits) : Nat) - (black : Int)) * gain
  (max 0 (min 65535 (t / 4096))).toNat

/-- The zone of a coordinate in a grid of `zones` over `size`. -/
def zoneOf (size zones v : Nat) : Nat := if size / zones = 0 then zones - 1 else min (v / (size / zones)) (zones - 1)

/-- The histogram after a pixel: bins saturate at 32 bits. -/
def histAdd (h : SMap Nat) (out : Nat) : SMap Nat :=
  let b := out / 256
  SMap.set 0 h b (min (2 ^ 32 - 1) (SMap.get 0 h b + 1))

/-- The statistics after line `y` (R191). -/
def VFrame.stats (f : VFrame) (width height y : Nat) (outs : List Nat) : VFrame :=
  let zx := VIS_PROC.ZX.ext f.set.proc + 1
  let zy := VIS_PROC.ZY.ext f.set.proc + 1
  let inY := decide (VIS_HROIY.Y0.ext f.set.hroiy ≤ y) && decide (y ≤ VIS_HROIY.Y1.ext f.set.hroiy)
  let x0 := VIS_HROIX.X0.ext f.set.hroix
  let x1 := VIS_HROIX.X1.ext f.set.hroix
  let px := (List.range outs.length).zip outs
  { f with
    hist := if inY then px.foldl (fun h e => if x0 ≤ e.1 ∧ e.1 ≤ x1 then histAdd h e.2 else h) f.hist else f.hist
    zones := px.foldl (fun z e =>
      let k := 16 * zoneOf height zy y + zoneOf width zx e.1
      SMap.set 0 z k (SMap.get 0 z k + e.2)) f.zones }

/-- The byte address of the slot of a frame of a port: of the ring index at its start (R192).
(DEDUCED, log entry 127.) -/
def State.frameAddr (s : State) (n : Nat) (f : VFrame) : Nat :=
  let size := s.fld VIS_FRSLOT.SIZE n
  s.fld VIS_FRING.BASE n * 4096 + f.idx % 2 ^ min 12 (s.fld VIS_FRING.LOG2 n) * size * 4096

/-- A line of a frame processed into DRAM, the statistics and the Scaler (R190, R191, R205). -/
def State.processLine (s : State) (n : Nat) (f : VFrame) (pixels : List Nat) : State :=
  let w := s.fld VIS_PORTCFG.WIDTH n
  let bits := pixBits (s.fld VIS_PORTCFG.DT n)
  let black := VIS_PROC.BLACK.ext f.set.proc
  let gains := SMap.range s.vis.ffDef s.vis.ff (8192 * n) pixels.length
  let outs := (pixels.zip gains).map fun e => procPixel bits black e.2 e.1
  let bytes := (outs.map (bytesBE 2)).flatten
  let y := f.done
  let g := f.stats w (s.fld VIS_PORTCFG.HEIGHT n) y outs
  let g := s.measure n y outs { g with done := y + 1, staged := f.staged.drop 1, crc := bytes.foldl crc32Byte f.crc }
  let s := (s.dramWrite 2 (s.frameAddr n f + 1600 + 2 * y * w) bytes).1
  s.updVport n fun x => { x with frames := x.frames.map fun h => if h.fseq = f.fseq then g else h }

/-- After a line of input `i`, the last of its frame or not: at a stripe boundary or a frame's last line the pipeline
decides again. -/
def State.afterLine (s : State) (k i : Nat) (past : Bool) : State :=
  let c := SMap.get 0 s.vis.stripe k + 1
  let s := { s with vis := { s.vis with stripe := SMap.set 0 s.vis.stripe k c } }
  s.when (past || (s.pipeMode k == 2 && decide (s.pipeStripe k ≤ c))) (·.serveInput k i)

/-- PIPE_LINE: a pipeline takes the next staged line of the input it serves; `err` is the store's report: 0 sound,
1 corrected, 2 uncorrectable (cause 0x5). -/
def State.pipeLine (s : State) (k err : Nat) : State :=
  let i := s.fld VIS_PIPESTAT.SERVE k
  if !s.pdOn 6 ∨ s.blkHeld (50 + k) ∨ !s.on VIS_PIPECFG.EN k ∨ i = 0 then s
  else
    let n := s.inputPort k i
    match s.servable n with
    | none => s
    | some f =>
      match f.staged with
      | [] => s
      | px :: _ =>
        if err = 2 then (s.raise VIS_KFLAG.STORE_ECC k).dropFrame n 5 f
        else ((s.when (err == 1) (·.raise VIS_KFLAG.STORE_CORR k)).processLine n f px).afterLine k i
          (decide (s.fld VIS_PORTCFG.HEIGHT n ≤ f.done + 1))

/-! ### Publishing (R192, R193, R195) -/

/-- The pixels of a zone. -/
def zoneCount (size zones i : Nat) : Nat :=
  if i = zones - 1 then size - i * (size / zones) else size / zones

/-- The zone means of a slot; the mean of a zone without pixels is not stated: a free value.
(DESIGN CHOICE, log entry 20.) -/
def State.zoneMeans (s : State) (n : Nat) (f : VFrame) : State × List Byte :=
  let w := s.fld VIS_PORTCFG.WIDTH n
  let h := s.fld VIS_PORTCFG.HEIGHT n
  let zx := VIS_PROC.ZX.ext f.set.proc + 1
  let zy := VIS_PROC.ZY.ext f.set.proc + 1
  (List.range 256).foldl (fun (a : State × List Byte) k =>
    let r := k / 16
    let i := k % 16
    if zx ≤ i ∨ zy ≤ r then (a.1, a.2 ++ [0, 0])
    else
      let c := zoneCount w zx i * zoneCount h zy r
      if c = 0 then
        let d := a.1.draw
        (d.2, a.2 ++ bytesBE 2 (d.1.toNat % 65536))
      else (a.1, a.2 ++ bytesBE 2 (SMap.get 0 f.zones k / c % 65536))) (s, [])

/-- Header words 0 to 6 (Table 09-6). -/
def State.frameHeader (s : State) (n k : Nat) (f : VFrame) : List (BitVec 64) :=
  [BitVec.ofNat 64 (f.fseq * 2 ^ 48 + n * 2 ^ 45 + k * 2 ^ 43 + bit f.untrig * 2 ^ 42 + bit f.unsure * 2 ^ 41 +
     bit f.liteFault * 2 ^ 40 + f.stamp.toNat),
   BitVec.ofNat 64 (f.gen * 2 ^ 48 + f.pgen * 2 ^ 32 + s.fld VIS_PORTCFG.WIDTH n * 2 ^ 16 + s.fld VIS_PORTCFG.HEIGHT n),
   BitVec.ofNat 64 (f.sec * 2 ^ 16),
   BitVec.ofNat 64 (f.ns * 2 ^ 32 + s.fld VIS_PORTCFG.DT n * 2 ^ 24),
   BitVec.ofNat 64 ((~~~ f.crc).toNat * 2 ^ 32), 0, 0]

/-- Archive line of a row of pixel bytes: 200 dot words (R195).
(DEDUCED, log entry 131.) -/
def archLine (f : VFrame) (width : Nat) (row : List Byte) : List Word :=
  let px := row.toArray
  let x0 := VIS_ARCH.X0.ext f.set.arch
  let step := if VIS_ARCH.STEP.ext f.set.arch = 1 then 2 else 1
  let t1 := VIS_ARCHTH.T1.ext f.set.archth
  let t2 := VIS_ARCHTH.T2.ext f.set.archth
  let t3 := VIS_ARCHTH.T3.ext f.set.archth
  packLine fun i =>
    let x := x0 + step * i
    if width ≤ x then 0
    else
      let b := (px.getD (2 * x) 0).toNat
      bit (decide (b < t1)) + bit (decide (b < t2)) + bit (decide (b < t3))

/-- A published frame goes to its encode stream (R195): skipped while the stream still codes the port's previous frame or
where the slot reads poisoned. -/
def State.archive (s : State) (n : Nat) (f : VFrame) : State :=
  let e := VIS_ARCH.STREAM.ext f.set.arch
  if VIS_ARCH.EN.ext f.set.arch = 0 ∨ !s.on CODEC_ENCCFG.ENABLE e ∨ s.fld CODEC_ENCCFG.SRC e ≠ 0 then s
  else if (s.vport n).arch.isSome then s.raise VIS_PFLAG.ARCH_SKIP n
  else
    let w := s.fld VIS_PORTCFG.WIDTH n
    let h := s.fld VIS_PORTCFG.HEIGHT n
    let r := s.dramRead 4 (s.frameAddr n f + 1600) (2 * w * h)
    match r.2 with
    | none => r.1.raise VIS_PFLAG.ARCH_SKIP n
    | some bytes =>
      let lines := (List.range h).map fun y => archLine f w ((bytes.drop (2 * w * y)).take (2 * w))
      let pad := List.replicate ((8 - h % 8) % 8) (List.replicate 200 0)
      let s := (r.1.bandNext e).encFeed e 0 (lines ++ pad)
      (s.updVport n fun x => { x with arch := some e }).setFld VIS_PORTSTAT.ARCH_BUSY 1 n

/-- The port of the pipeline that a published frame came through. -/
def State.pubPipe (s : State) (n : Nat) : Nat := match s.pipeOf n with | some (k, _) => k | none => 0

/-- PUBLISHED: a port's oldest frame, whole and processed, is published (R193). `ecc` names the health-map bins whose
entries have come to an uncorrectable error, `lost` the cells (first reference line of the row, bin) that meet a write of
VIS_HMDATA in their cycle (R208).
(DEDUCED, log entry 127; DEDUCED, log entry 134.) -/
def State.publish (s : State) (n : Nat) (ecc : List Nat) (lost : List (Nat × Nat)) : State :=
  match s.pdOn 6, (s.vport n).frames with
  | true, f :: rest =>
    if !f.ended ∨ f.done < s.fld VIS_PORTCFG.HEIGHT n then s
    else
      let a := s.frameAddr n f
      let z := s.zoneMeans n f
      let hist := ((List.range 256).map fun b => bytesBE 4 (SMap.get 0 f.hist b)).flatten
      let s := (z.1.dramWrite 2 (a + 64) (hist ++ z.2)).1
      let s := (s.dramWrite 2 a ((s.frameHeader n (s.pubPipe n) f).map bytes64).flatten).1
      let s := (s.dramWrite 2 (a + 56) (bytes64 0x8000000000000000)).1
      let s := s.updVport n fun x => { x with frames := rest }
      let s := s.archive n f
      let s := (s.addFld VIS_FRWR.IDX 1 n).raise VIS_PFLAG.PUBLISHED n
      ((s.loopNow).hmDamage ecc).scoreFrame n (s.fld VIS_PORTCFG.HEIGHT n) f lost
  | _, _ => s

/-! ### Configuration (R179, R185, R190) -/

/-- The multiple that WIDTH must have for a data type. -/
def widthUnit (dt : Nat) : Nat := match dt with | 0x2B => 4 | 0x2D => 4 | 0x2C => 2 | _ => 1

/-- EN = 1 with these fields is accepted (R179).
(DEDUCED, log entry 130.) -/
def State.portCfgOk (s : State) (n : Nat) (w : Word) : Bool :=
  let dt := VIS_PORTCFG.DT.ext w
  let wd := VIS_PORTCFG.WIDTH.ext w
  let h := VIS_PORTCFG.HEIGHT.ext w
  pixBits dt != 0 && decide (0 < wd) && decide (wd ≤ 8192) && decide (wd % widthUnit dt = 0) && decide (0 < h) &&
    s.on VIS_FRING.LOG2 n && decide ((1600 + 2 * wd * h + 4095) / 4096 ≤ s.fld VIS_FRSLOT.SIZE n)

/-- PORT_ENABLE and every other write of VIS_PORTCFG (R179).
(DEDUCED, log entry 129; DEDUCED, log entry 130.) -/
def State.portCfgWrite (s : State) (n : Nat) (w : Word) : State :=
  let was := s.on VIS_PORTCFG.EN n
  let en := VIS_PORTCFG.EN.ext w == 1
  let other := (w &&& 0x7FFFFFFFFF) != (s.reg VIS_PORTCFG n &&& 0x7FFFFFFFFF)
  if was then
    if other then s.raise VIS_PFLAG.CFG_REJ n
    else if en then s
    else ((s.dropAll n).setReg VIS_PORTCFG w n).setFld VIS_PORTSTAT.PSTATE 0 n
  else if !en then s.setReg VIS_PORTCFG w n
  else if !s.portCfgOk n w then s.raise VIS_PFLAG.CFG_REJ n
  else
    let s := ((s.setReg VIS_PORTCFG w n).setFld VIS_PORTSTAT.PSTATE 1 n).setFld VIS_PORTSTAT.FSEQ 0xFFFF n
    let g := s.fld VIS_GEN.AGEN n
    let f := s.frameSet n
    s.updVport n fun x =>
      let late := match x.hist with | h :: _ => h.1 == g && h.2 | [] => false
      { x with hist := List.replicate 8 (g, late), active := f }

/-- VIS_FRING or VIS_FRSLOT written: accepted only while the port's EN = 0 (R179). -/
def State.fringWrite (s : State) (r : Reg) (n : Nat) (w : Word) : State :=
  if s.on VIS_PORTCFG.EN n then s.raise VIS_PFLAG.CFG_REJ n
  else s.setReg r (if r = VIS_FRING then w &&& 0xFFFFFFFF0F else w &&& 0xFFFFF00000) n

/-- The ports of a pipeline's inputs. -/
def State.pipePorts (s : State) (k : Nat) : List Nat := (s.inputs k).map (s.inputPort k)

/-- The pipeline stops: the frames in progress on its inputs are dropped and it is idle.
(DEDUCED, log entry 135.) -/
def State.pipeStop (s : State) (k : Nat) : State :=
  (forIn' (s.pipePorts k) (fun n s => s.dropFrames n) s).setFld VIS_PIPESTAT.SERVE 0 k

/-- The input ports of a configuration word. -/
def inputPorts (w : Word) : List Nat :=
  VIS_PIPECFG.SRC_A.ext w :: (if VIS_PIPECFG.MODE.ext w % 3 = 0 then [] else [VIS_PIPECFG.SRC_B.ext w])

/-- A VIS_PIPECFG value breaks R185: equal inputs in a MUX mode, or, when it enables, a port that another enabled pipeline
takes. -/
def State.pipeBad (s : State) (k : Nat) (w : Word) : Bool :=
  (VIS_PIPECFG.MODE.ext w % 3 != 0 && VIS_PIPECFG.SRC_A.ext w == VIS_PIPECFG.SRC_B.ext w) ||
  (VIS_PIPECFG.EN.ext w == 1 && (List.range 4).any fun j =>
    j != k && s.on VIS_PIPECFG.EN j && (inputPorts (s.reg VIS_PIPECFG j)).any fun n => (inputPorts w).contains n)

/-- PIPE_CFG_WRITE (R185). Clearing EN drops the frames in progress on the inputs with cause 0x6.
(DEDUCED, log entry 135.) -/
def State.pipeCfgWrite (s : State) (k : Nat) (w : Word) : State :=
  let w := w &&& 0xFFF8000000
  let was := s.on VIS_PIPECFG.EN k
  if (was && VIS_PIPECFG.EN.ext w == 1) || s.pipeBad k w then s.raise VIS_KFLAG.CFG_REJ k
  else if was then (s.pipeStop k).setReg VIS_PIPECFG w k
  else s.setReg VIS_PIPECFG w k

/-- FF_WRITE: VIS_FFDATA written (R190, R434). -/
def State.ffWrite (s : State) (n : Nat) (w : Word) : State :=
  let i := s.fld VIS_FFIDX.WORD n
  let s :=
    if s.on VIS_PORTCFG.EN n then s.raise VIS_PFLAG.FF_REJ n
    else
      let m := SMap.set s.vis.ffDef s.vis.ff (8192 * n + 2 * i) (VIS_FFDATA.GAIN0.ext w)
      { s with vis := { s.vis with ff := SMap.set s.vis.ffDef m (8192 * n + 2 * i + 1) (VIS_FFDATA.GAIN1.ext w) } }
  s.when (s.on VIS_FFIDX.AUTOINC n) (·.addFld VIS_FFIDX.WORD 1 n)

/-- VIS_FFDATA read. -/
def State.ffRead (s : State) (n : Nat) : State × Word :=
  let i := s.fld VIS_FFIDX.WORD n
  let g (c : Nat) : Nat := SMap.get s.vis.ffDef s.vis.ff (8192 * n + c)
  (s.when (s.on VIS_FFIDX.AUTOINC n) (·.addFld VIS_FFIDX.WORD 1 n), Word.of (g (2 * i) * 2 ^ 16 + g (2 * i + 1)))

/-- A pipeline enters block reset: the frames in progress of the ports that it takes go, their staging stores and trigger
FIFOs empty (R183, R201), and VIS_PIPESTAT returns to idle; a port in a frame discards the rest of it. A pipeline that is
not enabled takes no port. -/
def State.pipeReset (s : State) (k : Nat) : State :=
  (forIn' (if s.on VIS_PIPECFG.EN k then s.pipePorts k else []) (fun n s => s.dropAll n) s).setFld VIS_PIPESTAT.SERVE 0 k

end Sys2Proof.Machine
end

