-- ==== Sys2Proof/Machine/Reset.lean ====
section
/-! DEFINITION. Block reset and the isolation wrapper (spec/15_reset_startup.md, R307 to R310), what each block's own
chapter gives for its reset, and the release under R309; the fault log queue (R349). -/

namespace Sys2Proof.Machine

/-! ### The fault log queue (R349) -/

/-- WARD_FLOG.QLEVEL shows the queue. -/
def State.flogSync (s : State) : State := s.setFld WARD_FLOG.QLEVEL s.ward.flogQ.length

/-- A fault log entry is queued; with eight queued it is lost and FLOG_OVF is set.
(DEDUCED, log entry 101.) -/
def State.flogPush (s : State) (kind detail : Nat) : State :=
  if 8 ≤ s.ward.flogQ.length then s.raise WARD_FLAG.FLOG_OVF
  else
    let e : FlogEnt := { kind := kind, detail := detail, hold := s.reg SYS_HOLD, stamp := s.posOut, sec := s.timeS }
    ({ s with ward := { s.ward with flogQ := s.ward.flogQ ++ [e] } } : State).flogSync

/-! ### What a block reset does (R307; each block's chapter) -/

/-- Return a range of registers to their reset values, but for some of them. -/
def State.resetRegsBut (s : State) (lo n : Nat) (keep : List Nat) : State :=
  forIn' (keep.map fun a => (a, s.word a)) (fun e s => s.setWord e.1 e.2) (s.resetRegs lo n)

/-- A Kerf port in block reset: OFF, rows EMPTY, its window at reset values but for FIRE_KLAT, FIRE_TRIM, FIRE_WAVE and
FIRE_HEADCFG; the delay table stays. -/
def State.portReset (s : State) (p : Nat) : State :=
  let s := (s.portOff p).setPort p Port.reset
  (s.resetRegsBut (0x080000 + 0x400 * p) 0x400
    [FIRE_KLAT.at p, FIRE_TRIM.at p, FIRE_WAVE.at p, FIRE_HEADCFG.at p]).henSync p

/-- The Skidder in block reset (R89).
(DEDUCED, log entry 144.) -/
def State.skidReset (s : State) : State :=
  let s := { s with skid := { s.skid with copy := [], prevCopy := [], streams := [] }, fire := { s.fire with rows := [] } }
  let s := forIn' [SKID_FLAG, SKID_FAULTINFO, SKID_FAULTPOS, SKID_DBADINFO, SKID_COLLINFO, SKID_COLLPOS, SKID_RMAPIDX]
    (fun r s => s.resetReg r) s
  let s := forTo 56 (fun i s => s.resetReg SKID_SSTAT i) s
  s.resetFld SKID_CTL.ENABLE

/-- The codec in block reset: every context band closed, rows EMPTY, registers at reset values (R65, R70).
(DEDUCED, log entry 56.) -/
def State.codecReset (s : State) : State :=
  let ctx := s.codec.ctx.filterMap fun e =>
    let c : Ctx := { e.2 with bandOpen := false }
    if c = Ctx.reset then none else some (e.1, c)
  let s : State := { s with codec := { CodecSt.reset with ctx := ctx }, fire := { s.fire with rows := [] } }
  s.archDrop.resetRegs 0x100000 0x40000

/-- A bar lane group in block reset: the port goes down (R218, R221), its lane windows at reset values. -/
def State.barLanesReset (s : State) (e : Nat) : State :=
  (s.resetRegs (0x1C0100 + 0x80 * e) 0x80).barPortDown e

/-- Ethernet in block reset: the registers of PD9 at reset values and no frame queued; the network time counter runs on
(Table 15-2). -/
def State.ethReset (s : State) : State :=
  let s := (s.resetRegs 0x380000 0x10).resetRegs 0x380015 0x2
  { s with net := { s.net with txq := [] } }

/-- Block `b` in its reset. -/
def State.blockReset (s : State) (b : Nat) : State :=
  if b < 48 then s.portReset b
  else if b = 48 then s.skidReset
  else if b = 49 then s.codecReset
  else if b < 54 then s.pipeReset (b - 50)
  else if b = 54 then s.dramResetAssert
  else if b = 55 then (s.hlnkReset).resetRegs 0x200000 0x40000
  else if b < 58 then s.barLanesReset (b - 56)
  else if b < 60 then s.dispReset (b - 58)
  else if b < 68 then s.axisReset (b - 60)
  else if b = 68 then s.liteReset
  else if b = 69 then s.ethReset
  else s

/-- Block `b` released: what its reset held back starts (Tables 05-8, 12-2 and 13-8). -/
def State.blockGo (s : State) (b : Nat) : State :=
  if b < 48 then (s.linkEn b (s.on FIRE_PORTCTL.LINK_EN b)).henSync b
  else if b = 54 then s.dramResetRelease
  else if b = 55 then s.hlnkEn (s.on HLNK_CTL.EN)
  else if b = 58 ∨ b = 59 then s.when (s.on DISP_CTL.EN (b - 58)) (·.dispDrive (b - 58))
  else if b = 68 then s.liteRelease
  else s

/-! ### Assertion and release (R308 to R310) -/

/-- A job in progress is failed by the reset of the Skidder, of the codec or of an enabled Kerf port (Table 01-9, 0x0C).
(DEDUCED, log entry 46.) -/
def State.failByBlock (s : State) (b : Nat) : State :=
  let hit := b == 48 || b == 49 || (decide (b < 48) && (match s.jq.job with | some j => j.ports.contains b | none => false))
  s.when (hit && s.jobRuns) (·.failNow 0x0C)

/-- The Skidder discards every descriptor that is read but not written back (R89): it stays owned in DRAM. -/
def State.dropDescs (s : State) : State := forTo 56 (fun st s => s.updStream st fun x => { x with descs := [] }) s

/-- A context transfer in progress meets the codec's wrapper: its data is discarded, and counts (R308). -/
def State.dropXfer (s : State) : State :=
  if s.codec.xfer.isSome then
    ((s.codecUpd fun k => { k with xfer := none }).setFld CODEC_STAT.XFER_BUSY 0).isoCount 49 1
  else s

/-- The power domain of a block (Table 01-1). -/
def blockDomain (b : Nat) : Nat :=
  if b < 49 then 4 else if b = 49 then 5 else if b < 54 then 6 else if b = 54 then 7 else if b < 58 then 8 else 9

/-- The bit of SYS_CLKSTAT.LPLL_LOCK of the lane PLL that serves a block: Kerf quads from bit 3, host bit 2, east bit 1,
west bit 0 (Tables 16-2 and 16-9). -/
def blockPll (b : Nat) : Option Nat :=
  if b < 48 then some (3 + b / 4) else if b = 55 then some 2 else if b = 56 then some 1 else if b = 57 then some 0 else none

/-- The blocks a lane PLL serves. -/
def pllBlocks (i : Nat) : List Nat := (List.range 58).filter fun b => blockPll b == some i

/-- A lane PLL with no lane group released any more stops (R320).
(DEDUCED, log entry 100.) -/
def State.pllIdle (s : State) (b : Nat) : State :=
  match blockPll b with
  | none => s
  | some i =>
    if (pllBlocks i).all fun x => s.blkBit SYS_BLKRST0 SYS_BLKRST1 x then
      let v := s.fld SYS_CLKSTAT.LPLL_LOCK
      s.setFld SYS_CLKSTAT.LPLL_LOCK (if v.testBit i then v - 2 ^ i else v)
    else s

/-- Bit `b` written 1: the wrapper begins to drain; a pending release is cancelled (R308, R310).
(DEDUCED, log entry 46.) -/
def State.blockAssert (s : State) (b : Nat) : State :=
  if 69 < b then s
  else if s.blkHeld b then
    ((s.setBlkBit SYS_BLKRST0 SYS_BLKRST1 b true).setBlkBit SYS_RSTPEND0 SYS_RSTPEND1 b false).pllIdle b
  else
    let s := (s.setBlkBit SYS_BLKRST0 SYS_BLKRST1 b true).pllIdle b
    let s := { s with sys := { s.sys with draining := b :: s.sys.draining } }
    let s := ((((s.when (b == 48) (·.dropDescs)).when (b == 49) (·.dropXfer)).when (b == 54) (·.dramHold)).failByBlock b)
    s.when (decide (b < 48)) (·.henSync b)

/-- No transfer of block `b` is outstanding any more: its reset is asserted (R308 step 3). -/
def State.blockDrained (s : State) (b n : Nat) : State :=
  if b ∈ s.sys.draining then
    let s := { s with sys := { s.sys with draining := s.sys.draining.filter fun x => x != b } }
    (s.isoCount b n).blockReset b
  else s

/-- Bit `b` written 0: its release is requested (R309). -/
def State.blockReleaseReq (s : State) (b : Nat) : State :=
  if s.blkBit SYS_BLKRST0 SYS_BLKRST1 b then
    (s.setBlkBit SYS_BLKRST0 SYS_BLKRST1 b false).setBlkBit SYS_RSTPEND0 SYS_RSTPEND1 b true
  else s

/-- Every divider reports clock good. -/
def State.clocksGood (s : State) : Bool := s.fld SYS_CLKSTAT.CKGOOD == 0x1F

/-- The conditions of R309 for the release of block `b`: clocks good, domain on, lane PLL locked; a lane group needs PD8
too. -/
def State.mayRelease (s : State) (b : Nat) : Bool :=
  s.clocksGood && s.pdOn (blockDomain b) && !s.sys.draining.contains b &&
    (match blockPll b with
     | some i => s.pdOn 8 && (s.fld SYS_CLKSTAT.LPLL_LOCK).testBit i
     | none => true)

/-- A release takes effect: RSTPEND clears and the wrapper opens. -/
def State.releaseNow (s : State) (b : Nat) : State := (s.setBlkBit SYS_RSTPEND0 SYS_RSTPEND1 b false).blockGo b

/-- Pending releases whose conditions are met take effect, in ascending order. -/
def State.settleReleases (s : State) : State :=
  if s.reg SYS_RSTPEND0 = 0 ∧ s.reg SYS_RSTPEND1 = 0 then s
  else forTo 70 (fun b s => if s.blkPend b && s.mayRelease b then s.releaseNow b else s) s

/-- RST_STALL: a release still pending 100 µs after its request (R309). -/
def State.rstStall (s : State) (b : Nat) : State := s.when (s.blkPend b) (·.raise SYS_FLAG.RST_STALL)

/-- A write of SYS_BLKRST[i] (R307): each bit in ascending order; bits of reserved indices are ignored.
(DEDUCED, log entry 31.) -/
def State.blkrstWrite (s : State) (i : Nat) (w : Word) : State :=
  forTo (if i = 0 then 40 else 30) (fun j s =>
    if w.getLsbD j then s.blockAssert (40 * i + j) else s.blockReleaseReq (40 * i + j)) s

end Sys2Proof.Machine
end

