-- ==== Sys2Proof/Machine/Scan.lean ====
section
/-! DEFINITION. Scan mode (spec/06_passes_overspeed_thermal.md): the pass table and the masks, the swath sequencer with
the feed (R124), the reports of the motion axes that drive it (R358), the overspeed FIFO, and the print end of the
hot-plug logic (R407), which ends a page. -/

namespace Sys2Proof.Machine

/-! ### The pass table and the masks (R117, R127) -/

/-- The pass entry is between the entry in force and the LAST entry of the page in progress: `n` entries from `e` on.
(DEDUCED, log entry 68.) -/
def State.passLocked (s : State) (e target : Nat) : Nat → Bool
  | 0 => false
  | n + 1 => e % 256 == target || (!passLast (s.passWord e 0) && State.passLocked s (e + 1) target n)

/-- AUTOINC of the pass-table window: WORD, then ENTRY. -/
def State.passAdvance (s : State) : State :=
  s.when (s.on FIRE_PASSIDX.AUTOINC) fun s =>
    if s.on FIRE_PASSIDX.WORD then
      (s.setFld FIRE_PASSIDX.WORD 0).setFld FIRE_PASSIDX.ENTRY ((s.fld FIRE_PASSIDX.ENTRY + 1) % 256)
    else s.setFld FIRE_PASSIDX.WORD 1

/-- PASS_WRITE: a write of FIRE_PASSDATA (R127).
(DEDUCED, log entry 68.) -/
def State.passWrite (s : State) (w : Word) : State :=
  let e := s.fld FIRE_PASSIDX.ENTRY
  let locked := s.on FIRE_SCANSTAT.SSTATE && s.passLocked (s.fld FIRE_SCANSTAT.PASS) e 256
  let s := if locked then s.raise FIRE_SCANFLAG.PASS_REJ
    else { s with scan := { s.scan with pass := SMap.set 0 s.scan.pass (2 * e + s.fld FIRE_PASSIDX.WORD) w } }
  s.passAdvance

/-- A read of FIRE_PASSDATA. -/
def State.passRead (s : State) : State × Word :=
  (s.passAdvance, s.passWord (s.fld FIRE_PASSIDX.ENTRY) (s.fld FIRE_PASSIDX.WORD))

/-- A row of a mask: the bits of page lines congruent to `row`. -/
def State.maskRow (s : State) (mask row : Nat) : Nat := SMap.get 0 s.scan.mask (32 * mask + row % 32)

/-- AUTOINC of the mask window: ROW, then MASK. -/
def State.maskAdvance (s : State) : State :=
  s.when (s.on FIRE_MASKIDX.AUTOINC) fun s =>
    let r := s.fld FIRE_MASKIDX.ROW
    if r = 31 then (s.setFld FIRE_MASKIDX.ROW 0).setFld FIRE_MASKIDX.MASK ((s.fld FIRE_MASKIDX.MASK + 1) % 16)
    else s.setFld FIRE_MASKIDX.ROW (r + 1)

/-- MASK_WRITE: a write of FIRE_MASKDATA (R127).
(DEDUCED, log entry 68.) -/
def State.maskWrite (s : State) (w : Word) : State :=
  let i := 32 * s.fld FIRE_MASKIDX.MASK + s.fld FIRE_MASKIDX.ROW
  let s := if s.betweenJobs then
      { s with scan := { s.scan with mask := SMap.set 0 s.scan.mask i (FIRE_MASKDATA.BITS.ext w) } }
    else s.raise FIRE_SCANFLAG.MASK_REJ
  s.maskAdvance

/-- A read of FIRE_MASKDATA. -/
def State.maskRead (s : State) : State × Word :=
  (s.maskAdvance, Word.of (s.maskRow (s.fld FIRE_MASKIDX.MASK) (s.fld FIRE_MASKIDX.ROW)))

/-- OVSP_FIFO_POP: a read of FIRE_OVSP_FIFO returns the oldest stamp and pops it. -/
def State.ovspPop (s : State) : State × Word :=
  match s.fire.ovspFifo with
  | [] => (s, 0)
  | t :: rest =>
    let s : State := { s with fire := { s.fire with ovspFifo := rest } }
    (s.setFld FIRE_OVSP_STAT.LEVEL rest.length, t)

/-! ### The feed (R124) -/

/-- The entry in force: word 0. -/
def State.entryNow (s : State) : Word := s.passWord (s.fld FIRE_SCANSTAT.PASS) 0

/-- The swath ends after this swath line (R119). -/
def State.qEnd (s : State) : Nat :=
  match s.openPage with
  | some p => p.d.length + p.cspan + 254
  | none => 254

/-- The count of the encoder channel that is not the source. -/
def State.feedCount (s : State) : Word := s.reg POS_ENCCNT (1 - s.srcCh)

/-- The page whose swath is in hand: the open one, or the one whose last swath ended. -/
def State.swathPage (s : State) : Option JPage := s.jobPages.getLast?

/-- FEED × FIRE_FEEDRATIO rounded to the nearest count (a half upwards). -/
def State.feedWant (s : State) : Int := (passFeed s.entryNow * (s.reg FIRE_FEEDRATIO).toNat + 2 ^ 31) / 2 ^ 32

/-- The feed check fails: the count change differs by more than FEED_TOL counts; FEED_TOL = 0 disables it.
(DEDUCED, log entry 67.) -/
def State.feedFails (s : State) : Bool :=
  let tol := s.fld FIRE_SCANCFG.FEED_TOL
  let d := signed 40 (s.feedCount - Word.of (unsigned 40 s.scan.feedStart)).toNat
  tol != 0 && decide (tol < (d - s.feedWant).natAbs)

/-- FEED_ERR with the stamp of the first FEED_ERR or ARM_LATE. -/
def State.feedErr (s : State) : State :=
  let clear := !s.on FIRE_SCANFLAG.FEED_ERR && !s.on FIRE_SCANFLAG.ARM_LATE
  let stamp := s.posOut
  (s.when clear (·.setReg FIRE_SCANPOS stamp)).raiseS FIRE_SCANFLAG.FEED_ERR 0 stamp

/-- The next swath of the page, the next page, or the end of the job (Table 06-2). -/
def State.nextSwath (s : State) : State :=
  match s.swathPage, s.jq.job with
  | some pg, some j =>
    let e := s.fld FIRE_SCANSTAT.PASS
    if !passLast s.entryNow then
      s.armSwath j.ser j.d pg.d (e + 1) ((s.fld FIRE_SCANSTAT.Y + passFeed s.entryNow) % 2 ^ 24) false
    else if pg.d.last then s.endJob (lineMod s.qEnd) pg.d.pageNo
    else
      let s : State := { s with scan := { s.scan with feedWait := true } }
      (s.setJobState 3).scanOpen
  | _, _ => s

/-- The feed is complete: the feed check, then the next swath or HELD.
(DESIGN CHOICE, log entry 194.) -/
def State.feedDone (s : State) : State :=
  if s.fld FIRE_SCANSTAT.SSTATE ≠ 3 ∨ s.scan.feedWait then s
  else
    let bad := s.feedFails
    let s := s.when bad (·.feedErr)
    if bad && s.on FIRE_SCANCTL.FEED_ACT then s.setFld FIRE_SCANSTAT.SSTATE 4 else s.nextSwath

/-- The feed trigger: a start event for the feed axis; FEED_LATE when no move is queued. -/
def State.feedTrigger (s : State) : State :=
  let n := s.fld FIRE_SCANCFG.FEED_AXIS
  let s : State := { s with scan := { s.scan with feedStart := s.feedCount.toNat } }
  let s := s.when ((s.axis n).queue == []) (·.raise FIRE_SCANFLAG.FEED_LATE)
  s.startEvent n

/-- The decision for swath line q_end + 1: FEED, with the feed trigger; without a feed it is complete at once. -/
def State.swathEnd (s : State) : State :=
  let s := s.setFld FIRE_SCANSTAT.SSTATE 3
  if passFeed s.entryNow = 0 then s.nextSwath else s.feedTrigger

/-- SWATH_RESUME: FIRE_SCANCTL.RESUME written 1 arms from HELD. -/
def State.swathResume (s : State) : State :=
  if s.fld FIRE_SCANSTAT.SSTATE = 4 then (s.setFld FIRE_SCANSTAT.SSTATE 3).nextSwath else s

/-- MOVE_DONE: the mark report of an axis (R358); that of the feed axis completes the feed. -/
def State.moveDone (s : State) (n : Nat) : State :=
  if 0 < (s.axis n).markDue then
    let s := (s.updAxis n fun x => { x with markDue := x.markDue - 1 }).raise MOT_FLAG.MOVE_DONE n
    s.when (s.fld FIRE_SCANCFG.FEED_AXIS == n) (·.feedDone)
  else s

/-! ### Print end (R407) -/

/-- SYS_JOBQ_CTL.FLUSH written by the hardware: a job in progress fails with cause 0x0A, the queue is empty. -/
def State.hpFlush (s : State) : State := (s.failNow 10).setQueue []

/-- Print end is reached: every axis halts, PARK. -/
def State.hpPrintEnd (s : State) : State := (forTo 8 (fun n s => s.motHalt n) s).setFld SYS_HPSTAT.HSTATE 2

/-- A print end under PAGE is due when no page is in progress.
(DEDUCED, log entry 88.) -/
def State.hpPageEnd (s : State) : State :=
  if s.fld SYS_HPSTAT.HSTATE = 1 ∧ s.fld SYS_HPCFG.END = 1 ∧ s.openPage.isNone then s.hpFlush.hpPrintEnd else s

end Sys2Proof.Machine
end

