-- ==== Sys2Proof/Machine/Power.lean ====
section
/-! DEFINITION. Clocks, lane PLLs, the oscillator, supply rails and power domains (spec/16_clocks_power.md). -/

namespace Sys2Proof.Machine

/-! ### Requests for a system reset (R302, R304, R305) -/

/-- A request that meets the one pending: the first cause stands, in one cycle the lower; a slot skip is kept (R304).
(DEDUCED, log entry 93.) -/
def State.mergeReq (s : State) (r : SysReq) (cause skip : Nat) : SysReq :=
  { r with cause := if r.since = s.cycle then min r.cause cause else r.cause, skip := if r.skip = 0 then skip else r.skip }

/-- A system reset is requested: the AON hold applies in this cycle, and a request that meets another merges into it.
(DEDUCED, log entry 93.) -/
def State.requestReset (s : State) (cause skip : Nat) : State :=
  if s.sys.por then s
  else
    let s := ({ s with aonHold := true } : State).henSyncAll
    if s.sys.held then s
    else
      let r : SysReq := match s.sys.req with
        | some r => s.mergeReq r cause skip
        | none => { since := s.cycle, cause := cause, delayed := s.cfg.pulse.isSome, skip := skip }
      { s with sys := { s.sys with req := some r } }

/-- The core clocks run and the system reset is released: the block takes commands (R303, R319). -/
def State.clocked (s : State) : Bool := !s.sys.held && s.on SYS_CLKSTAT.ROOT_LOCK

/-! ### Clocks (R318 to R323) -/

/-- ROOT_PLL_LOCK: the ROOT PLL locks; it runs once the power-on reset is released and its supplies are valid (R312). -/
def State.rootLock (s : State) : State :=
  if s.sys.por || !s.railOk 6 || !s.railOk 5 then s else s.setFld SYS_CLKSTAT.ROOT_LOCK 1

/-- CLOCK_GOOD: 32 CK_SLOW cycles after the dividers start, every clock good rises (R318). -/
def State.clockGood (s : State) : State :=
  if s.on SYS_CLKSTAT.ROOT_LOCK then s.setFld SYS_CLKSTAT.CKGOOD 0x1F else s

/-- ROOT_PLL_LOSS (R319). -/
def State.rootLoss (s : State) : State :=
  if s.on SYS_CLKSTAT.ROOT_LOCK then
    ((s.setFld SYS_CLKSTAT.ROOT_LOCK 0).setFld SYS_CLKSTAT.CKGOOD 0).requestReset 9 0
  else s

/-- A lane PLL runs: PD8 on and a lane group it serves released (R320). -/
def State.pllRuns (s : State) (i : Nat) : Bool :=
  s.pdOn 8 && (pllBlocks i).any fun b => !s.blkBit SYS_BLKRST0 SYS_BLKRST1 b

/-- LANE_PLL_LOCK: lane PLL `i`, as its bit in LPLL_LOCK stands, locks.
(DEDUCED, log entry 36.) -/
def State.pllLock (s : State) (i : Nat) : State :=
  if s.pllRuns i then s.setFld SYS_CLKSTAT.LPLL_LOCK (s.fld SYS_CLKSTAT.LPLL_LOCK ||| 2 ^ i) else s

/-- The lanes of a lane PLL lose alignment (Tables 05-8 and 12-2, R221). -/
def State.lanesLost (s : State) (i : Nat) : State :=
  if i = 0 then ((s.setLane 10 0).setLane 11 0).barPortDown 1
  else if i = 1 then ((s.setLane 8 0).setLane 9 0).barPortDown 0
  else if i = 2 then (forTo 8 (fun l s => s.setLane l 0) s).hlLose
  else forIn' (pllBlocks i) (fun p s => s.linkDown p) s

/-- LPLL_LOST (R321). -/
def State.pllLost (s : State) (i : Nat) : State :=
  let v := s.fld SYS_CLKSTAT.LPLL_LOCK
  if v.testBit i then
    ((s.setFld SYS_CLKSTAT.LPLL_LOCK (v - 2 ^ i)).raise SYS_PWRFLAG.LPLL_LOST).lanesLost i
  else s

/-- LREF_MEASURE: the count of lane reference `r` over a window of 1 ms (R322); LREF0 is bit 1 of LREF_OK. -/
def State.lrefMeasure (s : State) (r count : Nat) : State :=
  let s := s.setFld SYS_LREFMEAS.COUNT count r
  let ok := s.fld SYS_CLKSTAT.LREF_OK
  let m := if r = 0 then 1 else 0
  if 156250 + 46 < count ∨ count + 46 < 156250 then
    (s.setFld SYS_CLKSTAT.LREF_OK (if ok.testBit m then ok - 2 ^ m else ok)).raise SYS_PWRFLAG.LREF_BAD
  else s.setFld SYS_CLKSTAT.LREF_OK (ok ||| 2 ^ m)

/-- OSC_OK: 1,024 clean cycles of the oscillator that SYS_AONCTL lets run (R323). -/
def State.oscOk (s : State) : State := if s.on SYS_AONCTL.OSC_EN then s.setFld SYS_CLKSTAT.OSC_OK 1 else s

/-- OSC_FAIL: no edge for 125 µs. -/
def State.oscFail (s : State) : State :=
  if s.on SYS_CLKSTAT.OSC_OK then (s.setFld SYS_CLKSTAT.OSC_OK 0).raise SYS_PWRFLAG.OSC_FAIL else s

/-! ### Domains (R326 to R330) -/

/-- Set the state of a domain in SYS_PDSTAT. -/
def State.setPd (s : State) (d v : Nat) : State :=
  let st := s.fld SYS_PDSTAT.STATE
  let k := 2 ^ (2 * (9 - d))
  s.setFld SYS_PDSTAT.STATE (st - st / k % 4 * k + v * k)

/-- The registers of an address range and the units of PD4 as R329 leaves them: reset values, tables zero, CAL banks at
their reset values. -/
def State.resetPd4 (s : State) : State :=
  let s := ((s.resetRegs 0x040000 0xC0000).resetRegs 0x140000 0x40000)
  let s := { s with pos := PosSt.reset, skid := SkidSt.reset, fire := FireSt.reset, scan := ScanSt.reset, cal := CalSt.reset }
  s.jqUpd fun q => { q with prevLast := none, lastE := none, drain := none, clears := [] }

/-- PD7 as R329 and R279 leave it: registers at reset values, the controller OFF, RETAINED as the I/O cells hold it. -/
def State.resetPd7 (s : State) : State :=
  let kept := s.fld DRAM_STAT.RETAINED
  let s := (s.resetRegs 0x240000 0x40000).setFld DRAM_STAT.RETAINED kept
  { s with dram := { s.dram with rq := [], wq := [], banks := [], owed := [], refBank := [] } }

/-- Return every register of a range of addresses to its reset value, with the copies of the origins where it is banked
(R159). -/
def State.resetBanks (s : State) (lo n : Nat) : State :=
  forTo 4 (fun k s => s.resetRegs (2 ^ 24 * k + lo) n) s

/-- PD8 as R329 leaves it; BAR_STAT.ID shows the strap, and the event queue lies in PD3. -/
def State.resetPd8 (s : State) : State :=
  let s := (s.resetBanks 0x1C0000 0x80000).setFld BAR_STAT.ID s.sys.barId
  let s := { s with hlnk := { HlnkSt.reset with evq := s.hlnk.evq }, bar := BarSt.reset }
  s.setFld SYS_CLKSTAT.LPLL_LOCK 0

/-- PD9 as R329 leaves it: the network time registers lie in PD3; the input levels of the axes stay. -/
def State.resetPd9 (s : State) : State :=
  let s := (s.resetRegs 0x2C0000 0x80000).ethReset
  let mot := s.mot.filterMap fun e =>
    let x : Axis := { Axis.reset with limHigh := e.2.limHigh, fltLow := e.2.fltLow, qa := e.2.qa, qb := e.2.qb }
    if x = Axis.reset then none else some (e.1, x)
  { s with mot := mot, lite := LiteSt.reset, disp := [] }

/-- The state R329 gives a domain that returns to ON, or that BIST leaves (R386 step 4). -/
def State.pdReset (s : State) (d : Nat) : State :=
  match d with
  | 4 => s.resetPd4.henSyncAll
  | 5 => ({ s.resetRegs 0x100000 0x40000 with codec := CodecSt.reset } : State).archDrop
  | 6 => { s.resetRegs 0x180000 0x40000 with vis := { VisSt.reset with ffDef := 0 }, scaler := ScalerSt.reset }
  | 7 => s.resetPd7
  | 8 => s.resetPd8.henSyncAll
  | 9 => s.resetPd9
  | _ => s

/-- The blocks of a domain that SYS_BLKRST holds; the Kerf lane groups belong to PD8 too (Table 01-1). -/
def domainBlocks (d : Nat) : List Nat :=
  (List.range 70).filter fun b => blockDomain b == d || (d == 8 && decide (b < 48))

/-- The additional condition of Table 16-5 for switching a domain off. -/
def State.pdCond (s : State) (d : Nat) : Bool :=
  let dr := s.fld DRAM_STAT.STATE
  match d with
  | 4 => !s.on POS_CTL.ENABLE && s.betweenJobs
  | 7 => dr == 0 || dr == 5 || dr == 6
  | 9 => !s.on POS_CTL.ENABLE
  | _ => true

/-- The rails that Table 16-4 ties to a domain are above their thresholds. -/
def State.pdRails (s : State) (d : Nat) : Bool :=
  match d with
  | 4 => s.railOk 3 && s.railOk 2
  | 6 => s.railOk 0
  | 7 => s.railOk 4
  | 8 => s.railOk 3 && s.railOk 2
  | 9 => s.railOk 1 && s.railOk 0
  | _ => true

/-- Start the switch of a domain: on, or off with its logic clamped (Table 16-6).
(DEDUCED, log entry 97.) -/
def State.pdSwitch (s : State) (d : Nat) (on : Bool) : State :=
  if on then s.setPd d 1
  else
    let s := s.when (d == 7) (·.dramPowerOff)
    let s := (s.setPd d 3).pdReset d
    s.when (d == 4 || d == 8) (·.henSyncAll)

/-- The next switch of the queue starts; after the last of a request through SYS_PDCTL, PD_DONE is set (R327). -/
def State.pdNext (s : State) : State :=
  match s.sys.pdQueue with
  | d :: rest =>
    let s := { s with sys := { s.sys with pdQueue := rest } }
    s.pdSwitch d ((s.fld SYS_PDCTL.REQ).testBit (d - 4))
  | [] =>
    if s.sys.pdReq then ({ s with sys := { s.sys with pdReq := false } } : State).raise SYS_PWRFLAG.PD_DONE else s

/-- A switch of PD4 to PD9 is in progress or waits. -/
def State.pdBusy (s : State) : Bool :=
  s.sys.pdQueue != [] || s.sys.pdReq || (List.range' 4 6).any fun d => s.pdState d == 1 || s.pdState d == 3

/-- Why a domain cannot be switched as requested (R327); 0 when it can, or needs no switch.
(DEDUCED, log entry 98.) -/
def State.pdWhyOf (s : State) (req d : Nat) : Nat :=
  let on := req.testBit (d - 4)
  let bs := domainBlocks d
  if s.pdState d = 2 ∧ !on then
    if bs.any (fun b => !s.blkHeld b) then 2
    else if bs.any (fun b => s.blkPend b) then 3
    else if !s.pdCond d then 4
    else 0
  else if s.pdState d = 0 ∧ on ∧ !s.pdRails d then 7
  else 0

/-- The refusal of a SYS_PDCTL write: WHY and the domain (R327), KEY and a switch in progress first, then the lowest
domain; a BIST run counts as a switch in progress (Table 21-3).
(DEDUCED, log entry 98.) -/
def State.pdWhy (s : State) (key req : Nat) : Option (Nat × Nat) :=
  if key ≠ 0xC3 then some (1, 0)
  else if s.pdBusy || s.on BIST_STAT.STATE then some (5, 0)
  else ((List.range' 4 6).find? fun d => s.pdWhyOf req d != 0).map fun d => (s.pdWhyOf req d, d)

/-- A refusal or a failure of a switch: the flag, and the capture of the first (R327, R328). -/
def State.pdErr (s : State) (f : Fld) (d why : Nat) : State :=
  let clear := !s.on SYS_PWRFLAG.PD_REJ && !s.on SYS_PWRFLAG.PD_FAIL
  (s.raise f).when clear fun s => (s.setFld SYS_PDERR.DOMAIN d).setFld SYS_PDERR.WHY why

/-- PD_SWITCH_REQUEST: a write of SYS_PDCTL (R327). -/
def State.pdctlWrite (s : State) (w : Word) : State :=
  let req := SYS_PDCTL.REQ.ext w
  match s.pdWhy (SYS_PDCTL.KEY.ext w) req with
  | some (why, d) => s.pdErr SYS_PWRFLAG.PD_REJ d why
  | none =>
    let l := (List.range' 4 6).filter fun d => (s.pdState d == 2) != req.testBit (d - 4)
    let s := s.setFld SYS_PDCTL.REQ req
    if l = [] then s else ({ s with sys := { s.sys with pdQueue := l, pdReq := true } } : State).pdNext

/-- Domains switch on in ascending order: none below `d` still does; a request through SYS_PDCTL does not wait for the
Spotter's domains (R327, R330). -/
def State.pdTurn (s : State) (d : Nat) : Bool :=
  decide (d < 4) || ((List.range' 4 (d - 4)).all fun k => s.pdState k != 1) && (s.pdState 1 != 1 || s.sys.pdReq)

/-- PD_RAIL_GOOD: a domain switching on is ON: SRAMs zero, registers at reset values (Table 16-6).
(DEDUCED, log entry 97.) -/
def State.pdGood (s : State) (d : Nat) : State :=
  if s.pdState d = 1 ∧ !s.sys.held ∧ s.pdTurn d then
    let s := ((s.setPd d 2).pdReset d).when (d == 7) (·.dramPowerOn)
    s.when (decide (4 ≤ d)) (·.pdNext)
  else s

/-- PD_OFF_DONE: a domain switching off is OFF; the next switch starts unless the clocks have stopped (R319). -/
def State.pdOff (s : State) (d : Nat) : State :=
  if s.pdState d = 3 then
    let s := s.setPd d 0
    s.when (decide (4 ≤ d) && (s.sys.held || s.on SYS_CLKSTAT.ROOT_LOCK)) (·.pdNext)
  else s

/-- PD_FAIL: the rail is not good after 100 µs: the switch opens, REQ returns to 0 (R328).
(DEDUCED, log entry 99.) -/
def State.pdFail (s : State) (d : Nat) : State :=
  if s.pdState d = 1 ∧ 4 ≤ d then
    let req := s.fld SYS_PDCTL.REQ
    let s := s.setFld SYS_PDCTL.REQ (if req.testBit (d - 4) then req - 2 ^ (d - 4) else req)
    ((s.setPd d 0).pdErr SYS_PWRFLAG.PD_FAIL d 6).pdNext
  else if s.pdState d = 1 then (s.setPd d 0).pdErr SYS_PWRFLAG.PD_FAIL d 6
  else s

/-! ### Rails (R324, R325) -/

/-- The blocks that a lost rail holds (Table 16-4). -/
def railBlocks (r : Nat) : List Nat :=
  match r with
  | 4 => [54]
  | 3 => List.range 48 ++ [55, 56, 57]
  | 2 => List.range 48 ++ [55, 56, 57]
  | 1 => List.range' 60 9
  | 0 => [50, 51, 52, 53, 58, 59, 69]
  | _ => []

/-- A rail of Table 16-4 is lost: SUP_LOST, its blocks held; with VDDQ the DRAM contents are lost and the controller
restarts from OFF.
(DEDUCED, log entry 96.) -/
def State.railLost (s : State) (r : Nat) : State :=
  let s := s.raise SYS_PWRFLAG.SUP_LOST
  let s := forIn' (railBlocks r) (fun b s => s.blockAssert b) s
  if r = 4 then
    ((s.poisonReads fun s => s.isoCount 54 1).dramOff).setFld DRAM_STAT.STATE 0
  else s

/-- A rail's monitor bit. -/
def State.setRail (s : State) (r : Nat) (ok : Bool) : State :=
  let v := s.fld SYS_SUPSTAT.RAIL_OK
  s.setFld SYS_SUPSTAT.RAIL_OK (if ok then v ||| 2 ^ r else if v.testBit r then v - 2 ^ r else v)

/-- Loss of VDDA_PLL: the ROOT PLL and every lane PLL lose lock (Table 16-3). -/
def State.pllRailLost (s : State) : State := (forTo 15 (fun i s => s.pllLost i) s).rootLoss

end Sys2Proof.Machine
end

