-- ==== Sys2Proof/Machine/Flash.lean ====
section
/-! DEFINITION. The flash window, RELOAD and the Stump store (spec/14_configuration_image.md, R293, R296 to R300). -/

namespace Sys2Proof.Machine

/-- CFG_STAT.STATE: 0 SFDP, 1 CHECK_A, 2 CHECK_B, 3 APPLY, 4 DONE, 5 DEFAULTS, 6 DEFAULTED. -/
def State.cfgState (s : State) : Nat := s.fld CFG_STAT.STATE

/-- The load has ended: DONE or DEFAULTED. -/
def State.loaded (s : State) : Bool := s.cfgState == 4 || s.cfgState == 6

/-- Update the loader's own state. -/
def State.cfgUpd (s : State) (f : CfgSt → CfgSt) : State := { s with cfg := f s.cfg }

/-! ### RELOAD (R289, R293) -/

/-- RELOAD applies: a system reset of cause 0x05, with slot A skipped under FROM_B.
(DEDUCED, log entry 102.) -/
def State.reloadNow (s : State) (fromB : Bool) : State :=
  (s.cfgUpd fun c => { c with reload := none }).requestReset 5 (if fromB then 1 else 0)

/-- CFG_CTL written: RELOAD acts in DONE and DEFAULTED (Table 14-5), after the flash command in progress.
(DEDUCED, log entry 102.) -/
def State.cfgCtl (s : State) (reload fromB : Bool) : State :=
  if !reload || !s.loaded then s
  else if s.on CFG_FLCMD.BUSY then s.cfgUpd fun c => { c with reload := some fromB }
  else s.reloadNow fromB

/-! ### Flash commands (R296) -/

/-- The bytes of CFG_FLBUF, the first `n`. -/
def State.flBytes (s : State) (n : Nat) : List Byte :=
  (((List.range 52).map fun i => bytesBE 5 (s.reg CFG_FLBUF i).toNat).flatten).take n

/-- Bytes read into CFG_FLBUF; what lies beyond them stays. -/
def State.setFlBytes (s : State) (bs : List Byte) : State :=
  let all := bs ++ (s.flBytes 260).drop bs.length
  forTo 52 (fun i s => s.setReg CFG_FLBUF (Word.of (ofBytesBE ((all.drop (5 * i)).take 5))) i) s

/-- The RW fields of CFG_FLCMD written. -/
def State.flFields (s : State) (w : Word) : State :=
  forIn' [CFG_FLCMD.OPCODE, CFG_FLCMD.ALEN, CFG_FLCMD.DIR, CFG_FLCMD.NBYTES, CFG_FLCMD.DUMMY, CFG_FLCMD.LANES]
    (fun f s => s.setFld f (f.ext w)) s

/-- The bytes of address that ALEN names. -/
def State.flAlen (s : State) : Nat := if s.fld CFG_FLCMD.ALEN = 0 then 0 else s.fld CFG_FLCMD.ALEN + 2

/-- A write of CFG_FLCMD: with GO a command is sent, or refused with FL_REJ. -/
def State.flcmdWrite (s : State) (w : Word) : State :=
  let busy := s.on CFG_FLCMD.BUSY
  let s := s.flFields w
  if CFG_FLCMD.GO.ext w = 0 then s
  else if busy || !s.loaded || s.fld CFG_FLCMD.ALEN == 3 || s.fld CFG_FLCMD.LANES == 3 ||
      decide (260 < s.fld CFG_FLCMD.NBYTES) then s.raise CFG_FLAG.FL_REJ
  else
    let n := s.fld CFG_FLCMD.NBYTES
    let wr := s.on CFG_FLCMD.DIR
    let s := (s.setFld CFG_FLCMD.BUSY 1).cfgUpd fun c => { c with flRead := if wr then 0 else n }
    s.emit (.flash (s.fld CFG_FLCMD.OPCODE) s.flAlen (s.fld CFG_FLADDR.ADDR % 2 ^ (8 * s.flAlen)) (s.fld CFG_FLCMD.DUMMY)
      (s.fld CFG_FLCMD.LANES) (if wr then 0 else n) (if wr then s.flBytes n else []))

/-- FL_DONE: the flash command ends; a read's bytes stand in CFG_FLBUF; a RELOAD that waited acts. -/
def State.flDone (s : State) (bytes : List Byte) : State :=
  if s.on CFG_FLCMD.BUSY then
    let n := s.cfg.flRead
    let s := if n = 0 then s else s.setFlBytes ((bytes ++ List.replicate (n - bytes.length) 0xFF).take n)
    let s := (s.setFld CFG_FLCMD.BUSY 0).raise CFG_FLAG.FL_DONE
    match s.cfg.reload with
    | some b => s.reloadNow b
    | none => s
  else s

/-! ### The Stump store (R298 to R300) -/

/-- An erased word.
(DESIGN CHOICE, log entry 11.) -/
def stumpErased : BitVec 64 := BitVec.allOnes 64

/-- A word of the store.
(DESIGN CHOICE, log entry 11.) -/
def State.stumpWord (s : State) (w : Nat) : BitVec 64 := SMap.get stumpErased s.stump w

/-- Set a word of the store; its check bits are right then. -/
def State.setStump (s : State) (w : Nat) (v : BitVec 64) : State :=
  { s with stump := SMap.set stumpErased s.stump w v, stumpBad := s.stumpBad.filter fun x => x != w }

/-- Erase the sector of 512 words that holds a word. -/
def State.eraseSector (s : State) (w : Nat) : State :=
  { s with stump := SMap.eraseRange s.stump (w / 512 * 512) 512
           stumpBad := s.stumpBad.filter fun x => x / 512 != w / 512 }

/-- A word of the store reads uncorrectable from now on, or does not.
(DEDUCED, log entry 204.) -/
def State.setBad (s : State) (w : Nat) (bad : Bool) : State :=
  let l := s.stumpBad.filter fun x => x != w
  { s with stumpBad := if bad then w :: l else l }

/-- What a program or erase request may touch: the host, with UNLOCK and after the load, the board trim and OEM areas;
the Warden firmware the fault log (Table 14-8).
(DEDUCED, log entry 109.) -/
def State.stumpAllowed (s : State) (warden : Bool) (w unlock : Nat) : Bool :=
  if warden then decide (4096 ≤ w)
  else unlock == 0xA5 && s.loaded && decide (2048 ≤ w) && decide (w < 4096)

/-- A pulse starts; a system reset that waits will wait for it. -/
def State.pulseStart (s : State) (p : Pulse) : State :=
  let s := (s.setFld CFG_STCMD.BUSY 1).cfgUpd fun c => { c with pulse := some p }
  let s := s.when (p.recorder && p.erase) (·.setFld WARD_FLOG.ERASING 1)
  let req := s.sys.req.map fun r => ({ r with delayed := true } : SysReq)
  let s := { s with sys := { s.sys with req := req } }
  s.emit (.stump (if p.erase then 2 else 1) p.word)

/-- The result of a read: clean, corrected (1), or uncorrectable (2) with the raw bits.
(DEDUCED, log entry 110.) -/
def State.stumpRead (s : State) (w ecc : Nat) (raw : BitVec 64) : State :=
  let v := if ecc = 2 then raw else s.stumpWord w
  let s := s.setBad w (ecc == 2)
  let s := (s.setFld CFG_STDATAH.DATA (v.toNat / 2 ^ 32)).setFld CFG_STDATAL.DATA v.toNat
  let s := (s.when (ecc == 1) (·.raise CFG_FLAG.ST_CORR)).when (ecc == 2) (·.raise CFG_FLAG.ST_ECC)
  (s.emit (.stump 0 w)).raise CFG_FLAG.ST_DONE

/-- A write of CFG_STCMD: the fields, and with GO the operation or its refusal; UNLOCK is cleared after each GO. -/
def State.stcmdWrite (s : State) (warden : Bool) (w : Word) (ecc : Nat) (raw : BitVec 64) : State :=
  let op := CFG_STCMD.OP.ext w
  let a := CFG_STCMD.WORD.ext w
  let unlock := CFG_STCMD.UNLOCK.ext w
  let go := CFG_STCMD.GO.ext w == 1
  let s := ((s.setFld CFG_STCMD.OP op).setFld CFG_STCMD.WORD a).setFld CFG_STCMD.UNLOCK (if go then 0 else unlock)
  if !go then s
  else if op = 0 then s.stumpRead a ecc raw
  else if op = 3 || s.on CFG_STCMD.BUSY || !s.stumpAllowed warden a unlock || (op == 1 && s.stumpWord a != stumpErased) then
    s.raise CFG_FLAG.ST_REJ
  else
    s.pulseStart { recorder := false, erase := op == 2, word := a
                   data := BitVec.ofNat 64 (s.fld CFG_STDATAH.DATA * 2 ^ 32 + s.fld CFG_STDATAL.DATA) }

/-- ST_DONE: the pulse ends; one of the fault recorder is no operation of CFG_STCMD and sets no flag.
(DEDUCED, log entry 101.) -/
def State.stDone (s : State) : State :=
  match s.cfg.pulse with
  | none => s
  | some p =>
    let s := if p.erase then s.eraseSector p.word else s.setStump p.word p.data
    let s := (s.cfgUpd fun c => { c with pulse := none }).setFld CFG_STCMD.BUSY 0
    if p.recorder then
      (s.setFld WARD_FLOG.ERASING 0).when p.erase fun s => { s with ward := { s.ward with flogErased := true } }
    else s.raise CFG_FLAG.ST_DONE

/-- A word of the store undefined: its data, and whether it reads uncorrectable, are free values.
(DESIGN CHOICE, log entry 16.)
(DEDUCED, log entry 204.) -/
def State.breakWord (s : State) (w : Nat) : State :=
  let d := s.draw
  let e := d.2.draw
  (e.2.setStump w d.1).setBad w (e.1.getLsbD 0)

/-- A supply loss during a pulse leaves its word, or every word of its sector, undefined: free values (R300).
(DESIGN CHOICE, log entry 16.) -/
def State.pulseBroken (s : State) : State :=
  match s.cfg.pulse with
  | none => s
  | some p =>
    let ws := if p.erase then List.range' (p.word / 512 * 512) 512 else [p.word]
    let s := forIn' ws (fun w s => s.breakWord w) s
    s.cfgUpd fun c => { c with pulse := none }

end Sys2Proof.Machine
end

