-- ==== Sys2Proof/Machine/Ward.lean ====
section
/-! DEFINITION. The Spotter, heartbeats, takeovers, checkpoints, the standby check and the fault log
(spec/17_supervision_failover.md), and core reset (R306). -/

namespace Sys2Proof.Machine

/-- Update supervision's own state. -/
def State.wardUpd (s : State) (f : WardSt → WardSt) : State := { s with ward := f s.ward }

/-- SSTATE: 0 WATCH, 1 WARN, 2 TAKEOVER, 3 DRAIN, 4 HALTED. -/
def State.sstate (s : State) : Nat := s.fld WARD_STAT.SSTATE

/-- SB_STATE: 0 UNTESTED, 1 POWERING, 2 BIST, 3 CHECK, 4 READY, 5 FAILED, 6 HELD. -/
def State.sbState (s : State) : Nat := s.fld WARD_ROLE.SB_STATE

/-- The domain of the standby core. -/
def State.sbDomain (s : State) : Nat := if s.on WARD_ROLE.ACTIVE then 1 else 2

/-- Switch the standby domain on, if it is not. -/
def State.sbOn (s : State) : State :=
  if s.pdState s.sbDomain = 0 ∨ s.pdState s.sbDomain = 3 then s.setPd s.sbDomain 1 else s

/-- Switch the standby domain off, if it is not. -/
def State.sbOff (s : State) : State :=
  if s.pdState s.sbDomain = 1 ∨ s.pdState s.sbDomain = 2 then s.setPd s.sbDomain 3 else s

/-! ### Core resets in the record (R306, R311) -/

/-- SYS_CORECAUSE: the cause, whether a Stump store pulse delays, the count. -/
def State.coreCause (s : State) (cause : Nat) : State :=
  let s := (s.setFld SYS_CORECAUSE.CAUSE cause).setFld SYS_CORECAUSE.STDLY (bit s.cfg.pulse.isSome)
  (s.setFld SYS_CORECAUSE.DLY 0).setFld SYS_CORECAUSE.NCORE (min 65535 (s.fld SYS_CORECAUSE.NCORE + 1))

/-- A core reset begins: the cores are held and the Warden context is lost (R306, Table 08-4); discarded during a system
reset (R304). -/
def State.coreReset (s : State) (cause : Nat) : State :=
  if s.sys.held || s.sys.req.isSome then s
  else
    let s := (s.wardUpd fun w => { w with coreUp := false }).loseWardenCtx
    let s := s.coreCause cause
    { s with sys := { s.sys with core := some s.cfg.pulse.isSome } }

/-- The delay of a pulse in the core record, where it waited for one. -/
def State.coreDelay (s : State) (dly : Nat) : State :=
  if s.on SYS_CORECAUSE.STDLY then s.setFld SYS_CORECAUSE.DLY dly else s

/-- A Warden core is released: FIRST deadline, any first TOKEN, the patch store checked, the checkpoints to be
verified.
(DEDUCED, log entry 111.) -/
def State.coreRelease (s : State) (patchOk : Bool) : State :=
  let s := s.wardUpd fun w => { w with coreUp := true, first := true, verify := true }
  (s.setFld WARD_PATCH.OK (bit patchOk)).setFld WARD_STAT.CKPT_READY 0

/-- CORE_RESET_RELEASE: after 64 cycles, and after a pulse, the core named by ACTIVE is released; before the load has
ended the cores stay held, and in TAKEOVER the release is that of the takeover (R306, Table 17-6). -/
def State.coreResetRelease (s : State) (dly : Nat) (patchOk : Bool) : State :=
  if s.sys.core.isNone || s.cfg.pulse.isSome then s
  else
    let s := ({ s with sys := { s.sys with core := none } } : State).coreDelay dly
    if !s.loaded || s.sstate = 2 then s else s.coreRelease patchOk

/-! ### Escalation and takeover (R338 to R341) -/

/-- R338: the Spotter escalates; `gap` is the seconds since the last takeover. -/
def State.escalates (s : State) (gap : Nat) : Bool :=
  s.ward.busStall || !s.on WARD_ROLE.SB_OK ||
    (s.on WARD_POLICY.MIN_GAP && s.ward.bumped && decide (gap < s.fld WARD_POLICY.MIN_GAP))

/-- A trigger acts in this cycle: triggers that arise with it only lower its REASON (R339). -/
def State.noteTrig (s : State) : State :=
  s.wardUpd fun w => { w with trig := some (s.cycle, decide (w.flogQ.length < 8)) }

/-- A trigger has acted in this cycle, and what it began is not over. -/
def State.trigNow (s : State) : Bool :=
  (s.ward.trig.any fun e => e.1 == s.cycle) && (s.sstate == 2 || s.sstate == 4 || s.sys.req.isSome)

/-- The queued fault log entry of a takeover or an escalation takes a lower REASON. -/
def FlogEnt.lower (r : Nat) (e : FlogEnt) : FlogEnt :=
  if e.kind = 2 ∨ e.kind = 3 then { e with detail := min e.detail r } else e

/-- R339: of several triggers in one cycle the lowest REASON is recorded, in WARD_LASTFO and in the fault log entry; with
a HANDOVER, the takeover is then no commanded swap.
(DEDUCED, log entry 111.) -/
def State.lowerReason (s : State) (r : Nat) : State :=
  let old := s.fld WARD_LASTFO.REASON
  let s := s.when (s.ward.trig.any (·.2)) fun s => s.wardUpd fun w =>
    { w with flogQ := w.flogQ.dropLast ++ (w.flogQ.getLast?.map (FlogEnt.lower r)).toList }
  s.when (s.sstate == 2 && decide (r < old)) fun s =>
    let s := s.setFld WARD_LASTFO.REASON r
    s.when (old == 5) fun s => (s.wardUpd fun w => { w with swapWait := false }).setFld SYS_CORECAUSE.CAUSE 2

/-- The Spotter tests the standby, or keeps it for its recovery: its domain stays on (R334, R345). A domain whose BIST has
begun is never stopped part-way (R393). -/
def State.sbKept (s : State) : Bool :=
  s.sbState == 2 || s.sbState == 3 || s.sbState == 6 || (s.on BIST_STAT.STATE && s.fld BIST_STAT.SRC == 3)

/-- Escalation: a system reset of cause 0x08, or HALTED; a standby domain that was only warmed is switched off (R334). -/
def State.escalate (s : State) (reason : Nat) : State :=
  let s := (s.noteTrig.raise WARD_FLAG.ESCALATE).flogPush 3 reason
  let s := s.when (!s.sbKept) (·.sbOff)
  if s.on WARD_POLICY.ESC_ACT then s.requestReset 8 0 else s.setFld WARD_STAT.SSTATE 4

/-- A seal in progress at a trigger ends: its copy stays not VALID (Table 17-6). -/
def State.stopSeals (s : State) : State := (s.setFld WARD_CKPTSTAT.SEALING 0 0).setFld WARD_CKPTSTAT.SEALING 0 1

/-- The firmware that a core starts next rescans the health map before it reads the FIFO again (R209, R344).
(DEDUCED, log entry 201.) -/
def State.rescanDue (s : State) : State := { s with scaler := { s.scaler with rescan := true } }

/-- R340 steps 1 to 3.
(DEDUCED, log entry 111.) -/
def State.failover (s : State) (reason : Nat) : State :=
  let s := (s.noteTrig.wardUpd fun w => { w with coreUp := false, bumped := true }).loseWardenCtx.rescanDue
  let s := ((s.setFld WARD_ROLE.SB_OK 0).raise WARD_FLAG.FAILOVER).setReg WARD_OVLCNT 0
  let s := ((s.setFld WARD_LASTFO.REASON reason).setFld WARD_LASTFO.FROM (s.fld WARD_ROLE.ACTIVE)).setFld WARD_LASTFO.NFO
    (min 65535 (s.fld WARD_LASTFO.NFO + 1))
  let s := (s.setReg WARD_LASTFOPOS s.posOut).stopSeals
  let s := ((s.setFld WARD_STAT.ISO_DONE 0).setFld WARD_STAT.CKPT_READY 0).setFld WARD_STAT.SWAP_REQ 0
  let s := (s.coreCause (if reason = 5 then 4 else 2)).flogPush 2 reason
  s.sbOn.setFld WARD_STAT.SSTATE 2

/-- A failover trigger ends a swap or a test in progress, one handed over too (R346): a standby whose test it ends is
UNTESTED, and a BIST that has not begun is not asked for any more.
(DEDUCED, log entry 203.) -/
def State.endOp (s : State) : State :=
  let s := s.wardUpd fun w => { w with swapWait := false }
  if s.ward.op.isSome then
    let s := (s.wardUpd fun w => { w with op := none }).setFld WARD_STAT.SWAP_REQ 0
    let s := { s with bist := { s.bist with spot := s.bist.spot.filter fun d => d != s.sbDomain } }
    s.when (s.sbState == 1 || s.sbState == 2 || s.sbState == 3) (·.setFld WARD_ROLE.SB_STATE 0)
  else s

/-- A failover trigger in WATCH or WARN (Table 17-2), or in the cycle of another one (R339). -/
def State.foTrigger (s : State) (reason gap : Nat) : State :=
  if s.trigNow then s.lowerReason reason
  else if s.sstate = 0 ∨ s.sstate = 1 then
    let s := s.endOp
    if s.escalates gap then s.escalate reason else s.failover reason
  else s

/-! ### Heartbeats (R336, R337) -/

/-- An accepted heartbeat: the deadline restarts; WARN ends, and so does a commanded swap. -/
def State.hbAccept (s : State) (token : Nat) : State :=
  let s := (s.setFld WARD_STAT.HB_LAST token).wardUpd fun w => { w with first := false }
  let s := if s.sstate = 1 then
      ((s.when s.ward.op.isNone (·.sbOff)).raise WARD_FLAG.HB_LATE).setFld WARD_STAT.SSTATE 0
    else s
  if s.ward.swapWait then (s.wardUpd fun w => { w with swapWait := false }).raise WARD_FLAG.SWAP_DONE else s

/-- HEARTBEAT: WARD_HB written by the active core.
(DEDUCED, log entry 4; DEDUCED, log entry 112.) -/
def State.heartbeat (s : State) (token gap : Nat) : State :=
  if !s.ward.coreUp then s
  else if s.ward.first || token == (s.fld WARD_STAT.HB_LAST + 1) % 65536 then s.hbAccept token
  else if s.sstate = 4 ∧ s.trigNow = false then s
  else (s.raise WARD_FLAG.HB_SEQ).foTrigger 2 gap

/-- HB_LATE: TIME / 2 µs without a heartbeat: the standby domain is switched on. -/
def State.hbLate (s : State) : State :=
  if s.ward.coreUp && s.sstate == 0 && s.on WARD_ROLE.SB_OK then s.sbOn.setFld WARD_STAT.SSTATE 1 else s

/-- HEARTBEAT_MISSED: the deadline passes. -/
def State.hbMissed (s : State) (gap : Nat) : State := if s.ward.coreUp || s.trigNow then s.foTrigger 1 gap else s

/-- CORE_ERR: the active core signals an error or lock-up.
(DEDUCED, log entry 111.) -/
def State.coreErr (s : State) (gap : Nat) : State :=
  if s.ward.coreUp || s.trigNow then (s.raise WARD_FLAG.CORE_ERR).foTrigger 3 gap else s

/-- The condition of a release stall (Table 17-1). -/
def State.relStalled (s : State) : Bool :=
  s.on WARD_POLICY.REL_TMO && s.on SYS_JOBQ_CTL.ENABLE && s.jobState == 0 &&
    (match s.jq.q with
     | .job _ _ released :: _ => !released
     | _ => false)

/-- REL_STALL: REL_TMO ms with a job descriptor unreleased. -/
def State.relStall (s : State) (gap : Nat) : State :=
  if s.relStalled then (s.raise WARD_FLAG.REL_STALL).foTrigger 4 gap else s

/-- BUS_STALL: a register bus access has not completed in 20 µs, or has at last. -/
def State.busStall (s : State) (present : Bool) : State := s.wardUpd fun w => { w with busStall := present }

/-- TAKEOVER_RELEASE: the standby domain is ON: ACTIVE changes and the incoming core is released (R340 step 4), at the end
of a core reset in progress (R306); a pulse delays it. -/
def State.takeoverRelease (s : State) (dly : Nat) (patchOk : Bool) : State :=
  if s.sstate = 2 ∧ s.pdState s.sbDomain = 2 ∧ s.cfg.pulse.isNone then
    let s := (s.setFld WARD_ROLE.ACTIVE (1 - s.fld WARD_ROLE.ACTIVE)).coreDelay dly
    (s.when s.sys.core.isNone (·.coreRelease patchOk)).setFld WARD_STAT.SSTATE 3
  else s

/-! ### The standby: BIST and check (R345, R346) -/

/-- The Spotter asks for BIST of the standby domain: it is no longer available.
(DEDUCED, log entry 87.) -/
def State.sbBist (s : State) : State :=
  let s := (s.setFld WARD_ROLE.SB_OK 0).setFld WARD_ROLE.SB_STATE 2
  { s with bist := { s.bist with spot := s.bist.spot ++ [s.sbDomain] } }

/-- The standby test failed: FAILED, the domain off; a SWAP or TEST fails with it. -/
def State.sbFailed (s : State) : State :=
  let s := ((s.setFld WARD_ROLE.SB_STATE 5).setFld WARD_ROLE.SB_OK 0).raise WARD_FLAG.SB_FAIL
  let s := s.sbOff.flogPush 4 1
  if s.ward.op.isSome then (s.wardUpd fun w => { w with op := none }).raise WARD_FLAG.SWAP_FAIL else s

/-- BIST of the standby domain ended: the core is released in standby check, or has failed. The BIST of a test that a
trigger has ended has no result, and the domain, which nothing warms, is switched off (R334, R346).
(DEDUCED, log entry 203.) -/
def State.sbBistDone (s : State) (pass : Bool) : State :=
  if s.bist.spot.contains s.sbDomain then s
  else if s.sbState ≠ 2 then s.when (s.sbState == 0 && (s.sstate == 0 || s.sstate == 4)) (·.sbOff)
  else if pass then s.setFld WARD_ROLE.SB_STATE 3
  else s.sbFailed

/-- SBCHK_RESULT: the core in standby check writes RESULT. -/
def State.sbResult (s : State) (result : Nat) : State :=
  if s.sbState ≠ 3 then s
  else
    let s := s.setFld WARD_SBCHK.RESULT result
    if result ≠ 0 then s.sbFailed
    else
      let s := ((s.setFld WARD_ROLE.SB_STATE 4).setFld WARD_ROLE.SB_OK 1).flogPush 4 0
      match s.ward.op with
      | some true => s.setFld WARD_STAT.SWAP_REQ 1
      | _ => (s.wardUpd fun w => { w with op := none }).sbOff

/-- SBCHK_TIMEOUT: 10 ms without RESULT. -/
def State.sbTimeout (s : State) : State := if s.sbState = 3 then s.sbFailed else s

/-- A standby domain that was powered for a test is ON: BIST. -/
def State.sbPowered (s : State) (d : Nat) : State :=
  if s.sbState = 1 ∧ d = s.sbDomain ∧ s.pdState d = 2 then s.sbBist else s

/-- A standby domain that was powered for a test did not come up: the test has failed (R345, R346). -/
def State.sbNoPower (s : State) (d : Nat) : State := if s.sbState = 1 ∧ d = s.sbDomain ∧ s.pdState d = 0 then s.sbFailed else s

/-- OP = TEST or SWAP (R346). TEST is accepted in HELD too (R345). One accepted while a swap waits for its HANDOVER takes
its place.
(DEDUCED, log entry 203.) -/
def State.swapStart (s : State) (swap : Bool) : State :=
  let st := s.sbState
  if s.sstate ≠ 0 || !(st == 0 || st == 4 || st == 5 || (st == 6 && !swap)) then
    s.raise WARD_FLAG.SWAP_FAIL
  else
    let s := ((s.wardUpd fun w => { w with op := some swap }).setFld WARD_STAT.SWAP_REQ 0).sbOn
    if s.pdState s.sbDomain = 2 then s.sbBist else s.setFld WARD_ROLE.SB_STATE 1

/-- OP = REARM: HALTED ends. -/
def State.wardRearm (s : State) : State := if s.sstate = 4 then s.setFld WARD_STAT.SSTATE 0 else s

/-- A host write of WARD_SWAP; a wrong KEY ignores it.
(DEDUCED, log entry 111.) -/
def State.wardSwap (s : State) (w : Word) : State :=
  if WARD_SWAP.KEY.ext w ≠ 0x3C then s
  else
    let op := WARD_SWAP.OP.ext w
    let s := s.setFld WARD_SWAP.OP op
    if WARD_SWAP.GO.ext w = 0 then s
    else match op with
      | 0 => s.swapStart true
      | 1 => s.swapStart false
      | 2 => s.wardRearm
      | _ => s

/-- HANDOVER: the active core hands over after SWAP_REQ (R346).
(DEDUCED, log entry 111.) -/
def State.handover (s : State) : State :=
  if s.on WARD_STAT.SWAP_REQ ∧ s.sstate ≤ 1 then
    (s.wardUpd fun w => { w with op := none, swapWait := true }).failover 5
  else s

/-- HANDOVER_TIMEOUT: FIRST ms without HANDOVER. -/
def State.handoverTmo (s : State) : State :=
  if s.on WARD_STAT.SWAP_REQ then
    let s := (s.wardUpd fun w => { w with op := none }).setFld WARD_STAT.SWAP_REQ 0
    (s.raise WARD_FLAG.SWAP_FAIL).sbOff
  else s

/-- A write of WARD_CTL by the active core. -/
def State.wardCtl (s : State) (w : Word) : State :=
  let s := s.when (WARD_CTL.HANDOVER.ext w == 1) (·.handover)
  s.when (WARD_CTL.SELFRST.ext w == 1 && WARD_CTL.KEY.ext w == 0x5A) (·.coreReset 3)

/-! ### Checkpoints (R343, R344) -/

/-- The first byte of a checkpoint copy. -/
def ckptBase (c : Nat) : Nat := 131072 * c

/-- SEAL: copy `c` is sealed, or the command refused. -/
def State.seal (s : State) (c : Nat) : State :=
  let s := s.setFld WARD_CKPT.COPY c
  if s.on WARD_CKPTSTAT.SEALING 0 || s.on WARD_CKPTSTAT.SEALING 1 ||
      (s.on WARD_CKPTSTAT.VALID c && !s.on WARD_CKPTSTAT.VALID (1 - c)) then s.raise WARD_FLAG.CKPT_REJ
  else (s.setFld WARD_CKPTSTAT.VALID 0 c).setFld WARD_CKPTSTAT.SEALING 1 c

/-- SEAL_DONE: the CRC stored, VALID set, SEQ shown. -/
def State.sealDone (s : State) (c : Nat) : State :=
  if s.on WARD_CKPTSTAT.SEALING c then
    let crc := crc32 (s.landingBytes (ckptBase c) 131068)
    let s := s.setFld WARD_CKPTSTAT.SEALING 0 c
    let s := s.setLanding (ckptBase c + 131068) (bytesBE 4 crc).reverse
    (s.setFld WARD_CKPTSTAT.VALID 1 c).setFld WARD_CKPTSTAT.SEQ (ofBytesBE (s.landingBytes (ckptBase c + 4) 4)) c
  else s

/-- A copy passes its test: MAGIC and check word, and no uncorrectable word (`ecc` false). -/
def State.ckptOk (s : State) (c : Nat) (ecc : Bool) : Bool :=
  s.on WARD_CKPTSTAT.VALID c && !ecc && ofBytesBE (s.landingBytes (ckptBase c) 4) == 0x574C4E44 &&
    ofBytesBE (s.landingBytes (ckptBase c + 131068) 4).reverse == crc32 (s.landingBytes (ckptBase c) 131068)

/-- The valid copy with the newer SEQ, by R29 at 32 bits. -/
def ckptPick (ok0 ok1 : Bool) (q0 q1 : Nat) : Option Nat :=
  match ok0, ok1 with
  | true, true => some (if (q1 + 2 ^ 32 - q0) % 2 ^ 32 < 2 ^ 31 ∧ q1 ≠ q0 then 1 else 0)
  | true, false => some 0
  | false, true => some 1
  | false, false => none

/-- The end of DRAIN: the incoming core may write, the outgoing one goes to recovery (Table 17-2, R345). -/
def State.drainEnd (s : State) : State :=
  if s.sstate = 3 ∧ s.on WARD_STAT.ISO_DONE ∧ s.on WARD_STAT.CKPT_READY then
    let s := s.setFld WARD_STAT.SSTATE 0
    if s.on WARD_POLICY.AUTO_BIST then s.sbBist else s.setFld WARD_ROLE.SB_STATE 6
  else s

/-- CKPT_READY: both copies are verified after a release (R344). -/
def State.ckptReady (s : State) (ecc0 ecc1 : Bool) : State :=
  if !s.ward.verify ∨ !s.ward.coreUp then s
  else
    let s := s.wardUpd fun w => { w with verify := false }
    let ok0 := s.ckptOk 0 ecc0
    let ok1 := s.ckptOk 1 ecc1
    let pick := ckptPick ok0 ok1 (s.fld WARD_CKPTSTAT.SEQ 0) (s.fld WARD_CKPTSTAT.SEQ 1)
    let s := s.when (s.on WARD_CKPTSTAT.VALID 0 && !ok0) (·.raise WARD_FLAG.CKPT_BAD)
    let s := s.when (s.on WARD_CKPTSTAT.VALID 1 && !ok1) (·.raise WARD_FLAG.CKPT_BAD)
    let s := (s.setFld WARD_CKPTSTAT.USED (bit (pick == some 0)) 0).setFld WARD_CKPTSTAT.USED (bit (pick == some 1)) 1
    let s := match pick with
      | some c => s.setFld WARD_LASTFO.CKPT c
      | none => (s.raise WARD_FLAG.CKPT_NONE).rescanDue
    (s.setFld WARD_STAT.CKPT_READY 1).drainEnd

/-! ### The fault log (R349) -/

/-- The four words of an entry. -/
def flogWords (e : FlogEnt) (seq info : Nat) : List (BitVec 64) :=
  [BitVec.ofNat 64 (e.kind * 2 ^ 56 + e.detail % 256 * 2 ^ 48 + 2 ^ 40 + e.hold.toNat),
   BitVec.ofNat 64 (e.stamp.toNat * 2 ^ 24),
   BitVec.ofNat 64 (seq * 2 ^ 32 + info),
   BitVec.ofNat 64 (e.sec * 2 ^ 16)]

/-- The recorder's program pulses of an entry of four words at `n`; the last of them is the one in progress. -/
def State.flogProgram (s : State) (n : Nat) (ws : List (BitVec 64)) : State :=
  (forTo 3 (fun i s => (s.setStump (n + i) (ws.getD i 0)).emit (.stump 1 (n + i))) s).pulseStart
    { recorder := true, erase := false, word := n + 3, data := ws.getD 3 0 }

/-- FAULT_LOG_WRITE: the oldest queued entry goes to the ring; before the first of a sector the sector is erased, by a
pulse of its own.
(DEDUCED, log entry 101.) -/
def State.flogWrite (s : State) : State :=
  match s.ward.flogQ, s.cfg.pulse with
  | e :: rest, none =>
    let n := s.fld WARD_FLOG.NEXT
    if n % 512 = 0 ∧ !s.ward.flogErased then s.pulseStart { recorder := true, erase := true, word := n, data := 0 }
    else
      let info := if e.kind = 2 then (s.reg WARD_OVLCNT).toNat / 256 else 0
      let s := s.flogProgram n (flogWords e s.ward.flogSeq info)
      let s := s.wardUpd fun w => { w with flogQ := rest, flogSeq := (w.flogSeq + 1) % 2 ^ 32, flogErased := false }
      (s.setFld WARD_FLOG.NEXT (if n + 4 < 8192 then n + 4 else 4096)).flogSync
  | _, _ => s

/-- The newest entry of the ring: its word and SEQ (R349); the recorder scans for it at every reset. An entry with a word
that reads erased, or one of the uncorrectable words `bad`, is skipped.
(DEDUCED, log entry 204.) -/
def flogNewest (m : SMap (BitVec 64)) (bad : List Nat) : Option (Nat × Nat) :=
  ((List.range 1024).map fun i => 4096 + 4 * i).foldl (fun acc a =>
    if (List.range 4).any fun i => SMap.get stumpErased m (a + i) == stumpErased || bad.contains (a + i) then acc
    else
      let q := (SMap.get stumpErased m (a + 2)).toNat / 2 ^ 32
      match acc with
      | none => some (a, q)
      | some (_, best) => if (q + 2 ^ 32 - best) % 2 ^ 32 < 2 ^ 31 then some (a, q) else acc) none

/-- NEXT and the entry number after the scan. -/
def State.flogScan (s : State) : State :=
  match flogNewest (s.stump.filter fun e => decide (4096 ≤ e.1)) s.stumpBad with
  | none => s
  | some (a, q) =>
    (s.wardUpd fun w => { w with flogSeq := (q + 1) % 2 ^ 32 }).setFld WARD_FLOG.NEXT (if a + 4 < 8192 then a + 4 else 4096)

/-- A read of WARD_LDATA: four bytes of the Landing, advancing under AUTOINC (R434). -/
def State.landingRead (s : State) : State × Word :=
  let w := s.fld WARD_LIDX.WORD
  (s.when (s.on WARD_LIDX.AUTOINC) (·.setFld WARD_LIDX.WORD (w + 1)), Word.of (ofBytesBE (s.landingBytes (4 * w) 4)))

end Sys2Proof.Machine
end

