-- ==== Sys2Proof/Machine/Bist.lean ====
section
/-! DEFINITION. Built-in self-test (spec/21_bist.md): runs, their refusal, the result of a domain, abort. -/

namespace Sys2Proof.Machine

/-- The expected signature of a domain, revision B0 (Table 21-1). -/
def bistSig (d : Nat) : Word :=
  match d with
  | 1 => 0x5C17A3E90B
  | 2 => 0x5C17A3E90B
  | 3 => 0x924E0D7C31
  | 4 => 0x0BD86F2A54
  | 5 => 0xE73391C06D
  | 6 => 0x41AF5298E7
  | 7 => 0x2D6C0BF413
  | 8 => 0xB805E761AC
  | 9 => 0x7FC9243D58
  | _ => 0

/-- A run is in progress. -/
def State.bistRuns (s : State) : Bool := s.on BIST_STAT.STATE

/-- Update the controller's own state. -/
def State.bistUpd (s : State) (f : BistSt → BistSt) : State := { s with bist := f s.bist }

/-- PD3 after its test at reset release: everything it holds at reset values, but for the SYS and BIST registers, the
straps and the fault recorder.
(DEDUCED, log entry 85.) -/
def State.resetPd3 (s : State) : State :=
  let var := s.fld CFG_STAT.VAR
  let flog := s.reg WARD_FLOG
  let s := ((s.resetBanks 0x010000 0x30000).resetRegs 0x280000 0x40000).resetRegs 0x360000 0x20000
  let s := s.resetRegs 0x380010 0x5
  let s := (s.setFld CFG_STAT.VAR var).setReg WARD_FLOG flog
  { s with txn := TxnSt.reset, jq := JobQSt.reset, landing := [], net := NetTime.reset
           ward := { WardSt.reset with flogQ := s.ward.flogQ, flogSeq := s.ward.flogSeq }
           hlnk := { s.hlnk with evq := [] } }

/-- What a domain is when its test begins and when it ends (R386 steps 1 and 4). -/
def State.bistReset (s : State) (d : Nat) : State :=
  if d = 3 then s.resetPd3
  else
    let s := s.when (d == 7) (·.dramOff)
    s.pdReset d

/-- The domain under test is on and isolated: its patterns run. -/
def State.bistGo (s : State) (d kind : Nat) : State :=
  let s := (s.setFld BIST_STAT.STATE (if kind % 2 = 1 then 2 else 3)).bistReset d
  let s := s.bistUpd fun b => { b with shown := 1 }
  s.when (d == 4 || d == 8) (·.henSyncAll)

/-- The kind of the run in progress: both for the Spotter's (R392). -/
def State.bistKind (s : State) : Nat := if s.fld BIST_STAT.SRC = 3 then 3 else s.bist.kind

/-- The test of a domain begins; one that is not ON is waited for, PD2 in a pin run switched on for it (R391).
(DEDUCED, log entry 85.) -/
def State.bistBegin (s : State) (d src kind : Nat) : State :=
  let s := ((s.setFld BIST_STAT.DOM d).setFld BIST_STAT.SRC src).setFld BIST_STAT.PROG 0
  if s.pdState d = 2 then s.bistGo d kind
  else
    let s := s.setFld BIST_STAT.STATE 1
    s.when (d == 2 && s.pdState 2 != 1) (·.setPd 2 1)

/-- The domain that a run waits for is ON. -/
def State.bistPowered (s : State) (d : Nat) : State :=
  if s.fld BIST_STAT.STATE = 1 ∧ s.fld BIST_STAT.DOM = d ∧ s.pdState d = 2 then s.bistGo d s.bistKind else s

/-- The next domain: one the Spotter asks for, else the lowest of the queue (R386, R392). -/
def State.bistNext (s : State) : State :=
  match s.bist.spot with
  | d :: rest => (s.bistUpd fun b => { b with spot := rest }).bistBegin d 3 3
  | [] =>
    let q := s.fld BIST_STAT.QUEUE
    match (List.range 10).find? fun d => q.testBit d with
    | some d => (s.setFld BIST_STAT.QUEUE (q - 2 ^ d)).bistBegin d s.bist.src s.bist.kind
    | none => s

/-- A waiting Spotter request starts at once when no run is in progress (R392). -/
def State.bistKick (s : State) : State := if !s.bistRuns && s.bist.spot != [] then s.bistNext else s

/-- Why a BIST_CTL start is refused, with the first failing domain (Table 21-2).
(DEDUCED, log entry 84.) -/
def State.bistWhy (s : State) (key kind dmask : Nat) : Option (Nat × Nat) :=
  let doms := (List.range' 4 6).filter fun d => dmask.testBit d
  let of (d : Nat) : Nat :=
    if s.pdState d ≠ 2 then 4
    else if (domainBlocks d).any (fun b => !s.blkHeld b || s.blkPend b) then 5
    else if !s.pdCond d || (d == 7 && s.fld DRAM_STAT.STATE == 5) then 6
    else 0
  if key ≠ 0x4B ∨ kind = 0 then some (1, 0)
  else if s.bistRuns || s.fld BIST_STAT.QUEUE != 0 || s.bist.spot != [] then some (2, 0)
  else if dmask = 0 then some (3, 0)
  else if dmask % 16 ≠ 0 then some (3, ((List.range 4).find? fun d => dmask.testBit d).getD 0)
  else if s.pdBusy then some (4, doms.headD 0)
  else (doms.find? fun d => of d != 0).map fun d => (of d, d)

/-- BIST_CTL written by the host, the Warden or the loader (R389, R393). -/
def State.bistCtl (s : State) (loader : Bool) (w : Word) : State :=
  let key := BIST_CTL.KEY.ext w
  let kind := BIST_CTL.KIND.ext w
  let dmask := BIST_CTL.DMASK.ext w
  let abort := BIST_CTL.ABORT.ext w == 1 && key == 0x4B && s.bistRuns
  let fields (s : State) : State := (s.setFld BIST_CTL.DMASK dmask).setFld BIST_CTL.KIND kind
  let s :=
    if BIST_CTL.GO.ext w = 0 then fields s
    else
      match s.bistWhy key kind dmask with
      | some (why, d) =>
        let clear := !s.on BIST_FLAG.REJ
        (s.raise BIST_FLAG.REJ).when clear fun s => (s.setFld BIST_REJINFO.DOMAIN d).setFld BIST_REJINFO.WHY why
      | none =>
        let s := (fields s).bistUpd fun b => { b with kind := kind, src := bit loader }
        (s.setFld BIST_STAT.QUEUE dmask).bistNext
  if abort then (s.setFld BIST_STAT.QUEUE 0).raise BIST_FLAG.ABORTED else s

/-- The run of a BIST_START_N held low at reset release: PD1 to PD9 (R391). -/
def State.bistPin (s : State) : State :=
  let s := s.bistUpd fun b => { b with kind := 3, src := 2 }
  (s.setFld BIST_STAT.QUEUE 0x3FE).bistNext

/-- The results of a domain (R386 steps 2, 3 and 5, R388): whether it passed.
(DEDUCED, log entry 5.) -/
def State.bistResult (s : State) (d kind : Nat) (sig : Word) (mf : Option MemFail) : State × Bool :=
  let logic := kind % 2 == 1
  let memry := decide (2 ≤ kind)
  let lpass := logic && sig == bistSig d
  let mpass := memry && mf.isNone
  let s := s.when logic (·.setReg BIST_SIG sig d)
  let s := (((s.setFld BIST_RES.LRUN (bit logic) d).setFld BIST_RES.LPASS (bit lpass) d).setFld BIST_RES.MRUN (bit memry)
    d).setFld BIST_RES.MPASS (bit mpass) d
  let s := s.setFld BIST_RES.NRUN (min 65535 (s.fld BIST_RES.NRUN d + 1)) d
  let lbad := logic && !lpass
  let mbad := memry && !mpass
  let s := s.when (lbad || mbad) (·.raise BIST_FLAG.FAIL)
  let s := s.when lbad (·.raise BIST_FLAG.SIG_FAIL)
  let s := match (if mbad then mf else none) with
    | none => s
    | some m =>
      let clear := !s.on BIST_FLAG.MEM_FAIL
      (s.raise BIST_FLAG.MEM_FAIL).when clear fun s =>
        (((s.setFld BIST_MFAIL.DOMAIN d).setFld BIST_MFAIL.INST m.inst).setFld BIST_MFAIL.ADDR m.addr).setFld
          BIST_MFAIL.BIT m.bitNo
  (s, !(lbad || mbad))

/-- What STATE may show of a test of a kind that has last shown `shown`, when the free number `n` picks: isolating, the
kinds it runs, releasing, never an earlier one.
(DESIGN CHOICE, log entry 173.) -/
def bistShow (kind shown n : Nat) : Nat :=
  let l := [1] ++ (if kind % 2 = 1 then [2] else []) ++ (if 2 ≤ kind then [3] else []) ++ [4]
  let p := l.getD (n % l.length) 1
  if shown ≤ p then p else shown

/-- A read of BIST_STAT: while a domain is tested, PROG is a free value that never falls, and STATE goes on from isolating
through logic and memory to releasing at times that are free.
(DESIGN CHOICE, log entry 173.) -/
def State.bistStatRead (s : State) : State × Word :=
  if s.fld BIST_STAT.STATE < 2 then (s, s.reg BIST_STAT)
  else
    let d := s.draw
    let s := d.2.setFld BIST_STAT.PROG (max (s.fld BIST_STAT.PROG) (d.1.toNat % 256))
    let s := s.bistUpd fun b => { b with shown := bistShow s.bistKind b.shown (d.1.toNat / 256) }
    (s, (s.setFld BIST_STAT.STATE s.bist.shown).reg BIST_STAT)

/-- A failed domain of PD4 to PD9 is switched off; the others are left as R329 says (R386, R388). -/
def State.bistLeave (s : State) (d : Nat) (pass : Bool) : State :=
  let s := s.bistReset d
  if pass || !decide (4 ≤ d) then s
  else
    let req := s.fld SYS_PDCTL.REQ
    (s.setFld SYS_PDCTL.REQ (if req.testBit (d - 4) then req - 2 ^ (d - 4) else req)).pdSwitch d false

/-- BIST_DOMAIN_DONE: the domain under test is done, and the next one follows. In a pin run the Spotter handles a failure of
the standby's domain; that of the active core's is recorded in the flags and BIST_RES alone.
(DESIGN CHOICE, log entry 184.) -/
def State.bistDone (s : State) (sig : Word) (mf : Option MemFail) : State :=
  if s.fld BIST_STAT.STATE < 2 then s
  else
    let d := s.fld BIST_STAT.DOM
    let spot := s.fld BIST_STAT.SRC == 3
    let pin := s.fld BIST_STAT.SRC == 2
    let r := s.bistResult d s.bistKind sig mf
    let s := ((r.1.setFld BIST_STAT.STATE 0).setFld BIST_STAT.PROG 0).bistLeave d r.2
    let s := s.when spot (·.sbBistDone r.2)
    let s := (s.when (pin && d == 2) (·.setPd 2 3)).when (pin && d == s.sbDomain && !r.2) (·.sbFailed)
    let s := s.when (spot || s.fld BIST_STAT.QUEUE == 0) (·.raise BIST_FLAG.DONE)
    let s := s.bistNext
    s.when (d == 4 || d == 8) (·.henSyncAll)

end Sys2Proof.Machine
end

