-- ==== Sys2Proof/Machine/CalBank.lean ====
section
/-! DEFINITION. The window into the calibration banks (R145, R434): the words of the three tables of Table 07-2. -/

namespace Sys2Proof.Machine

/-- The words of a table of Table 07-2; 0 for the reserved table. -/
def calWords (table : Nat) : Nat := match table with | 0 => 308 | 1 => 667 | 2 => 1 | _ => 0

/-- The entries of word `w` of a table, and the bits of an entry. -/
def calEntries (table w : Nat) : Nat :=
  match table with
  | 0 => if w = 307 then 9 else 13
  | 1 => if w = 666 then 4 else 6
  | _ => 1

/-- The width of an entry of a table. -/
def calEntryBits (table : Nat) : Nat := match table with | 0 => 3 | 1 => 6 | _ => 24

/-- The index of CAL_BANKIDX names a word. -/
def State.calIdxOk (s : State) : Bool :=
  decide (s.fld CAL_BANKIDX.PORT < 48) && decide (s.fld CAL_BANKIDX.WORD < calWords (s.fld CAL_BANKIDX.TABLE))

/-- AUTOINC: WORD, then PORT, after the last word of the selected table. -/
def State.calAdvance (s : State) : State :=
  s.when (s.on CAL_BANKIDX.AUTOINC) fun s =>
    let w := s.fld CAL_BANKIDX.WORD + 1
    if w < calWords (s.fld CAL_BANKIDX.TABLE) then s.setFld CAL_BANKIDX.WORD w
    else
      let p := s.fld CAL_BANKIDX.PORT
      (s.setFld CAL_BANKIDX.WORD 0).setFld CAL_BANKIDX.PORT (if p = 47 then 0 else p + 1)

/-- Entry `k` of word `w` of a table of a bank. -/
def State.calEntry (s : State) (b p table w k : Nat) : Nat :=
  match table with
  | 0 => s.calSel b p (13 * w + k)
  | 1 => s.calChan b p (6 * w + k)
  | _ => s.calMap b p

/-- The word that a bank holds. -/
def State.calWord (s : State) (b p table w : Nat) : Word :=
  Word.of ((List.range (calEntries table w)).foldl (fun a k =>
    a + s.calEntry b p table w k * 2 ^ (calEntryBits table * k)) 0)

/-- Set entry `k` of word `w` of a table of a bank; rows take a value put into the active bank (R287). -/
def State.setCalEntry (s : State) (b p table w k v : Nat) : State :=
  let act := s.fld CAL_CTL.ACTIVE == b
  match table with
  | 0 => ({ s with cal := { s.cal with sel := SMap.set 4 s.cal.sel (calKey b p (13 * w + k)) v } }).when act
      (·.setRowSel p (13 * w + k) 0)
  | 1 => ({ s with cal := { s.cal with chan := SMap.set 0 s.cal.chan (calKey b p (6 * w + k)) v } }).when act
      (·.setRowChan p (6 * w + k) 0)
  | _ => { s with cal := { s.cal with maps := SMap.set cmReset s.cal.maps (64 * b + p) v } }

/-- Entry `k` of a data word. -/
def calField (table : Nat) (d : Word) (k : Nat) : Nat := d.toNat / 2 ^ (calEntryBits table * k) % 2 ^ calEntryBits table

/-- The data word is one the table can hold: no reserved bit, no reserved selection code. -/
def calDataOk (table w : Nat) (d : Word) : Bool :=
  let n := calEntries table w
  decide (d.toNat < 2 ^ (calEntryBits table * n)) &&
    (table != 0 || (List.range n).all fun k => let v := calField table d k; v != 5 && v != 6)

/-- The bank is the active one or locked (R145, R147). -/
def State.calClosed (s : State) (b : Nat) : Bool :=
  s.fld CAL_CTL.ACTIVE == b || s.allSlots.any fun t => calSwap? t.writes == some b

/-- A data word put into a table of a bank. -/
def State.putCalWord (s : State) (b p table w : Nat) (d : Word) : State :=
  forTo (calEntries table w) (fun k s => s.setCalEntry b p table w k (calField table d k)) s

/-- CAL_BANK_WRITE: a write of CAL_BANKDATA (R145). -/
def State.calBankWrite (s : State) (d : Word) : State :=
  if !s.calIdxOk then s.raise CAL_FLAG.BANK_REJ
  else
    let b := s.fld CAL_BANKIDX.BANK
    let p := s.fld CAL_BANKIDX.PORT
    let t := s.fld CAL_BANKIDX.TABLE
    let w := s.fld CAL_BANKIDX.WORD
    let s := if s.calClosed b || !calDataOk t w d then s.raise CAL_FLAG.BANK_REJ else s.putCalWord b p t w d
    s.calAdvance

/-- A loader write of CAL_BANKDATA: accepted in either bank, exempt from the tests of R145 (R287); an index that names no
entry is refused (R434). -/
def State.calBankLoad (s : State) (d : Word) : State :=
  if !s.calIdxOk then s.raise CAL_FLAG.BANK_REJ
  else
    (s.putCalWord (s.fld CAL_BANKIDX.BANK) (s.fld CAL_BANKIDX.PORT) (s.fld CAL_BANKIDX.TABLE) (s.fld CAL_BANKIDX.WORD)
      d).calAdvance

/-- A read of CAL_BANKDATA. -/
def State.calBankRead (s : State) : State × Word :=
  if !s.calIdxOk then (s, 0)
  else (s.calAdvance, s.calWord (s.fld CAL_BANKIDX.BANK) (s.fld CAL_BANKIDX.PORT) (s.fld CAL_BANKIDX.TABLE)
    (s.fld CAL_BANKIDX.WORD))

/-- A write of CAL_BANKTAG (Table 07-8): it follows R145, so a non-zero reserved bit is refused. -/
def State.calTagWrite (s : State) (b : Nat) (w : Word) : State :=
  if s.calClosed b || w.toNat % 2 ^ 16 != 0 then s.raise CAL_FLAG.BANK_REJ else s.setFld CAL_BANKTAG.TAG (CAL_BANKTAG.TAG.ext w) b

end Sys2Proof.Machine
end

