-- ==== Sys2Proof/Machine/Decide.lean ====
section
/-! DEFINITION. The line decision (R97): the boundary actions of Table 01-3, the checks of Table 05-2, the launch, and the
assembly of the next line (R98). -/

namespace Sys2Proof.Machine

/-! ### Ports and copies of a line -/

/-- The ports enabled for line `n`: those of the job in force, or of the last job in its drain span; outside both, those
whose SKID_PORTCFG.EN is 1 in the value in force (R96, R98).
(DEDUCED, log entry 60.) -/
def State.linePorts (s : State) (n : Nat) : List Nat :=
  if s.drainLine n then s.jq.lastPorts
  else match s.jq.job with
    | some j => j.ports
    | none => let v := s.skidRegs; (List.range 48).filter fun p => portEnIn v p

/-- The Skidder's registers that serve line `n`: the job's copy (R88), outside jobs the values in force. -/
def State.lineCopy (s : State) (n : Nat) : SMap Word :=
  if s.drainLine n then (if s.jq.job.isSome then s.skid.prevCopy else s.skid.copy)
  else if s.jq.job.isSome then s.skid.copy else s.skidRegs

/-- The coarse offset of a port at line `n` (R79, R120). -/
def State.lineCoarse (s : State) (p n : Nat) : Nat :=
  let c := coarseIn (s.lineCopy n) p
  if s.inScan && s.scan.rev then (match s.openPage with | some pg => pg.cspan | none => 0) - c else c

/-! ### Assembly (R91, R98) -/

/-- The rows of a port by their place. -/
def State.rowTable (s : State) (p : Nat) : Array Row :=
  s.fire.rows.foldl (fun (a : Array Row) e =>
    if 256 * p ≤ e.1 ∧ e.1 < 256 * p + 256 then a.setIfInBounds (e.1 - 256 * p) e.2 else a) (Array.replicate 256 Row.reset)

/-- The value a channel takes from the row of reference line `r` (R91): none when the row is missing. -/
def rowDot (x : Row) (r ch : Nat) : Option Nat :=
  if x.st = .empty then some 0
  else if x.tag = r then (if x.st = .ready then some (lineDot x.words ch) else none)
  else if lineAfter x.tag r then none
  else some 0

/-- The values of the channels of a port at launch line `n`. -/
def State.asmDots (s : State) (p n : Nat) : List (Option Nat) :=
  let place := s.placement p n
  let rows := s.rowTable p
  let c := s.lineCoarse p n
  (List.range 4000).map fun ch =>
    let r := lineSub n (c + clampPlace (place.getD ch 0) / 16)
    rowDot (rows.getD (r % 256) Row.reset) r ch

/-- The record of FIRE_GINFO and FIRE_GPOS, made while none of the four flags is set.
(DEDUCED, log entry 57.) -/
def State.gRecord (s : State) (check port chan n : Nat) : State :=
  if s.on FIRE_GFLAG.ROW_MISS || s.on FIRE_GFLAG.LB_ECC || s.on FIRE_GFLAG.PORT_LOST || s.on FIRE_GFLAG.LINE_NAK then s
  else
    (((s.setFld FIRE_GINFO.CHECK check).setFld FIRE_GINFO.PORT port).setFld FIRE_GINFO.CHAN chan).setReg FIRE_GPOS
      (s.stampOf n)

/-- The first missing row of an assembly: port and channel. -/
def firstMiss : List (Nat × List (Option Nat)) → Option (Nat × Nat)
  | [] => none
  | (p, l) :: t =>
    match l.findIdx? (·.isNone) with
    | some ch => some (p, ch)
    | none => firstMiss t

/-- The collisions and range errors of a line, found where its columns are mapped to channels (R85).
(DEDUCED, log entry 59.)
(DESIGN CHOICE, log entry 191.) -/
def State.collisions (s : State) (n : Nat) : State :=
  let v := s.calView n
  let r := (s.linePorts n).map fun p => (p, s.routing v p)
  let s := match r.find? fun e => e.2.collide.isSome with
    | none => s
    | some (p, x) =>
      let s := s.when (!s.on SKID_FLAG.COLLIDE) fun s =>
        ((s.setFld SKID_COLLINFO.PORT p).setFld SKID_COLLINFO.CHAN (x.collide.getD 0)).setReg SKID_COLLPOS (s.stampOf n)
      s.raiseS SKID_FLAG.COLLIDE 0 (s.stampOf n)
  s.when (r.any fun e => e.2.range) (·.raiseS SKID_FLAG.RMAP_RANGE 0 (s.stampOf n))

/-- A line is assembled: every line outside scan mode (R98), in scan mode the lines of a swath. -/
def State.assembles (s : State) (n : Nat) : Bool :=
  if s.inScan then
    let st := s.fld FIRE_SCANSTAT.SSTATE
    (st == 1 || st == 2) && decide (n ≤ s.qEnd)
  else true

/-- Assembly of line `n`: the LINE packet of every enabled port goes out where its link runs; a missing row or a damaged
one is recorded for check 2, in FIRE_GINFO and FIRE_GPOS too unless check 1 settles the line (`counts` false).
(DEDUCED, log entry 59; DEDUCED, log entry 60.) -/
def State.assemble (s : State) (n : Nat) (counts : Bool) (f : LineFaults) : State :=
  if !s.assembles n then s
  else
    let lines := (s.linePorts n).map fun p => (p, s.asmDots p n)
    let s := forIn' lines (fun e s =>
      s.when (s.lstate e.1 == 3) (·.emit (linePkt e.1 n (packLine fun ch => (e.2.getD ch none).getD 0)))) s
    let miss := firstMiss lines
    let s := match miss, f.lbEcc with
      | some x, _ => s.when counts (·.gRecord 2 x.1 x.2 n)
      | none, some x => s.when counts (·.gRecord 2 x.1 x.2 n)
      | none, none => s
    let s := s.when miss.isSome (·.raiseS FIRE_GFLAG.ROW_MISS 0 (s.stampOf n))
    let s := s.when f.lbEcc.isSome (·.raiseS FIRE_GFLAG.LB_ECC 0 (s.stampOf n))
    let s := s.when f.lbCorr (·.raise FIRE_GFLAG.LB_CORR)
    let s := (s.when f.bankCorr (·.raise CAL_FLAG.BANK_CORR)).collisions n
    let cause := if miss.isSome then some (n, 1) else if f.lbEcc.isSome then some (n, 12) else none
    { s with fire := { s.fire with asmFail := cause } }

/-! ### Page and job boundaries (step 2 of Table 01-3) -/

/-- The last line of the open page. -/
def lastLine (p : JPage) : Option Nat := p.start.map fun n => lineMod (n + p.d.length + 2 ^ 24 - 1)

/-- The ending page closes at line `n`. -/
def State.closePage (s : State) (n : Nat) : State :=
  match s.openPage with
  | some p =>
    if (lastLine p).any (fun e => e == lineSub n 1) then
      (s.updPage p.ser fun p => { p with ph := .closed }).setJobState 3
    else s
  | none => s

/-- The waiting page that opens at line `n`: its turn, its start line, its barrier complete. -/
def State.opening (s : State) (n : Nat) : Option JPage :=
  s.jobPages.find? fun p => p.ph == .waiting && s.nextToOpen p && p.start == some n && s.barrierOk p.d

/-- The page that is due opens at line `n` (R15, R21).
(DESIGN CHOICE, log entry 151.) -/
def State.openAt (s : State) (n : Nat) : State :=
  match s.opening n, s.jq.job with
  | some p, some j =>
    if s.isFirst p ∧ j.d.gen ≠ s.fld TXN_GEN.GEN then s.failJob 6 n
    else
      let s := match s.jq.q with
        | .page _ _ :: rest => s.setQueue rest
        | _ => s
      let s := ((s.updPage p.ser fun p => { p with ph := .opened }).jqUpd fun q => { q with pmMissed := false }).dropArrivals p.d
      ((s.setJobState 2).setFld FIRE_OVSP_STAT.PAGE_CNT 0).planPages
  | _, _ => s

/-- The failure that a head table brought for the job in force (R107). -/
def State.dueFail (s : State) (n : Nat) : State :=
  match s.fire.failDue, s.jq.job with
  | some (ser, m), some j =>
    if ser = j.ser ∧ lineAtOrAfter n m then
      ({ s with fire := { s.fire with failDue := none } } : State).failJob 12 n
    else s
  | _, _ => s

/-- Step 2 of Table 01-3 in a single-pass job. -/
def State.boundary (s : State) (n : Nat) : State := (((s.closePage n).hpPageEnd).openAt n).dueFail n

/-! ### Head temperature (R133 to R136, step 3) -/

/-- The last reported maximum of a port. -/
def Port.tmax (x : Port) : Int := max x.t0 x.t1

/-- TSTATE of a port: 0 NORMAL, 1 COOL, 2 HANDED. -/
def State.tstate (s : State) (p : Nat) : Nat := s.fld FIRE_THSTAT.TSTATE p

/-- A hand-over from port `p` is available (R134). -/
def State.thHandover (s : State) (ports : List Nat) (p : Nat) : Bool :=
  let q := s.fld FIRE_THCFG.PARTNER p
  !s.on FIRE_THCFG.STANDBY p && decide (q < 48) && s.on FIRE_THCFG.STANDBY q && s.fld FIRE_THCFG.PARTNER q == p &&
    decide (q ∈ ports) && s.lstate q == 3 && s.tstate q == 0 && decide ((s.port q).tmax < s.sfld FIRE_THCFG.HI q) &&
    !(s.port q).limit

/-- A thermal action of port `p` at the boundary of a stamp (R135): THFIRST and THPOS with the first, then the flag. -/
def State.thAction (s : State) (p code : Nat) (stamp : Word) : State :=
  let first := (List.range 48).all fun q => !s.on FIRE_THFLAG.ACTION q
  let s := s.when first fun s =>
    ((s.setFld FIRE_THFIRST.PORT p).setFld FIRE_THFIRST.ACTION code).setReg FIRE_THPOS stamp
  s.raiseS FIRE_THFLAG.ACTION p stamp

/-- The port returns to NORMAL. -/
def State.thRelease (s : State) (p : Nat) (stamp : Word) : State :=
  ((s.setFld FIRE_THSTAT.TSTATE 0 p).raiseS FIRE_THFLAG.RELEASED p stamp).thAction p 3 stamp

/-- The FAIL action: the job fails when the port is enabled in it; otherwise it is no action. `s0` is the state before the
boundary's actions.
(DEDUCED, log entry 67.) -/
def State.thFail (s s0 : State) (p n : Nat) : State :=
  if s0.jobRuns && s0.jq.job.any (fun j => decide (p ∈ j.ports)) then (s.thAction p 2 (s0.stampOf n)).failJob 8 n else s

/-- Table 06-4 for one port; `s0` is the state before the boundary's actions. -/
def State.thermalPort (s0 : State) (n p : Nat) (s : State) : State :=
  let x := s0.port p
  let t := s0.tstate p
  let lo := s0.sfld FIRE_THCFG.LO p
  let at0 := s0.stampOf n
  if t = 0 then
    if !x.limit then s
    else
      match s0.fld FIRE_THCFG.ACT p with
      | 0 => (s.setFld FIRE_THSTAT.TSTATE 1 p).thAction p 0 at0
      | 1 =>
        if s0.thHandover (s0.linePorts n) p then (s.setFld FIRE_THSTAT.TSTATE 2 p).thAction p 1 at0
        else
          let s := s.raiseS FIRE_THFLAG.NO_ALT p at0
          if s0.on FIRE_THCFG.FALLBACK p then s.thFail s0 p n
          else (s.setFld FIRE_THSTAT.TSTATE 1 p).thAction p 0 at0
      | _ => s.thFail s0 p n
  else if x.limit then s
  else if t = 1 ∧ s0.on FIRE_THCFG.AUTO_REL p ∧ x.winMin.any (fun w => decide (w ≤ lo)) then s.thRelease p at0
  else if s0.on FIRE_THCFG.REL p ∧ x.tmax ≤ lo ∧ (t = 1 ∨ s0.lstate (s0.fld FIRE_THCFG.PARTNER p) = 3) then
    s.thRelease p at0
  else s

/-- Step 3: every port in order; REL acts once; the line window ends.
(DEDUCED, log entry 67.) -/
def State.thermal (s : State) (n : Nat) : State :=
  let s0 := s
  let s := forTo 48 (fun p s => s0.thermalPort n p s) s
  forTo 48 (fun p s =>
    let s := s.when (s.on FIRE_THCFG.REL p) (·.setFld FIRE_THCFG.REL 0 p)
    s.updPort p fun x => { x with limit := false, winMin := none }) s

/-- FIRE_THSTAT.FIRING: the port's GO carries FIRE = 1 in launched lines (R135). -/
def State.firing (s : State) (p : Nat) : Bool :=
  let q := s.fld FIRE_THCFG.PARTNER p
  s.tstate p != 2 && (!s.on FIRE_THCFG.STANDBY p || (decide (q < 48) && s.tstate q == 2 && s.fld FIRE_THCFG.PARTNER q == p))

/-- The waveform set in force for a port (R102). -/
def State.wsetNow (s : State) (p : Nat) : Nat :=
  if s.tstate p = 1 then s.fld FIRE_WAVE.COOL p else s.fld FIRE_WAVE.SET p

/-! ### The checks of Table 05-2 -/

/-- Check 1: line `n` lies in a job whose first page has opened, in a swath, or in a drain span.
(DEDUCED, log entry 57.) -/
def State.check1 (s : State) (n : Nat) : Bool :=
  if s.inScan then (s.jobState == 2 || s.jobState == 3) && s.fld FIRE_SCANSTAT.SSTATE == 2 && decide (n ≤ s.qEnd)
  else s.jobState == 2 || s.jobState == 3 || s.drainLine n

/-- The job fails from line `n`; a line of the drain span fails no job. -/
def State.failOn (s : State) (cause n : Nat) : State := if s.drainLine n then s else s.failJob cause n

/-- Every port in RUN sends GO with FIRE = 0 and no strobes. -/
def State.discardLine (s : State) (n : Nat) : State :=
  forTo 48 (fun p s =>
    s.when (s.sendsGo p) (·.updPort p fun x =>
      { x with goDue := x.goDue ++ [{ line := n, fire := false, strobes := false, wset := s.wsetNow p }] })) s

/-- Check 3 for a port: in RUN with HEAD_EN high. -/
def State.portRuns (s : State) (p : Nat) : Bool := s.sendsGo p && s.on FIRE_PORTSTAT.HEN_OUT p

/-- Check 4 for a port: the ACK of line `n`, and the waveform set valid on the head. -/
def State.acked (s : State) (p n : Nat) : Bool := (s.port p).ackOk == some n

/-- The waveform set of the port is valid on its head. -/
def State.wsetOk (s : State) (p : Nat) : Bool := (s.fld FIRE_PORTSTAT.WVALID p).testBit (s.wsetNow p)

/-- I_min (R128). -/
def State.iMin (s : State) : Nat := 1200000000 / s.maxRate - 1

/-- A line suppressed by the overspeed test (R131, R132). -/
def State.suppress (s : State) (n : Nat) : State :=
  let stamp := s.stampOf n
  let s := s.when (!s.on FIRE_OVSP_FLAG.SUPPRESS) (·.setReg FIRE_OVSP_FIRST stamp)
  let s := s.raiseS FIRE_OVSP_FLAG.SUPPRESS 0 stamp
  let s := if s.fire.ovspFifo.length < 16 then
      ({ s with fire := { s.fire with ovspFifo := s.fire.ovspFifo ++ [stamp] } } : State).setFld FIRE_OVSP_STAT.LEVEL
        (s.fire.ovspFifo.length + 1)
    else s.raiseS FIRE_OVSP_FLAG.FIFO_OVF 0 stamp
  let c := min (2 ^ 24 - 1) (s.fld FIRE_OVSP_STAT.PAGE_CNT + 1)
  let s := s.setFld FIRE_OVSP_STAT.PAGE_CNT c
  if s.on FIRE_OVSP_LIMIT.ACT then s.failOn 4 n
  else if s.fld FIRE_OVSP_LIMIT.LIMIT < c then s.failOn 3 n
  else s

/-- The ports that R116 excludes from a scan-mode job and that are in RUN. -/
def State.excludedPorts (s : State) : List Nat :=
  if s.inScan then
    (List.range 48).filter fun p => decide (8 ≤ p) && portEnIn s.skid.copy p && s.sendsGo p
  else []

/-- Line `n` is launched (R99): every enabled port has a GO due, with its strobes. -/
def State.launch (s : State) (n : Nat) : State :=
  let go (fire : Nat → Bool) (ps : List Nat) (s : State) : State := forIn' ps (fun p s =>
    s.updPort p fun x => { x with goDue := x.goDue ++ [{ line := n, fire := fire p, strobes := true, wset := s.wsetNow p }] }) s
  let ports := s.linePorts n
  let s := go (fun p => s.firing p) ports s
  let s := go (fun _ => false) s.excludedPorts s
  { s with fire := { s.fire with sinceLaunch := some 0 } }

/-- Checks 1 to 5 for line `n`.
(DEDUCED, log entry 58.) -/
def State.lineChecks (s : State) (n : Nat) : State :=
  let ports := s.linePorts n
  if !s.check1 n then s
  else
    match (match s.fire.asmFail with | some (m, c) => if m = n then some c else none | none => none) with
    | some c => (s.discardLine n).failOn c n
    | none =>
      match ports.find? fun p => !s.portRuns p with
      | some p =>
        let s := (s.gRecord 3 p 0 n).raiseS FIRE_GFLAG.PORT_LOST 0 (s.stampOf n)
        (s.discardLine n).failOn 12 n
      | none =>
        match ports.find? fun p => !s.acked p n || !s.wsetOk p with
        | some p =>
          let s0 := s
          let s := forIn' ports (fun p s =>
            let s := s.when (!s0.acked p n) (·.portErr FIRE_PORTFLAG.NAK p (s.stampOf n))
            s.when (!s0.wsetOk p) (·.raiseS FIRE_PORTFLAG.WSET_INVALID p (s.stampOf n))) s
          let s := (s.gRecord 4 p 0 n).raiseS FIRE_GFLAG.LINE_NAK 0 (s.stampOf n)
          let s := s.discardLine n
          if s.on FIRE_GCTL.NAK_ACT then s.failOn 12 n else s
        | none =>
          if s.fire.sinceLaunch.any fun c => decide (c < s.iMin) then (s.discardLine n).suppress n
          else s.launch n

/-! ### The decision -/

/-- The decision for the last line of the job's LAST page ends the job (JOB_DONE). -/
def State.jobDoneAt (s : State) (n : Nat) : State :=
  match s.openPage with
  | some p => if p.d.last && !p.job.scan && lastLine p == some n then s.endJob n p.d.pageNo else s
  | none => s

/-- The bar-wide snapshot at line `n` (R234). -/
def State.snapAt (s : State) (n : Nat) : State :=
  let l := s.bar.snapLines
  if l.any fun e => e.1 == n then
    let s := s.snapshot.setReg TALLY_SNAPPOS (lineStamp n + Word.of (s.posOut.toNat % 65536))
    let s := s.updBar fun b => { b with snapLines := l.filter fun e => e.1 != n }
    s.when (l.contains (n, true)) (·.setFld BAR_GOP.BUSY 0)
  else s

/-- The next decision belongs to the next line. -/
def State.bumpLine (s : State) (scan : Bool) (n : Nat) : State :=
  if scan then { s with scan := { s.scan with swathLine := lineMod (n + 1) } }
  else { s with pos := { s.pos with nextDec := lineMod (n + 1), decided := true } }

/-- The decision for swath line `q` changes the swath's state (Table 06-2). -/
def State.swathStep (s : State) (q : Nat) : State :=
  s.when (s.fld FIRE_SCANSTAT.SSTATE == 1 && decide (q < 2 ^ 23)) (·.setFld FIRE_SCANSTAT.SSTATE 2)

/-- A page opens at line `n` whose start was not known at the decision before (R435, R46): the page-mark transactions whose
arming was complete before that decision resolve to `n` (Table 08-3). -/
def State.markLate (s : State) (n : Nat) : State :=
  s.when (s.pos.decided && (s.opening n).isSome) fun s => s.prepareMarks n fun t => t.armDec != n

/-- The decision in a single-pass job or between jobs. -/
def State.decideWeb (s : State) (n : Nat) (f : LineFaults) : State :=
  let s := ((((((s.drainOver n).snapAt n).markLate n).commitAt n)).boundary n).thermal n
  let s := (s.lineChecks n).bumpLine false n
  let s := s.jobDoneAt n
  let m := lineMod (n + 1)
  let opens := (s.opening m).isSome
  (s.prepareFor m opens).assemble m (s.check1 m || opens) f

/-- Step 2 of the boundary of swath line 0 of a job's first page: GEN is compared (R21, R168). -/
def State.genCheck (s : State) (q : Nat) : State :=
  if s.scan.genDue ∧ q < 2 ^ 23 then
    let s : State := { s with scan := { s.scan with genDue := false } }
    if s.jq.job.any fun j => j.d.gen != s.fld TXN_GEN.GEN then s.failJob 6 q else s
  else s

/-- The first line of a swath armed with that line already at hand is assembled at the arming, so that it is launched as
the coordinate passes it (R124).
(DEDUCED, log entry 165.) -/
def State.armAssemble (s : State) : State :=
  if !s.scan.asmDue then s
  else
    let s : State := { s with scan := { s.scan with asmDue := false } }
    s.when s.inScan (·.assemble s.scan.swathLine true
      { lbEcc := none, lbCorr := false, bankEcc := false, bankCorr := false })

/-- The decision in a swath. After the last line of the swath the feed begins; in FEED and HELD no decision acts. -/
def State.decideSwath (s : State) (q : Nat) (f : LineFaults) : State :=
  let st := s.fld FIRE_SCANSTAT.SSTATE
  if st ≠ 1 ∧ st ≠ 2 then s
  else
    let s := (((((s.snapAt q).commitSwath q).genCheck q).dueFail q)).thermal q
    if !s.inScan then s
    else if q < 2 ^ 23 ∧ s.qEnd < q then
      let last := passLast s.entryNow
      let s := s.swathEnd
      s.when last fun s =>
        if s.fld SYS_HPSTAT.HSTATE = 1 ∧ s.fld SYS_HPCFG.END = 1 then s.hpFlush.hpPrintEnd else s
    else
      let s := ((s.swathStep q).lineChecks q).bumpLine true q
      let m := lineMod (q + 1)
      if s.inScan then s.assemble m true f else s

/-- LINE_DECISION: the decision position reaches the target of the next line, `dt` CK_CORE cycles after the decision
before. It reaches none while the position stands still (R41, R43).
(DEDUCED, log entry 58.) -/
def State.lineDecision (s : State) (dt : Nat) (f : LineFaults) : State :=
  if !s.moves then s
  else
  let s : State := { s with fire := { s.fire with sinceLaunch := s.fire.sinceLaunch.map (· + dt) } }
  let s := if s.inScan then s.decideSwath s.scan.swathLine f else s.decideWeb s.pos.nextDec f
  s.when f.bankEcc (·.bankEcc)

end Sys2Proof.Machine
end

