-- ==== Sys2Proof/Machine/HotPlug.lean ====
section
/-! DEFINITION. The hot-plug sequence (spec/22_pins_hot_plug.md, R405 to R411) and the test access port (R404). -/

namespace Sys2Proof.Machine

/-- HSTATE: 0 NORMAL, 1 END_PRINT, 2 PARK, 3 DISABLE, 4 BAR_LEAVE, 5 SAFE, 6 INSERTING. -/
def State.hstate (s : State) : Nat := s.fld SYS_HPSTAT.HSTATE

/-- An entry of the hot-plug log: written at NEXT, which advances modulo 8; COUNT saturates (R411). -/
def State.hpLog (s : State) (kind : Nat) : State :=
  let n := s.fld SYS_HPLOGWR.NEXT
  let s := (s.setFld SYS_HPLOG.KIND kind n).setFld SYS_HPLOG.HOLD (s.reg SYS_HOLD).toNat n
  (s.setFld SYS_HPLOGWR.NEXT (n + 1)).setFld SYS_HPLOGWR.COUNT (min 65535 (s.fld SYS_HPLOGWR.COUNT + 1))

/-- Enter a state: HEAD_EN and HP_SAFE follow, and the gating of LITE_EN, MOT_EN and the bridges begins or ends (R405,
R406). -/
def State.hpGo (s : State) (st : Nat) : State :=
  let was := s.hpGates
  let s := (s.setFld SYS_HPSTAT.HSTATE st).henSyncAll
  if s.hpGates = was then s
  else
    let s := forTo 16 (fun c s => s.when (s.cstate c == 3) (·.emit (s.liteBall c (!s.hpGates)))) s
    forTo 8 (fun n s => s.when (s.axisUp n) fun s => (s.motEnOut n).when s.hpGates (·.bridgesOff n)) s

/-- SAFE: HP_SAFE released, the flag, the log entry. -/
def State.hpSafe (s : State) : State := ((s.hpGo 5).raise SYS_HPFLAG.SAFE).hpLog 3

/-- DISABLE: every axis stopped and disabled, every lamp channel OFF, HEAD_EN held; then BAR_LEAVE (Table 22-5). -/
def State.hpDisable (s : State) : State :=
  let s := s.hpGo 3
  let s := forTo 8 (fun n s => (s.motCmdStop n).axisEnable n false) s
  let s := forTo 16 (fun c s => (s.setFld LITE_CH.MODE 0 c).liteStop c 0) s
  let s := s.hpGo 4
  if s.bstate = 3 then s.barLeave else s.hpSafe

/-- Print end is reached with no further event (R407): the job in force at the command before it, `was`, has failed, or,
but under PAGE, no job runs that ran. Under PAGE a job that is done ends its last page: print end is then at the decision
for the next line (`State.hpPageEnd`).
(DEDUCED, log entry 88.) -/
def State.printEnded (s was : State) : Bool :=
  let gone := was.jq.job.any fun j => s.jq.job.all fun k => k.ser != j.ser
  let failed := was.jq.job.any fun j => s.jq.doneSer != some j.ser
  if s.fld SYS_HPCFG.END = 1 then gone && failed else gone || !s.jobRuns

/-- A takeover is in progress: the new core is not yet released (R410). -/
def State.takesOver (s : State) : Bool := let st := s.fld WARD_STAT.SSTATE; st == 2 || st == 3

/-- The transitions that need no event (Table 22-5): print end, PARK with no Warden core released or about to be, the end of
BAR_LEAVE. `was` is the state before the command.
(DEDUCED, log entry 88.) -/
def State.hpSettle (s was : State) : State :=
  let s := if s.hstate = 1 ∧ s.printEnded was then s.hpPrintEnd else s
  let s := if s.hstate = 2 ∧ !s.ward.coreUp ∧ !s.takesOver then s.hpDisable else s
  if s.hstate = 4 ∧ s.bstate ≠ 3 then s.hpSafe else s

/-- HP_REQ: the filtered removal request becomes active; in NORMAL the quiesce begins with the print end of
SYS_HPCFG.END (R407). -/
def State.hpReq (s : State) : State :=
  let s := s.setFld SYS_HPSTAT.REQ 1
  if s.hstate ≠ 0 then s
  else
    let s := ((s.raise SYS_HPFLAG.REQ).hpLog 2).hpGo 1
    match s.fld SYS_HPCFG.END with
    | 1 => if s.openPage.isNone then s.hpFlush.hpPrintEnd else s
    | 2 => s.setFld SYS_JOBQ_CTL.ENABLE 0
    | _ => s.hpFlush.hpPrintEnd

/-- HP_PRINT_END: print end is reached, where it has been (R407): no job runs, and under PAGE no page is in progress.
(DEDUCED, log entry 88.) -/
def State.hpEndCheck (s : State) : State :=
  if s.hstate = 1 ∧ !s.jobRuns then (s.when (s.fld SYS_HPCFG.END == 1) (·.hpFlush)).hpPrintEnd else s

/-- HP_END_TMO: END_TMO ms without print end: forced as LINE. -/
def State.hpEndTmo (s : State) : State :=
  if s.hstate = 1 then ((s.raise SYS_HPFLAG.END_TMO).hpFlush).hpPrintEnd else s

/-- Every axis of PARK_AXES is IDLE with an empty queue.
(DEDUCED, log entry 89.) -/
def State.parkedOk (s : State) : Bool :=
  (List.range 8).all fun n => !(s.fld SYS_HPCFG.PARK_AXES).testBit n || (s.astate n == 1 && (s.axis n).queue == [])

/-- PARKED written in PARK while the park axes stand. -/
def State.hpParked (s : State) : State := if s.hstate = 2 ∧ s.parkedOk then s.hpDisable else s

/-- HP_PARK_TMO: PARK_TMO ms in PARK. -/
def State.hpParkTmo (s : State) : State := if s.hstate = 2 then (s.raise SYS_HPFLAG.PARK_TMO).hpDisable else s

/-- HP_BAR_LEAVE_TIMEOUT: 200 µs in BAR_LEAVE. -/
def State.hpLeaveTmo (s : State) : State := if s.hstate = 4 then s.hpSafe else s

/-- HP_CANCEL: the removal request becomes inactive; during the quiesce it is recorded, and the quiesce goes on. -/
def State.hpCancel (s : State) : State :=
  let s := s.setFld SYS_HPSTAT.REQ 0
  if 1 ≤ s.hstate ∧ s.hstate ≤ 4 then (s.raise SYS_HPFLAG.CANCEL).hpLog 4 else s

/-- HP_INSERT: the request inactive for 100 ms in INSERTING. -/
def State.hpInsert (s : State) : State :=
  if s.hstate = 6 ∧ !s.on SYS_HPSTAT.REQ then ((s.raise SYS_HPFLAG.INSERT).hpLog 6).hpGo 0 else s

/-- RESUME written in SAFE with the request inactive. -/
def State.hpResume (s : State) : State :=
  if s.hstate = 5 ∧ !s.on SYS_HPSTAT.REQ then (s.hpLog 5).hpGo 0 else s

/-- Release of a power-on or system reset: INSERTING with its log entry when the request is active (R406). -/
def State.hpStart (s : State) : State := if s.on SYS_HPSTAT.REQ then (s.hpGo 6).hpLog 1 else s.hpGo 0

/-! ### The test access port (R404) -/

/-- Set the instruction register. -/
def State.tapIr (s : State) (ir : Nat) : State := { s with tap := { s.tap with ir := ir } }

/-- The IDCODE register, bit 0 first. -/
def idcodeBits : List Bool := (List.range 32).map fun i => (0x148006D7 : Nat).testBit i

/-- The port works: VDD, and its balls' rail (R401).
(DEDUCED, log entry 216.) -/
def State.tapOn (s : State) : Bool := s.railOk 6 && s.railOk 1

/-- The cells that EXTEST drives, with their levels. -/
def bsrDriven (bsr : List Bool) : List (Nat × Bool) :=
  ((List.range bsrDrives.length).filter fun i => bsrDrives.getD i false).map fun i => (i, bsr.getD i false)

/-- A scan of the boundary-scan register: it captures the balls (`sampled`, one level a cell), and its cells are shifted out
on TDO, from the first one on, as `shifted` goes in.
(DESIGN CHOICE, log entry 215.) -/
def State.bsrScan (s : State) (sampled shifted : List Bool) : State :=
  let cells := (List.range bsrDrives.length).map (fun i => sampled.getD i false) ++ shifted
  let s := s.emit (.tdo (cells.take shifted.length))
  { s with tap := { s.tap with bsr := cells.drop shifted.length } }

/-- EXTEST: the covered outputs are driven from the register, by what it held and then by what the scan brings. -/
def State.tapExtest (s : State) (sampled shifted : List Bool) : State :=
  let s := ((s.tapIr 0x00).emit (.extest (bsrDriven s.tap.bsr))).bsrScan sampled shifted
  s.emit (.extest (bsrDriven s.tap.bsr))

/-- SAMPLE/PRELOAD: as EXTEST, without driving. -/
def State.tapSample (s : State) (sampled shifted : List Bool) : State := (s.tapIr 0x01).bsrScan sampled shifted

/-- IDCODE, loaded or selected by Test-Logic-Reset: the identification register is shifted out. -/
def State.tapIdcode (s : State) : State := (s.tapIr 0x02).emit (.tdo idcodeBits)

/-- BYPASS and every other code: one flip-flop, zero at capture, before the bits shifted in. -/
def State.tapBypass (s : State) (code : Nat) (bits : List Bool) : State :=
  (s.tapIr code).emit (.tdo ((false :: bits).take bits.length))

end Sys2Proof.Machine
end

