-- ==== Sys2Proof/Machine/Bus.lean ====
section
/-! DEFINITION. The register bus (spec/08_registers_transactions.md, R3, R4, R154 to R156, R427): a write and a read of
one word from an origin, and what a write of each register with an effect of its own does. -/

namespace Sys2Proof.Machine

/-! ### Origins and statuses -/

/-- An origin's number in SYS_RWL_REJECT and TXN_DIRADDR: 0 host, 1 Warden, 3 loader. -/
def originNum : Origin → Nat
  | .host => 0
  | .warden => 1
  | .loader => 3

/-- The address of an origin's own copy of a banked register (R159, R241); the plain address otherwise. -/
def bankAddr (o : Origin) (row : RegRow) (a : Nat) : Nat :=
  if row.reg.s1 = 2 ^ 24 then row.reg.at (originNum o) else a

/-- The loader has no copy of a banked register (R159).
(DEDUCED, log entry 29.) -/
def noBank (o : Origin) (row : RegRow) : Bool := row.reg.s1 == 2 ^ 24 && o == .loader

/-- How an access ends (Table 08-1). -/
inductive AccStat where
  | ok | unmapped | isolated
  deriving DecidableEq, Repr

/-- The code of a status in REG_RESP (R255). -/
def AccStat.code : AccStat → Nat
  | .ok => 0
  | .unmapped => 1
  | .isolated => 2

/-! ### Fields under their access codes (R4) -/

/-- The register word after a write of `w` to the word `old`: RW, RWL and RWS fields take the value, a 1 clears a W1C
bit, RO and WO fields stay.
(DEDUCED, log entry 140.) -/
def storeFields (fields : List Fld) (old w : Word) : Word :=
  fields.foldl (fun v f =>
    match f.acc with
    | .rw => f.ins v (f.ext w)
    | .rwl => f.ins v (f.ext w)
    | .rws => f.ins v (f.ext w)
    | .w1c => v &&& ~~~ (w &&& f.mask)
    | .ro => v
    | .wo => v) old

/-- A written word with the fields of one access code put back to what the register holds. -/
def keepFields (acc : Access) (fields : List Fld) (old w : Word) : Word :=
  fields.foldl (fun v f => if f.acc = acc then f.ins v (f.ext old) else v) w

/-- Store a written word under its fields' access codes. -/
def State.store (s : State) (r : Reg) (i j : Nat) (w : Word) : State :=
  s.setReg r (storeFields (fieldsAt (r.at i j)) (s.reg r i j) w) i j

/-- Store a written word in a flag register: the bits it clears are known for its cycle (R8); HLNK_ERRINFO records again
once none of its flags is set (R257).
(DESIGN CHOICE, log entry 209.) -/
def State.flagStore (s : State) (fr : FlagRow) (i j : Nat) (w : Word) : State :=
  let t := s.store fr.flag i j w
  let t := t.noteClear fr i (s.reg fr.flag i &&& ~~~ t.reg fr.flag i)
  t.when (fr.flag == HLNK_FLAG && !t.hdrFault) (·.hlUpd fun h => { h with errCap := false })

/-- The block of an RWL field is held in its reset: BAR_CFG belongs to both bar lane groups, the HLNK registers to the
host lane group (R217, R264).
(DEDUCED, log entry 119.) -/
def State.rwlOpen (s : State) (a : Nat) : Bool :=
  if a = BAR_CFG.base then !s.pdOn 8 || (s.blkHeld 56 && s.blkHeld 57) else s.regDown a

/-- The refusal of a write to RWL fields outside the block reset (R4). -/
def State.rwlReject (s : State) (o : Origin) (a : Nat) : State :=
  (s.when (!s.on SYS_FLAG.RWL_REJ) fun s =>
    (s.setFld SYS_RWL_REJECT.ADDR a).setFld SYS_RWL_REJECT.ORIGIN (originNum o)).raise SYS_FLAG.RWL_REJ

/-- A direct write to RWS fields (R156). -/
def State.directWrite (s : State) (o : Origin) (a : Nat) : State :=
  (s.when (!s.on TXN_FLAG.DIRECT_WR) fun s =>
    (s.setFld TXN_DIRADDR.ADDR a).setFld TXN_DIRADDR.ORIGIN (originNum o)).raise TXN_FLAG.DIRECT_WR

/-- A write of an enable register: each bit written 1 while its flag is set queues an EVENT packet (R261).
(DEDUCED, log entry 30.) -/
def State.enableWrite (s : State) (fr : FlagRow) (i j : Nat) (w : Word) : State :=
  let s := s.store fr.en i j w
  let now := s.reg fr.en i &&& w &&& s.reg fr.flag i
  forTo 16 (fun b s => s.when (now.getLsbD b) (·.queueEvent (s.evtOf (fr.base + i * fr.stride + b)))) s

/-! ### Writes with an effect of their own -/

/-- A WO or RW bit of a written word. -/
def wbit (f : Fld) (w : Word) : Bool := f.ext w == 1

/-- SYS_RSTCMD (R302, R306): a wrong KEY sets CMD_REJ. -/
def State.rstcmdWrite (s : State) (w : Word) : State :=
  if SYS_RSTCMD.KEY.ext w ≠ 0x5A then s.raise SYS_FLAG.CMD_REJ
  else
    let s := s.when (wbit SYS_RSTCMD.SYS w) (·.requestReset 4 0)
    s.when (wbit SYS_RSTCMD.CORE w) (·.coreReset 1)

/-- SYS_HPCTL (R406); PARKED is accepted from the Warden and the host (R411). -/
def State.hpctlWrite (s : State) (o : Origin) (w : Word) : State :=
  let was := s.hstate
  let s := s.when (wbit SYS_HPCTL.PARKED w && o != .loader) (·.hpParked)
  s.when (wbit SYS_HPCTL.RESUME w && was == 5) (·.hpResume)

/-- POS_CTL: SRC as `store` leaves it, then ENABLE, then REARM.
(DEDUCED, log entry 38.) -/
def State.posCtlWrite (s : State) (w : Word) : State :=
  let en := wbit POS_CTL.ENABLE w
  let was := s.fld POS_CTL.ENABLE
  let s := (s.store POS_CTL 0 0 w).setFld POS_CTL.ENABLE was
  (s.posEnable en).when (wbit POS_CTL.REARM w) (·.rearm)

/-- FIRE_PORTCTL[p]: each field's effect; a field written with the value it holds has none but HEN's.
(DEDUCED, log entry 77.) -/
def State.portCtlWrite (s : State) (p : Nat) (w : Word) : State :=
  let s := s.setFld FIRE_PORTCTL.TEL_ACT (FIRE_PORTCTL.TEL_ACT.ext w) p
  let s := s.when (FIRE_PORTCTL.LINK_EN.ext w != s.fld FIRE_PORTCTL.LINK_EN p) (·.linkEn p (wbit FIRE_PORTCTL.LINK_EN w))
  (s.hen p (wbit FIRE_PORTCTL.HEN w)).kerfRun p (wbit FIRE_PORTCTL.RUN w)

/-- FIRE_WLOAD[p]. -/
def State.wloadWrite (s : State) (p : Nat) (w : Word) : State :=
  if wbit FIRE_WLOAD.GO w then s.wloadGo p (FIRE_WLOAD.TARGET.ext w) (FIRE_WLOAD.NSEG.ext w) else s.store FIRE_WLOAD p 0 w

/-- CODEC_CTXXFER: a transfer starts while the codec runs.
(DEDUCED, log entry 76.) -/
def State.ctxxferWrite (s : State) (w : Word) : State :=
  if wbit CODEC_CTXXFER.GO w && !s.blkHeld 49 then s.ctxXferGo (wbit CODEC_CTXXFER.DIR w) (CODEC_CTXXFER.STREAM.ext w)
  else s.store CODEC_CTXXFER 0 0 w

/-- MOT_AXCFG[n]: EN acts while the axis is out of block reset.
(DEDUCED, log entry 76.) -/
def State.axcfgWrite (s : State) (n : Nat) (w : Word) : State :=
  let s := s.store MOT_AXCFG n 0 w
  if s.blkHeld (60 + n) then s else s.axisEnable n (wbit MOT_AXCFG.EN w)

/-- MOT_CMD[n]: STOP, HALT, SYNC and GO, in this order; a GO beside STOP is flushed by it (R363).
(DEDUCED, log entry 72; DEDUCED, log entry 76.) -/
def State.motCmdWrite (s : State) (n : Nat) (w : Word) : State :=
  if s.blkHeld (60 + n) then s
  else
    let s := s.when (wbit MOT_CMD.STOP w) (·.motCmdStop n)
    let s := s.when (wbit MOT_CMD.HALT w) (·.motHalt n)
    let s := s.when (wbit MOT_CMD.SYNC w) (·.motSync n)
    s.when (wbit MOT_CMD.GO w && !wbit MOT_CMD.STOP w) (·.startEvent n)

/-- LITE_MXCTL. -/
def State.mxctlWrite (s : State) (w : Word) : State :=
  let was := s.on LITE_MXCTL.EN
  let s := (s.store LITE_MXCTL 0 0 w).matrixEn was
  s.when (wbit LITE_MXCTL.SWAP w) (·.matrixSwap)

/-- A lane's PRBS register: TX_EN, RX_EN, INV and ERR_INJ; lanes 0 to 7 host, 8 to 11 bar. -/
def State.lprbsWrite (s : State) (l : Nat) (w : Word) : State :=
  let refused := s.prbsRefused l (wbit HLNK_LPRBS.TX_EN w) (wbit HLNK_LPRBS.RX_EN w)
  let s := s.prbsCtl l (wbit HLNK_LPRBS.TX_EN w) (wbit HLNK_LPRBS.RX_EN w) (wbit HLNK_LPRBS.INV w)
  s.when (!refused && wbit HLNK_LPRBS.ERR_INJ w) (·.errInj l)

/-- BAR_CTL: EN, then LEAVE and REJOIN. -/
def State.barCtlWrite (s : State) (w : Word) : State :=
  let s := s.barEn (wbit BAR_CTL.EN w)
  let s := s.when (wbit BAR_CTL.LEAVE w) (·.barLeave)
  s.when (wbit BAR_CTL.REJOIN w) (·.rejoin)

/-- HLNK_CTL: EN when it changes, then RETRAIN.
(DEDUCED, log entry 77.) -/
def State.hlnkCtlWrite (s : State) (w : Word) : State :=
  let s := s.when (HLNK_CTL.EN.ext w != s.fld HLNK_CTL.EN) (·.hlnkEn (wbit HLNK_CTL.EN w))
  s.when (wbit HLNK_CTL.RETRAIN w) (·.retrain)

/-- DISP_CTL[o]: the fields, then EN. -/
def State.dispCtlWrite (s : State) (o : Nat) (w : Word) : State :=
  let was := s.fld DISP_CTL.EN o
  ((s.store DISP_CTL o 0 w).setFld DISP_CTL.EN was o).dispEnWrite o (wbit DISP_CTL.EN w)

/-- WARD_CTL, WARD_HB and WARD_CKPT act for the active core alone; a heartbeat here meets no MIN_GAP. -/
def State.wardenOnly (s : State) (o : Origin) (f : State → State) : State := if o = .warden then f s else s

/-- The registers of SYS, CFG, TXN and TALLY with an effect of their own. -/
def State.hookSys (s : State) (o : Origin) (r : Reg) (i : Nat) (w : Word) : Option State :=
  if r = SYS_RSTCMD then some (s.rstcmdWrite w)
  else if r = SYS_BLKRST0 then some (s.blkrstWrite 0 w)
  else if r = SYS_BLKRST1 then some (s.blkrstWrite 1 w)
  else if r = SYS_PDCTL then some (s.pdctlWrite w)
  else if r = SYS_HPCTL then some (s.hpctlWrite o w)
  else if r = SYS_JOBQ_CTL then some (s.jobqCtl (wbit SYS_JOBQ_CTL.FLUSH w) (wbit SYS_JOBQ_CTL.ENABLE w))
  else if r = SYS_JOBQ_REL then some (s.jobqRelease (SYS_JOBQ_REL.REL_IDX.ext w))
  else if r = CFG_CTL then some (s.cfgCtl (wbit CFG_CTL.RELOAD w) (wbit CFG_CTL.FROM_B w))
  else if r = CFG_FLCMD then some (s.flcmdWrite w)
  else if r = CFG_STCMD then some (s.stcmdWrite (o == .warden) w 0 0)
  else if r = TXN_CMD then some (s.txnCmd (originNum o) (wbit TXN_CMD.BEGIN w) (wbit TXN_CMD.ROLLBACK w))
  else if r = TXN_ARM then some (s.txnArm (originNum o) w false)
  else if r = TXN_SLOTCMD then some (s.when (wbit TXN_SLOTCMD.CANCEL w) (·.txnCancel i))
  else if r = TXN_RLOGBASE then some (s.rlogWrite false w)
  else if r = TXN_RLOGCFG then some (s.rlogWrite true w)
  else if r = TALLY_SNAPCTL then some (s.when (wbit TALLY_SNAPCTL.GO w) (·.snapshot))
  else none

/-- The registers of POS, FIRE, SKID, CODEC and CAL with an effect of their own. -/
def State.hookPrint (s : State) (o : Origin) (r : Reg) (i : Nat) (w : Word) : Option State :=
  if r = POS_CTL then some (s.posCtlWrite w)
  else if r = FIRE_PORTCTL then some (s.portCtlWrite i w)
  else if r = FIRE_WLOAD then some (s.wloadWrite i w)
  else if r = FIRE_DLYDATA then some (s.dlyWrite i w)
  else if r = FIRE_TEST then some (s.when (wbit FIRE_TEST.GO w) (·.fireTestGo i))
  else if r = FIRE_SCANCTL then some ((s.store r i 0 w).when (wbit FIRE_SCANCTL.RESUME w) (·.swathResume))
  else if r = FIRE_PASSDATA then some (s.passWrite w)
  else if r = FIRE_MASKDATA then some (s.maskWrite w)
  else if r = SKID_RMAPDATA then some (s.rmapWrite w)
  else if r = CODEC_CTL then some (s.store r i 0 w).engSync
  else if r = CODEC_CTXXFER then some (s.ctxxferWrite w)
  else if r = CODEC_ENCCFG then some (s.encCfgWrite i w)
  else if r = CAL_BANKDATA then some (if o = .loader then s.calBankLoad w else s.calBankWrite w)
  else if r = CAL_BANKTAG then some (s.calTagWrite i w)
  else if r = CAL_LOGBASE then some (s.calLogWrite false w)
  else if r = CAL_LOGCFG then some (s.calLogWrite true w)
  else if isEditAddr r.base then some s
  else none

/-- The registers of VIS, BAR, HLNK, DRAM and ETH with an effect of their own. -/
def State.hookLink (s : State) (r : Reg) (i : Nat) (w : Word) : Option State :=
  if r = VIS_CCICMD then some (s.cciCmd i w)
  else if r = VIS_CCICFG then some ((s.store r i 0 w).cciKick i)
  else if r = VIS_PORTCFG then some (s.portCfgWrite i w)
  else if r = VIS_FRING ∨ r = VIS_FRSLOT then some (s.fringWrite r i w)
  else if r = VIS_FFDATA then some (s.ffWrite i w)
  else if r = VIS_PIPECFG then some (s.pipeCfgWrite i w)
  else if r = VIS_SCCFG then some (s.scCfgWrite w)
  else if r = VIS_SCREF then some (s.scRefWrite w)
  else if r = VIS_SCVIEW then some (s.scViewWrite i w)
  else if r = VIS_SCGEO ∨ r = VIS_SCDIST then some (s.scGeoWrite r i w)
  else if r = VIS_HMDATA then some (s.hmWrite w)
  else if r = BAR_CTL then some (s.barCtlWrite w)
  else if r = BAR_GOP then
    some (if s.on BAR_GOP.BUSY then s else if wbit BAR_GOP.GO w then s.gopStart (BAR_GOP.OP.ext w) else s.store r i 0 w)
  else if r = BAR_LPRBS then some (s.lprbsWrite (8 + i) w)
  else if r = HLNK_CTL then some (s.hlnkCtlWrite w)
  else if r = HLNK_LPRBS then some (s.lprbsWrite i w)
  else if r = DRAM_CTL then some ((s.store r i 0 w).when (wbit DRAM_CTL.INIT w) (·.dramInit))
  else if r = ETH_TIME_S then some (s.timeSWrite w)
  else if r = ETH_TIME_NS then some (s.timeNsWrite w)
  else if r = ETH_TSTEP then some (s.timeStep w)
  else none

/-- The registers of WARD, MOT, LITE, DISP, BIST, GDMA and ETH_PTPSTAT with an effect of their own.
(DESIGN CHOICE, log entry 33; DEDUCED, log entry 112.) -/
def State.hookPeri (s : State) (o : Origin) (r : Reg) (i j : Nat) (w : Word) : Option State :=
  if r = WARD_CTL then some (s.wardenOnly o (·.wardCtl w))
  else if r = WARD_HB then some (s.wardenOnly o (·.heartbeat (WARD_HB.TOKEN.ext w) 4096))
  else if r = WARD_CKPT then
    some (s.wardenOnly o fun s => if wbit WARD_CKPT.SEAL w then s.seal (WARD_CKPT.COPY.ext w) else s.store r i 0 w)
  else if r = WARD_SWAP then some (if o = .host then s.wardSwap w else s)
  else if r = MOT_AXCFG then some (s.axcfgWrite i w)
  else if r = MOT_CMD then some (s.motCmdWrite i w)
  else if r = MOT_QW2 then some (if s.blkHeld (60 + i) then s.store r i 0 w else s.movePush i w)
  else if r = MOT_POS then some (s.motPosWrite i w)
  else if r = MOT_CUR then some ((s.store r i 0 w).curWritten i)
  else if r = LITE_CH then some ((s.store r i 0 w).liteChWritten i (s.liteMode i))
  else if r = LITE_LVL then some (let t := s.store r i 0 w; if t.liteRuns then t.liteLevel i else t)
  else if r = LITE_TINCFG then some (let t := s.store r i 0 w; if t.liteRuns then t.tinLevel i else t)
  else if r = LITE_MXCTL then some (s.mxctlWrite w)
  else if r = DISP_CTL then some (s.dispCtlWrite i w)
  else if r = DISP_LBASE then some (s.layerBaseWrite i j w)
  else if r = BIST_CTL then some (s.bistCtl (o == .loader) w)
  else if r = GDMA_CTL then some (if wbit GDMA_CTL.EN w then s.store r i 0 w else s.gdmaDisable)
  else if r = GDMA_CHCTL then some (s.chctlWrite i w)
  else if r = GDMA_SSRC ∨ r = GDMA_SDST ∨ r = GDMA_SLEN ∨ r = GDMA_SFILL then some (s.segWrite r i j w)
  else if r = ETH_PTPSTAT then some (s.wardenOnly o (·.setReg r (w &&& 0xFFFFFFFFE0)))
  else none

/-- A write that the bus delivers to a register, refused fields already put back. -/
def State.deliver (s : State) (o : Origin) (r : Reg) (i j : Nat) (w : Word) : State :=
  match flagOfEn? r with
  | some fr => s.enableWrite fr i j w
  | none =>
    match s.hookSys o r i w, s.hookPrint o r i w, s.hookLink r i w, s.hookPeri o r i j w with
    | some t, _, _, _ => t
    | none, some t, _, _ => t
    | none, none, some t, _ => t
    | none, none, none, some t => t
    | none, none, none, none =>
      match flagRow? r with
      | some fr => s.flagStore fr i j w
      | none => s.store r i j w

/-! ### Accesses (R154 to R156) -/

/-- The origin has an open transaction. -/
def State.txnOpen (s : State) (o : Origin) : Bool :=
  match o with
  | .host => (s.ctx 0).isOpen
  | .warden => (s.ctx 1).isOpen
  | .loader => false

/-- A direct write with its RWS and RWL fields judged: RWS fields of the host and the Warden keep their value, RWL fields
keep theirs outside the block reset (R4, R156). -/
def State.directStore (s : State) (o : Origin) (row : RegRow) (i j a : Nat) (w : Word) : State :=
  let old := s.word a
  let w1 := if o = .loader then w else keepFields .rws (row.fieldsOf a) old w
  let s := s.when (w1 != w) (·.directWrite o (a % 2 ^ 24))
  let w2 := if s.rwlOpen (a % 2 ^ 24) then w1 else keepFields .rwl (row.fieldsOf a) old w1
  let s := s.when (w2 != w1) (·.rwlReject o (a % 2 ^ 24))
  s.deliver o row.reg i j w2

/-- A write of an origin to a register address. `parity` is a parity error that a staged write meets in the store.
(DEDUCED, log entry 27; DEDUCED, log entry 28.) -/
def State.busWriteP (s : State) (o : Origin) (a : Nat) (w : Word) (parity : Bool) : State × AccStat :=
  match regRow? a with
  | none => (s.raise TXN_FLAG.ADDR_ERR, .unmapped)
  | some (row, i, j) =>
    if s.regIso a then ((match regBlk a with | some b => s.isoCount b 1 | none => s), .isolated)
    else if noBank o row then (s, .ok)
    else if s.txnOpen o && row.fields.any (fun f => f.acc == .rws) then (s.stage (originNum o) a w parity, .ok)
    else if row.reg.s1 = 2 ^ 24 then (s.directStore o row (originNum o) j (bankAddr o row a) w, .ok)
    else (s.directStore o row i j a w, .ok)

/-- A write of an origin to a register address. -/
def State.busWrite (s : State) (o : Origin) (a : Nat) (w : Word) : State × AccStat := s.busWriteP o a w false

/-! ### Reads -/

/-- A read of TALLY_SNAPDATA (R158, R434). -/
def State.snapRead (s : State) : State × Word :=
  let i := s.fld TALLY_SNAPIDX.IDX
  (s.when (s.on TALLY_SNAPIDX.AUTOINC) (·.addFld TALLY_SNAPIDX.IDX 1), SMap.get 0 s.txn.snap (TALLY_CNT.at i))

/-- A read of DRAM_STAT: while the zero fill runs, PROGRESS is a free value that never falls.
(DESIGN CHOICE, log entry 15.) -/
def State.dramStatRead (s : State) : State × Word :=
  if s.fld DRAM_STAT.STATE = 3 then
    let d := s.draw
    let s := d.2.setFld DRAM_STAT.PROGRESS (max (s.fld DRAM_STAT.PROGRESS) (d.1.toNat % 256))
    (s, s.reg DRAM_STAT)
  else (s, s.reg DRAM_STAT)

/-- Registers whose value follows from the rest of the state, and those whose read has an effect. -/
def State.readSpecial (s : State) (r : Reg) (i : Nat) : Option (State × Word) :=
  if r = POS_NOW then some (s, s.posOut)
  else if r = POS_FWD then some (s, s.pos.fwd)
  else if r = POS_STAT then some (s, POS_STAT.UNCERTAIN.ins (s.reg r) (bit s.uncertain))
  else if r = POS_PROBEFIFO then (let x := s.probePop i; some (x.2, x.1))
  else if r = POS_PROBESTAT then
    let l := s.probeFifo i
    some (s, Word.of (l.length * 2 ^ 36 + (match l with | (_, e) :: _ => bit e | [] => 0) * 2 ^ 35))
  else if r = DRAM_STAT then some s.dramStatRead
  else if r = BIST_STAT then some s.bistStatRead
  else if r = FIRE_TEMP then some (s, FIRE_TEMP.AGE.ins (s.reg r i) (s.tempAge i))
  else if r = FIRE_THSTAT then some (s, FIRE_THSTAT.FIRING.ins (s.reg r i) (bit (s.firing i)))
  else if r = FIRE_DLYDATA then some (s.dlyRead i)
  else if r = FIRE_PASSDATA then some s.passRead
  else if r = FIRE_MASKDATA then some s.maskRead
  else if r = FIRE_OVSP_FIFO then some s.ovspPop
  else if r = SKID_RMAPDATA then some s.rmapRead
  else if r = CAL_BANKDATA then some s.calBankRead
  else if r = TXN_CTXSTAT then some (s, s.reg TXN_OSTAT i)
  else if r = TALLY_SNAPDATA then some s.snapRead
  else if r = VIS_FFDATA then some (s.ffRead i)
  else if r = VIS_HMDATA then some s.hmRead
  else if r = VIS_HMFIFO then some s.hmPop
  else if r = HLNK_EVQ then some (s, HLNK_EVQ.LEVEL.ins (s.reg r) s.hlnk.evq.length)
  else if r = WARD_LDATA then some s.landingRead
  else if r = MOT_STAT then some (s, s.motStatRead i)
  else if r = MOT_DEV then some (s, Word.of (unsigned 40 (s.motDev i)))
  else if r = ETH_TIME_S then some s.timeSRead
  else if r = ETH_TIME_NS then some (s, s.net.latch)
  else none

/-- A read of an origin from a register address (R155): the state after it, its status and its value. An unmapped address
reads 0 and sets TXN_FLAG.ADDR_ERR, as a write to it does.
(DEDUCED, log entry 28; DEDUCED, log entry 140.) -/
def State.busRead (s : State) (o : Origin) (a : Nat) : State × AccStat × Word :=
  match regRow? a with
  | none => (s.raise TXN_FLAG.ADDR_ERR, .unmapped, 0)
  | some (row, i, j) =>
    if s.regIso a then ((match regBlk a with | some b => s.isoCount b 1 | none => s), .isolated, 0)
    else if noBank o row then (s, .ok, 0)
    else
      match s.readSpecial row.reg i with
      | some x => (x.1, .ok, x.2)
      | none => (s, .ok, if row.reg.s1 = 2 ^ 24 then s.reg row.reg (originNum o) j else s.word a)

/-! ### Register packets and the debug port (R255, R157) -/

/-- The accesses of a register packet: each address in turn. -/
def accAddr (addr : Nat) (inc : Bool) (k : Nat) : Nat := if inc then addr + k else addr

/-- The writes of a REG_WR packet, with the statuses in ascending order. -/
def State.regWrites (s : State) (addr : Nat) (inc : Bool) (ws : List Word) : State × List Nat :=
  ((List.range ws.length).zip ws).foldl (fun acc e =>
    let r := acc.1.busWrite .host (accAddr addr inc e.1) e.2
    (r.1, acc.2 ++ [r.2.code])) (s, [])

/-- The reads of a REG_RD packet. -/
def State.regReads (s : State) (addr : Nat) (inc : Bool) (n : Nat) : State × List (Nat × Word) :=
  (List.range n).foldl (fun acc k =>
    let r := acc.1.busRead .host (accAddr addr inc k)
    (r.1, acc.2 ++ [(r.2.1.code, r.2.2)])) (s, [])

/-- The STAT field of a response: two bits an access, access 0 lowest. -/
def statOf (codes : List Nat) : Nat := codes.foldr (fun c a => a * 4 + c) 0

/-- A response joins those that wait. -/
def State.respond (s : State) (tag : Nat) (codes : List Nat) (data : List Word) : State :=
  s.hlUpd fun h => { h with waitRsp := h.waitRsp ++ [.regResp tag (statOf codes) data] }

/-- REG_WR (R255): W0 holds ADDR, TAG, N − 1, INC and FENCE; N data words follow. -/
def State.regWrPkt (s : State) (seq : Nat) (words : List Word) (f : PktFault) : State :=
  let words := pktBody words f
  let w0 := words.getD 0 0
  s.downPkt 1 seq 0 words f (regPktWhy words true) fun s =>
    let r := s.regWrites (w0.toNat / 2 ^ 16) (w0.getLsbD 3) (words.drop 1)
    r.1.respond (w0.toNat / 2 ^ 8 % 2 ^ 8) r.2 []

/-- REG_RD (R255). -/
def State.regRdPkt (s : State) (seq : Nat) (words : List Word) (f : PktFault) : State :=
  let words := pktBody words f
  let w0 := words.getD 0 0
  s.downPkt 2 seq 0 words f (regPktWhy words false) fun s =>
    let r := s.regReads (w0.toNat / 2 ^ 16) (w0.getLsbD 3) (w0.toNat / 16 % 16 + 1)
    r.1.respond (w0.toNat / 2 ^ 8 % 2 ^ 8) (r.2.map (·.1)) (r.2.map (·.2))

/-- The control block that opens a packet, by its TYPE (R247, Table 12-5): 0x0 is no header; 0xF is a link control block, of
a reserved kind or of one that has a command of its own; the rest as the table says.
(DEDUCED, log entry 121.) -/
def State.typedPkt (s : State) (type seq : Nat) (words : List Word) (f : PktFault) : State :=
  match type with
  | 0 => s.ctlBad
  | 1 => s.regWrPkt seq words f
  | 2 => s.regRdPkt seq words f
  | 3 => s.rasterPkt seq words f
  | 4 => s.jobdescPkt seq words f
  | 15 => if seq / 16 ∈ [0, 1, 2, 4, 5, 6] then s else s.ctlBad
  | _ => s.reservedPkt type seq words f

/-- An access of the debug port (R404): an address and, for a write, the word. -/
def State.debugAccess (s : State) (a : Nat × Option Word) : State :=
  match a.2 with
  | some w => (s.busWrite .host a.1 w).1
  | none =>
    let r := s.busRead .host a.1
    r.1.emit (.regData r.2.1.code r.2.2)

/-! ### The overlap window (R341) -/

/-- A write of the outgoing core that reaches the bus while its wrapper drains: TXN_CMD and TXN_ARM only set CMD_SEQ, a
write to the WARD window is ignored, any other acts as one outside a transaction; counted in WARD_OVLCNT.
(DEDUCED, log entry 70.) -/
def State.overlapWrite (s : State) (a : Nat) (w : Word) : State :=
  let s := s.when (s.fld WARD_OVLCNT.COUNT == 0) (·.setFld WARD_OVLCNT.ADDR a)
  let s := (s.setFld WARD_OVLCNT.COUNT (min 255 (s.fld WARD_OVLCNT.COUNT + 1))).raise WARD_FLAG.OVL_WRITE
  match regRow? a with
  | none => (s.busWrite .warden a w).1
  | some (row, i, j) =>
    if row.reg = TXN_CMD ∨ row.reg = TXN_ARM then s.raise TXN_FLAG.CMD_SEQ
    else if 0x280000 ≤ a ∧ a < 0x2C0000 then s
    else if s.regIso a then (s.busWrite .warden a w).1
    else if row.reg.s1 = 2 ^ 24 then s.directStore .warden row 1 j (bankAddr .warden row a) w
    else s.directStore .warden row i j a w

/-- ISO_DONE: the outgoing wrapper has drained, the writes given having reached the bus since the trigger.
(DEDUCED, log entry 70.) -/
def State.isoDone (s : State) (ws : List (Nat × Word)) : State :=
  if (s.sstate = 2 ∨ s.sstate = 3) ∧ !s.on WARD_STAT.ISO_DONE then
    (forIn' ws (fun e s => s.overlapWrite e.1 e.2) s).setFld WARD_STAT.ISO_DONE 1 |>.drainEnd
  else s

end Sys2Proof.Machine
end

