-- ==== Sys2Proof/Machine/Repair.lean ====
section
/-! DEFINITION. The closed loop of Warden firmware (spec/10_closed_loop_determinism.md, R209, with the choice among candidates
of spec/07_nozzle_calibration.md): what the firmware does with a FAILED entry that it takes from VIS_HMFIFO while
VIS_SCLOOP.AUTO = 1, through the register accesses of the Warden origin. -/

namespace Sys2Proof.Machine

/-! ### The policy (R215) -/

/-- A field of VIS_SCLOOP as it acts. -/
def State.loopFld (s : State) (f : Fld) : Nat := f.ext s.scaler.loop

/-! ### The choice among candidates -/

/-- The port and the logical column that an entry of the FIFO or of the map names: bin `b`, column `x` of it. -/
def State.binCol (s : State) (b x : Nat) : Nat × Nat :=
  let c := b * 2 ^ s.scBin + x
  (c / 4000, c % 4000)

/-- The selection override of a column in force. -/
def State.selNow (s : State) (p c : Nat) : Nat := s.calSel (s.fld CAL_CTL.ACTIVE) p c

/-- Remap word `k` of a column. -/
def State.rmapOf (s : State) (p c k : Nat) : Word := s.rmapWord (8000 * p + 2 * c + k)

/-- Candidate `k` of a column. -/
def State.candOf (s : State) (p c k : Nat) : Nat := rmCand (s.rmapOf p c 0) (s.rmapOf p c 1) k

/-- The channel that a column fires from; none where it is off. -/
def State.chanInForce (s : State) (p c : Nat) : Option Nat :=
  let o := s.selNow p c
  let k := if o = 4 then rmSel (s.rmapOf p c 0) else o
  if k ≤ 3 then some (s.candOf p c k) else none

/-- The latest self-test of a head reports a channel failed (R112).
(DEDUCED, log entry 179.) -/
def State.testFailed (s : State) (p ch : Nat) : Bool :=
  (s.port p).tested &&
    (s.dramByte (s.fld FIRE_TADDR.ADDR p * 16 + 63 * (ch / 500) + ch % 500 / 8)).toNat.testBit (7 - ch % 500 % 8)

/-- The nozzle-health map reports a channel failed: a FAILED entry names a column that fires from it.
(DEDUCED, log entry 179.) -/
def State.mapFailed (s : State) (p ch : Nat) : Bool :=
  s.scaler.map.any fun e =>
    hmState e.2 == 2 &&
      (let x := s.binCol e.1 (hmColx e.2)
       x.1 == p && s.chanInForce p x.2 == some ch)

/-- The fine delay d of a channel (R93). -/
def State.fineDelay (s : State) (p ch : Nat) : Nat := clampPlace ((s.placement p s.pos.nextDec).getD ch 0) / 16

/-- The candidate of a column that Warden firmware chooses: of those not reported failed, the one whose fine delay differs
least from that of the candidate in force, the lowest index on a tie. -/
def State.chooseCand (s : State) (p c : Nat) : Option Nat :=
  let ref := s.fineDelay p ((s.chanInForce p c).getD (s.candOf p c 0))
  let ks := (List.range (rmNalt (s.rmapOf p c 0) + 1)).filter fun k =>
    let ch := s.candOf p c k
    !(s.testFailed p ch || s.mapFailed p ch)
  let away (k : Nat) : Nat := ((s.fineDelay p (s.candOf p c k) : Int) - ref).natAbs
  ks.foldl (fun b k => match b with
    | none => some k
    | some j => if away k < away j then some k else some j) none

/-- A code map thickens: no drop becomes smaller, and each but the largest becomes larger. -/
def thickens (cmw m : Nat) : Bool := decide (1 < mapDot cmw m 1) && decide (2 < mapDot cmw m 2) && mapDot cmw m 3 == 3

/-- The thickening edit of a neighbouring column of the bar: its channel takes its port's thickening map, its trim stays.
(DEDUCED, log entry 179.) -/
def State.thickenEdit (s : State) (x : Nat) : List (Nat × Word) :=
  let p := x / 4000
  let b := s.fld CAL_CTL.ACTIVE
  match (if x < 192000 then s.chanInForce p (x % 4000) else none), (List.range 4).find? (thickens (s.calMap b p)) with
  | some ch, some m =>
    [(CAL_TRIMEDIT.base, putFields 0 [(CAL_TRIMEDIT.PORT, p), (CAL_TRIMEDIT.CHAN, ch), (CAL_TRIMEDIT.TRIM, s.calChan b p ch / 4),
      (CAL_TRIMEDIT.DMAP, m)])]
  | _, _ => []

/-- The edits for a failed column: the override takes the chosen candidate; where none is left, 0b111, and with THICKEN = 1
the two neighbouring columns are thickened. -/
def State.repairEdits (s : State) (p c : Nat) : List (Nat × Word) :=
  let sub (k : Nat) : Nat × Word :=
    (CAL_SUBEDIT.base, putFields 0 [(CAL_SUBEDIT.PORT, p), (CAL_SUBEDIT.COL, c), (CAL_SUBEDIT.SEL, k)])
  match s.chooseCand p c with
  | some k => [sub k]
  | none =>
    let x := 4000 * p + c
    if s.loopFld VIS_SCLOOP.THICKEN = 1 then
      sub 7 :: ((if x = 0 then [] else s.thickenEdit (x - 1)) ++ s.thickenEdit (x + 1))
    else [sub 7]

/-! ### The proposal -/

/-- A list cut into parts of `n`. -/
def cutInto {α : Type} (n : Nat) (l : List α) : List (List α) :=
  (List.range ((l.length + n - 1) / n)).map fun k => (l.drop (k * n)).take n

/-- A transaction of Warden firmware: BEGIN, the edits, the target, the arming in position mode (R209 steps 3 and 4). -/
def State.proposeTxn (s : State) (target : Word) (es : List (Nat × Word)) : State :=
  let wr (s : State) (a : Nat) (w : Word) : State := (s.busWrite .warden a w).1
  let s := wr s TXN_CMD.base (putFields 0 [(TXN_CMD.BEGIN, 1)])
  let s := forIn' es (fun e s => wr s e.1 e.2) s
  let s := wr s TXN_TGT.base target
  wr s TXN_ARM.base (putFields 0 [(TXN_ARM.GO, 1), (TXN_ARM.MODE, 1)])

/-- An armed transaction holds a sequence number. -/
def State.seqArmed (s : State) (seq : Nat) : Bool := s.armed.any fun t => t.seq == seq

/-- The parts of a repair in turn; an abort leaves the entry FAILED and is reported, and the rest is not proposed. -/
def State.proposeAll (s : State) (bin : Nat) (target : Word) : List (List (Nat × Word)) → State
  | [] => s
  | es :: rest =>
    let seq := s.txn.nextSeq
    let t := s.proposeTxn target es
    if !t.seqArmed seq then
      ({ t with scaler := { t.scaler with repairs := t.scaler.repairs.filter fun r => r.bin != bin } } : State).reportBin bin
    else
      let r : Repair := { seq := seq, bin := bin, final := rest.isEmpty, line := none }
      State.proposeAll { t with scaler := { t.scaler with repairs := t.scaler.repairs ++ [r] } } bin target rest

/-- Warden firmware handles a FAILED entry: its bin, DARK and COLX (R209).
(DESIGN CHOICE, log entry 177.) -/
def State.handleFailed (s : State) (bin : Nat) (dark : Bool) (colx : Nat) : State :=
  let x := s.binCol bin colx
  if dark || s.selNow x.1 x.2 == 7 || (s.ctx 1).isOpen then s.reportBin bin
  else
    s.proposeAll bin (lineStamp (lineMod (posLine s.pos.fwd + max 1 (s.loopFld VIS_SCLOOP.LEAD))))
      (cutInto (max 1 (s.loopFld VIS_SCLOOP.MAXEDIT)) (s.repairEdits x.1 x.2))

/-- Warden firmware handles an entry that it took from VIS_HMFIFO.
(DESIGN CHOICE, log entry 177.) -/
def State.autoRepair (s : State) (e : Word) : State :=
  s.when (s.loopFld VIS_SCLOOP.AUTO == 1 && hmState e == 2)
    (·.handleFailed (e.toNat / 2 ^ 17 % 2 ^ 16) (e.getLsbD 37) (e.toNat / 2 ^ 33 % 16))

/-- The bins whose entries a rescan finds other than at 0, or in error. -/
def State.mapBins (s : State) : List Nat :=
  sortBy (fun b => b) ((s.scaler.map.map fun e => e.1) ++ s.scaler.bad.filter fun b => !s.scaler.map.any fun e => e.1 == b)

/-- After a failover, and where a core starts without a checkpoint, Warden firmware rescans the map through VIS_HMIDX before
it reads the FIFO again (R209, R344): it handles the FAILED entries that have no repair under way and that it has not left
and reported.
(DESIGN CHOICE, log entry 177.)
(DEDUCED, log entry 201.) -/
def State.rescanMap (s : State) : State :=
  let s : State := { s with scaler := { s.scaler with rescan := false } }
  if s.loopFld VIS_SCLOOP.AUTO = 0 then s
  else
    let read (b : Nat) (s : State) : State :=
      let s := (s.busWrite .warden VIS_HMIDX.base (putFields 0 [(VIS_HMIDX.BIN, b)])).1
      let r := s.busRead .warden VIS_HMDATA.base
      let w := r.2.2
      if hmState w = 2 ∧ !(s.scaler.left.contains b) ∧ !(s.scaler.repairs.any fun x => x.bin == b) then
        r.1.handleFailed b (hmDark w == 1) (hmColx w)
      else r.1
    forIn' s.mapBins read s

/-- A read of a register by a sender; the result goes out, and the closed loop acts on what the Warden takes from
VIS_HMFIFO, after a rescan of the map that is due. -/
def State.readBy (s : State) (o : Sender) (a : Nat) : State :=
  let loop := o == .warden && a == VIS_HMFIFO.base
  let s := s.when (loop && s.scaler.rescan) (·.rescanMap)
  let x := s.busRead o.origin a
  (x.1.emit (.regData x.2.1.code x.2.2)).when loop (·.autoRepair x.2.2)

/-- A repair that has committed: Warden firmware writes the entry HELD with the commit line (R209 step 5). -/
def State.repairHeld (s : State) (r : Repair) : State :=
  match r.line with
  | none => s
  | some n =>
    let w := SMap.get 0 s.scaler.map r.bin
    let s := (s.busWrite .warden VIS_HMIDX.base (putFields 0 [(VIS_HMIDX.BIN, r.bin)])).1
    (s.busWrite .warden VIS_HMDATA.base (hmEntry 3 (hmScore w) (hmDark w) (hmColx w) n)).1

/-- The repairs that have committed since the last command, once a core runs. -/
def State.repairSettle (s : State) : State :=
  let l := s.scaler.repairs
  if !s.ward.coreUp || l.all (fun r => r.line.isNone) then s
  else
    let t : State := { s with scaler := { s.scaler with repairs := l.filter fun r => r.line.isNone } }
    forIn' (l.filter fun r => r.line.isSome) (fun r s => s.repairHeld r) t

end Sys2Proof.Machine
end

