-- ==== Sys2Proof/Machine/Loader.lean ====
section
/-! DEFINITION. The configuration loader (spec/14_configuration_image.md): the check of an image (R284 to R288), the
records (R286, R287, R290, R335), END (R289, R292) and the factory defaults (R294, R295). -/

namespace Sys2Proof.Machine

/-! ### Image check (pass 1, Table 14-4) -/

/-- `n` bytes of an image from an offset, as a number; beyond the bytes given the flash reads erased. -/
def imgNum (img : List Byte) (off n : Nat) : Nat :=
  ofBytesBE ((List.range n).map fun i => img.getD (off + i) 0xFF)

/-- A multiple of 8 at or above a number. -/
def up8 (n : Nat) : Nat := (n + 7) / 8 * 8

/-- The body of a record has the length of its type, and its ranges lie within their tables (Table 14-3). `cw` is its
control word. -/
def recordOk (type blen cw : Nat) : Bool :=
  match type with
  | 1 => true
  | 2 => blen == 224
  | 3 => blen == 64
  | 4 =>
    let first := cw / 2 ^ 46
    let count := cw / 2 ^ 28 % 2 ^ 18
    cw % 2 ^ 28 == 0 && decide (1 ≤ count) && decide (first + count ≤ 192000) && blen == up8 (8 + 10 * count)
  | 5 =>
    let count := cw / 2 ^ 36 % 2 ^ 11
    cw % 2 ^ 36 == 0 && decide (cw / 2 ^ 58 < 48) && decide (cw / 2 ^ 47 % 2 ^ 11 + count ≤ 1334) &&
      blen == up8 (8 + 5 * count)
  | 6 =>
    let count := cw / 2 ^ 36 % 2 ^ 10
    cw % 2 ^ 36 == 0 && decide (cw / 2 ^ 58 < 48) && decide (cw / 2 ^ 46 % 2 ^ 10 + count ≤ calWords (cw / 2 ^ 56 % 4)) &&
      blen == up8 (8 + 5 * count)
  | 7 => cw % 2 ^ 32 % 16 == 0 && blen == 8 + cw % 2 ^ 32
  | 8 => cw % 2 ^ 48 == 0 && decide (8 ≤ blen)
  | _ => false

/-- The types a board trim image may hold besides END (R294). -/
def trimType (type : Nat) : Bool := type == 1 || type == 3

/-- Walk the records from offset `off`, the bytes from there on given, to END at `stop`: the records, or the offset of
the header that fails. -/
def walkRecords : Nat → Nat → Nat → List Byte → Except Nat (List ImgRec)
  | 0, off, _, _ => .error off
  | n + 1, off, stop, bs =>
    let type := imgNum bs 0 1
    let blen := imgNum bs 4 4
    if stop < off + 8 then .error off
    else if imgNum bs 2 2 ≠ 0 ∨ blen % 8 ≠ 0 ∨ stop < off + 8 + blen then .error off
    else if type = 0x0F then (if blen = 0 ∧ off + 8 = stop then .ok [] else .error off)
    else if !recordOk type blen (imgNum bs 8 8) then .error off
    else
      match walkRecords n (off + 8 + blen) stop (bs.drop (8 + blen)) with
      | .error e => .error e
      | .ok l => .ok ({ type := type, varmask := imgNum bs 1 1, body := (bs.drop 8).take blen } :: l)

/-- The reserved bytes of the image header are 0 (Table 14-1).
(DEDUCED, log entry 103.) -/
def headerClean (img : List Byte) : Bool := imgNum img 7 1 == 0 && imgNum img 20 12 == 0

/-- Pass 1 over an image in a slot of a size, on silicon of a revision: its records, or the cause with the offset of the
failing record header.
(DEDUCED, log entry 103.) -/
def checkImage (rev slotSize : Nat) (img : List Byte) : Except (Nat × Nat) (List ImgRec) :=
  let len := imgNum img 8 4
  if imgNum img 0 4 ≠ 0x55484C43 then .error (2, 0)
  else if imgNum img 4 2 ≠ 1 ∨ rev < imgNum img 6 1 then .error (3, 0)
  else if len < 52 ∨ min slotSize 0x4000000 < len ∨ len % 8 ≠ 4 then .error (4, 0)
  else if !headerClean img then .error (5, 0)
  else
    let all := img.take len ++ List.replicate (len - img.length) 0xFF
    match walkRecords (len / 8) 32 (len - 4) (all.drop 32) with
    | .error off => .error (5, off)
    | .ok rs => if ofBytesBE (all.drop (len - 4)).reverse = crc32 (all.take (len - 4)) then .ok rs else .error (6, 0)

/-! ### Loader writes (R290) -/

/-- A failed loader write: WR_ERR, the count, and the address of the first. -/
def State.loaderErr (s : State) (a : Nat) : State :=
  let s := s.when (!s.on CFG_FLAG.WR_ERR) (·.setFld CFG_WERR.ADDR a)
  (s.setFld CFG_WERR.COUNT (min 65535 (s.fld CFG_WERR.COUNT + 1))).raise CFG_FLAG.WR_ERR

/-- A failed loader write that has no register address: ADDR, where it is captured, is a free value.
(DESIGN CHOICE, log entry 21.) -/
def State.loaderErrFree (s : State) : State :=
  if s.on CFG_FLAG.WR_ERR then s.loaderErr 0 else s.draw.2.loaderErr s.draw.1.toNat

/-- The Tally of a flag. -/
def State.tallyOf (s : State) (f : Fld) (i : Nat := 0) : Word :=
  match flagRow? f.reg with
  | some r => s.reg TALLY_CNT (r.base + i * r.stride + f.lo)
  | none => 0

/-- The refusals a data register of an index window has made. -/
def State.refusals (s : State) (r : Reg) (i : Nat) : Word :=
  if r = SKID_RMAPDATA then s.tallyOf SKID_FLAG.RMAP_REJ + s.tallyOf SKID_FLAG.RMAP_RANGE
  else if r = FIRE_DLYDATA then s.tallyOf FIRE_GFLAG.DLY_REJ
  else if r = CAL_BANKDATA then s.tallyOf CAL_FLAG.BANK_REJ
  else if r = FIRE_PASSDATA then s.tallyOf FIRE_SCANFLAG.PASS_REJ
  else if r = FIRE_MASKDATA then s.tallyOf FIRE_SCANFLAG.MASK_REJ
  else if r = VIS_FFDATA then s.tallyOf VIS_PFLAG.FF_REJ i
  else if r = VIS_HMDATA then s.tallyOf VIS_SCFLAG.CFG_REJ
  else 0

/-- A window refused the write between two states.
(DEDUCED, log entry 108.) -/
def windowRefused (s t : State) (a : Nat) : Bool :=
  match regRow? a with
  | some (row, i, _) => s.refusals row.reg i != t.refusals row.reg i
  | none => false

/-- One loader write. -/
def State.loaderWrite (s : State) (a : Nat) (w : Word) : State :=
  let r := s.busWrite .loader a w
  if r.2 ≠ .ok ∨ windowRefused s r.1 a then r.1.loaderErr a else r.1

/-- Loader writes in order. -/
def State.loaderWrites (s : State) (l : List (Nat × Word)) : State := forIn' l (fun e s => s.loaderWrite e.1 e.2) s

/-! ### Records (Table 14-3) -/

/-- TRAIN: DRAM_TRN_DQ[q][0 to 9], then DRAM_TRN_CA[q], for q = 0 to 3. -/
def State.applyTrain (s : State) (ws : List Word) : State :=
  s.loaderWrites ((List.range 44).map fun i =>
    (if i % 11 = 10 then DRAM_TRN_CA.at (i / 11) else DRAM_TRN_DQ.at (i / 11) (i % 11), ws.getD i 0))

/-- EQ: HLNK_LCFG[0 to 7], then BAR_LCFG[0 to 3]. -/
def State.applyEq (s : State) (ws : List Word) : State :=
  s.loaderWrites ((List.range 12).map fun i => (if i < 8 then HLNK_LCFG.at i else BAR_LCFG.at (i - 8), ws.getD i 0))

/-- REMAP: entries through the remap window. -/
def State.applyRemap (s : State) (first : Nat) (ws : List Word) : State :=
  let idx := Word.of (first / 4000 * 2 ^ 34 + first % 4000 * 2 ^ 22 + 2 ^ 20)
  (s.loaderWrite SKID_RMAPIDX.base idx).loaderWrites (ws.map fun w => (SKID_RMAPDATA.base, w))

/-- DELAY: words through the delay window of a port. -/
def State.applyDelay (s : State) (p first : Nat) (ws : List Word) : State :=
  (s.loaderWrite (FIRE_DLYIDX.at p) (Word.of (first * 2 ^ 29 + 2 ^ 28))).loaderWrites
    (ws.map fun w => (FIRE_DLYDATA.at p, w))

/-- CALBANK: words through the CAL bank window, bank 0. -/
def State.applyCalbank (s : State) (p table first : Nat) (ws : List Word) : State :=
  (s.loaderWrite CAL_BANKIDX.base (Word.of (p * 2 ^ 33 + table * 2 ^ 31 + first * 2 ^ 21 + 2 ^ 20))).loaderWrites
    (ws.map fun w => (CAL_BANKDATA.base, w))

/-- Every DRAMDATA record of the image is skipped from here on. -/
def State.skipDram (s : State) : State := (s.cfgUpd fun c => { c with dramSkip := true }).raise CFG_FLAG.DRAM_SKIP

/-- DRAMDATA: bytes to DRAM as client 11 (R290).
(DEDUCED, log entry 107.) -/
def State.applyDramdata (s : State) (unit : Nat) (bytes : List Byte) : State :=
  if s.cfg.dramSkip then s
  else
    let r := s.dramWrite 11 (unit * 16) bytes
    if r.2 then r.1 else r.1.loaderErrFree

/-- FWPATCH: the patch image joins the patch store of 8,192 units and 63 patches.
(DEDUCED, log entry 106.) -/
def State.applyPatch (s : State) (id : Nat) (bytes : List Byte) : State :=
  let n := s.fld WARD_PATCH.N
  let u := s.fld WARD_PATCH.UNITS + (bytes.length + 15) / 16
  if 8192 < u ∨ 63 ≤ n then s.loaderErrFree
  else
    let s := (s.setFld WARD_PATCH.N (n + 1)).setFld WARD_PATCH.UNITS u
    s.wardUpd fun w => { w with patch := w.patch ++ [(id, bytes)] }

/-- The 40-bit words of a body from an offset. -/
def bodyWords (body : List Byte) (off n : Nat) : List Word :=
  (List.range n).map fun i => Word.of (ofBytesBE ((body.drop (off + 5 * i)).take 5))

/-- A record applies to the board variant (R285). -/
def State.applies (s : State) (r : ImgRec) : Bool := r.varmask.testBit s.sys.varSel

/-- The writes of a REGSET body, in order. -/
def regsetWrites (body : List Byte) : List (Nat × Word) :=
  (List.range (body.length / 8)).map fun i =>
    let v := imgNum body (8 * i) 8
    (v / 2 ^ 40, Word.of v)

/-- A record of an image as its bytes spell it; the writes of a REGSET record go out one after the other (R390). -/
def State.applyRecord (s : State) (r : ImgRec) : State :=
  let cw := imgNum r.body 0 8
  if !s.applies r then s
  else match r.type with
    | 1 => s.cfgUpd fun c => { c with writes := c.writes ++ regsetWrites r.body }
    | 2 => s.applyTrain (bodyWords r.body 0 44)
    | 3 => s.applyEq (bodyWords r.body 0 12)
    | 4 => s.applyRemap (cw / 2 ^ 46) (bodyWords r.body 8 (2 * (cw / 2 ^ 28 % 2 ^ 18)))
    | 5 => s.applyDelay (cw / 2 ^ 58) (cw / 2 ^ 47 % 2 ^ 11) (bodyWords r.body 8 (cw / 2 ^ 36 % 2 ^ 11))
    | 6 => s.applyCalbank (cw / 2 ^ 58) (cw / 2 ^ 56 % 4) (cw / 2 ^ 46 % 2 ^ 10) (bodyWords r.body 8 (cw / 2 ^ 36 % 2 ^ 10))
    | 7 => s.applyDramdata (cw / 2 ^ 32) (r.body.drop 8)
    | 8 => s.applyPatch (cw / 2 ^ 48) (r.body.drop 8)
    | _ => s

/-! ### Slots (R288, R289, R293) -/

/-- Slot `k` (0 A, 1 B) is rejected with a cause. -/
def State.rejectSlot (s : State) (k cause off : Nat) : State :=
  let s := s.setFld (if k = 0 then CFG_ERRINFO.CAUSE_A else CFG_ERRINFO.CAUSE_B) cause
  let s := s.when (cause == 5) (·.setFld CFG_ERRINFO.OFFSET off)
  s.raise CFG_FLAG.SLOT_BAD

/-- Slot `k` is skipped once at request: cause 0x8, RETRY, and SKIP is cleared. -/
def State.skipSlot (s : State) (k : Nat) : State :=
  ((s.rejectSlot k 8 0).raise CFG_FLAG.RETRY).setFld SYS_RSTCAUSE.SKIP 0

/-- The first release of a Warden core after a load: from ROM, FIRST deadline, the patch store checked; a core reset in
progress holds the core until it ends (R306). -/
def State.firstRelease (s : State) (patchOk : Bool) : State :=
  (s.wardUpd fun w => { w with coreUp := s.sys.core.isNone, first := true }).setFld WARD_PATCH.OK (bit patchOk)

/-- The bytes of an area of the Stump store.
(DEDUCED, log entry 109.) -/
def State.stumpBytes (s : State) (lo n : Nat) : List Byte :=
  ((List.range n).map fun i => bytesBE 8 (s.stumpWord (lo + i)).toNat).flatten

/-- The loader begins to read slot `k` with the read mode it has set (R282, R283).
(PRESUMED, log entry 205.) -/
def State.readSlot (s : State) (k : Nat) : State :=
  s.emit (.flashFast (s.fld CFG_FLINFO.MODE == 2) (s.on CFG_FLINFO.ADDR4) (s.fld CFG_FLINFO.DUMMY) s.cfg.mclk
    (if k = 0 then 0 else 2 ^ s.fld CFG_FLINFO.DENS / 2))

/-- Every block but the host lane group is held, its drain complete; a pending release is cancelled (Table 14-6). -/
def State.holdAllBlocks (s : State) : State :=
  forTo 70 (fun b s => if b = 55 then s else (s.blockAssert b).when (!s.blkHeld b) (·.blockDrained b 0)) s

/-- The records of the factory image and of the board trim image, each where it passes; the patches of the factory image
are not placed, for Warden A runs without patches (R294, Table 14-6).
(DEDUCED, log entry 104.) -/
def State.defaultRecs (s : State) : List ImgRec :=
  let rev := s.fld SYS_ID.REV
  let factory := match checkImage rev 16384 (s.stumpBytes 0 2048) with
    | .ok rs => rs.filter fun r => r.type != 8
    | .error _ => []
  let trim := match checkImage rev 8192 (s.stumpBytes 2048 1024) with
    | .ok rs => if rs.all fun r => trimType r.type then rs else []
    | .error _ => []
  factory ++ trim

/-- The board trim image fails a check or holds a record of another type (R294). -/
def State.trimBad (s : State) : Bool :=
  match checkImage (s.fld SYS_ID.REV) 8192 (s.stumpBytes 2048 1024) with
  | .ok rs => !rs.all fun r => trimType r.type
  | .error _ => true

/-- DEFAULTS begins: the factory image and the board trim image are checked, and their records wait to be applied
(R294).
(DEDUCED, log entry 104.) -/
def State.defaults (s : State) : State :=
  let rs := s.defaultRecs
  let s := (s.setFld CFG_STAT.STATE 5).when s.trimBad (·.raise CFG_FLAG.TRIM_BAD)
  s.cfgUpd fun c => { c with recs := rs, writes := [], fin := none, dramSkip := false, dramGo := false, begun := true }

/-- DEFAULTS ends in the state of Table 14-6 (R295).
(DEDUCED, log entry 104.) -/
def State.defaultsEnd (s : State) : State :=
  let s := s.holdAllBlocks.blockReleaseReq 55
  let s := (s.hlnkEn true).setFld SYS_JOBQ_CTL.ENABLE 0
  let s := s.firstRelease true
  let s := ((s.setFld CFG_STAT.SRC 3).setFld CFG_STAT.SERIAL 0).setFld CFG_STAT.STATE 6
  (s.setFld CFG_FLAGEN.DEFAULTED 1).raise CFG_FLAG.DEFAULTED

/-- The CRC register over bytes (R106). -/
def crcOver (c : BitVec 32) (bs : List Byte) : BitVec 32 := bs.foldl crc32Byte c

/-- Slot `k` passes pass 1: pass 2 begins with its header. -/
def State.slotPasses (s : State) (k : Nat) (img : List Byte) : State :=
  ((s.readSlot k).setFld CFG_STAT.STATE 3).cfgUpd fun c =>
    { c with slot := k, serial := imgNum img 12 4, board := imgNum img 16 4, dramSkip := false, dramGo := false, begun := false
             recs := [], writes := [], crc := crcOver (BitVec.allOnes 32) (img.take 32), fin := none }

/-- Slot B passes to the defaults when it is rejected, by its check or by a skip. -/
def State.judgeB (s : State) (img : List Byte) : State :=
  match checkImage (s.fld SYS_ID.REV) (2 ^ (s.fld CFG_FLINFO.DENS) / 2) img with
  | .ok _ => s.slotPasses 1 img
  | .error (c, off) => (s.rejectSlot 1 c off).defaults

/-- Slot A: it passes, or slot B is next. -/
def State.judgeA (s : State) (img : List Byte) : State :=
  match checkImage (s.fld SYS_ID.REV) (2 ^ (s.fld CFG_FLINFO.DENS) / 2) img with
  | .ok _ => s.slotPasses 0 img
  | .error (c, off) =>
    let s := s.rejectSlot 0 c off
    if s.fld SYS_RSTCAUSE.SKIP = 2 then (s.skipSlot 1).defaults else (s.readSlot 1).setFld CFG_STAT.STATE 2

/-- No slot can be read: both fail with cause 0x1. -/
def State.noFlash (s : State) : State := ((s.rejectSlot 0 1 0).rejectSlot 1 1 0).defaults

/-- The loader is in SFDP, its load begun. -/
def State.inSfdp (s : State) : Bool := s.cfgState == 0 && !s.sys.held && !s.cfg.waitBist

/-- The SFDP header and the first parameter header are read, 16 bytes from address 0 (R282).
(PRESUMED, log entry 205.) -/
def State.sfdpHead (s : State) : State := s.emit (.flash 0x5A 3 0 8 0 16 [])

/-- WIP has cleared and the SFDP tables are read: 1-4-4 fast read if it is offered, else 1-1-4, with the dummy cycles and
the mode clocks of the table, 4-byte instructions above 128 Mbit, the quad-enable bit set; slot A is next, or slot B where
A is skipped (R282, R289).
(DESIGN CHOICE, log entry 105; PRESUMED, log entry 205.) -/
def State.sfdpRead (s : State) (t : Sfdp) : State :=
  let s := s.sfdpHead.emit (.flash 0x5A 3 t.ptr.toNat 8 0 (4 * t.dwords.toNat) [])
  let f := t.fast144.getD t.fast114
  let s := (s.setFld CFG_FLINFO.DENS t.dens.toNat).setFld CFG_FLINFO.ADDR4 (bit (decide (24 < t.dens.toNat)))
  let s := (s.setFld CFG_FLINFO.MODE (if t.fast144.isSome then 2 else 1)).setFld CFG_FLINFO.DUMMY f.1.toNat
  let s := (s.emit (.flashQuad t.qer)).cfgUpd fun c => { c with mclk := f.2.toNat }
  if s.fld SYS_RSTCAUSE.SKIP = 1 then ((s.skipSlot 0).readSlot 1).setFld CFG_STAT.STATE 2
  else (s.readSlot 0).setFld CFG_STAT.STATE 1

/-- PASS1_DONE: pass 1 of the slot whose turn it is ends; before it the SFDP tables are read.
(DESIGN CHOICE, log entry 105.) -/
def State.pass1Done (s : State) (e : LoadEv) : State :=
  match e with
  | .noSfdp => if s.inSfdp then s.sfdpHead.noFlash else s
  | .sfdp t => if s.inSfdp then s.sfdpRead t else s
  | .image img => if s.cfgState = 1 then s.judgeA img else if s.cfgState = 2 then s.judgeB img else s

/-- WIP_TIMEOUT: the flash stays busy for 2 s. -/
def State.wipTimeout (s : State) : State := if s.inSfdp then s.noFlash else s

/-! ### Pass 2 (R286, R288 to R290, R292) -/

/-- The eight bytes of a record header (Table 14-2). -/
def recHeader (r : ImgRec) : List Byte :=
  [BitVec.ofNat 8 r.type, BitVec.ofNat 8 r.varmask, 0, 0] ++ bytesBE 4 r.body.length

/-- A body padded with zero bytes to a multiple of 8 (R285). -/
def padBody (body : List Byte) : List Byte := body ++ List.replicate (up8 body.length - body.length) 0

/-- The bytes of 40-bit words (R286). -/
def wordBytes (ws : List Word) : List Byte := (ws.map fun w => bytesBE 5 w.toNat).flatten

/-- Pass 2 reads a record: it is covered by the CRC and waits for its turn. -/
def State.readRecord (s : State) (type varmask : Nat) (body : List Byte) : State :=
  if s.cfgState ≠ 3 ∨ s.cfg.fin.isSome then s
  else
    let r : ImgRec := { type := type, varmask := varmask, body := padBody body }
    s.cfgUpd fun c => { c with recs := c.recs ++ [r], crc := crcOver (crcOver c.crc (recHeader r)) r.body }

/-- Pass 2 reads END and the check word. -/
def State.readEnd (s : State) (varmask : Nat) (check : BitVec 32) (patchOk : Bool) : State :=
  if s.cfgState ≠ 3 ∨ s.cfg.fin.isSome then s
  else
    let crc := crcOver s.cfg.crc (recHeader { type := 0x0F, varmask := varmask, body := [] })
    s.cfgUpd fun c => { c with crc := crc, fin := some (~~~ crc == check, patchOk) }

/-- The check word of pass 2 matches, or the slot is rejected with cause 0x7 and a system reset of cause 0x06 follows that
skips it (R288, R289). -/
def State.loadEnd (s : State) (crcOk patchOk : Bool) : State :=
  let s := s.cfgUpd fun c => { c with fin := none }
  if !crcOk then (s.rejectSlot s.cfg.slot 7 0).requestReset 6 (s.cfg.slot + 1)
  else
    let s := ((s.setFld CFG_STAT.SRC (s.cfg.slot + 1)).setFld CFG_STAT.SERIAL s.cfg.serial).setFld CFG_BOARD.BOARD s.cfg.board
    let s := ({ s with aonHold := false } : State).henSyncAll
    (s.firstRelease patchOk).setFld CFG_STAT.STATE 4

/-- The first DRAMDATA record that applies is at hand, and the controller has not reached RUN (R290).
(DEDUCED, log entry 107.) -/
def State.dramWaits (s : State) : Bool :=
  match s.cfg.recs with
  | r :: _ => r.type == 7 && s.applies r && !s.cfg.dramSkip && !s.cfg.dramGo && s.fld DRAM_STAT.STATE != 4
  | [] => false

/-- The loader applies records: in pass 2 of a slot, or of the defaults. -/
def State.applying (s : State) : Bool := s.cfgState == 3 || s.cfgState == 5

/-- DRAM_SKIP: 2.0 s pass at the first DRAMDATA record without RUN. -/
def State.dramSkipTmo (s : State) : State :=
  if s.applying && s.cfg.writes.isEmpty && s.dramWaits then s.skipDram else s

/-- The loader may write: pass 2 has begun, once every domain was ON, or the defaults are applied; no run of BIST that the
loader started goes on, nor waits for the end of one (R330, R390). -/
def State.loadReady (s : State) : Bool :=
  s.applying && s.cfg.begun &&
    !((s.bistRuns && s.fld BIST_STAT.SRC == 1) || (s.bist.src == 1 && s.on BIST_STAT.QUEUE))

/-- The loader's next step: the next write of a REGSET record goes out, the oldest record that waits is applied, END takes
effect, or the defaults end. -/
def State.loadNext (s : State) : State :=
  if !s.loadReady then s
  else match s.cfg.writes, s.cfg.recs, s.cfg.fin with
    | e :: rest, _, _ => (s.cfgUpd fun c => { c with writes := rest }).loaderWrite e.1 e.2
    | [], r :: rest, _ =>
      if s.dramWaits then (if s.fld DRAM_STAT.STATE = 6 then s.skipDram else s)
      else
        let s := s.cfgUpd fun c => { c with recs := rest, dramGo := c.dramGo || (r.type == 7 && s.applies r) }
        s.applyRecord r
    | [], [], some (ok, patchOk) => s.loadEnd ok patchOk
    | [], [], none => if s.cfgState = 5 then s.defaultsEnd else s

/-- The steps that the records and the writes that wait take at most. -/
def State.loadSteps (s : State) : Nat :=
  s.cfg.writes.length + (s.cfg.recs.map fun r => r.body.length / 8 + 1).sum + 1

/-- Pass 2, or the application of the defaults, goes on as far as it can. -/
def State.loadSettle (s : State) : State :=
  if !s.applying then s
  else
    let ready := s.pdState 1 == 2 && (List.range' 4 6).all fun d => s.pdState d == 2
    let s := s.when ready (·.cfgUpd fun c => { c with begun := true })
    forTo s.loadSteps (fun _ s => s.loadNext) s

end Sys2Proof.Machine
end

