-- ==== Sys2Proof/Machine/SysReset.lean ====
section
/-! DEFINITION. Power-on and system reset (spec/15_reset_startup.md, R302 to R305, R311, R312, R315), the start of a load,
and the rails whose loss resets (spec/16_clocks_power.md, Table 16-3). -/

namespace Sys2Proof.Machine

/-! ### What a system reset leaves (Table 15-2) -/

/-- The registers of PD0: the reset-cause record, the oscillator, the hold count, the hot-plug log. -/
def aonRegs : List Nat :=
  [SYS_RSTCAUSE.base, SYS_RSTSTAMP.base, SYS_CORECAUSE.base, SYS_AONCTL.base, SYS_HOLD.base, SYS_HPLOGWR.base] ++
    (List.range 8).map fun i => SYS_HPLOG.at i

/-- The levels of the input balls that a reset does not change: rail monitors, the removal request, limits, bridge
faults and motion encoders.
(DEDUCED, log entry 94.) -/
def State.keepInputs (t s : State) : State :=
  let t := t.setReg SYS_SUPSTAT (s.reg SYS_SUPSTAT)
  let t := t.setFld SYS_HPSTAT.REQ (s.fld SYS_HPSTAT.REQ)
  forTo 8 (fun n t =>
    let x := s.axis n
    t.updAxis n fun y => { y with limHigh := x.limHigh, fltLow := x.fltLow, qa := x.qa, qb := x.qb }) t

/-- Domain states after a system reset (R330): PD1 and PD4 to PD9 on or switching on, PD2 off or switching off. `lost`:
VDD was lost, so every domain must be switched on again.
(DEDUCED, log entry 94.) -/
def State.resetDomains (t s : State) (lost : Bool) : State :=
  let t := forIn' [1, 4, 5, 6, 7, 8, 9] (fun d t => t.setPd d (if s.pdState d = 2 ∧ !lost then 2 else 1)) t
  t.setPd 2 (if s.pdState 2 = 0 ∨ lost then 0 else 3)

/-- The clocks after a system reset: the PLL and the dividers run on, but after causes 0x02 and 0x09; the oscillator is
not touched.
(DEDUCED, log entry 94.) -/
def State.resetClocks (t s : State) (cause : Nat) : State :=
  let t := t.setFld SYS_CLKSTAT.OSC_OK (s.fld SYS_CLKSTAT.OSC_OK)
  if cause = 2 ∨ cause = 9 then t
  else (t.setFld SYS_CLKSTAT.ROOT_LOCK (s.fld SYS_CLKSTAT.ROOT_LOCK)).setFld SYS_CLKSTAT.CKGOOD (s.fld SYS_CLKSTAT.CKGOOD)

/-- The machine's own bookkeeping passes through every reset: the waiting commands, what left the chip, the counters. -/
def State.keepModel (t s : State) : State :=
  { t with pending := s.pending, out := s.out, freeCtr := s.freeCtr, cycle := s.cycle, holdAcc := s.holdAcc
           stump := s.stump, stumpBad := s.stumpBad }

/-- What a system reset makes of the machine (R303); `vdd`: VDD is lost with it. -/
def State.resetState (s : State) (vdd : Bool) (cause : Nat) : State :=
  let t := (State.reset.keepModel s).keepInputs s
  let t := forIn' aonRegs (fun a t => t.setWord a (s.word a)) t
  let t := (t.resetDomains s vdd).resetClocks s (if vdd then 2 else cause)
  { t with tap := if vdd then TapSt.reset else s.tap, sys := { SysSt.reset with por := false, rstLow := s.sys.rstLow } }

/-- The reset-cause record of a system reset applied at a hold count (R311). -/
def State.resetRecord (s : State) (cause dly skip : Nat) (stdly : Bool) (hold : Word) : State :=
  let s := ((s.setFld SYS_RSTCAUSE.CAUSE cause).setFld SYS_RSTCAUSE.STDLY (bit stdly)).setFld SYS_RSTCAUSE.DLY
    (if stdly then dly else 0)
  let s := (s.setFld SYS_RSTCAUSE.SKIP skip).setFld SYS_RSTCAUSE.NRESET (min 65535 (s.fld SYS_RSTCAUSE.NRESET + 1))
  (s.setReg SYS_RSTSTAMP hold).setFld SYS_CORECAUSE.NCORE 0

/-- A system reset is applied (R303, R311).
(DEDUCED, log entry 94; DEDUCED, log entry 96.) -/
def State.systemReset (s : State) (cause dly skip : Nat) (stdly : Bool) : State :=
  ((s.resetState (cause == 2) cause).resetRecord cause dly skip stdly (s.reg SYS_HOLD)).flogScan

/-- VDD is lost (R302, R304, R331): a system reset at once, a pulse in progress broken with it. One that is pending merges
into it; one that is held goes on, its clocks and domains lost too. The record is written when VDD returns.
(DEDUCED, log entry 93; DEDUCED, log entry 96.) -/
def State.vddLost (s : State) : State :=
  let s := s.pulseBroken
  if s.sys.held then
    let t := ((s.resetDomains s true).setFld SYS_CLKSTAT.ROOT_LOCK 0).setFld SYS_CLKSTAT.CKGOOD 0
    { t with tap := TapSt.reset }
  else
    let r : SysReq := match s.sys.req with
      | some r => s.mergeReq r 2 0
      | none => { since := s.cycle, cause := 2, delayed := false, skip := 0 }
    let t := (s.resetState true 2).flogScan
    { t with sys := { t.sys with vddLost := some (r.cause, r.skip, s.reg SYS_HOLD) } }

/-- VDD returns: the reset of its loss is recorded (R331). -/
def State.vddBack (s : State) : State :=
  match s.sys.vddLost with
  | none => s
  | some (cause, skip, hold) =>
    ({ s with sys := { s.sys with vddLost := none } } : State).resetRecord cause 0 skip false hold

/-- SYSTEM_RESET_APPLY: 1.0 µs after the request, or when the pulse in progress has ended. -/
def State.resetApply (s : State) (dly : Nat) : State :=
  match s.sys.req with
  | none => s
  | some r =>
    if s.cfg.pulse.isSome then s else s.systemReset r.cause dly r.skip r.delayed

/-- POWER_ON_RESET: VAON falls below its monitor (R302, Table 15-2).
(DESIGN CHOICE, log entry 95.) -/
def State.powerOn (s : State) : State :=
  let s := s.pulseBroken
  let t := (State.reset.keepModel s).keepInputs s
  let t := t.setReg SYS_SUPSTAT (s.reg SYS_SUPSTAT &&& 0x7F00000000)
  ({ t with holdAcc := 0, sys := { t.sys with rstLow := s.sys.rstLow } } : State).flogScan

/-- AON_POR_RELEASE: the RC timer releases the power-on reset once VAON is valid. -/
def State.porRelease (s : State) : State :=
  if s.sys.por && s.railOk 7 then { s with sys := { s.sys with por := false } } else s

/-! ### Release (R311, R315, R391) -/

/-- The loader starts (R282): the software reset pair, then the poll of the status register; the SFDP read follows when
WIP reads 0. -/
def State.loadStart (s : State) : State :=
  ((s.emit (.flash 0x66 0 0 0 0 0 [])).emit (.flash 0x99 0 0 0 0 0 [])).emit (.flash 0x05 0 0 0 0 1 [])

/-- RESET_RELEASE: with clocks good and nothing requested, the reset is released with every block held; the straps are
sampled; the loader starts, or the BIST of a BIST_START_N held low runs first. -/
def State.resetRelease (s : State) (barId var : Nat) (bistLow : Bool) : State :=
  if !s.sys.held || s.sys.por || s.sys.req.isSome || s.sys.rstLow || !s.clocksGood || !s.railOk 6 || !s.railOk 5 then s
  else
    let s := { s with sys := { s.sys with held := false, barId := barId, varSel := var } }
    let s := ((s.setFld BAR_STAT.ID barId).setFld CFG_STAT.VAR var).raise SYS_FLAG.RESET_SEEN
    let s := s.hpStart.flogPush 1 (s.fld SYS_RSTCAUSE.CAUSE)
    if bistLow then (s.cfgUpd fun c => { c with waitBist := true }).bistPin else s.loadStart

/-- BIST_DOMAIN_DONE: after the last domain of a pin run the loader starts (R391). -/
def State.bistDomainDone (s : State) (sig : Word) (mf : Option MemFail) : State :=
  let s := s.bistDone sig mf
  if s.cfg.waitBist && !s.bistRuns then (s.cfgUpd fun c => { c with waitBist := false }).loadStart else s

/-! ### Rails (R324, R325, Table 16-3) -/

/-- SUP_LOST: a rail falls below its monitor. VAON resets the chip from power on; VDD is a system reset of cause 0x02 at
once, a pulse in progress broken with it (R300). -/
def State.supLost (s : State) (r : Nat) : State :=
  if !s.railOk r then s
  else
    let s := s.setRail r false
    match r with
    | 7 => s.powerOn
    | 6 => if s.sys.por then s else s.vddLost
    | 5 => s.pllRailLost
    | _ => if s.railOk 6 && !s.sys.por then s.railLost r else s

/-- RAIL_VALID: a rail has stayed above its rising threshold for 2 µs. -/
def State.railValid (s : State) (r : Nat) : State := (s.setRail r true).when (r == 6) (·.vddBack)

/-- RST_N: the ball has been low for 1 µs, which requests a system reset and holds it, or is high again (R302). -/
def State.rstBall (s : State) (low : Bool) : State :=
  ({ s with sys := { s.sys with rstLow := low } } : State).when low (·.requestReset 3 0)

/-- BAR_RESET_APPLY: 2 µs after a reset GOP: a system reset of cause 0x07. -/
def State.barResetApply (s : State) : State := if s.bar.gopReset then s.requestReset 7 0 else s

/-! ### The tick -/

/-- The hold count after the time of one CK_CORE cycle: the oscillator is good and runs (R7, R323). -/
def State.holdTick (s : State) : State :=
  if s.on SYS_CLKSTAT.OSC_OK && s.on SYS_AONCTL.OSC_EN then
    let a := s.holdAcc + 32768
    if a < 1200000000 then { s with holdAcc := a }
    else ({ s with holdAcc := a - 1200000000 } : State).setReg SYS_HOLD (s.reg SYS_HOLD + 1)
  else s

/-- One CK_CORE cycle in which no command comes: the position projection (frozen in OFF), network time, the hold count, the
display scans; with the dividers stopped only the hold count (R319).
(DESIGN CHOICE, log entry 1; DEDUCED, log entry 4; DEDUCED, log entry 37.) -/
def State.tick (s : State) : State :=
  let s := s.holdTick
  if !s.on SYS_CLKSTAT.ROOT_LOCK then s
  else
    let s := { s with cycle := s.cycle + 1, pos := { s.pos with was := (s.pos.est, s.pos.vel, s.pos.k) } }
    let s := if s.pos.k < 63 ∧ s.posState ≠ 0 then ({ s with pos := { s.pos with k := s.pos.k + 1 } } : State).updateFwd else s
    let s := if s.sys.held then s else s.setTime (s.net.time + (s.reg ETH_TADDEND).toNat)
    (s.dispTick 0).dispTick 1

end Sys2Proof.Machine
end

