-- ==== Sys2Proof/Machine/Settle.lean ====
section
/-! DEFINITION. What every command has in common: who may send it, and what the block does by itself after it: releases
whose conditions are met, the hot-plug transitions that need no event, a BIST request that waits, the limit of illegal
transitions (R34), queued frames whose launch time has come, the first line of a swath armed late (R124), the derived
fields, and the level of EVENT_N. -/

namespace Sys2Proof.Machine

/-! ### Senders -/

/-- An event that meets the block out of system reset with its clocks running: otherwise it takes none (R303, R319).
(DEDUCED, log entry 25.) -/
def State.live (s : State) (f : State → State) : State := if s.clocked then f s else s

/-- A register access of a sender: none reaches the bus in a system reset, and none comes from the Warden while its cores
are held (R306).
(DEDUCED, log entry 25; DEDUCED, log entry 26.) -/
def State.sends (s : State) (o : Sender) (f : State → State) : State :=
  if s.clocked && (o == .host || s.ward.coreUp) then f s else s

/-- A write of a sender to element `i`, `j` of a register.
(DEDUCED, log entry 22.) -/
def State.regCmd (s : State) (o : Sender) (r : Reg) (i j : Nat) (w : Word) : State :=
  s.sends o fun s => (s.busWrite o.origin (r.at i j) w).1

/-- A write of a sender to element `i` of a register, whose effect is given with what only its command says; an isolated
register takes none (R155). -/
def State.regVia (s : State) (o : Sender) (r : Reg) (i : Nat) (f : State → State) : State :=
  s.sends o fun s => if s.regIso (r.at i) then (s.busWrite o.origin (r.at i) 0).1 else f s

/-- A read of a sender from element `i` of a register; the result goes out.
(DEDUCED, log entry 23.) -/
def State.regRead (s : State) (o : Sender) (r : Reg) (i : Nat) : State :=
  s.sends o fun s => s.readBy o (r.at i)

/-- SYS_BLKRST as it reads, with the bit of block `b` set or cleared (R307).
(DEDUCED, log entry 31.) -/
def State.blkWord (s : State) (b : Nat) (v : Bool) : Word :=
  let w := if b < 40 then s.reg SYS_BLKRST0 else s.reg SYS_BLKRST1
  let m : Word := 1#40 <<< (if b < 40 then b else b - 40)
  if v then w ||| m else w &&& ~~~ m

/-! ### After every command -/

/-- DRAM_GEOM.SIZE shows the capacity that the other fields name (Table 13-1). -/
def State.geomSync (s : State) : State :=
  s.setFld DRAM_GEOM.SIZE (geomSize (s.fld DRAM_GEOM.WIDTH) (s.fld DRAM_GEOM.DENS) (s.fld DRAM_GEOM.RANKS))

/-- What follows a command at once; `was` is the state before it. Nothing in a system reset, or without clocks. -/
def State.settle (s was : State) : State :=
  if s.clocked then
    (((((((((s.hpSettle was).barSettle).loadSettle).settleReleases).bistKick).qiSettle).launchFrames).armAssemble).repairSettle).geomSync
  else s

/-- EVENT_N follows the enabled flags (R10). -/
def State.eventSync (s : State) : State := { s with eventN := !s.eventNLow }

/-- The state after a command that took `s` to `t`: the block settles, EVENT_N follows, and the queue is what it was. -/
def State.close (s t : State) : State := { (t.settle s).eventSync with pending := s.pending }

/-- The end of a command that took `s` to `t`. -/
def State.finish (s t : State) : Host.Outcome State Fault Refusal := .next (s.close t)

end Sys2Proof.Machine
end

