-- ==== Sys2Proof/WellFormed.lean ====
section
/-! DEFINITION. Which commands can be given to the block at all: operands within the ranges their packets, records and
registers have. -/

namespace Sys2Proof

/-- A packet's body without its CRC word: LEN is 2 to 4,095 words with it (Table 12-4).
(DESIGN CHOICE, log entry 2.) -/
def packetOk (words : List Word) : Bool := decide (1 ≤ words.length ∧ words.length ≤ 4094)

/-- An Ethernet frame: the two addresses and the type at least, 1,522 bytes at most.
(DESIGN CHOICE, log entry 2.) -/
def frameOk (frame : List Byte) : Bool := decide (14 ≤ frame.length ∧ frame.length ≤ 1522)

/-- The faults of an assembly name a port and a channel that exist.
(DESIGN CHOICE, log entry 2.) -/
def lineFaultsOk (f : LineFaults) : Bool :=
  match f.lbEcc with
  | none => true
  | some (p, c) => decide (p < 48 ∧ c < 4000)

/-- A code of the test access port that acts as BYPASS (R404): none of the named instructions. -/
def bypassOk (code : BitVec 8) : Bool := code != 0x00 && code != 0x01 && code != 0x02 && code != 0x10

/-- A command is well formed.
(DESIGN CHOICE, log entry 2.) -/
def Instr.wf (i : Instr) : Bool :=
  match i with
  | .registerWrite _ _ _ => true
  | .jobdesc _ words _ => packetOk words
  | .jobqRelease _ _ => true
  | .jobqFlush _ _ => true
  | .jobqEnable _ _ => true
  | .lineDecision _ f => lineFaultsOk f
  | .portGo _ => true
  | .strobeIssue _ => true
  | .kerfAck _ _ _ _ => true
  | .tempPacket _ _ _ _ _ _ _ => true
  | .testPacket _ _ bytes => decide (bytes.length = 63)
  | .telCrc _ => true
  | .tableAckTimeout _ _ => true
  | .waveAckTimeout _ => true
  | .testTimeout _ => true
  | .telLost _ => true
  | .wloadGo _ _ _ => true
  | .fireTestGo _ _ => true
  | .linkEn _ _ _ => true
  | .kerfRun _ _ _ => true
  | .hen _ _ _ => true
  | .kerfRunEnter _ => true
  | .trainFail _ => true
  | .linkDown _ => true
  | .dlyWrite _ _ _ => true
  | .encoderEdge _ _ _ _ => true
  | .indexEvent _ => true
  | .wireDisagreement _ _ => true
  | .posEnable _ _ => true
  | .rearm _ _ => true
  | .probeEdge _ _ => true
  | .probeFifoPop _ _ => true
  | .blockRelease _ => true
  | .blockDecode _ _ => true
  | .ctxXferGo _ _ => true
  | .encCfgWrite _ _ _ => true
  | .bandNext _ _ _ => true
  | .encBlock _ => true
  | .descriptorRead _ => true
  | .descriptorPoll _ => true
  | .fetchDeadline _ => true
  | .slotFetchDone _ => true
  | .late _ => true
  | .descWriteback _ => true
  | .rmapWrite _ _ => true
  | .calBankWrite _ _ => true
  | .logRej _ _ _ => true
  | .txnBegin _ => true
  | .txnRollback _ => true
  | .txnStageWrite _ _ _ _ => true
  | .txnArm _ _ _ => true
  | .txnSlotCancel _ _ => true
  | .txnTimeTrigger _ => true
  | .rlogRej _ _ _ => true
  | .tallySnapshot _ => true
  | .snapdataRead _ => true
  | .frameStart _ _ _ => true
  | .linePacket _ _ _ _ _ pixels => decide (pixels.length ≤ 65535)
  | .frameEnd _ _ _ => true
  | .laneErr _ => true
  | .triggerCross _ _ => true
  | .triggerPulseEnd _ => true
  | .pipeLine _ _ => true
  | .published _ ecc _ => ecc.all fun b => decide (b < 48000)
  | .portEnable _ _ _ => true
  | .pipeCfgWrite _ _ _ => true
  | .ffWrite _ _ _ => true
  | .cciCmd _ _ _ => true
  | .cciTransferDone _ _ _ => true
  | .refRowWrite row => decide (row < 16777216)
  | .scalerEnable _ _ => true
  | .hmWrite _ _ => true
  | .hmFifoPop _ => true
  | .beacon _ _ _ _ _ _ _ _ => true
  | .pmark _ _ _ _ _ => true
  | .writes _ _ _ _ ws => decide (ws.length ≤ 14 ∧ ws.length % 2 = 0)
  | .prep _ _ _ _ _ _ _ => true
  | .vote _ _ _ _ _ => true
  | .trig _ _ _ _ _ => true
  | .arrive _ _ _ _ _ _ => true
  | .gop _ _ _ _ _ _ => true
  | .map _ _ _ _ _ _ => true
  | .join _ _ _ _ => true
  | .leave _ _ _ _ => true
  | .breakMsg _ _ _ _ _ => true
  | .time _ _ _ _ _ _ _ _ => true
  | .barAck _ _ => true
  | .msgCrc _ _ _ => true
  | .hopRetry _ => true
  | .barPortAlign _ _ _ _ _ => true
  | .beaconSend _ => true
  | .beaconKeepalive _ => true
  | .barEn _ _ => true
  | .barLeave _ _ => true
  | .rejoin _ _ => true
  | .snapshotAtLine _ => true
  | .snapshotNow _ => true
  | .barReset _ => true
  | .timeSend _ => true
  | .timeSRead _ => true
  | .timeSWrite _ _ => true
  | .timeNsWrite _ _ => true
  | .timeStep _ _ => true
  | .scheduledLaunch _ _ frame => frameOk frame
  | .oneStepInsert frame => frameOk frame
  | .blockLock _ => true
  | .lockLostLane _ _ _ => true
  | .stuffErr _ => true
  | .train _ _ _ _ skews => decide (skews.length = 8)
  | .filler _ _ fseq skews => decide (fseq.length = 8) && decide (skews.length = 8)
  | .ebErr _ => true
  | .ack _ => true
  | .nak _ => true
  | .credit _ _ => true
  | .regWr _ words _ => packetOk words
  | .regRd _ words _ => packetOk words
  | .raster _ words _ => packetOk words
  | .hlnkEn _ _ => true
  | .retrain _ _ => true
  | .prbsCtl _ _ _ => true
  | .errInj _ _ _ => true
  | .dramWriteRequest _ _ bytes => decide (1 ≤ bytes.length)
  | .dramReadRequest _ _ n => decide (1 ≤ n)
  | .dramReadComplete _ _ _ => true
  | .scrub _ => true
  | .refresh _ _ _ => true
  | .mr4Poll _ _ _ _ _ _ => true
  | .pageIdleClose _ _ _ _ => true
  | .dramInit _ _ => true
  | .dramCheckDone _ => true
  | .pass1Done _ => true
  | .regset _ _ => true
  | .trainRecord _ ws => decide (ws.length = 44)
  | .eq _ ws => decide (ws.length = 12)
  | .remap _ first ws => decide (ws.length % 2 = 0 ∧ 2 ≤ ws.length ∧ first + ws.length / 2 ≤ 192000)
  | .delay _ _ first ws => decide (first + ws.length ≤ 1334)
  | .calbank _ _ _ first ws => decide (first + ws.length ≤ 1024)
  | .dramdata _ _ bytes => decide (bytes.length % 16 = 0)
  | .fwpatch _ _ _ => true
  | .loadEnd _ _ _ => true
  | .reload _ _ => true
  | .fromB _ => true
  | .flashCmd _ _ => true
  | .flDone bytes => decide (bytes.length ≤ 260)
  | .stumpRead _ _ _ _ => true
  | .stumpProgram _ _ _ => true
  | .stumpErase _ _ _ => true
  | .sysResetCmd _ _ => true
  | .coreResetCmd _ _ => true
  | .systemResetApply _ => true
  | .resetRelease _ _ _ => true
  | .coreResetRelease _ _ => true
  | .blockResetAssert _ _ => true
  | .blockResetDrained _ _ => true
  | .blockReleaseRequest _ _ => true
  | .rstStall _ => true
  | .lanePllLock _ => true
  | .lpllLost _ => true
  | .lrefMeasure _ _ => true
  | .supLost _ => true
  | .railValid _ => true
  | .pdSwitchRequest _ _ => true
  | .pdRailGood _ => true
  | .pdOffDone _ => true
  | .pdFail _ => true
  | .heartbeat _ _ => true
  | .heartbeatMissed _ => true
  | .coreErr _ => true
  | .relStall _ => true
  | .busStall _ => true
  | .takeoverRelease _ _ => true
  | .isoDone ws => decide (ws.length ≤ 16)
  | .ckptReady _ _ => true
  | .seal _ => true
  | .sealDone _ => true
  | .swap _ => true
  | .test _ => true
  | .wardRearm _ => true
  | .selfrst _ => true
  | .sbchkResult _ => true
  | .landingRead _ => true
  | .movePush _ _ _ => true
  | .motGo _ _ => true
  | .halt _ _ => true
  | .stop _ _ => true
  | .sync _ _ => true
  | .axisEnable _ _ _ => true
  | .motPosWrite _ _ _ => true
  | .step _ => true
  | .moveDone _ => true
  | .swathResume _ => true
  | .passWrite _ _ => true
  | .maskWrite _ _ => true
  | .ovspFifoPop _ => true
  | .currentReduce _ => true
  | .stall _ => true
  | .overcur _ => true
  | .bridgeFlt _ _ => true
  | .openMotor _ => true
  | .limit _ _ => true
  | .liteTargetCross _ => true
  | .strobeDelayEnd _ => true
  | .strobeWidthEnd _ _ => true
  | .recoverEnd _ => true
  | .contCheck _ _ => true
  | .tempSample _ _ => true
  | .liteChWrite _ _ _ => true
  | .matrixSwap _ _ => true
  | .dispFrameStart _ => true
  | .dispEnable _ _ _ => true
  | .layerBaseWrite _ _ _ _ => true
  | .crcMism _ _ => true
  | .dispUnderrun _ _ _ => true
  | .bistStart _ _ => true
  | .bistAbort _ _ => true
  | .bistDomainDone _ _ => true
  | .parked _ => true
  | .resume _ => true
  | .gdmaGo _ _ _ => true
  | .gdmaAbort _ _ => true
  | .gdmaDisable _ => true
  | .gdmaUnit _ _ => true
  | .gdmaDone _ => true
  | .extest sampled shifted => decide (sampled.length = shifted.length)
  | .samplePreload sampled shifted => decide (sampled.length = shifted.length)
  | .debugPort _ => true
  | .bypass code _ => bypassOk code
  | .linkChg _ => true
  | .reservedTypePacket _ _ _ _ => true
  | .motEncoderEdge _ _ _ => true
  | .chopperThreshold _ _ _ _ => true
  | .wireDisagreementEnd _ _ _ => true
  | .prbsLock _ _ _ => true
  | .prbsLockLoss _ _ _ => true
  | .underrun => true
  | .loopUpdate => true
  | .pmMissing => true
  | .ctxXferDone => true
  | .rowClear => true
  | .substLogWrite => true
  | .commitRecordWrite => true
  | .beaconLost => true
  | .dxTimeout => true
  | .barResetApply => true
  | .ctlBad => true
  | .hdrCrc => true
  | .replay => true
  | .eventSend => true
  | .hlnkTrainTimeout => true
  | .zqCal => true
  | .dramZqDone => true
  | .dramZeroDone => true
  | .wipTimeout => true
  | .dramSkip => true
  | .stDone => true
  | .powerOnReset => true
  | .aonPorRelease => true
  | .rstN _ => true
  | .rootPllLock => true
  | .clockGood => true
  | .rootPllLoss => true
  | .oscOk => true
  | .oscFail => true
  | .hbLate => true
  | .handover => true
  | .handoverTimeout => true
  | .sbchkTimeout => true
  | .faultLogWrite => true
  | .rowSlot => true
  | .hpReq => true
  | .hpPrintEnd => true
  | .hpEndTmo => true
  | .hpParkTmo => true
  | .hpBarLeaveTimeout => true
  | .hpCancel => true
  | .hpInsert => true
  | .idcode => true
  | .idDup => true

end Sys2Proof
end

