-- ==== Sys2Proof/Machine/ExecBar.lean ====
section
/-! DEFINITION. Commands of the bar link and of network time (spec/11_bar_link_time.md). -/

namespace Sys2Proof.Machine

/-- BEACON (R223): A follower takes a BEACON message and resets its position state. -/
def execBeacon (e : Fin 2) (hseq : BitVec 8) (orig hop : Fin 16) (w0 w1 w2 : Word) (delay : Nat) (s : State) :
    Host.Outcome State Fault Refusal :=
  s.finish (s.live fun s => s.beaconMsg e hseq.toNat orig hop w0 w1 w2 delay)

/-- PMARK (R225): A follower takes a PMARK and uses it as a page-mark stamp. -/
def execPmark (e : Fin 2) (hseq : BitVec 8) (orig hop : Fin 16) (t : Word) (s : State) :
    Host.Outcome State Fault Refusal :=
  s.finish (s.live fun s => s.pmarkMsg e hseq.toNat orig hop t)

/-- WRITES (R227): A WRITES message delivers distributed staged writes, kept when the mask names this chip. -/
def execWrites (e : Fin 2) (hseq : BitVec 8) (orig hop : Fin 16) (ws : List Word) (s : State) :
    Host.Outcome State Fault Refusal :=
  s.finish (s.live fun s => s.writesMsg e hseq.toNat orig hop ws)

/-- PREP (R228): A member takes PREP, stages its share, checks it and floods a VOTE. -/
def execPrep (e : Fin 2) (hseq : BitVec 8) (orig hop : Fin 16) (w0 w1 w2 : Word) (s : State) :
    Host.Outcome State Fault Refusal :=
  s.finish (s.live fun s => s.prepMsg e hseq.toNat orig hop w0 w1 w2)

/-- VOTE (R228): A VOTE is taken, and the exchange arms on all YES votes or aborts on a NO. -/
def execVote (e : Fin 2) (hseq : BitVec 8) (orig hop : Fin 16) (w : Word) (s : State) :
    Host.Outcome State Fault Refusal :=
  s.finish (s.live fun s => s.voteMsg e hseq.toNat orig hop w)

/-- TRIG (R230): A TRIG turns a distributed network-time transaction into a commit at line m. -/
def execTrig (e : Fin 2) (hseq : BitVec 8) (orig hop : Fin 16) (w : Word) (s : State) :
    Host.Outcome State Fault Refusal :=
  s.finish (s.live fun s => s.trigMsg e hseq.toNat orig hop w)

/-- ARRIVE (R233): An ARRIVE is taken, and the barrier completes once every member has arrived. -/
def execArrive (e : Fin 2) (hseq : BitVec 8) (orig hop : Fin 16) (jobId pageNo : BitVec 16) (s : State) :
    Host.Outcome State Fault Refusal :=
  s.finish (s.live fun s => s.arriveMsg e hseq.toNat orig hop jobId.toNat pageNo.toNat)

/-- GOP (R234): A GOP message starts a bar-wide snapshot or reset on the member. -/
def execGop (e : Fin 2) (hseq : BitVec 8) (orig hop : Fin 16) (op : BitVec 2) (l : BitVec 24) (s : State) :
    Host.Outcome State Fault Refusal :=
  s.finish (s.live fun s => s.gopMsg e hseq.toNat orig hop op.toNat l.toNat)

/-- MAP (R236): A MAP message updates membership and may move the chip to FOLLOW, ALONE or ISOLATED. -/
def execMap (e : Fin 2) (hseq : BitVec 8) (orig hop : Fin 16) (ids : BitVec 16) (gen : BitVec 8) (s : State) :
    Host.Outcome State Fault Refusal :=
  s.finish (s.live fun s => s.mapMsg e hseq.toNat orig hop ids.toNat gen.toNat)

/-- JOIN (R235): The leader takes a JOIN and adds the chip in a new MAP. -/
def execJoin (e : Fin 2) (hseq : BitVec 8) (orig hop : Fin 16) (s : State) :
    Host.Outcome State Fault Refusal :=
  s.finish (s.live fun s => s.joinMsg e hseq.toNat orig hop)

/-- LEAVE (R235): The leader takes a LEAVE and removes the chip in a new MAP. -/
def execLeave (e : Fin 2) (hseq : BitVec 8) (orig hop : Fin 16) (s : State) :
    Host.Outcome State Fault Refusal :=
  s.finish (s.live fun s => s.leaveMsg e hseq.toNat orig hop)

/-- BREAK (R232): A BREAK is taken, armed distributed transactions are cancelled and the leader prunes members.
-/
def execBreakMsg (e : Fin 2) (hseq : BitVec 8) (orig hop : Fin 16) (west : Bool) (s : State) :
    Host.Outcome State Fault Refusal :=
  s.finish (s.live fun s => s.breakMsg e hseq.toNat orig hop (bit west))

/-- TIME (R239): A follower in SRC = BAR takes a TIME message and loads and corrects its network time. -/
def execTime (e : Fin 2) (hseq : BitVec 8) (orig hop : Fin 16) (w0 w1 w2 : Word) (delay : Nat) (s : State) :
    Host.Outcome State Fault Refusal :=
  s.finish (s.live fun s => s.timeMsg e hseq.toNat orig hop w0 w1 w2 delay)

/-- BAR_ACK (R221): An ACK on a bar hop acknowledges held messages. -/
def execBarAck (e : Fin 2) (hseq : BitVec 8) (s : State) : Host.Outcome State Fault Refusal :=
  s.finish (s.live fun s => s.barAck e hseq.toNat)

/-- MSG_CRC (R221): A bar message with a bad CRC or reserved TYPE is discarded.
(DEDUCED, log entry 148.) -/
def execMsgCrc (e : Fin 2) (hdr : Word) (body : List Word) (s : State) : Host.Outcome State Fault Refusal :=
  s.finish (s.live fun s => s.msgCrc e hdr body)

/-- HOP_RETRY (R221): No ACK after 100 ns resends unacknowledged messages, and a fourth failure takes the port
down. -/
def execHopRetry (e : Fin 2) (s : State) : Host.Outcome State Fault Refusal :=
  s.finish (s.live fun s => s.hopRetry e)

/-- BAR_PORT_ALIGN (R219): A bar port becomes aligned and measures HOPDLY by ECHO exchanges. -/
def execBarPortAlign (e : Fin 2) (skew0 skew1 : Nat) (echoes : List (Nat × Nat)) (nbr : Fin 16) (s : State) :
    Host.Outcome State Fault Refusal :=
  s.finish (s.live fun s => s.barPortAlign e skew0 skew1 echoes nbr)

/-- BEACON_SEND (R222): The leader's forward position crosses a line boundary and it sends a BEACON. -/
def execBeaconSend (age : Nat) (s : State) : Host.Outcome State Fault Refusal :=
  s.finish (s.live fun s => s.beaconOut age true)

/-- BEACON_KEEPALIVE (R222): The leader sends a keep-alive BEACON after 8,192 cycles without one. -/
def execBeaconKeepalive (age : Nat) (s : State) : Host.Outcome State Fault Refusal :=
  s.finish (s.live fun s => s.beaconOut age false)

/-- BEACON_LOST (R224): No beacon for BTIMEOUT µs declares the encoder faulty on a follower. -/
def execBeaconLost (s : State) : Host.Outcome State Fault Refusal :=
  s.finish (s.live (·.beaconLost))

/-- DX_TIMEOUT (R228): Votes are incomplete DX_TIMEOUT µs after PREP and the exchange aborts with 0x0D. -/
def execDxTimeout (s : State) : Host.Outcome State Fault Refusal :=
  s.finish (s.live (·.dxTimeout))

/-- BAR_EN (R236): A write of BAR_CTL.EN takes the chip into LEAD or JOINING, or back to ALONE. -/
def execBarEn (o : Sender) (w : Word) (s : State) : Host.Outcome State Fault Refusal :=
  s.finish (s.regCmd o BAR_CTL 0 0 w)

/-- BAR_LEAVE (R236): BAR_CTL.LEAVE sends LEAVE and waits for a MAP without the chip's ID. -/
def execBarLeave (o : Sender) (w : Word) (s : State) : Host.Outcome State Fault Refusal :=
  s.finish (s.regCmd o BAR_CTL 0 0 (putFields w [(BAR_CTL.LEAVE, 1)]))

/-- REJOIN (R236): BAR_CTL.REJOIN sends JOIN from ISOLATED for a follower. -/
def execRejoin (o : Sender) (w : Word) (s : State) : Host.Outcome State Fault Refusal :=
  s.finish (s.regCmd o BAR_CTL 0 0 (putFields w [(BAR_CTL.REJOIN, 1)]))

/-- SNAPSHOT_AT_LINE (R234): BAR_GOP OP 0b00 floods a GOP for a Tally snapshot at line m. -/
def execSnapshotAtLine (o : Sender) (s : State) : Host.Outcome State Fault Refusal :=
  s.finish (s.regCmd o BAR_GOP 0 0 (putFields 0 [(BAR_GOP.GO, 1), (BAR_GOP.OP, 0)]))

/-- SNAPSHOT_NOW (R234): BAR_GOP OP 0b01 floods a GOP for an immediate Tally snapshot. -/
def execSnapshotNow (o : Sender) (s : State) : Host.Outcome State Fault Refusal :=
  s.finish (s.regCmd o BAR_GOP 0 0 (putFields 0 [(BAR_GOP.GO, 1), (BAR_GOP.OP, 1)]))

/-- BAR_RESET (R234): BAR_GOP OP 0b10 floods a GOP for a bar-wide system reset. -/
def execBarReset (o : Sender) (s : State) : Host.Outcome State Fault Refusal :=
  s.finish (s.regCmd o BAR_GOP 0 0 (putFields 0 [(BAR_GOP.GO, 1), (BAR_GOP.OP, 2)]))

/-- BAR_RESET_APPLY (R234): 2 µs after a reset GOP, the member applies a system reset of cause 0x07. -/
def execBarResetApply (s : State) : Host.Outcome State Fault Refusal :=
  s.finish (s.live (·.barResetApply))

/-- ID_DUP (R236): A chip in JOINING that has taken no MAP listing its own ID for 100 µs sets ID_DUP, casts no
votes and enters ISOLATED. -/
def execIdDup (s : State) : Host.Outcome State Fault Refusal :=
  s.finish (s.live (·.idDup))

/-- TIME_SEND (R239): The leader sends a TIME message every IVL ms. -/
def execTimeSend (age : Nat) (s : State) : Host.Outcome State Fault Refusal :=
  s.finish (s.live fun s => s.timeSend age)

/-- TIME_S_READ (R238): A read of ETH_TIME_S returns seconds and latches the whole counter. -/
def execTimeSRead (o : Sender) (s : State) : Host.Outcome State Fault Refusal :=
  s.finish (s.regRead o ETH_TIME_S 0)

/-- TIME_S_WRITE (R238): A write of ETH_TIME_S sets the held seconds value. -/
def execTimeSWrite (o : Sender) (w : Word) (s : State) : Host.Outcome State Fault Refusal :=
  s.finish (s.regCmd o ETH_TIME_S 0 0 w)

/-- TIME_NS_WRITE (R238): A write of ETH_TIME_NS loads the network time counter. -/
def execTimeNsWrite (o : Sender) (w : Word) (s : State) : Host.Outcome State Fault Refusal :=
  s.finish (s.regCmd o ETH_TIME_NS 0 0 w)

/-- TIME_STEP (R238): A write of ETH_TSTEP adds a signed step to network time. -/
def execTimeStep (o : Sender) (w : Word) (s : State) : Host.Outcome State Fault Refusal :=
  s.finish (s.regCmd o ETH_TSTEP 0 0 w)

/-- SCHEDULED_LAUNCH (R240): A frame is queued with a launch time, or leaves at once when that time is past. -/
def execScheduledLaunch (sec : BitVec 48) (ns : BitVec 32) (frame : List Byte) (s : State) :
    Host.Outcome State Fault Refusal :=
  s.finish (s.live fun s => s.scheduledLaunch sec.toNat ns.toNat frame)

/-- ONE_STEP_INSERT (R240): A Sync or Delay_Req frame leaves with network time inserted in originTimestamp. -/
def execOneStepInsert (frame : List Byte) (s : State) : Host.Outcome State Fault Refusal :=
  s.finish (s.live fun s => s.oneStepInsert frame)

/-- LINK_CHG (R241): The RGMII receive clock or in-band link status appears or disappears, ETH_STAT.LINK changes
and ETH_FLAG.LINK_CHG is set. -/
def execLinkChg (up : Bool) (s : State) : Host.Outcome State Fault Refusal :=
  s.finish (s.live fun s => s.linkChg up)

end Sys2Proof.Machine
end

