-- ==== Sys2Proof/Machine/ExecCodec.lean ====
section
/-! DEFINITION. Commands of the codec and of the Skidder (spec/03_opzo_block_format.md,
spec/04_skidder_remap.md). -/

namespace Sys2Proof.Machine

/-- BLOCK_RELEASE (R81): A fetched block is released to the codec when the forward position reaches L −
DEC_AHEAD. -/
def execBlockRelease (st : Fin 56) (s : State) : Host.Outcome State Fault Refusal :=
  s.finish (s.live fun s => s.blockRelease st)

/-- BLOCK_DECODE (R67): An idle engine loads the context, decodes a block into the line buffer and saves the
context. -/
def execBlockDecode (st : Fin 56) (f : DecFaults) (s : State) : Host.Outcome State Fault Refusal :=
  s.finish (s.live fun s => s.blockDecode st f)

/-- CTX_XFER_GO (R66): CODEC_CTXXFER.GO starts a context save or load, or refuses it with CTX_BUSY. -/
def execCtxXferGo (o : Sender) (w : Word) (s : State) : Host.Outcome State Fault Refusal :=
  s.finish (s.regCmd o CODEC_CTXXFER 0 0 (putFields w [(CODEC_CTXXFER.GO, 1)]))

/-- CTX_XFER_DONE (R66): A context transfer ends and XFER_BUSY clears. -/
def execCtxXferDone (s : State) : Host.Outcome State Fault Refusal :=
  s.finish (s.live (·.ctxXferDone))

/-- ENC_CFG_WRITE (R69): A write of CODEC_ENCCFG configures an encode stream, resetting pool use on ENABLE or
refusing RATIO 0. -/
def execEncCfgWrite (o : Sender) (e : Fin 8) (w : Word) (s : State) : Host.Outcome State Fault Refusal :=
  s.finish (s.regCmd o CODEC_ENCCFG e 0 w)

/-- BAND_NEXT (R69): CODEC_ENCCFG.BAND_NEXT makes the next encoded block open a band. -/
def execBandNext (o : Sender) (e : Fin 8) (w : Word) (s : State) : Host.Outcome State Fault Refusal :=
  s.finish (s.regCmd o CODEC_ENCCFG e 0 (putFields w [(CODEC_ENCCFG.BAND_NEXT, 1)]))

/-- ENC_BLOCK (R68): The encoder codes eight input lines into a block, spilling to its pool. -/
def execEncBlock (e : Fin 8) (s : State) : Host.Outcome State Fault Refusal :=
  s.finish (s.live fun s => s.encBlock e)

/-- DESCRIPTOR_READ (R76): A Skidder descriptor read returns and an owned descriptor is checked. -/
def execDescriptorRead (st : Fin 56) (s : State) : Host.Outcome State Fault Refusal :=
  s.finish (s.live fun s => s.descRead st)

/-- DESCRIPTOR_POLL (R75): An unowned descriptor is re-read every POLL lines. -/
def execDescriptorPoll (st : Fin 56) (s : State) : Host.Outcome State Fault Refusal :=
  s.finish (s.live fun s => s.descRead st)

/-- FETCH_DEADLINE (R81): The forward position reaches a block's fetch deadline and its raster presence is
decided. -/
def execFetchDeadline (st : Fin 56) (s : State) : Host.Outcome State Fault Refusal :=
  s.finish (s.live fun s => s.fetchDeadline st)

/-- SLOT_FETCH_DONE (R81): The slot and spill data of a block have been fetched from DRAM. -/
def execSlotFetchDone (st : Fin 56) (s : State) : Host.Outcome State Fault Refusal :=
  s.finish (s.live fun s => s.slotFetchDone st)

/-- LATE (R82): A block's line 7 is not in the line buffer when the forward position reaches L. -/
def execLate (st : Fin 56) (s : State) : Host.Outcome State Fault Refusal :=
  s.finish (s.live fun s => s.lateBlock st)

/-- DESC_WRITEBACK (R74): The Skidder writes back a descriptor once its blocks are decoded and any barrier
condition holds. -/
def execDescWriteback (st : Fin 56) (s : State) : Host.Outcome State Fault Refusal :=
  s.finish (s.live fun s => s.descWriteback st)

/-- RMAP_WRITE (R87): A write of SKID_RMAPDATA writes a remap word or is refused with RMAP_REJ or RMAP_RANGE. -/
def execRmapWrite (o : Sender) (w : Word) (s : State) : Host.Outcome State Fault Refusal :=
  s.finish (s.regCmd o SKID_RMAPDATA 0 0 w)

end Sys2Proof.Machine
end

