-- ==== Sys2Proof/Machine/ExecDram.lean ====
section
/-! DEFINITION. Commands of the memory controller (spec/13_dram_controller.md). -/

namespace Sys2Proof.Machine

/-- DRAM_WRITE_REQUEST (R272): A client write enters the write queues and is committed, or is discarded. -/
def execDramWriteRequest (client : Fin 12) (addr : BitVec 40) (bytes : List Byte) (s : State) :
    Host.Outcome State Fault Refusal :=
  s.finish (s.live fun s => s.dramWriteRequest client addr.toNat bytes)

/-- DRAM_READ_REQUEST (R272): A client read enters its read queue, after draining matching writes. -/
def execDramReadRequest (client : Fin 12) (addr : BitVec 40) (n : Nat) (s : State) :
    Host.Outcome State Fault Refusal :=
  s.finish (s.live fun s => s.dramReadRequest client addr.toNat n)

/-- DRAM_READ_COMPLETE (R268, R276): At a scheduling opportunity on a subchannel, with the banks `busy` whose timing
allows no access, the read chosen is decoded and delivered clean, corrected or poisoned.
(DEDUCED, log entry 147.) -/
def execDramReadComplete (q : Fin 4) (busy : List Nat) (errs : List (Nat × Nat)) (s : State) :
    Host.Outcome State Fault Refusal :=
  s.finish (s.live fun s => s.dramReadComplete q busy errs)

/-- SCRUB (R271): Every INTERVAL µs the scrubber reads one burst per subchannel. -/
def execScrub (errs : List (Nat × Nat)) (s : State) : Host.Outcome State Fault Refusal :=
  s.finish (s.live fun s => s.scrub errs)

/-- REFRESH (R275): A same-bank refresh falls due, and a fifth postponed one is forced. -/
def execRefresh (q : Fin 4) (rank : Fin 2) (draining : Bool) (s : State) :
    Host.Outcome State Fault Refusal :=
  s.finish (s.live fun s => s.refresh q rank draining)

/-- MR4_POLL (R275): Every POLL ms MR4 is read and the refresh rate adjusted. -/
def execMr4Poll (rr0 rr1 rr2 rr3 : Fin 8) (above1x hot : Bool) (s : State) :
    Host.Outcome State Fault Refusal :=
  s.finish (s.live fun s => s.mr4Poll rr0 rr1 rr2 rr3 above1x hot)

/-- ZQ_CAL (R275): Every 128 ms ZQ calibration runs. -/
def execZqCal (s : State) : Host.Outcome State Fault Refusal :=
  s.finish (s.live (·.zqCal))

/-- PAGE_IDLE_CLOSE (R274): An open row idle for IDLE cycles is closed. -/
def execPageIdleClose (q : Fin 4) (rank : Fin 2) (group : Fin 8) (bank : Fin 4) (s : State) :
    Host.Outcome State Fault Refusal :=
  s.finish (s.live fun s => s.pageIdleClose q rank group bank)

/-- DRAM_INIT (R278): DRAM_CTL.INIT starts initialisation or a retained start, or fails it. -/
def execDramInit (o : Sender) (w : Word) (s : State) : Host.Outcome State Fault Refusal :=
  s.finish (s.regCmd o DRAM_CTL 0 0 (putFields w [(DRAM_CTL.INIT, 1)]))

/-- DRAM_ZQ_DONE (R278): ZQ completes in INIT and the check patterns are written and read. -/
def execDramZqDone (s : State) : Host.Outcome State Fault Refusal :=
  s.finish (s.live (·.dramZqDone))

/-- DRAM_CHECK_DONE (R278): The check comparisons end and the controller enters ZERO, RUN or FAILED. -/
def execDramCheckDone (failq : BitVec 4) (s : State) : Host.Outcome State Fault Refusal :=
  s.finish (s.live fun s => s.dramCheckDone failq.toNat)

/-- DRAM_ZERO_DONE (R278): The last zero burst is committed and the controller enters RUN. -/
def execDramZeroDone (s : State) : Host.Outcome State Fault Refusal :=
  s.finish (s.live (·.dramZeroDone))

end Sys2Proof.Machine
end

