-- ==== Sys2Proof/Machine/ExecFire.lean ====
section
/-! DEFINITION. Commands of the firing engine and the Kerf ports (spec/05_line_buffers_firing.md,
spec/06_passes_overspeed_thermal.md). -/

namespace Sys2Proof.Machine

/-- LINE_DECISION (R97): The decision position reaches half a sixteenth before line n and the firing engine
decides line n.
(DEDUCED, log entry 4.) -/
def execLineDecision (dt : Nat) (f : LineFaults) (s : State) : Host.Outcome State Fault Refusal :=
  s.finish (s.live fun s => s.when (s.pdOn 4) (·.lineDecision dt f))

/-- PORT_GO (R97): A port's fire position reaches the line target and the port sends GO for line n. -/
def execPortGo (p : Fin 48) (s : State) : Host.Outcome State Fault Refusal :=
  s.finish (s.live fun s => s.portGo p)

/-- STROBE_ISSUE (R100): A port's fire position reaches phase k of a launched line and it issues the STROBE slot.
-/
def execStrobeIssue (p : Fin 48) (s : State) : Host.Outcome State Fault Refusal :=
  s.finish (s.live fun s => s.strobeIssue p)

/-- KERF_ACK (R108): An ACK packet is received on a Kerf return lane for a LINE, TABLE, WAVE or CMD packet. -/
def execKerfAck (p : Fin 48) (kind : BitVec 8) (ref : BitVec 24) (status : BitVec 8) (s : State) :
    Host.Outcome State Fault Refusal :=
  s.finish (s.live fun s => s.kerfAck p kind.toNat ref.toNat status.toNat)

/-- TEMP_PACKET (R111): A TEMP packet updates temperatures, valid sets and head status of a port. -/
def execTempPacket (p : Fin 48) (t0 t1 : BitVec 16) (ready supply hot : Bool) (wvalid : BitVec 8) (s : State) :
    Host.Outcome State Fault Refusal :=
  s.finish (s.live fun s => s.tempPacket p t0.toInt t1.toInt ready supply hot wvalid.toNat)

/-- TEST_PACKET (R112): A TEST packet segment is written to the self-test bitmap, and after eight segments
TEST_DONE is set. -/
def execTestPacket (p : Fin 48) (seg : Fin 8) (bytes : List Byte) (s : State) :
    Host.Outcome State Fault Refusal :=
  s.finish (s.live fun s => s.testPacket p seg bytes)

/-- TEL_CRC (R108): A return packet with a bad CRC or reserved TYPE is discarded and TEL_CRC is set. -/
def execTelCrc (p : Fin 48) (s : State) : Host.Outcome State Fault Refusal :=
  s.finish (s.live fun s => s.telCrc p)

/-- TABLE_ACK_TIMEOUT (R107): No ACK for a TABLE packet arrives within 100 µs and the attempt counts as failed.
-/
def execTableAckTimeout (p : Fin 48) (code : BitVec 8) (s : State) : Host.Outcome State Fault Refusal :=
  s.finish (s.live fun s => s.tableFail p code.toNat)

/-- WAVE_ACK_TIMEOUT (R103): No ACK for a WAVE packet arrives within 100 µs and the load ends with WLOAD_ERR. -/
def execWaveAckTimeout (p : Fin 48) (s : State) : Host.Outcome State Fault Refusal :=
  s.finish (s.live fun s => s.waveTimeout p)

/-- TEST_TIMEOUT (R112): Self-test segments are missing 50 ms after the command and TEST_REJ is set. -/
def execTestTimeout (p : Fin 48) (s : State) : Host.Outcome State Fault Refusal :=
  s.finish (s.live fun s => s.testTimeout p)

/-- TEL_LOST (R111): A port's telemetry AGE exceeds TIMEOUT, TEL_LOST is set and TEL_ACT applies. -/
def execTelLost (p : Fin 48) (s : State) : Host.Outcome State Fault Refusal :=
  s.finish (s.live fun s => s.telLost p)

/-- WLOAD_GO (R103): FIRE_WLOAD.GO starts a waveform load of NSEG segments or refuses it with WLOAD_REJ. -/
def execWloadGo (o : Sender) (p : Fin 48) (w : Word) (s : State) : Host.Outcome State Fault Refusal :=
  s.finish (s.regCmd o FIRE_WLOAD p 0 (putFields w [(FIRE_WLOAD.GO, 1)]))

/-- FIRE_TEST_GO (R112): FIRE_TEST.GO sends CMD 0x01 to start the head self-test, only in IDLE. -/
def execFireTestGo (o : Sender) (p : Fin 48) (s : State) : Host.Outcome State Fault Refusal :=
  s.finish (s.regCmd o FIRE_TEST p 0 (putFields 0 [(FIRE_TEST.GO, 1)]))

/-- LINK_EN (R110): A write of FIRE_PORTCTL.LINK_EN starts training from OFF or returns the port to OFF. -/
def execLinkEn (o : Sender) (p : Fin 48) (w : Word) (s : State) : Host.Outcome State Fault Refusal :=
  s.finish (s.regCmd o FIRE_PORTCTL p 0 w)

/-- KERF_RUN (R110): A write of FIRE_PORTCTL.RUN requests entry to RUN or returns the port to IDLE after the line
in progress. -/
def execKerfRun (o : Sender) (p : Fin 48) (w : Word) (s : State) : Host.Outcome State Fault Refusal :=
  s.finish (s.regCmd o FIRE_PORTCTL p 0 w)

/-- HEN (R113): A write of FIRE_PORTCTL.HEN requests the head enable, and a 1 clears the HEAD_FAULT latch. -/
def execHen (o : Sender) (p : Fin 48) (w : Word) (s : State) : Host.Outcome State Fault Refusal :=
  s.finish (s.regCmd o FIRE_PORTCTL p 0 w)

/-- KERF_RUN_ENTER (R110): A port enters RUN once RUN is set, HEAD_EN has been high for SETTLE µs and the head
reports READY. -/
def execKerfRunEnter (p : Fin 48) (s : State) : Host.Outcome State Fault Refusal :=
  s.finish (s.live fun s => s.kerfRunEnter p)

/-- TRAIN_FAIL (R110): A Kerf port spends 1 ms in TRAIN, sets TRAIN_FAIL and restarts training. -/
def execTrainFail (p : Fin 48) (s : State) : Host.Outcome State Fault Refusal :=
  s.finish (s.live fun s => s.trainFail p)

/-- LINK_DOWN (R110): Kerf return-lane alignment is lost, LINK_DOWN is set, HEAD_EN falls and the port retrains.
-/
def execLinkDown (p : Fin 48) (s : State) : Host.Outcome State Fault Refusal :=
  s.finish (s.live fun s => s.linkDown p)

/-- DLY_WRITE (R94): A write of FIRE_DLYDATA writes three delay-table entries or is refused with DLY_REJ. -/
def execDlyWrite (o : Sender) (p : Fin 48) (w : Word) (s : State) : Host.Outcome State Fault Refusal :=
  s.finish (s.regCmd o FIRE_DLYDATA p 0 w)

/-- OVSP_FIFO_POP (R131): A read of FIRE_OVSP_FIFO returns and pops the oldest suppressed stamp. -/
def execOvspFifoPop (o : Sender) (s : State) : Host.Outcome State Fault Refusal :=
  s.finish (s.regRead o FIRE_OVSP_FIFO 0)

end Sys2Proof.Machine
end

