-- ==== Sys2Proof/Machine/ExecJob.lean ====
section
/-! DEFINITION. Commands of the register file and the job queue (spec/01_architecture.md,
spec/24_register_reference.md). -/

namespace Sys2Proof.Machine

/-- REGISTER_WRITE (R4): A write to a register that has no row of its own acts on each field under its access
code. -/
def execRegisterWrite (o : Sender) (a : BitVec 24) (w : Word) (s : State) :
    Host.Outcome State Fault Refusal :=
  s.finish (s.sends o fun s => (s.busWrite o.origin a.toNat w).1)

/-- JOBDESC (R256): A JOBDESC packet is performed by placing its descriptor in the job queue. -/
def execJobdesc (seq : BitVec 8) (words : List Word) (f : PktFault) (s : State) :
    Host.Outcome State Fault Refusal :=
  s.finish (s.live fun s => s.jobdescPkt seq.toNat words f)

/-- JOBQ_RELEASE (R20): A write of SYS_JOBQ_REL.REL_IDX one past a job descriptor releases that job. -/
def execJobqRelease (o : Sender) (w : Word) (s : State) : Host.Outcome State Fault Refusal :=
  s.finish (s.regCmd o SYS_JOBQ_REL 0 0 w)

/-- JOBQ_FLUSH (R24): SYS_JOBQ_CTL.FLUSH discards every entry from RD_IDX and fails a job in progress with cause
0x0A. -/
def execJobqFlush (o : Sender) (w : Word) (s : State) : Host.Outcome State Fault Refusal :=
  s.finish (s.regCmd o SYS_JOBQ_CTL 0 0 (putFields w [(SYS_JOBQ_CTL.FLUSH, 1)]))

/-- JOBQ_ENABLE (R24): A write of SYS_JOBQ_CTL.ENABLE lets the data path start released jobs or holds it after
the current job. -/
def execJobqEnable (o : Sender) (w : Word) (s : State) : Host.Outcome State Fault Refusal :=
  s.finish (s.regCmd o SYS_JOBQ_CTL 0 0 w)

/-- UNDERRUN (R22): The next page descriptor is not released by its deadline, so the job fails with cause 0x07.
-/
def execUnderrun (s : State) : Host.Outcome State Fault Refusal :=
  s.finish (s.live (·.underrun))

/-- PM_MISSING (R46): No mark is accepted WIN lines past the previous page and PM_MISSING is set. -/
def execPmMissing (s : State) : Host.Outcome State Fault Refusal :=
  s.finish (s.live (·.pmMissing))

/-- ROW_CLEAR (R92): At line E + C_max + 256 every row of the ended job is set EMPTY. -/
def execRowClear (s : State) : Host.Outcome State Fault Refusal :=
  s.finish (s.live (·.rowClear))

/-- TALLY_SNAPSHOT (R158): TALLY_SNAPCTL.GO copies all counters into the snapshot store with a stamp. -/
def execTallySnapshot (o : Sender) (s : State) : Host.Outcome State Fault Refusal :=
  s.finish (s.regCmd o TALLY_SNAPCTL 0 0 (putFields 0 [(TALLY_SNAPCTL.GO, 1)]))

/-- SNAPDATA_READ (R434): A read of TALLY_SNAPDATA returns a snapshot value and advances the index under AUTOINC.
-/
def execSnapdataRead (o : Sender) (s : State) : Host.Outcome State Fault Refusal :=
  s.finish (s.regRead o TALLY_SNAPDATA 0)

end Sys2Proof.Machine
end

