-- ==== Sys2Proof/Machine/ExecLink.lean ====
section
/-! DEFINITION. Commands of the host link (spec/12_opzo_link.md). -/

namespace Sys2Proof.Machine

/-- BLOCK_LOCK (R251): A lane sees 64 consecutive valid headers and becomes block-locked. -/
def execBlockLock (l : Fin 12) (s : State) : Host.Outcome State Fault Refusal :=
  s.finish (s.live fun s => s.blockLock l)

/-- LOCK_LOST_LANE (R251): 16 invalid headers within 64 blocks take the lane out of lock. -/
def execLockLostLane (l : Fin 12) (errs : Nat) (lost : Bool) (s : State) : Host.Outcome State Fault Refusal :=
  s.finish (s.live fun s => s.lockLost l errs lost)

/-- STUFF_ERR (R246): A stuffed bit of the wrong value is dropped and its block's header is invalid. -/
def execStuffErr (l : Fin 12) (s : State) : Host.Outcome State Fault Refusal :=
  s.finish (s.live fun s => s.stuffErr l)

/-- TRAIN (R252): A TRAIN control block is received and drives host-link training. -/
def execTrain (remote : BitVec 8) (conf : Bool) (width : Fin 4) (srst : Bool) (skews : List Nat) (s : State) :
    Host.Outcome State Fault Refusal :=
  s.finish (s.live fun s => s.train remote.toNat conf width srst skews)

/-- FILLER (R249): A FILLER column is received and the elastic store deletes or inserts a column. -/
def execFiller (g : Fin 3) (level : Fin 33) (fseq skews : List Nat) (s : State) :
    Host.Outcome State Fault Refusal :=
  s.finish (s.live fun s => s.filler g level fseq skews)

/-- EB_ERR (R249): The elastic store overflows or underflows and the link retrains. -/
def execEbErr (g : Fin 3) (s : State) : Host.Outcome State Fault Refusal :=
  s.finish (s.live fun s => s.ebErr g)

/-- ACK (R258): An ACK control block acknowledges upstream packets. -/
def execAck (seq : BitVec 8) (s : State) : Host.Outcome State Fault Refusal :=
  s.finish (s.live fun s => s.linkAck seq.toNat)

/-- NAK (R259): A NAK control block triggers a replay of unacknowledged upstream packets. -/
def execNak (seq : BitVec 8) (s : State) : Host.Outcome State Fault Refusal :=
  s.finish (s.live fun s => s.linkNak seq.toNat)

/-- CREDIT (R260): A CREDIT block raises a class's cumulative limit. -/
def execCredit (cls : Fin 4) (limit : BitVec 30) (s : State) : Host.Outcome State Fault Refusal :=
  s.finish (s.live fun s => s.linkCredit cls limit.toNat)

/-- CTL_BAD (R247): A reserved link control block is discarded and CTL_BAD is set. -/
def execCtlBad (s : State) : Host.Outcome State Fault Refusal :=
  s.finish (s.live (·.ctlBad))

/-- HDR_CRC (R257): A host packet header fails HCRC, blocks up to the next header are discarded and NAK is sent.
(DEDUCED, log entry 148.) -/
def execHdrCrc (s : State) : Host.Outcome State Fault Refusal :=
  s.finish (s.live (·.hdrCrc))

/-- REG_WR (R255): A REG_WR packet performs its writes and returns a REG_RESP. -/
def execRegWr (seq : BitVec 8) (words : List Word) (f : PktFault) (s : State) :
    Host.Outcome State Fault Refusal :=
  s.finish (s.live fun s => s.regWrPkt seq.toNat words f)

/-- REG_RD (R255): A REG_RD packet performs its reads and returns a REG_RESP with the data. -/
def execRegRd (seq : BitVec 8) (words : List Word) (f : PktFault) (s : State) :
    Host.Outcome State Fault Refusal :=
  s.finish (s.live fun s => s.regRdPkt seq.toNat words f)

/-- RASTER (R256): A RASTER packet writes its bytes to DRAM and is performed when committed. -/
def execRaster (seq : BitVec 8) (words : List Word) (f : PktFault) (s : State) :
    Host.Outcome State Fault Refusal :=
  s.finish (s.live fun s => s.rasterPkt seq.toNat words f)

/-- RESERVED_TYPE_PACKET (R257): A downstream host packet of reserved or upstream TYPE is discarded and
acknowledged, and PKT_BAD is set with WHY 0x3. -/
def execReservedTypePacket (type : BitVec 4) (seq : BitVec 8) (words : List Word) (f : PktFault) (s : State) :
    Host.Outcome State Fault Refusal :=
  s.finish (s.live fun s => s.typedPkt type.toNat seq.toNat words f)

/-- REPLAY (R259): No advancing ACK for RPL_TMO µs replays upstream packets, and eight replays retrain. -/
def execReplay (s : State) : Host.Outcome State Fault Refusal :=
  s.finish (s.live (·.replayTimeout))

/-- EVENT_SEND (R262): A queued EVENT packet is sent when the link is UP and class 3 has credit. -/
def execEventSend (s : State) : Host.Outcome State Fault Refusal :=
  s.finish (s.live (·.eventSend))

/-- HLNK_EN (R252): A write of HLNK_CTL.EN starts host-link training or takes the link DOWN. -/
def execHlnkEn (o : Sender) (w : Word) (s : State) : Host.Outcome State Fault Refusal :=
  s.finish (s.regCmd o HLNK_CTL 0 0 w)

/-- RETRAIN (R252): HLNK_CTL.RETRAIN takes the link to TRAIN. -/
def execRetrain (o : Sender) (w : Word) (s : State) : Host.Outcome State Fault Refusal :=
  s.finish (s.regCmd o HLNK_CTL 0 0 (putFields w [(HLNK_CTL.RETRAIN, 1)]))

/-- HLNK_TRAIN_TIMEOUT (R252): TRAIN_TMO µs pass in TRAIN or CONFIG and TRAIN_FAIL is set. -/
def execHlnkTrainTimeout (s : State) : Host.Outcome State Fault Refusal :=
  s.finish (s.live (·.trainTimeout))

/-- PRBS_CTL (R253): A write of HLNK_LPRBS starts or stops the PRBS31 generator and checker or is refused. -/
def execPrbsCtl (o : Sender) (l : Fin 12) (w : Word) (s : State) : Host.Outcome State Fault Refusal :=
  s.finish (s.regCmd o (if l.val < 8 then HLNK_LPRBS else BAR_LPRBS) (if l.val < 8 then l.val else l.val - 8) 0 w)

/-- ERR_INJ (R253): HLNK_LPRBS.ERR_INJ inverts one transmitted PRBS bit. -/
def execErrInj (o : Sender) (l : Fin 12) (w : Word) (s : State) : Host.Outcome State Fault Refusal :=
  s.finish (s.regCmd o (if l.val < 8 then HLNK_LPRBS else BAR_LPRBS) (if l.val < 8 then l.val else l.val - 8) 0
    (putFields w [(HLNK_LPRBS.ERR_INJ, 1)]))

/-- PRBS_LOCK (R253): With RX_EN = 1 the PRBS31 checker sees 64 error-free bits and reports PRBS_LOCK; the bits it compares
while locked are counted. -/
def execPrbsLock (l : Fin 12) (bits errs : Nat) (s : State) : Host.Outcome State Fault Refusal :=
  s.finish (s.live fun s => s.prbsLock l bits errs)

/-- PRBS_LOCK_LOSS (R253): A locked PRBS31 checker sees 256 errors within 1,024 bits and relocks. -/
def execPrbsLockLoss (l : Fin 12) (bits errs : Nat) (s : State) : Host.Outcome State Fault Refusal :=
  s.finish (s.live fun s => s.prbsLockLoss l bits errs)

end Sys2Proof.Machine
end

