-- ==== Sys2Proof/Machine/ExecLite.lean ====
section
/-! DEFINITION. Commands of lighting, the status matrix and the displays (spec/19_lighting.md,
spec/20_display.md). -/

namespace Sys2Proof.Machine

/-- LITE_TARGET_CROSS (R368): A STROBE_POS channel's position crosses its target and a pulse is requested. -/
def execLiteTargetCross (c : Fin 16) (s : State) : Host.Outcome State Fault Refusal :=
  s.finish (s.live fun s => s.liteTarget c)

/-- STROBE_DELAY_END (R367): DLY cycles elapse and LITE_EN goes active. -/
def execStrobeDelayEnd (c : Fin 16) (s : State) : Host.Outcome State Fault Refusal :=
  s.finish (s.live fun s => s.strobeDelayEnd c)

/-- STROBE_WIDTH_END (R369): WIDTH cycles elapse, LITE_EN falls and the sense check is made. -/
def execStrobeWidthEnd (c : Fin 16) (code : BitVec 10) (s : State) : Host.Outcome State Fault Refusal :=
  s.finish (s.live fun s => s.strobeWidthEnd c code.toNat)

/-- RECOVER_END (R367): MIN_OFF µs elapse and the channel returns to IDLE with any pending dac. -/
def execRecoverEnd (c : Fin 16) (s : State) : Host.Outcome State Fault Refusal :=
  s.finish (s.live fun s => s.recoverEnd c)

/-- CONT_CHECK (R369): Every 1 µs a CONT channel's sense is checked for open or short. -/
def execContCheck (c : Fin 16) (code : BitVec 10) (s : State) : Host.Outcome State Fault Refusal :=
  s.finish (s.live fun s => s.contCheck c code.toNat)

/-- TEMP_SAMPLE (R370): Every 1 ms each lamp temperature input is converted and derating updated. -/
def execTempSample (g : Fin 4) (code : BitVec 10) (s : State) : Host.Outcome State Fault Refusal :=
  s.finish (s.live fun s => s.tempSample g code.toNat)

/-- LITE_CH_WRITE (R365): A write of LITE_CH sets a channel's mode, leaving OFF or FAULT. -/
def execLiteChWrite (o : Sender) (c : Fin 16) (w : Word) (s : State) :
    Host.Outcome State Fault Refusal :=
  s.finish (s.regCmd o LITE_CH c 0 w)

/-- ROW_SLOT (R373): A status matrix row slot of ROW_T µs begins with pre-charge and drives its row. -/
def execRowSlot (s : State) : Host.Outcome State Fault Refusal :=
  s.finish (s.live (·.rowSlot))

/-- MATRIX_SWAP (R374): LITE_MXCTL.SWAP sets PEND for a shadow copy at the next matrix frame. -/
def execMatrixSwap (o : Sender) (w : Word) (s : State) : Host.Outcome State Fault Refusal :=
  s.finish (s.regCmd o LITE_MXCTL 0 0 (putFields w [(LITE_MXCTL.SWAP, 1)]))

/-- DISP_FRAME_START (R380): A display frame start latches layer and rectangle fields. -/
def execDispFrameStart (d : Fin 2) (s : State) : Host.Outcome State Fault Refusal :=
  s.finish (s.live fun s => s.dispFrameStart d)

/-- DISP_ENABLE (R378): A write of DISP_CTL.EN starts an output or is refused with TIM_BAD. -/
def execDispEnable (o : Sender) (d : Fin 2) (w : Word) (s : State) : Host.Outcome State Fault Refusal :=
  s.finish (s.regCmd o DISP_CTL d 0 w)

/-- LAYER_BASE_WRITE (R380): A write of DISP_LBASE sets LAYER_INUSE until the next frame start. -/
def execLayerBaseWrite (o : Sender) (d : Fin 2) (l : Fin 4) (w : Word) (s : State) :
    Host.Outcome State Fault Refusal :=
  s.finish (s.regCmd o DISP_LBASE d l w)

/-- CRC_MISM (R382): At a rectangle's last line its CRC is stored and compared. -/
def execCrcMism (d : Fin 2) (k : Fin 4) (s : State) : Host.Outcome State Fault Refusal :=
  s.finish (s.live fun s => s.rectEnd d k)

/-- DISP_UNDERRUN (R383): Layer data missing in time shows BG for the rest of the line. -/
def execDispUnderrun (d : Fin 2) (y x : BitVec 16) (s : State) : Host.Outcome State Fault Refusal :=
  s.finish (s.live fun s => s.dispUnderrun d y.toNat x.toNat)

end Sys2Proof.Machine
end

