-- ==== Sys2Proof/Machine/ExecLoad.lean ====
section
/-! DEFINITION. Commands of the configuration loader, the flash window and the Stump store
(spec/14_configuration_image.md). -/

namespace Sys2Proof.Machine

/-- WIP_TIMEOUT (R282): The flash WIP does not clear in 2 s and both slots fail with cause 0x1. -/
def execWipTimeout (s : State) : Host.Outcome State Fault Refusal :=
  s.finish (s.live (·.wipTimeout))

/-- PASS1_DONE (R288): Pass 1 of a slot ends, accepting it for pass 2 or rejecting it; before it the SFDP read. -/
def execPass1Done (e : LoadEv) (s : State) : Host.Outcome State Fault Refusal :=
  s.finish (s.live fun s => s.pass1Done e)

/-- REGSET (R286): A REGSET record writes its registers through the loader origin. -/
def execRegset (varmask : BitVec 8) (l : List (BitVec 24 × Word)) (s : State) : Host.Outcome State Fault Refusal :=
  s.finish (s.live fun s => s.readRecord 1 varmask.toNat (l.map fun e => bytesBE 3 e.1.toNat ++ bytesBE 5 e.2.toNat).flatten)

/-- TRAIN_RECORD (R286): A TRAIN record writes the DRAM training registers. -/
def execTrainRecord (varmask : BitVec 8) (ws : List Word) (s : State) : Host.Outcome State Fault Refusal :=
  s.finish (s.live fun s => s.readRecord 2 varmask.toNat (wordBytes ws))

/-- EQ (R286): An EQ record writes the lane equalisation registers. -/
def execEq (varmask : BitVec 8) (ws : List Word) (s : State) : Host.Outcome State Fault Refusal :=
  s.finish (s.live fun s => s.readRecord 3 varmask.toNat (wordBytes ws))

/-- REMAP (R286): A REMAP record loads remap entries through the remap window. -/
def execRemap (varmask : BitVec 8) (first : Nat) (ws : List Word) (s : State) : Host.Outcome State Fault Refusal :=
  s.finish (s.live fun s => s.readRecord 4 varmask.toNat
    (bytesBE 8 (first % 2 ^ 18 * 2 ^ 46 + ws.length / 2 % 2 ^ 18 * 2 ^ 28) ++ wordBytes ws))

/-- DELAY (R286): A DELAY record loads delay-table words through the delay window. -/
def execDelay (varmask : BitVec 8) (p : Fin 48) (first : Nat) (ws : List Word) (s : State) :
    Host.Outcome State Fault Refusal :=
  s.finish (s.live fun s => s.readRecord 5 varmask.toNat
    (bytesBE 8 (p * 2 ^ 58 + first % 2 ^ 11 * 2 ^ 47 + ws.length % 2 ^ 11 * 2 ^ 36) ++ wordBytes ws))

/-- CALBANK (R287): A CALBANK record loads bank words through the CAL bank window. -/
def execCalbank (varmask : BitVec 8) (p : Fin 48) (table : Fin 4) (first : Nat) (ws : List Word) (s : State) :
    Host.Outcome State Fault Refusal :=
  s.finish (s.live fun s => s.readRecord 6 varmask.toNat
    (bytesBE 8 (p * 2 ^ 58 + table * 2 ^ 56 + first % 2 ^ 10 * 2 ^ 46 + ws.length % 2 ^ 10 * 2 ^ 36) ++ wordBytes ws))

/-- DRAMDATA (R290): A DRAMDATA record writes bytes to DRAM once the controller is in RUN. -/
def execDramdata (varmask : BitVec 8) (unit : BitVec 32) (bytes : List Byte) (s : State) :
    Host.Outcome State Fault Refusal :=
  s.finish (s.live fun s => s.readRecord 7 varmask.toNat (bytesBE 8 (unit.toNat * 2 ^ 32 + bytes.length) ++ bytes))

/-- DRAM_SKIP (R290): DRAM does not reach RUN in 2.0 s and every DRAMDATA record is skipped. -/
def execDramSkip (s : State) : Host.Outcome State Fault Refusal :=
  s.finish (s.live (·.dramSkipTmo))

/-- FWPATCH (R335): A FWPATCH record places a patch image in the patch store. -/
def execFwpatch (varmask : BitVec 8) (id : BitVec 16) (bytes : List Byte) (s : State) :
    Host.Outcome State Fault Refusal :=
  s.finish (s.live fun s => s.readRecord 8 varmask.toNat (bytesBE 8 (id.toNat * 2 ^ 48) ++ bytes))

/-- END (R292): The END record completes pass 2, and on a match the loader releases HEAD_EN and Warden A. -/
def execLoadEnd (varmask : BitVec 8) (check : BitVec 32) (patchOk : Bool) (s : State) :
    Host.Outcome State Fault Refusal :=
  s.finish (s.live fun s => s.readEnd varmask.toNat check patchOk)

/-- RELOAD (R293): CFG_CTL.RELOAD applies a system reset with cause 0x05 and a new load. -/
def execReload (o : Sender) (w : Word) (s : State) : Host.Outcome State Fault Refusal :=
  s.finish (s.regCmd o CFG_CTL 0 0 (putFields w [(CFG_CTL.RELOAD, 1)]))

/-- FROM_B (R289): CFG_CTL.FROM_B with RELOAD skips slot A once at the next load. -/
def execFromB (o : Sender) (s : State) : Host.Outcome State Fault Refusal :=
  s.finish (s.regCmd o CFG_CTL 0 0 (putFields 0 [(CFG_CTL.RELOAD, 1), (CFG_CTL.FROM_B, 1)]))

/-- FLASH_CMD (R296): CFG_FLCMD.GO sends one flash command or is refused with FL_REJ. -/
def execFlashCmd (o : Sender) (w : Word) (s : State) : Host.Outcome State Fault Refusal :=
  s.finish (s.regCmd o CFG_FLCMD 0 0 (putFields w [(CFG_FLCMD.GO, 1)]))

/-- FL_DONE (R296): A flash command ends and FL_DONE is set. -/
def execFlDone (bytes : List Byte) (s : State) : Host.Outcome State Fault Refusal :=
  s.finish (s.live fun s => s.flDone bytes)

/-- STUMP_READ (R299): CFG_STCMD OP read reads one Stump store word. -/
def execStumpRead (o : Sender) (a : BitVec 13) (ecc : Fin 3) (raw : BitVec 64) (s : State) :
    Host.Outcome State Fault Refusal :=
  s.finish (s.regVia o CFG_STCMD 0 fun s => s.stcmdWrite (o == .warden)
    (putFields 0 [(CFG_STCMD.WORD, a.toNat), (CFG_STCMD.GO, 1)]) ecc raw)

/-- STUMP_PROGRAM (R299): CFG_STCMD OP program starts a 40 µs program pulse or is refused. -/
def execStumpProgram (o : Sender) (a : BitVec 13) (unlock : BitVec 8) (s : State) :
    Host.Outcome State Fault Refusal :=
  s.finish (s.regCmd o CFG_STCMD 0 0
    (putFields 0 [(CFG_STCMD.OP, 1), (CFG_STCMD.WORD, a.toNat), (CFG_STCMD.UNLOCK, unlock.toNat), (CFG_STCMD.GO, 1)]))

/-- STUMP_ERASE (R299): CFG_STCMD OP erase starts a 2.5 ms sector erase or is refused. -/
def execStumpErase (o : Sender) (a : BitVec 13) (unlock : BitVec 8) (s : State) :
    Host.Outcome State Fault Refusal :=
  s.finish (s.regCmd o CFG_STCMD 0 0
    (putFields 0 [(CFG_STCMD.OP, 2), (CFG_STCMD.WORD, a.toNat), (CFG_STCMD.UNLOCK, unlock.toNat), (CFG_STCMD.GO, 1)]))

/-- ST_DONE (R300): A Stump store pulse ends, ST_DONE is set and a delayed reset may apply. -/
def execStDone (s : State) : Host.Outcome State Fault Refusal :=
  s.finish (s.stDone)

end Sys2Proof.Machine
end

