-- ==== Sys2Proof/Machine/ExecMotion.lean ====
section
/-! DEFINITION. Commands of motion and of scan printing (spec/18_motion.md, spec/06_passes_overspeed_thermal.md).
-/

namespace Sys2Proof.Machine

/-- MOVE_PUSH (R353): A write of MOT_QW2 pushes a move or is discarded. -/
def execMovePush (o : Sender) (n : Fin 8) (w : Word) (s : State) : Host.Outcome State Fault Refusal :=
  s.finish (s.regCmd o MOT_QW2 n 0 w)

/-- MOT_GO (R358): MOT_CMD.GO is a start event for a HOLD move or is held pending. -/
def execMotGo (o : Sender) (n : Fin 8) (s : State) : Host.Outcome State Fault Refusal :=
  s.finish (s.regCmd o MOT_CMD n 0 (putFields 0 [(MOT_CMD.GO, 1)]))

/-- HALT (R360): MOT_CMD.HALT finishes the move in progress and flushes the queue. -/
def execHalt (o : Sender) (n : Fin 8) (s : State) : Host.Outcome State Fault Refusal :=
  s.finish (s.regCmd o MOT_CMD n 0 (putFields 0 [(MOT_CMD.HALT, 1)]))

/-- STOP (R360): MOT_CMD.STOP stops the axis within one cycle. -/
def execStop (o : Sender) (n : Fin 8) (s : State) : Host.Outcome State Fault Refusal :=
  s.finish (s.regCmd o MOT_CMD n 0 (putFields 0 [(MOT_CMD.STOP, 1)]))

/-- SYNC (R359): MOT_CMD.SYNC takes enc0 and pos0 and clears SUSPECT. -/
def execSync (o : Sender) (n : Fin 8) (s : State) : Host.Outcome State Fault Refusal :=
  s.finish (s.regCmd o MOT_CMD n 0 (putFields 0 [(MOT_CMD.SYNC, 1)]))

/-- AXIS_ENABLE (R361): A write of MOT_AXCFG.EN enables or disables an axis. -/
def execAxisEnable (o : Sender) (n : Fin 8) (w : Word) (s : State) : Host.Outcome State Fault Refusal :=
  s.finish (s.regCmd o MOT_AXCFG n 0 w)

/-- MOT_POS_WRITE (R352): A write of MOT_POS sets the commanded position in IDLE or is refused. -/
def execMotPosWrite (o : Sender) (n : Fin 8) (w : Word) (s : State) : Host.Outcome State Fault Refusal :=
  s.finish (s.regCmd o MOT_POS n 0 w)

/-- STEP (R354): An axis interval elapses and one step is issued. -/
def execStep (n : Fin 8) (s : State) : Host.Outcome State Fault Refusal :=
  s.finish (s.live fun s => s.motStep n)

/-- MOVE_DONE (R358): SETTLE µs after a MARK move's last step the move-complete report is made. -/
def execMoveDone (n : Fin 8) (s : State) : Host.Outcome State Fault Refusal :=
  s.finish (s.live fun s => s.moveDone n)

/-- SWATH_RESUME (R124): FIRE_SCANCTL.RESUME arms a swath from HELD. -/
def execSwathResume (o : Sender) (s : State) : Host.Outcome State Fault Refusal :=
  s.finish (s.regCmd o FIRE_SCANCTL 0 0 (putFields (s.reg FIRE_SCANCTL) [(FIRE_SCANCTL.RESUME, 1)]))

/-- PASS_WRITE (R127): A write of FIRE_PASSDATA writes a pass entry or is refused with PASS_REJ. -/
def execPassWrite (o : Sender) (w : Word) (s : State) : Host.Outcome State Fault Refusal :=
  s.finish (s.regCmd o FIRE_PASSDATA 0 0 w)

/-- MASK_WRITE (R127): A write of FIRE_MASKDATA writes mask bits or is refused with MASK_REJ. -/
def execMaskWrite (o : Sender) (w : Word) (s : State) : Host.Outcome State Fault Refusal :=
  s.finish (s.regCmd o FIRE_MASKDATA 0 0 w)

/-- CURRENT_REDUCE (R355): After STBY_DLY ms at standstill the current ramps to HOLD. -/
def execCurrentReduce (n : Fin 8) (s : State) : Host.Outcome State Fault Refusal :=
  s.finish (s.live fun s => s.currentReduce n)

/-- STALL (R359): |dev| exceeds WINDOW for FILT ticks and STALL_ACT applies. -/
def execStall (n : Fin 8) (s : State) : Host.Outcome State Fault Refusal :=
  s.finish (s.live fun s => s.motStall n)

/-- OVERCUR (R362): Phase sense above OC_THR turns the bridges off and enters FAULT. -/
def execOvercur (n : Fin 8) (s : State) : Host.Outcome State Fault Refusal :=
  s.finish (s.live fun s => s.overCur n)

/-- BRIDGE_FLT (R362): MOT_FLT_N low for 1 µs enters FAULT. -/
def execBridgeFlt (n : Fin 8) (low : Bool) (s : State) : Host.Outcome State Fault Refusal :=
  s.finish (s.live fun s => s.bridgeFlt n low)

/-- OPEN_MOTOR (R362): A phase fails to reach upper in 64 drive phases and enters FAULT. -/
def execOpenMotor (n : Fin 8) (s : State) : Host.Outcome State Fault Refusal :=
  s.finish (s.live fun s => s.openMotor n)

/-- LIMIT (R362): MOT_LIM active while stepping in LIM_DIR stops the axis. -/
def execLimit (n : Fin 8) (high : Bool) (s : State) : Host.Outcome State Fault Refusal :=
  s.finish (s.live fun s => s.motLimit n high)

/-- MOT_ENCODER_EDGE (R359): An accepted edge on a motion axis's MOTn_QA or MOTn_QB input is decoded ×4 into
MOT_ENCCNT. -/
def execMotEncoderEdge (n : Fin 8) (a b : Bool) (s : State) : Host.Outcome State Fault Refusal :=
  s.finish (s.live fun s => s.motEncoderEdge n a b)

/-- CHOPPER_THRESHOLD (R357): A BRIDGE-mode phase's current sense reaches upper, or falls to lower after
TOFF_MIN, the bridge switches between drive and decay, and the adaptive offset is updated. -/
def execChopperThreshold (n : Fin 8) (phase : Fin 2) (upper : Bool) (t : Nat) (s : State) :
    Host.Outcome State Fault Refusal :=
  s.finish (s.live fun s => s.chopper n phase upper t)

end Sys2Proof.Machine
end

