-- ==== Sys2Proof/Machine/ExecPos.lean ====
section
/-! DEFINITION. Commands of the position unit (spec/02_web_position.md). -/

namespace Sys2Proof.Machine

/-- ENCODER_EDGE (R34): An accepted change on an encoder A or B input is decoded into a count.
(DEDUCED, log entry 4.) -/
def execEncoderEdge (n : Fin 2) (a b : Bool) (dt : Nat) (s : State) : Host.Outcome State Fault Refusal :=
  s.finish (s.live fun s => s.when (s.pdOn 4) (·.encoderEdge n a b dt))

/-- INDEX_EVENT (R37): An index event, a Z rise or tooth gap, is checked against PERIOD and applies IDX_ACT on a
mismatch. -/
def execIndexEvent (n : Fin 2) (s : State) : Host.Outcome State Fault Refusal :=
  s.finish (s.live fun s => s.when (s.pdOn 4) (·.indexEvent n))

/-- WIRE_DISAGREEMENT (R31): A pair stays in wire disagreement beyond WIRE_DLY cycles, sets WIRE and holds the
input. -/
def execWireDisagreement (n : Fin 2) (pair : Fin 3) (s : State) : Host.Outcome State Fault Refusal :=
  s.finish (s.live fun s => s.when (s.pdOn 4) (·.wireDisagreement n pair))

/-- WIRE_DISAGREEMENT_END (R31): A wire disagreement ends, the disagreement is no longer held against REARM, and
the input resumes at its next edge. -/
def execWireDisagreementEnd (n : Fin 2) (pair : Fin 3) (level : Bool) (s : State) :
    Host.Outcome State Fault Refusal :=
  s.finish (s.live fun s => s.when (s.pdOn 4) (·.wireEnd n pair level))

/-- LOOP_UPDATE (R38): Every 64 CK_CORE cycles the tracking loop updates est and vel and tests lock. -/
def execLoopUpdate (s : State) : Host.Outcome State Fault Refusal :=
  s.finish (s.live fun s => s.when (s.pdOn 4) (·.loopUpdate))

/-- POS_ENABLE (R41): A write of POS_CTL.ENABLE starts the position unit in ACQUIRE or freezes it in OFF. -/
def execPosEnable (o : Sender) (w : Word) (s : State) : Host.Outcome State Fault Refusal :=
  s.finish (s.regCmd o POS_CTL 0 0 w)

/-- REARM (R41): POS_CTL.REARM leaves FAULTY unless a wire disagreement is held. -/
def execRearm (o : Sender) (w : Word) (s : State) : Host.Outcome State Fault Refusal :=
  s.finish (s.regCmd o POS_CTL 0 0 (putFields w [(POS_CTL.REARM, 1)]))

/-- PROBE_EDGE (R44): A filtered probe edge latches a position stamp into the probe FIFO. -/
def execProbeEdge (p : Fin 4) (falling : Bool) (s : State) : Host.Outcome State Fault Refusal :=
  s.finish (s.live fun s => s.when (s.pdOn 4) (·.probeEdge p falling))

/-- PROBE_FIFO_POP (R48): A read of POS_PROBEFIFO returns and pops the oldest stamp. -/
def execProbeFifoPop (o : Sender) (p : Fin 4) (s : State) : Host.Outcome State Fault Refusal :=
  s.finish (s.regRead o POS_PROBEFIFO p)

end Sys2Proof.Machine
end

