-- ==== Sys2Proof/Machine/ExecReset.lean ====
section
/-! DEFINITION. Commands of reset, clocks and power (spec/15_reset_startup.md, spec/16_clocks_power.md). -/

namespace Sys2Proof.Machine

/-- POWER_ON_RESET (R302): VAON falls below its monitor and a power-on reset clears all state. -/
def execPowerOnReset (s : State) : Host.Outcome State Fault Refusal :=
  s.finish (s.powerOn)

/-- AON_POR_RELEASE (R312): The AON RC timer releases the power-on reset 1 to 2 ms after VAON is valid. -/
def execAonPorRelease (s : State) : Host.Outcome State Fault Refusal :=
  s.finish (s.porRelease)

/-- RST_N (R302): RST_N held low for 1 µs requests a system reset of cause 0x03, and holds it until it is high. -/
def execRstN (low : Bool) (s : State) : Host.Outcome State Fault Refusal :=
  s.finish (s.rstBall low)

/-- SYS_RESET_CMD (R302): SYS_RSTCMD.SYS with KEY 0x5A requests a system reset of cause 0x04. -/
def execSysResetCmd (o : Sender) (w : Word) (s : State) : Host.Outcome State Fault Refusal :=
  s.finish (s.regCmd o SYS_RSTCMD 0 0 (putFields w [(SYS_RSTCMD.SYS, 1)]))

/-- CORE_RESET_CMD (R306): SYS_RSTCMD.CORE with KEY 0x5A starts a core reset of the Warden cores. -/
def execCoreResetCmd (o : Sender) (w : Word) (s : State) : Host.Outcome State Fault Refusal :=
  s.finish (s.regCmd o SYS_RSTCMD 0 0 (putFields w [(SYS_RSTCMD.CORE, 1)]))

/-- SYSTEM_RESET_APPLY (R305): 1.0 µs after the request, or at the end of a Stump pulse, the system reset is
applied. -/
def execSystemResetApply (dly : Nat) (s : State) : Host.Outcome State Fault Refusal :=
  s.finish (s.resetApply dly)

/-- RESET_RELEASE (R315): The system reset is released with every block held and the loader starts. -/
def execResetRelease (barId : Fin 16) (var : Fin 8) (bistLow : Bool) (s : State) :
    Host.Outcome State Fault Refusal :=
  s.finish (s.resetRelease barId var bistLow)

/-- CORE_RESET_RELEASE (R306): After 64 cycles the active Warden core is released with its checkpoint. -/
def execCoreResetRelease (dly : Nat) (patchOk : Bool) (s : State) : Host.Outcome State Fault Refusal :=
  s.finish (s.live fun s => s.coreResetRelease dly patchOk)

/-- BLOCK_RESET_ASSERT (R308): A SYS_BLKRST bit written 1 isolates the block and drains its transfers. -/
def execBlockResetAssert (o : Sender) (b : Fin 70) (s : State) : Host.Outcome State Fault Refusal :=
  s.finish (s.regCmd o (if b.val < 40 then SYS_BLKRST0 else SYS_BLKRST1) 0 0 (s.blkWord b true))

/-- BLOCK_RESET_DRAINED (R308): No transfer is outstanding and the block's reset is asserted. -/
def execBlockResetDrained (b : Fin 70) (n : Nat) (s : State) : Host.Outcome State Fault Refusal :=
  s.finish (s.live fun s => s.blockDrained b n)

/-- BLOCK_RELEASE_REQUEST (R309): A SYS_BLKRST bit written 0 requests release and sets SYS_RSTPEND. -/
def execBlockReleaseRequest (o : Sender) (b : Fin 70) (s : State) : Host.Outcome State Fault Refusal :=
  s.finish (s.regCmd o (if b.val < 40 then SYS_BLKRST0 else SYS_BLKRST1) 0 0 (s.blkWord b false))

/-- RST_STALL (R309): A release still pending after 100 µs sets RST_STALL. -/
def execRstStall (b : Fin 70) (s : State) : Host.Outcome State Fault Refusal :=
  s.finish (s.live fun s => s.rstStall b)

/-- ROOT_PLL_LOCK (R315): The ROOT PLL locks and the dividers start. -/
def execRootPllLock (s : State) : Host.Outcome State Fault Refusal :=
  s.finish (s.rootLock)

/-- CLOCK_GOOD (R318): 32 CK_SLOW cycles after divider start, every clock good rises. -/
def execClockGood (s : State) : Host.Outcome State Fault Refusal :=
  s.finish (s.clockGood)

/-- ROOT_PLL_LOSS (R319): ROOT PLL lock is lost, HEAD_EN is held and system reset cause 0x09 is requested. -/
def execRootPllLoss (s : State) : Host.Outcome State Fault Refusal :=
  s.finish (s.rootLoss)

/-- LANE_PLL_LOCK (R320): A lane PLL locks. -/
def execLanePllLock (g : Fin 15) (s : State) : Host.Outcome State Fault Refusal :=
  s.finish (s.live fun s => s.pllLock g)

/-- LPLL_LOST (R321): A lane PLL loses lock and its lanes lose alignment. -/
def execLpllLost (g : Fin 15) (s : State) : Host.Outcome State Fault Refusal :=
  s.finish (s.live fun s => s.pllLost g)

/-- LREF_MEASURE (R322): Each 1 ms window the lane-reference cycle count is checked. -/
def execLrefMeasure (r : Fin 2) (count : BitVec 18) (s : State) : Host.Outcome State Fault Refusal :=
  s.finish (s.live fun s => s.lrefMeasure r count.toNat)

/-- OSC_OK (R323): After 1,024 clean cycles the 32.768 kHz oscillator reports OSC_OK. -/
def execOscOk (s : State) : Host.Outcome State Fault Refusal :=
  s.finish (s.oscOk)

/-- OSC_FAIL (R323): No oscillator edge for 125 µs clears OSC_OK and sets OSC_FAIL. -/
def execOscFail (s : State) : Host.Outcome State Fault Refusal :=
  s.finish (s.oscFail)

/-- SUP_LOST (R325): A monitored rail is lost for 2 µs, and its blocks are held or a reset is requested. -/
def execSupLost (r : Fin 8) (s : State) : Host.Outcome State Fault Refusal :=
  s.finish (s.supLost r)

/-- RAIL_VALID (R414): A rail stays above its rising threshold for 2 µs and is reported valid. -/
def execRailValid (r : Fin 8) (s : State) : Host.Outcome State Fault Refusal :=
  s.finish (s.railValid r)

/-- PD_SWITCH_REQUEST (R327): A SYS_PDCTL write with KEY 0xC3 requests domain switches or is refused. -/
def execPdSwitchRequest (o : Sender) (w : Word) (s : State) : Host.Outcome State Fault Refusal :=
  s.finish (s.regCmd o SYS_PDCTL 0 0 w)

/-- PD_RAIL_GOOD (R328): A switching-on domain's rail is good, its SRAMs are cleared and it turns ON. -/
def execPdRailGood (d : Fin 10) (s : State) : Host.Outcome State Fault Refusal :=
  s.finish (s.live fun s => ((s.pdGood d).sbPowered d).bistPowered d)

/-- PD_OFF_DONE (R328): A switching-off domain's rail falls below 0.1 V and it is OFF. -/
def execPdOffDone (d : Fin 10) (s : State) : Host.Outcome State Fault Refusal :=
  s.finish (s.pdOff d)

/-- PD_FAIL (R328): A domain's rail is not good 100 µs after switch-on and the switch is opened. -/
def execPdFail (d : Fin 10) (s : State) : Host.Outcome State Fault Refusal :=
  s.finish (s.live fun s => (s.pdFail d).sbNoPower d)

end Sys2Proof.Machine
end

