-- ==== Sys2Proof/Machine/ExecSys.lean ====
section
/-! DEFINITION. Commands of self-test, hot-plug, the copy engine and the test access port (spec/21_bist.md,
spec/22_pins_hot_plug.md, spec/24_register_reference.md). -/

namespace Sys2Proof.Machine

/-- BIST_START (R389): BIST_CTL.GO with KEY starts a run over DMASK or is refused. -/
def execBistStart (o : Sender) (w : Word) (s : State) : Host.Outcome State Fault Refusal :=
  s.finish (s.regCmd o BIST_CTL 0 0 (putFields w [(BIST_CTL.GO, 1)]))

/-- BIST_ABORT (R393): BIST_CTL.ABORT ends the run after the domain under test. -/
def execBistAbort (o : Sender) (key : BitVec 8) (s : State) : Host.Outcome State Fault Refusal :=
  s.finish (s.regCmd o BIST_CTL 0 0 (putFields (s.reg BIST_CTL) [(BIST_CTL.ABORT, 1), (BIST_CTL.KEY, key.toNat)]))

/-- BIST_DOMAIN_DONE (R386): A domain's logic and memory BIST end and its result is recorded. -/
def execBistDomainDone (sig : Word) (mf : Option MemFail) (s : State) :
    Host.Outcome State Fault Refusal :=
  s.finish (s.live fun s => s.bistDomainDone sig mf)

/-- HP_REQ (R406): The filtered removal request becomes active and the quiesce begins. -/
def execHpReq (s : State) : Host.Outcome State Fault Refusal :=
  s.finish (if s.clocked then s.hpReq else s.setFld SYS_HPSTAT.REQ 1)

/-- HP_PRINT_END (R407): Print end is reached and every axis is halted. -/
def execHpPrintEnd (s : State) : Host.Outcome State Fault Refusal :=
  s.finish (s.live (·.hpEndCheck))

/-- HP_END_TMO (R407): Print end not reached in END_TMO ms is forced as LINE. -/
def execHpEndTmo (s : State) : Host.Outcome State Fault Refusal :=
  s.finish (s.live (·.hpEndTmo))

/-- PARKED (R406): SYS_HPCTL.PARKED with the park axes idle moves PARK to DISABLE. -/
def execParked (o : Sender) (s : State) : Host.Outcome State Fault Refusal :=
  s.finish (s.regCmd o SYS_HPCTL 0 0 (putFields 0 [(SYS_HPCTL.PARKED, 1)]))

/-- HP_PARK_TMO (R406): PARK_TMO ms in PARK moves to DISABLE unparked. -/
def execHpParkTmo (s : State) : Host.Outcome State Fault Refusal :=
  s.finish (s.live (·.hpParkTmo))

/-- HP_BAR_LEAVE_TIMEOUT (R406): A follower in BAR_LEAVE waits 200 µs or a MAP and enters SAFE. -/
def execHpBarLeaveTimeout (s : State) : Host.Outcome State Fault Refusal :=
  s.finish (s.live (·.hpLeaveTmo))

/-- HP_CANCEL (R406): The removal request becomes inactive during the quiesce and CANCEL is set. -/
def execHpCancel (s : State) : Host.Outcome State Fault Refusal :=
  s.finish (if s.clocked then s.hpCancel else s.setFld SYS_HPSTAT.REQ 0)

/-- HP_INSERT (R406): The request is inactive for 100 ms in INSERTING and the state becomes NORMAL. -/
def execHpInsert (s : State) : Host.Outcome State Fault Refusal :=
  s.finish (s.live (·.hpInsert))

/-- RESUME (R406): SYS_HPCTL.RESUME in SAFE with the request inactive returns to NORMAL. -/
def execResume (o : Sender) (s : State) : Host.Outcome State Fault Refusal :=
  s.finish (s.regCmd o SYS_HPCTL 0 0 (putFields 0 [(SYS_HPCTL.RESUME, 1)]))

/-- GDMA_GO (R431): GDMA_CHCTL.GO starts a channel on its segments or is refused. -/
def execGdmaGo (o : Sender) (c : Fin 16) (w : Word) (s : State) : Host.Outcome State Fault Refusal :=
  s.finish (s.regCmd o GDMA_CHCTL c 0 (putFields w [(GDMA_CHCTL.GO, 1)]))

/-- GDMA_ABORT (R432): GDMA_CHCTL.ABORT ends a channel after the unit in progress. -/
def execGdmaAbort (o : Sender) (c : Fin 16) (s : State) : Host.Outcome State Fault Refusal :=
  s.finish (s.regCmd o GDMA_CHCTL c 0 (putFields 0 [(GDMA_CHCTL.ABORT, 1)]))

/-- GDMA_DISABLE (R432): Clearing GDMA_CTL.EN aborts every running channel. -/
def execGdmaDisable (o : Sender) (s : State) : Host.Outcome State Fault Refusal :=
  s.finish (s.regCmd o GDMA_CTL 0 0 (putFields (s.reg GDMA_CTL) [(GDMA_CTL.EN, 0)]))

/-- GDMA_UNIT (R431): A channel copies or fills one 16-byte unit, ending early on poison or a refused request. -/
def execGdmaUnit (c : Fin 16) (ecc : Bool) (s : State) : Host.Outcome State Fault Refusal :=
  s.finish (s.live fun s => s.gdmaUnit c ecc)

/-- GDMA_DONE (R431): Every write of the last segment is committed and the channel is done. -/
def execGdmaDone (c : Fin 16) (s : State) : Host.Outcome State Fault Refusal :=
  s.finish (s.live fun s => s.gdmaDone c)

/-- EXTEST (R404): TAP instruction EXTEST drives covered outputs from the boundary-scan register. -/
def execExtest (sampled shifted : List Bool) (s : State) : Host.Outcome State Fault Refusal :=
  s.finish (s.when s.tapOn (·.tapExtest sampled shifted))

/-- SAMPLE_PRELOAD (R404): TAP instruction SAMPLE/PRELOAD captures and preloads the boundary-scan register. -/
def execSamplePreload (sampled shifted : List Bool) (s : State) : Host.Outcome State Fault Refusal :=
  s.finish (s.when s.tapOn (·.tapSample sampled shifted))

/-- IDCODE (R404): TAP instruction IDCODE selects the identification register. -/
def execIdcode (s : State) : Host.Outcome State Fault Refusal :=
  s.finish (s.when s.tapOn (·.tapIdcode))

/-- DEBUG (R404): TAP instruction DEBUG opens the debug port as a host origin. -/
def execDebugPort (l : List (BitVec 24 × Option Word)) (s : State) : Host.Outcome State Fault Refusal :=
  s.finish (s.when s.tapOn fun s => (s.tapIr 0x10).live fun s =>
    forIn' l (fun e s => s.debugAccess (e.1.toNat, e.2)) s)

/-- BYPASS (R404): TAP instruction BYPASS, or any other code, selects the bypass register. -/
def execBypass (code : BitVec 8) (bits : List Bool) (s : State) : Host.Outcome State Fault Refusal :=
  s.finish (s.when s.tapOn (·.tapBypass code.toNat bits))

end Sys2Proof.Machine
end

