-- ==== Sys2Proof/Machine/ExecTxn.lean ====
section
/-! DEFINITION. Commands of the calibration and transaction units (spec/07_nozzle_calibration.md,
spec/08_registers_transactions.md). -/

namespace Sys2Proof.Machine

/-- CAL_BANK_WRITE (R145): A write of CAL_BANKDATA writes the shadow bank or is refused with BANK_REJ. -/
def execCalBankWrite (o : Sender) (w : Word) (s : State) : Host.Outcome State Fault Refusal :=
  s.finish (s.regCmd o CAL_BANKDATA 0 0 w)

/-- LOG_REJ (R151): A write of CAL_LOGBASE or CAL_LOGCFG with entries outstanding is ignored and sets LOG_REJ. -/
def execLogRej (o : Sender) (cfg : Bool) (w : Word) (s : State) : Host.Outcome State Fault Refusal :=
  s.finish (s.regCmd o (if cfg then CAL_LOGCFG else CAL_LOGBASE) 0 0 w)

/-- SUBST_LOG_WRITE (R150): The substitution log entries of a committed calibration change reach DRAM and
CAL_LOGWR.IDX advances. -/
def execSubstLogWrite (s : State) : Host.Outcome State Fault Refusal :=
  s.finish (s.live (·.substLogWrite))

/-- TXN_BEGIN (R159): TXN_CMD.BEGIN opens a transaction in the issuer's context or sets CMD_SEQ. -/
def execTxnBegin (o : Sender) (s : State) : Host.Outcome State Fault Refusal :=
  s.finish (s.regCmd o TXN_CMD 0 0 (putFields 0 [(TXN_CMD.BEGIN, 1)]))

/-- TXN_ROLLBACK (R169): TXN_CMD.ROLLBACK discards the issuer's open transaction. -/
def execTxnRollback (o : Sender) (s : State) : Host.Outcome State Fault Refusal :=
  s.finish (s.regCmd o TXN_CMD 0 0 (putFields 0 [(TXN_CMD.ROLLBACK, 1)]))

/-- TXN_STAGE_WRITE (R160): A write to an RWS register inside an open transaction is staged or rejected with
STAGE_REJ. -/
def execTxnStageWrite (o : Sender) (a : BitVec 24) (w : Word) (parity : Bool) (s : State) :
    Host.Outcome State Fault Refusal :=
  s.finish (s.sends o fun s => (s.busWriteP o.origin a.toNat w parity).1)

/-- TXN_ARM (R162): TXN_ARM.GO gives the transaction a sequence number, makes the arming checks and arms or
aborts it. -/
def execTxnArm (o : Sender) (w : Word) (parity : Bool) (s : State) : Host.Outcome State Fault Refusal :=
  s.finish (s.regVia o TXN_ARM 0 fun s => s.txnArm (originNum o.origin) (putFields w [(TXN_ARM.GO, 1)]) parity)

/-- TXN_SLOT_CANCEL (R169): TXN_SLOTCMD.CANCEL aborts an armed transaction before preparation or is refused. -/
def execTxnSlotCancel (o : Sender) (k : Fin 16) (s : State) : Host.Outcome State Fault Refusal :=
  s.finish (s.regCmd o TXN_SLOTCMD k 0 (putFields 0 [(TXN_SLOTCMD.CANCEL, 1)]))

/-- TXN_TIME_TRIGGER (R166): A time-mode trigger commits at once when quiet or resolves to line D + 1. -/
def execTxnTimeTrigger (k : Fin 16) (s : State) : Host.Outcome State Fault Refusal :=
  s.finish (s.live fun s => s.txnTimeTrigger k)

/-- COMMIT_RECORD_WRITE (R174): A commit record reaches DRAM and TXN_RLOGWR.IDX advances. -/
def execCommitRecordWrite (s : State) : Host.Outcome State Fault Refusal :=
  s.finish (s.live (·.recordWrite))

/-- RLOG_REJ (R175): A write of TXN_RLOGBASE or TXN_RLOGCFG with records outstanding is ignored and sets
RLOG_REJ. -/
def execRlogRej (o : Sender) (cfg : Bool) (w : Word) (s : State) : Host.Outcome State Fault Refusal :=
  s.finish (s.regCmd o (if cfg then TXN_RLOGCFG else TXN_RLOGBASE) 0 0 w)

end Sys2Proof.Machine
end

