-- ==== Sys2Proof/Machine/ExecVis.lean ====
section
/-! DEFINITION. Commands of the inspection pipeline (spec/09_inspection_pipeline.md,
spec/10_closed_loop_determinism.md). -/

namespace Sys2Proof.Machine

/-- FRAME_START (R183): A CSI-2 frame start opens a frame, pops the trigger FIFO and may make a settings
activation. -/
def execFrameStart (n : Fin 8) (vc : Fin 4) (hdr : Fin 3) (s : State) :
    Host.Outcome State Fault Refusal :=
  s.finish (s.live fun s => s.frameStart n vc hdr)

/-- LINE_PACKET (R180): A CSI-2 long packet carrying one line enters the port's staging store. -/
def execLinePacket (n : Fin 8) (vc : Fin 4) (dt : BitVec 6) (hdr : Fin 3) (crcOk : Bool) (pixels : List (BitVec 14)) (s : State) :
    Host.Outcome State Fault Refusal :=
  s.finish (s.live fun s => s.linePacket n vc dt.toNat hdr crcOk (pixels.map fun p => p.toNat % 2 ^ pixBits dt.toNat))

/-- FRAME_END (R180): A CSI-2 frame end closes the frame after HEIGHT lines or drops it. -/
def execFrameEnd (n : Fin 8) (vc : Fin 4) (hdr : Fin 3) (s : State) : Host.Outcome State Fault Refusal :=
  s.finish (s.live fun s => s.frameEnd n vc hdr)

/-- LANE_ERR (R180): A D-PHY sync error or failed deskew discards the packet. -/
def execLaneErr (n : Fin 8) (s : State) : Host.Outcome State Fault Refusal :=
  s.finish (s.live fun s => s.laneErr n)

/-- TRIGGER_CROSS (R181): A port's trigger position crosses its target and a trigger pulse and strobe request are
made or skipped. -/
def execTriggerCross (n : Fin 8) (cycles : Nat) (s : State) : Host.Outcome State Fault Refusal :=
  s.finish (s.live fun s => s.triggerCross n cycles)

/-- TRIGGER_PULSE_END (R182): A camera trigger pulse ends after WIDTH µs. -/
def execTriggerPulseEnd (n : Fin 8) (s : State) : Host.Outcome State Fault Refusal :=
  s.finish (s.live fun s => s.pulseEnd n)

/-- PIPE_LINE (R185): A pipeline takes a staged line and processes it into DRAM, the Scaler and the statistics.
-/
def execPipeLine (k : Fin 4) (err : Fin 3) (s : State) : Host.Outcome State Fault Refusal :=
  s.finish (s.live fun s => s.pipeLine k err)

/-- PUBLISHED (R193): All lines of a frame are processed and the frame is published with its header. -/
def execPublished (n : Fin 8) (ecc : List Nat) (lost : List (Nat × Nat)) (s : State) : Host.Outcome State Fault Refusal :=
  s.finish (s.live fun s => s.publish n ecc lost)

/-- PORT_ENABLE (R179): A write of VIS_PORTCFG.EN enables a camera port or is refused with CFG_REJ. -/
def execPortEnable (o : Sender) (n : Fin 8) (w : Word) (s : State) : Host.Outcome State Fault Refusal :=
  s.finish (s.regCmd o VIS_PORTCFG n 0 w)

/-- PIPE_CFG_WRITE (R185): A write of VIS_PIPECFG sets a pipeline's mode and inputs or is refused. -/
def execPipeCfgWrite (o : Sender) (k : Fin 4) (w : Word) (s : State) :
    Host.Outcome State Fault Refusal :=
  s.finish (s.regCmd o VIS_PIPECFG k 0 w)

/-- FF_WRITE (R190): A write of VIS_FFDATA writes flat-field gains or is refused with FF_REJ. -/
def execFfWrite (o : Sender) (n : Fin 8) (w : Word) (s : State) : Host.Outcome State Fault Refusal :=
  s.finish (s.regCmd o VIS_FFDATA n 0 w)

/-- CCI_CMD (R200): VIS_CCICMD.GO issues one transfer on a camera control bus. -/
def execCciCmd (o : Sender) (b : Fin 4) (w : Word) (s : State) : Host.Outcome State Fault Refusal :=
  s.finish (s.regCmd o VIS_CCICMD b 0 (putFields w [(VIS_CCICMD.GO, 1)]))

/-- CCI_TRANSFER_DONE (R197): A control-bus transfer completes, acknowledged or with SENS_NAK. -/
def execCciTransferDone (b : Fin 4) (ack : Bool) (data : BitVec 16) (s : State) :
    Host.Outcome State Fault Refusal :=
  s.finish (s.live fun s => s.cciDone b ack data.toNat)

/-- REF_ROW_WRITE (R204): A reference row is complete and written to the reference ring. -/
def execRefRowWrite (row : Nat) (s : State) : Host.Outcome State Fault Refusal :=
  s.finish (s.live fun s => s.refRowWrite row)

/-- SCALER_ENABLE (R207): A write of VIS_SCCFG.EN = 1 starts the Scaler and clears the health map. -/
def execScalerEnable (o : Sender) (w : Word) (s : State) : Host.Outcome State Fault Refusal :=
  s.finish (s.regCmd o VIS_SCCFG 0 0 w)

/-- HM_WRITE (R208): A write of VIS_HMDATA writes a health-map entry or is refused with CFG_REJ. -/
def execHmWrite (o : Sender) (w : Word) (s : State) : Host.Outcome State Fault Refusal :=
  s.finish (s.regCmd o VIS_HMDATA 0 0 w)

/-- HM_FIFO_POP (R208): A read of VIS_HMFIFO returns and pops the oldest change entry. -/
def execHmFifoPop (o : Sender) (s : State) : Host.Outcome State Fault Refusal :=
  s.finish (s.regRead o VIS_HMFIFO 0)

end Sys2Proof.Machine
end

