-- ==== Sys2Proof/Machine/ExecWard.lean ====
section
/-! DEFINITION. Commands of supervision and failover (spec/17_supervision_failover.md). -/

namespace Sys2Proof.Machine

/-- HEARTBEAT (R336): A WARD_HB write from the active core is accepted or is a sequence error. -/
def execHeartbeat (token : BitVec 16) (gap : Nat) (s : State) : Host.Outcome State Fault Refusal :=
  s.finish (s.regVia .warden WARD_HB 0 (·.heartbeat token.toNat gap))

/-- HB_LATE (R337): TIME/2 µs without a heartbeat warms the standby domain. -/
def execHbLate (s : State) : Host.Outcome State Fault Refusal :=
  s.finish (s.live (·.hbLate))

/-- HEARTBEAT_MISSED (R337): The heartbeat deadline passes, a failover trigger arises and the Spotter takes over
or escalates. -/
def execHeartbeatMissed (gap : Nat) (s : State) : Host.Outcome State Fault Refusal :=
  s.finish (s.live fun s => s.hbMissed gap)

/-- CORE_ERR (R337): The active core signals an uncorrectable error or lock-up, a failover trigger. -/
def execCoreErr (gap : Nat) (s : State) : Host.Outcome State Fault Refusal :=
  s.finish (s.live fun s => s.coreErr gap)

/-- REL_STALL (R337): A job descriptor unreleased for REL_TMO ms is a failover trigger. -/
def execRelStall (gap : Nat) (s : State) : Host.Outcome State Fault Refusal :=
  s.finish (s.live fun s => s.relStall gap)

/-- BUS_STALL (R337): A register bus access uncompleted for 20 µs is marked a stall. -/
def execBusStall (present : Bool) (s : State) : Host.Outcome State Fault Refusal :=
  s.finish (s.live fun s => s.busStall present)

/-- TAKEOVER_RELEASE (R340): With the standby domain ON, ACTIVE changes and the incoming core is released. -/
def execTakeoverRelease (dly : Nat) (patchOk : Bool) (s : State) : Host.Outcome State Fault Refusal :=
  s.finish (s.live fun s => s.takeoverRelease dly patchOk)

/-- ISO_DONE (R341): The outgoing wrapper has drained and the overlap window ends. -/
def execIsoDone (ws : List (BitVec 24 × Word)) (s : State) : Host.Outcome State Fault Refusal :=
  s.finish (s.live fun s => s.isoDone (ws.map fun e => (e.1.toNat, e.2)))

/-- CKPT_READY (R344): Both checkpoint copies are verified and the newer valid one is chosen. -/
def execCkptReady (ecc0 ecc1 : Bool) (s : State) : Host.Outcome State Fault Refusal :=
  s.finish (s.live fun s => s.ckptReady ecc0 ecc1)

/-- SEAL (R343): WARD_CKPT.SEAL starts sealing a checkpoint copy or is refused. -/
def execSeal (copy : Fin 2) (s : State) : Host.Outcome State Fault Refusal :=
  s.finish (s.regCmd .warden WARD_CKPT 0 0 (putFields 0 [(WARD_CKPT.SEAL, 1), (WARD_CKPT.COPY, copy)]))

/-- SEAL_DONE (R343): After 27.3 µs the copy's CRC is stored and VALID is set. -/
def execSealDone (copy : Fin 2) (s : State) : Host.Outcome State Fault Refusal :=
  s.finish (s.live fun s => s.sealDone copy)

/-- SWAP (R346): WARD_SWAP OP SWAP tests the standby and requests a hand-over. -/
def execSwap (key : BitVec 8) (s : State) : Host.Outcome State Fault Refusal :=
  s.finish (s.regCmd .host WARD_SWAP 0 0
    (putFields 0 [(WARD_SWAP.KEY, key.toNat), (WARD_SWAP.OP, 0), (WARD_SWAP.GO, 1)]))

/-- TEST (R346): WARD_SWAP OP TEST runs BIST and standby check on the standby. -/
def execTest (key : BitVec 8) (s : State) : Host.Outcome State Fault Refusal :=
  s.finish (s.regCmd .host WARD_SWAP 0 0
    (putFields 0 [(WARD_SWAP.KEY, key.toNat), (WARD_SWAP.OP, 1), (WARD_SWAP.GO, 1)]))

/-- WARD_REARM (R346): WARD_SWAP OP REARM leaves HALTED and resumes watching. -/
def execWardRearm (key : BitVec 8) (s : State) : Host.Outcome State Fault Refusal :=
  s.finish (s.regCmd .host WARD_SWAP 0 0
    (putFields 0 [(WARD_SWAP.KEY, key.toNat), (WARD_SWAP.OP, 2), (WARD_SWAP.GO, 1)]))

/-- HANDOVER (R346): WARD_CTL.HANDOVER starts a commanded takeover with REASON 0x5. -/
def execHandover (s : State) : Host.Outcome State Fault Refusal :=
  s.finish (s.regCmd .warden WARD_CTL 0 0 (putFields 0 [(WARD_CTL.HANDOVER, 1)]))

/-- HANDOVER_TIMEOUT (R346): No HANDOVER within FIRST ms sets SWAP_FAIL. -/
def execHandoverTimeout (s : State) : Host.Outcome State Fault Refusal :=
  s.finish (s.live (·.handoverTmo))

/-- SELFRST (R348): WARD_CTL.SELFRST with KEY from the active core starts a core reset. -/
def execSelfrst (key : BitVec 8) (s : State) : Host.Outcome State Fault Refusal :=
  s.finish (s.regCmd .warden WARD_CTL 0 0 (putFields 0 [(WARD_CTL.SELFRST, 1), (WARD_CTL.KEY, key.toNat)]))

/-- SBCHK_RESULT (R345): The standby-check core writes RESULT and SB_STATE becomes READY or FAILED. -/
def execSbchkResult (r : BitVec 8) (s : State) : Host.Outcome State Fault Refusal :=
  s.finish (s.live fun s => s.sbResult r.toNat)

/-- SBCHK_TIMEOUT (R345): No passing RESULT within 10 ms fails the standby check. -/
def execSbchkTimeout (s : State) : Host.Outcome State Fault Refusal :=
  s.finish (s.live (·.sbTimeout))

/-- FAULT_LOG_WRITE (R349): A queued fault log entry is written to the Stump store ring. -/
def execFaultLogWrite (s : State) : Host.Outcome State Fault Refusal :=
  s.finish (s.flogWrite)

/-- LANDING_READ (R434): A read of WARD_LDATA returns Landing data and advances under AUTOINC. -/
def execLandingRead (o : Sender) (s : State) : Host.Outcome State Fault Refusal :=
  s.finish (s.regRead o WARD_LDATA 0)

end Sys2Proof.Machine
end

