-- ==== Sys2Proof/Machine/Dispatch.lean ====
section
/-! DEFINITION. What each command does to everything but the queue: one arm per constructor. -/

namespace Sys2Proof.Machine

def exec (i : Instr) (s : State) : Host.Outcome State Fault Refusal :=
  match i with
  | .registerWrite o a w => Sys2Proof.Machine.execRegisterWrite o a w s
  | .jobdesc seq words f => Sys2Proof.Machine.execJobdesc seq words f s
  | .jobqRelease o w => Sys2Proof.Machine.execJobqRelease o w s
  | .jobqFlush o w => Sys2Proof.Machine.execJobqFlush o w s
  | .jobqEnable o w => Sys2Proof.Machine.execJobqEnable o w s
  | .lineDecision dt f => Sys2Proof.Machine.execLineDecision dt f s
  | .portGo p => Sys2Proof.Machine.execPortGo p s
  | .strobeIssue p => Sys2Proof.Machine.execStrobeIssue p s
  | .kerfAck p kind ref status => Sys2Proof.Machine.execKerfAck p kind ref status s
  | .tempPacket p t0 t1 ready supply hot wvalid => Sys2Proof.Machine.execTempPacket p t0 t1 ready supply hot wvalid s
  | .testPacket p seg bytes => Sys2Proof.Machine.execTestPacket p seg bytes s
  | .telCrc p => Sys2Proof.Machine.execTelCrc p s
  | .tableAckTimeout p code => Sys2Proof.Machine.execTableAckTimeout p code s
  | .waveAckTimeout p => Sys2Proof.Machine.execWaveAckTimeout p s
  | .testTimeout p => Sys2Proof.Machine.execTestTimeout p s
  | .telLost p => Sys2Proof.Machine.execTelLost p s
  | .wloadGo o p w => Sys2Proof.Machine.execWloadGo o p w s
  | .fireTestGo o p => Sys2Proof.Machine.execFireTestGo o p s
  | .linkEn o p w => Sys2Proof.Machine.execLinkEn o p w s
  | .kerfRun o p w => Sys2Proof.Machine.execKerfRun o p w s
  | .hen o p w => Sys2Proof.Machine.execHen o p w s
  | .kerfRunEnter p => Sys2Proof.Machine.execKerfRunEnter p s
  | .trainFail p => Sys2Proof.Machine.execTrainFail p s
  | .linkDown p => Sys2Proof.Machine.execLinkDown p s
  | .dlyWrite o p w => Sys2Proof.Machine.execDlyWrite o p w s
  | .encoderEdge n a b dt => Sys2Proof.Machine.execEncoderEdge n a b dt s
  | .indexEvent n => Sys2Proof.Machine.execIndexEvent n s
  | .wireDisagreement n pair => Sys2Proof.Machine.execWireDisagreement n pair s
  | .posEnable o w => Sys2Proof.Machine.execPosEnable o w s
  | .rearm o w => Sys2Proof.Machine.execRearm o w s
  | .probeEdge p falling => Sys2Proof.Machine.execProbeEdge p falling s
  | .probeFifoPop o p => Sys2Proof.Machine.execProbeFifoPop o p s
  | .blockRelease st => Sys2Proof.Machine.execBlockRelease st s
  | .blockDecode st f => Sys2Proof.Machine.execBlockDecode st f s
  | .ctxXferGo o w => Sys2Proof.Machine.execCtxXferGo o w s
  | .encCfgWrite o e w => Sys2Proof.Machine.execEncCfgWrite o e w s
  | .bandNext o e w => Sys2Proof.Machine.execBandNext o e w s
  | .encBlock e => Sys2Proof.Machine.execEncBlock e s
  | .descriptorRead st => Sys2Proof.Machine.execDescriptorRead st s
  | .descriptorPoll st => Sys2Proof.Machine.execDescriptorPoll st s
  | .fetchDeadline st => Sys2Proof.Machine.execFetchDeadline st s
  | .slotFetchDone st => Sys2Proof.Machine.execSlotFetchDone st s
  | .late st => Sys2Proof.Machine.execLate st s
  | .descWriteback st => Sys2Proof.Machine.execDescWriteback st s
  | .rmapWrite o w => Sys2Proof.Machine.execRmapWrite o w s
  | .calBankWrite o w => Sys2Proof.Machine.execCalBankWrite o w s
  | .logRej o cfg w => Sys2Proof.Machine.execLogRej o cfg w s
  | .txnBegin o => Sys2Proof.Machine.execTxnBegin o s
  | .txnRollback o => Sys2Proof.Machine.execTxnRollback o s
  | .txnStageWrite o a w parity => Sys2Proof.Machine.execTxnStageWrite o a w parity s
  | .txnArm o w parity => Sys2Proof.Machine.execTxnArm o w parity s
  | .txnSlotCancel o k => Sys2Proof.Machine.execTxnSlotCancel o k s
  | .txnTimeTrigger k => Sys2Proof.Machine.execTxnTimeTrigger k s
  | .rlogRej o cfg w => Sys2Proof.Machine.execRlogRej o cfg w s
  | .tallySnapshot o => Sys2Proof.Machine.execTallySnapshot o s
  | .snapdataRead o => Sys2Proof.Machine.execSnapdataRead o s
  | .frameStart n vc hdr => Sys2Proof.Machine.execFrameStart n vc hdr s
  | .linePacket n vc dt hdr crcOk pixels => Sys2Proof.Machine.execLinePacket n vc dt hdr crcOk pixels s
  | .frameEnd n vc hdr => Sys2Proof.Machine.execFrameEnd n vc hdr s
  | .laneErr n => Sys2Proof.Machine.execLaneErr n s
  | .triggerCross n cycles => Sys2Proof.Machine.execTriggerCross n cycles s
  | .triggerPulseEnd n => Sys2Proof.Machine.execTriggerPulseEnd n s
  | .pipeLine k err => Sys2Proof.Machine.execPipeLine k err s
  | .published n ecc lost => Sys2Proof.Machine.execPublished n ecc lost s
  | .portEnable o n w => Sys2Proof.Machine.execPortEnable o n w s
  | .pipeCfgWrite o k w => Sys2Proof.Machine.execPipeCfgWrite o k w s
  | .ffWrite o n w => Sys2Proof.Machine.execFfWrite o n w s
  | .cciCmd o b w => Sys2Proof.Machine.execCciCmd o b w s
  | .cciTransferDone b ack data => Sys2Proof.Machine.execCciTransferDone b ack data s
  | .refRowWrite row => Sys2Proof.Machine.execRefRowWrite row s
  | .scalerEnable o w => Sys2Proof.Machine.execScalerEnable o w s
  | .hmWrite o w => Sys2Proof.Machine.execHmWrite o w s
  | .hmFifoPop o => Sys2Proof.Machine.execHmFifoPop o s
  | .beacon e hseq orig hop w0 w1 w2 delay => Sys2Proof.Machine.execBeacon e hseq orig hop w0 w1 w2 delay s
  | .pmark e hseq orig hop t => Sys2Proof.Machine.execPmark e hseq orig hop t s
  | .writes e hseq orig hop ws => Sys2Proof.Machine.execWrites e hseq orig hop ws s
  | .prep e hseq orig hop w0 w1 w2 => Sys2Proof.Machine.execPrep e hseq orig hop w0 w1 w2 s
  | .vote e hseq orig hop w => Sys2Proof.Machine.execVote e hseq orig hop w s
  | .trig e hseq orig hop w => Sys2Proof.Machine.execTrig e hseq orig hop w s
  | .arrive e hseq orig hop jobId pageNo => Sys2Proof.Machine.execArrive e hseq orig hop jobId pageNo s
  | .gop e hseq orig hop op l => Sys2Proof.Machine.execGop e hseq orig hop op l s
  | .map e hseq orig hop ids gen => Sys2Proof.Machine.execMap e hseq orig hop ids gen s
  | .join e hseq orig hop => Sys2Proof.Machine.execJoin e hseq orig hop s
  | .leave e hseq orig hop => Sys2Proof.Machine.execLeave e hseq orig hop s
  | .breakMsg e hseq orig hop west => Sys2Proof.Machine.execBreakMsg e hseq orig hop west s
  | .time e hseq orig hop w0 w1 w2 delay => Sys2Proof.Machine.execTime e hseq orig hop w0 w1 w2 delay s
  | .barAck e hseq => Sys2Proof.Machine.execBarAck e hseq s
  | .msgCrc e hdr body => Sys2Proof.Machine.execMsgCrc e hdr body s
  | .hopRetry e => Sys2Proof.Machine.execHopRetry e s
  | .barPortAlign e skew0 skew1 echoes nbr => Sys2Proof.Machine.execBarPortAlign e skew0 skew1 echoes nbr s
  | .beaconSend age => Sys2Proof.Machine.execBeaconSend age s
  | .beaconKeepalive age => Sys2Proof.Machine.execBeaconKeepalive age s
  | .barEn o w => Sys2Proof.Machine.execBarEn o w s
  | .barLeave o w => Sys2Proof.Machine.execBarLeave o w s
  | .rejoin o w => Sys2Proof.Machine.execRejoin o w s
  | .snapshotAtLine o => Sys2Proof.Machine.execSnapshotAtLine o s
  | .snapshotNow o => Sys2Proof.Machine.execSnapshotNow o s
  | .barReset o => Sys2Proof.Machine.execBarReset o s
  | .timeSend age => Sys2Proof.Machine.execTimeSend age s
  | .timeSRead o => Sys2Proof.Machine.execTimeSRead o s
  | .timeSWrite o w => Sys2Proof.Machine.execTimeSWrite o w s
  | .timeNsWrite o w => Sys2Proof.Machine.execTimeNsWrite o w s
  | .timeStep o w => Sys2Proof.Machine.execTimeStep o w s
  | .scheduledLaunch sec ns frame => Sys2Proof.Machine.execScheduledLaunch sec ns frame s
  | .oneStepInsert frame => Sys2Proof.Machine.execOneStepInsert frame s
  | .blockLock l => Sys2Proof.Machine.execBlockLock l s
  | .lockLostLane l errs lost => Sys2Proof.Machine.execLockLostLane l errs lost s
  | .stuffErr l => Sys2Proof.Machine.execStuffErr l s
  | .train remote conf width srst skews => Sys2Proof.Machine.execTrain remote conf width srst skews s
  | .filler g level fseq skews => Sys2Proof.Machine.execFiller g level fseq skews s
  | .ebErr g => Sys2Proof.Machine.execEbErr g s
  | .ack seq => Sys2Proof.Machine.execAck seq s
  | .nak seq => Sys2Proof.Machine.execNak seq s
  | .credit cls limit => Sys2Proof.Machine.execCredit cls limit s
  | .regWr seq words f => Sys2Proof.Machine.execRegWr seq words f s
  | .regRd seq words f => Sys2Proof.Machine.execRegRd seq words f s
  | .raster seq words f => Sys2Proof.Machine.execRaster seq words f s
  | .hlnkEn o w => Sys2Proof.Machine.execHlnkEn o w s
  | .retrain o w => Sys2Proof.Machine.execRetrain o w s
  | .prbsCtl o l w => Sys2Proof.Machine.execPrbsCtl o l w s
  | .errInj o l w => Sys2Proof.Machine.execErrInj o l w s
  | .dramWriteRequest client addr bytes => Sys2Proof.Machine.execDramWriteRequest client addr bytes s
  | .dramReadRequest client addr n => Sys2Proof.Machine.execDramReadRequest client addr n s
  | .dramReadComplete q busy errs => Sys2Proof.Machine.execDramReadComplete q busy errs s
  | .scrub errs => Sys2Proof.Machine.execScrub errs s
  | .refresh q rank draining => Sys2Proof.Machine.execRefresh q rank draining s
  | .mr4Poll rr0 rr1 rr2 rr3 above1x hot => Sys2Proof.Machine.execMr4Poll rr0 rr1 rr2 rr3 above1x hot s
  | .pageIdleClose q rank group bank => Sys2Proof.Machine.execPageIdleClose q rank group bank s
  | .dramInit o w => Sys2Proof.Machine.execDramInit o w s
  | .dramCheckDone failq => Sys2Proof.Machine.execDramCheckDone failq s
  | .pass1Done e => Sys2Proof.Machine.execPass1Done e s
  | .regset varmask l => Sys2Proof.Machine.execRegset varmask l s
  | .trainRecord varmask ws => Sys2Proof.Machine.execTrainRecord varmask ws s
  | .eq varmask ws => Sys2Proof.Machine.execEq varmask ws s
  | .remap varmask first ws => Sys2Proof.Machine.execRemap varmask first ws s
  | .delay varmask p first ws => Sys2Proof.Machine.execDelay varmask p first ws s
  | .calbank varmask p table first ws => Sys2Proof.Machine.execCalbank varmask p table first ws s
  | .dramdata varmask unit bytes => Sys2Proof.Machine.execDramdata varmask unit bytes s
  | .fwpatch varmask id bytes => Sys2Proof.Machine.execFwpatch varmask id bytes s
  | .loadEnd varmask check patchOk => Sys2Proof.Machine.execLoadEnd varmask check patchOk s
  | .reload o w => Sys2Proof.Machine.execReload o w s
  | .fromB o => Sys2Proof.Machine.execFromB o s
  | .flashCmd o w => Sys2Proof.Machine.execFlashCmd o w s
  | .flDone bytes => Sys2Proof.Machine.execFlDone bytes s
  | .stumpRead o a ecc raw => Sys2Proof.Machine.execStumpRead o a ecc raw s
  | .stumpProgram o a unlock => Sys2Proof.Machine.execStumpProgram o a unlock s
  | .stumpErase o a unlock => Sys2Proof.Machine.execStumpErase o a unlock s
  | .sysResetCmd o w => Sys2Proof.Machine.execSysResetCmd o w s
  | .coreResetCmd o w => Sys2Proof.Machine.execCoreResetCmd o w s
  | .systemResetApply dly => Sys2Proof.Machine.execSystemResetApply dly s
  | .resetRelease barId var bistLow => Sys2Proof.Machine.execResetRelease barId var bistLow s
  | .coreResetRelease dly patchOk => Sys2Proof.Machine.execCoreResetRelease dly patchOk s
  | .blockResetAssert o b => Sys2Proof.Machine.execBlockResetAssert o b s
  | .blockResetDrained b n => Sys2Proof.Machine.execBlockResetDrained b n s
  | .blockReleaseRequest o b => Sys2Proof.Machine.execBlockReleaseRequest o b s
  | .rstStall b => Sys2Proof.Machine.execRstStall b s
  | .lanePllLock g => Sys2Proof.Machine.execLanePllLock g s
  | .lpllLost g => Sys2Proof.Machine.execLpllLost g s
  | .lrefMeasure r count => Sys2Proof.Machine.execLrefMeasure r count s
  | .supLost r => Sys2Proof.Machine.execSupLost r s
  | .railValid r => Sys2Proof.Machine.execRailValid r s
  | .pdSwitchRequest o w => Sys2Proof.Machine.execPdSwitchRequest o w s
  | .pdRailGood d => Sys2Proof.Machine.execPdRailGood d s
  | .pdOffDone d => Sys2Proof.Machine.execPdOffDone d s
  | .pdFail d => Sys2Proof.Machine.execPdFail d s
  | .heartbeat token gap => Sys2Proof.Machine.execHeartbeat token gap s
  | .heartbeatMissed gap => Sys2Proof.Machine.execHeartbeatMissed gap s
  | .coreErr gap => Sys2Proof.Machine.execCoreErr gap s
  | .relStall gap => Sys2Proof.Machine.execRelStall gap s
  | .busStall present => Sys2Proof.Machine.execBusStall present s
  | .takeoverRelease dly patchOk => Sys2Proof.Machine.execTakeoverRelease dly patchOk s
  | .isoDone ws => Sys2Proof.Machine.execIsoDone ws s
  | .ckptReady ecc0 ecc1 => Sys2Proof.Machine.execCkptReady ecc0 ecc1 s
  | .seal copy => Sys2Proof.Machine.execSeal copy s
  | .sealDone copy => Sys2Proof.Machine.execSealDone copy s
  | .swap key => Sys2Proof.Machine.execSwap key s
  | .test key => Sys2Proof.Machine.execTest key s
  | .wardRearm key => Sys2Proof.Machine.execWardRearm key s
  | .selfrst key => Sys2Proof.Machine.execSelfrst key s
  | .sbchkResult r => Sys2Proof.Machine.execSbchkResult r s
  | .landingRead o => Sys2Proof.Machine.execLandingRead o s
  | .movePush o n w => Sys2Proof.Machine.execMovePush o n w s
  | .motGo o n => Sys2Proof.Machine.execMotGo o n s
  | .halt o n => Sys2Proof.Machine.execHalt o n s
  | .stop o n => Sys2Proof.Machine.execStop o n s
  | .sync o n => Sys2Proof.Machine.execSync o n s
  | .axisEnable o n w => Sys2Proof.Machine.execAxisEnable o n w s
  | .motPosWrite o n w => Sys2Proof.Machine.execMotPosWrite o n w s
  | .step n => Sys2Proof.Machine.execStep n s
  | .moveDone n => Sys2Proof.Machine.execMoveDone n s
  | .swathResume o => Sys2Proof.Machine.execSwathResume o s
  | .passWrite o w => Sys2Proof.Machine.execPassWrite o w s
  | .maskWrite o w => Sys2Proof.Machine.execMaskWrite o w s
  | .ovspFifoPop o => Sys2Proof.Machine.execOvspFifoPop o s
  | .currentReduce n => Sys2Proof.Machine.execCurrentReduce n s
  | .stall n => Sys2Proof.Machine.execStall n s
  | .overcur n => Sys2Proof.Machine.execOvercur n s
  | .bridgeFlt n low => Sys2Proof.Machine.execBridgeFlt n low s
  | .openMotor n => Sys2Proof.Machine.execOpenMotor n s
  | .limit n high => Sys2Proof.Machine.execLimit n high s
  | .liteTargetCross c => Sys2Proof.Machine.execLiteTargetCross c s
  | .strobeDelayEnd c => Sys2Proof.Machine.execStrobeDelayEnd c s
  | .strobeWidthEnd c code => Sys2Proof.Machine.execStrobeWidthEnd c code s
  | .recoverEnd c => Sys2Proof.Machine.execRecoverEnd c s
  | .contCheck c code => Sys2Proof.Machine.execContCheck c code s
  | .tempSample g code => Sys2Proof.Machine.execTempSample g code s
  | .liteChWrite o c w => Sys2Proof.Machine.execLiteChWrite o c w s
  | .matrixSwap o w => Sys2Proof.Machine.execMatrixSwap o w s
  | .dispFrameStart d => Sys2Proof.Machine.execDispFrameStart d s
  | .dispEnable o d w => Sys2Proof.Machine.execDispEnable o d w s
  | .layerBaseWrite o d l w => Sys2Proof.Machine.execLayerBaseWrite o d l w s
  | .crcMism d k => Sys2Proof.Machine.execCrcMism d k s
  | .dispUnderrun d y x => Sys2Proof.Machine.execDispUnderrun d y x s
  | .bistStart o w => Sys2Proof.Machine.execBistStart o w s
  | .bistAbort o key => Sys2Proof.Machine.execBistAbort o key s
  | .bistDomainDone sig mf => Sys2Proof.Machine.execBistDomainDone sig mf s
  | .parked o => Sys2Proof.Machine.execParked o s
  | .resume o => Sys2Proof.Machine.execResume o s
  | .gdmaGo o c w => Sys2Proof.Machine.execGdmaGo o c w s
  | .gdmaAbort o c => Sys2Proof.Machine.execGdmaAbort o c s
  | .gdmaDisable o => Sys2Proof.Machine.execGdmaDisable o s
  | .gdmaUnit c ecc => Sys2Proof.Machine.execGdmaUnit c ecc s
  | .gdmaDone c => Sys2Proof.Machine.execGdmaDone c s
  | .extest sampled shifted => Sys2Proof.Machine.execExtest sampled shifted s
  | .samplePreload sampled shifted => Sys2Proof.Machine.execSamplePreload sampled shifted s
  | .debugPort l => Sys2Proof.Machine.execDebugPort l s
  | .bypass code bits => Sys2Proof.Machine.execBypass code bits s
  | .linkChg up => Sys2Proof.Machine.execLinkChg up s
  | .reservedTypePacket type seq words f => Sys2Proof.Machine.execReservedTypePacket type seq words f s
  | .motEncoderEdge n a b => Sys2Proof.Machine.execMotEncoderEdge n a b s
  | .chopperThreshold n phase upper t => Sys2Proof.Machine.execChopperThreshold n phase upper t s
  | .wireDisagreementEnd n pair level => Sys2Proof.Machine.execWireDisagreementEnd n pair level s
  | .prbsLock l bits errs => Sys2Proof.Machine.execPrbsLock l bits errs s
  | .prbsLockLoss l bits errs => Sys2Proof.Machine.execPrbsLockLoss l bits errs s
  | .underrun => Sys2Proof.Machine.execUnderrun s
  | .loopUpdate => Sys2Proof.Machine.execLoopUpdate s
  | .pmMissing => Sys2Proof.Machine.execPmMissing s
  | .ctxXferDone => Sys2Proof.Machine.execCtxXferDone s
  | .rowClear => Sys2Proof.Machine.execRowClear s
  | .substLogWrite => Sys2Proof.Machine.execSubstLogWrite s
  | .commitRecordWrite => Sys2Proof.Machine.execCommitRecordWrite s
  | .beaconLost => Sys2Proof.Machine.execBeaconLost s
  | .dxTimeout => Sys2Proof.Machine.execDxTimeout s
  | .barResetApply => Sys2Proof.Machine.execBarResetApply s
  | .ctlBad => Sys2Proof.Machine.execCtlBad s
  | .hdrCrc => Sys2Proof.Machine.execHdrCrc s
  | .replay => Sys2Proof.Machine.execReplay s
  | .eventSend => Sys2Proof.Machine.execEventSend s
  | .hlnkTrainTimeout => Sys2Proof.Machine.execHlnkTrainTimeout s
  | .zqCal => Sys2Proof.Machine.execZqCal s
  | .dramZqDone => Sys2Proof.Machine.execDramZqDone s
  | .dramZeroDone => Sys2Proof.Machine.execDramZeroDone s
  | .wipTimeout => Sys2Proof.Machine.execWipTimeout s
  | .dramSkip => Sys2Proof.Machine.execDramSkip s
  | .stDone => Sys2Proof.Machine.execStDone s
  | .powerOnReset => Sys2Proof.Machine.execPowerOnReset s
  | .aonPorRelease => Sys2Proof.Machine.execAonPorRelease s
  | .rstN low => Sys2Proof.Machine.execRstN low s
  | .rootPllLock => Sys2Proof.Machine.execRootPllLock s
  | .clockGood => Sys2Proof.Machine.execClockGood s
  | .rootPllLoss => Sys2Proof.Machine.execRootPllLoss s
  | .oscOk => Sys2Proof.Machine.execOscOk s
  | .oscFail => Sys2Proof.Machine.execOscFail s
  | .hbLate => Sys2Proof.Machine.execHbLate s
  | .handover => Sys2Proof.Machine.execHandover s
  | .handoverTimeout => Sys2Proof.Machine.execHandoverTimeout s
  | .sbchkTimeout => Sys2Proof.Machine.execSbchkTimeout s
  | .faultLogWrite => Sys2Proof.Machine.execFaultLogWrite s
  | .rowSlot => Sys2Proof.Machine.execRowSlot s
  | .hpReq => Sys2Proof.Machine.execHpReq s
  | .hpPrintEnd => Sys2Proof.Machine.execHpPrintEnd s
  | .hpEndTmo => Sys2Proof.Machine.execHpEndTmo s
  | .hpParkTmo => Sys2Proof.Machine.execHpParkTmo s
  | .hpBarLeaveTimeout => Sys2Proof.Machine.execHpBarLeaveTimeout s
  | .hpCancel => Sys2Proof.Machine.execHpCancel s
  | .hpInsert => Sys2Proof.Machine.execHpInsert s
  | .idcode => Sys2Proof.Machine.execIdcode s
  | .idDup => Sys2Proof.Machine.execIdDup s

end Sys2Proof.Machine
end

