-- ==== Sys2Proof/Machine/Step.lean ====
section
/-! DEFINITION. One step: the command at the front of the queue, or, with none waiting, one CK_CORE cycle. -/

namespace Sys2Proof.Machine

/-- A step: the front command on the state with the rest of the queue; on an empty queue the block idles for one CK_CORE
cycle (`State.tick`).
(DESIGN CHOICE, log entry 1; DEDUCED, log entry 3.) -/
def step (s : State) : Host.Outcome State Fault Refusal :=
  match s.pending with
  | c :: rest => exec c { s with pending := rest }
  | [] => s.finish s.tick

/-- The state with the command a table word spells at the front of its queue; unchanged where it spells none. -/
def State.withFetchWord (s : State) (nbits w : Nat) : State :=
  match decodeTableWord nbits w with
  | some c => { s with pending := c :: s.pending }
  | none => s

end Sys2Proof.Machine
end

