-- ==== Sys2Proof/Machine/Balls.lean ====
section
/-! DEFINITION. What the output balls are while a reset or a domain holds their group (spec/15_reset_startup.md, Table 15-6;
R279, R328). -/

namespace Sys2Proof.Machine

/-- The output groups of Table 15-6. -/
inductive BallGroup where
  | headEn (p : Nat)
  | kerfTx (p : Nat)
  | hostTx
  | barTx (e : Nat)
  | camTrig (n : Nat)
  | cci (b : Nat)
  | dramResetN
  | dramCommand
  | flash
  | motion (n : Nat)
  | lighting (c : Nat)
  | matrix
  | display (o : Nat)
  | ethResetN
  | ethTx
  | eventN
  | hpSafe
  | gpio
  | tdo
  deriving DecidableEq, Repr

/-- What a group is: not driven, driven low or high, electrically idle, released (open drain), stopped (clocks stopped,
selects high, the rest low), its covered outputs driven from the boundary-scan register (R404), or as the group's own
chapter gives.
(DEDUCED, log entry 174.) -/
inductive BallState where
  | highZ | low | high | idle | released | stopped | scan | own
  deriving DecidableEq, Repr

/-- The rails of a group (Table 22-2), by their bits of RAIL_OK. -/
def BallGroup.rails : BallGroup → List Nat
  | .headEn _ => [7]
  | .eventN => [7]
  | .hpSafe => [7]
  | .kerfTx _ => [2, 3]
  | .hostTx => [2, 3]
  | .barTx _ => [2, 3]
  | .camTrig _ => [0]
  | .cci _ => [0]
  | .display _ => [0]
  | .ethResetN => [0]
  | .ethTx => [0]
  | .dramResetN => [4]
  | .dramCommand => [4]
  | .flash => [1]
  | .motion _ => [1]
  | .lighting _ => [1]
  | .matrix => [1]
  | .gpio => [1]
  | .tdo => [1]

/-- Block `b` works: out of reset, released, its domain on, for a lane group PD8 too. -/
def State.blockWorks (s : State) (b : Nat) : Bool :=
  !s.sys.held && !s.blkHeld b && s.pdOn (blockDomain b) && (decide (48 ≤ b) || s.pdOn 8)

/-- A lane of the list is under a PRBS transmit test (R253): 0 to 7 host lanes, 8 to 11 bar lanes. -/
def State.lanesTested (s : State) (l : List Nat) : Bool := l.any fun k => s.laneFld k HLNK_LPRBS.TX_EN BAR_LPRBS.TX_EN == 1

/-- The outputs of the group have cells that EXTEST drives (R404), all of them. -/
def BallGroup.scanned : BallGroup → Bool
  | .camTrig _ | .cci _ | .dramResetN | .dramCommand | .flash | .matrix | .ethResetN | .ethTx | .eventN | .hpSafe | .gpio => true
  | .display o => o == 1
  | .headEn _ | .kerfTx _ | .hostTx | .barTx _ | .motion _ | .lighting _ | .tdo => false

/-- The state of a group (Table 15-6) by its own logic. A domain that is off, switching or under test leaves its outputs as a
held reset does (R328, R386); with PD7 off the I/O cells may hold the DRAM lines (R279). An axis drives its balls while it
is not OFF (Table 18-2); a display output, a lighting channel and the matrix from their first enabling on (R313, R377,
R384); lanes while their link is enabled or under test; a control bus during a transfer; TDO outside a shift not at all.
(DEDUCED, log entry 174.)
(DEDUCED, log entry 217.) -/
def State.ballOwn (s : State) (g : BallGroup) : BallState :=
  let own (b : Nat) (on : Bool) (x : BallState) : BallState := if s.blockWorks b && on then .own else x
  let inPd (d : Nat) (x : BallState) : BallState := if s.pdOn d then x else .highZ
  match g with
    | .headEn p => if s.on FIRE_PORTSTAT.HEN_OUT p then .high else .low
    | .kerfTx p => own p (s.on FIRE_PORTCTL.LINK_EN p) .idle
    | .hostTx => own 55 (s.on HLNK_CTL.EN || s.lanesTested (List.range 8)) .idle
    | .barTx e => own (56 + e) (s.on BAR_CTL.EN || s.lanesTested (List.range' 8 4)) .idle
    | .camTrig n => if s.pdOn 6 && !s.sys.held && s.on VIS_PORTCFG.EN n then .own else .highZ
    | .cci b => if s.pdOn 6 && !s.sys.held && (s.cci b).busy then .own else .released
    | .dramResetN => if s.dram.ioLatch then .high else inPd 7 (if s.dram.rstN then .high else .low)
    | .dramCommand =>
      if s.dram.ioLatch then .stopped
      else inPd 7 (if s.dram.rstN && s.fld DRAM_STAT.STATE != 0 then .own else .stopped)
    | .flash => if s.on CFG_FLCMD.BUSY || (!s.sys.held && !s.loaded) then .own else .high
    | .motion n => own (60 + n) (s.astate n != 0) .highZ
    | .lighting c => own 68 (s.lite.driven.contains c) .highZ
    | .matrix => own 68 s.lite.scanned .highZ
    | .display o => own (58 + o) (s.dout o).driven .highZ
    | .ethResetN => inPd 9 (own 69 (s.on ETH_CTL.EN) .low)
    | .ethTx => inPd 9 (own 69 (s.on ETH_CTL.EN) .stopped)
    | .eventN => if s.eventN then .released else .low
    | .hpSafe => if s.on SYS_HPSTAT.SAFE_OUT then .released else .low
    | .gpio => .highZ
    | .tdo => .highZ

/-- The state of a group: an output whose rail is below its monitor threshold is high-Z (R401); EXTEST drives the covered
outputs (R404).
(DEDUCED, log entry 174.) -/
def State.ball (s : State) (g : BallGroup) : BallState :=
  if !s.railOk 7 || g.rails.any (fun r => !s.railOk r) then .highZ
  else if g.scanned && s.tapOn && s.tap.ir == 0 then .scan
  else s.ballOwn g

/-! ### The ball map (R396 to R399) -/

/-- The letters of the rows, in order: A to Y and AA to AY without I, O, Q, R, S, X and Z, then BA to BF (R396). -/
def rowLetters : List String :=
  let l := ["A", "B", "C", "D", "E", "F", "G", "H", "J", "K", "L", "M", "N", "P", "T", "U", "V", "W", "Y"]
  l ++ l.map ("A" ++ ·) ++ ["BA", "BB", "BC", "BD", "BE", "BF"]

/-- A ball: its row, counted from 0 at row A, and its column from 1. -/
def ballName (row col : Nat) : String := rowLetters.getD row "" ++ toString col

/-- The signals of a Kerf port at the balls. -/
inductive KerfSig where
  | tx0P | tx0N | tx1P | tx1N | rxP | rxN | headEn
  deriving DecidableEq, Repr

/-- The row of a signal of ports 0 to 43, and its place among the seven balls of ports 44 to 47 (R398). -/
def KerfSig.place : KerfSig → Nat × Nat
  | .tx0P => (0, 0)
  | .tx0N => (1, 1)
  | .tx1P => (3, 2)
  | .tx1N => (4, 3)
  | .rxP => (6, 4)
  | .rxN => (7, 5)
  | .headEn => (8, 6)

/-- The ball of a Kerf port's signal (R398): row and column. -/
def kerfBall (p : Nat) (g : KerfSig) : Nat × Nat :=
  if p < 44 then (g.place.1, p + 1) else (9, (p - 44) * 7 + g.place.2 + 1)

/-- The control balls (Table 22-3). -/
def controlBalls : List (String × String) :=
  [("L37", "RST_N"), ("L38", "EVENT_N"), ("L39", "HP_REMOVE_REQ_N"), ("L40", "HP_SAFE"), ("L41", "VAON"), ("L42", "VAON"),
    ("L43", "X32_IN"), ("L44", "X32_OUT"), ("M37", "BAR_ID[0]"), ("M38", "BAR_ID[1]"), ("M39", "BAR_ID[2]"),
    ("M40", "BAR_ID[3]"), ("M41", "VAR_SEL[0]"), ("M42", "VAR_SEL[1]"), ("M43", "VAR_SEL[2]"), ("M44", "BIST_START_N"),
    ("N37", "TCK"), ("N38", "TMS"), ("N39", "TDI"), ("N40", "TDO"), ("N41", "TRST_N"), ("N42", "VSS"), ("N43", "REF_XI"),
    ("N44", "REF_XO"), ("P41", "VAON"), ("P42", "VAON")]

end Sys2Proof.Machine
end

