-- ==== Sys2Proof/Safety.lean ====
section
/-! DEFINITION. What counts as a safe run, in the terms the statements use. -/

namespace Sys2Proof.Machine

/-- The block is out of system reset and its clocks run: it takes events and register accesses. -/
def State.awake (s : State) : Bool := s.clocked

/-- The sender can make register accesses: out of system reset, and for the Warden with a core released (R306). -/
def State.maySend (s : State) (o : Sender) : Bool := s.awake && (o == .host || s.ward.coreUp)

/-- An access of the sender to element `i` of a register is delivered: it can make accesses, and the register's domain is
on and its wrapper open (R155). -/
def State.reaches (s : State) (o : Sender) (r : Reg) (i : Nat := 0) : Bool := s.maySend o && !s.regIso (r.at i)

/-- A direct write of `w` to element `i` of a register meets no guard: no transaction of the sender is open, RWS fields
are written with the values they hold, and so are RWL fields outside their block's reset (R4, R156). -/
def State.unguarded (s : State) (o : Sender) (r : Reg) (i : Nat) (w : Word) : Bool :=
  !s.txnOpen o.origin && keepFields .rws (fieldsAt (r.at i)) (s.word (r.at i)) w == w &&
    (s.rwlOpen (r.at i) || keepFields .rwl (fieldsAt (r.at i)) (s.word (r.at i)) w == w)

/-- The address names element `i`, `j` of a register; of a banked one, `i` is the origin whose copy it is (R159). -/
def regAt (r : Reg) (i j : Nat) : Bool :=
  match regRow? (r.at i j) with
  | some (row, i', j') => row.reg == r && i' == i && j' == j
  | none => false

/-- The address names element `i`, `j` of a register that is not banked. -/
def namedAt (r : Reg) (i j : Nat) : Bool :=
  match regRow? (r.at i j) with
  | some (row, i', j') => row.reg == r && i' == i && j' == j && row.reg.s1 != 2 ^ 24
  | none => false

/-- A register whose write has no effect of its own (`State.deliver` stores it): no flag register, no flag
enable register, and none that a unit acts on. -/
def ordinaryReg (r : Reg) : Bool :=
  (flagOfEn? r).isNone && (flagRow? r).isNone && (State.reset.hookSys .host r 0 0).isNone && (State.reset.hookPrint .host r 0 0).isNone &&
    (State.reset.hookLink r 0 0).isNone && (State.reset.hookPeri .host r 0 0 0).isNone

/-- EVENT_N is low exactly while a flag and its enable bit are both 1 (R10). -/
def State.eventInv (s : State) : Prop := s.eventN = !s.eventNLow

/-- DRAM_GEOM.SIZE shows the capacity that the other fields of DRAM_GEOM name (R267). -/
def State.sizeInv (s : State) : Prop :=
  s.awake = true → s.fld DRAM_GEOM.SIZE = geomSize (s.fld DRAM_GEOM.WIDTH) (s.fld DRAM_GEOM.DENS) (s.fld DRAM_GEOM.RANKS)

/-- Nothing is due by itself: no hot-plug transition without an event, no held request of the bar, no image in pass 2, no
pending release, no request of the Spotter, no limit of illegal transitions passed, no queued frame, no line of a swath to
assemble, no repair of the closed loop just committed. -/
def State.calm (s : State) : Bool :=
  s.hstate != 1 && s.hstate != 2 && s.hstate != 4 && s.bar.wait == [] && !s.applying &&
    s.reg SYS_RSTPEND0 == 0 && s.reg SYS_RSTPEND1 == 0 && s.bist.spot == [] &&
    !(s.moves && s.qiOver) && s.net.txq == [] && !s.scan.asmDue && s.scaler.repairs.all fun r => r.line.isNone

/-- The commands that act in a system reset too: resets and what they end by, clocks, oscillator, supplies, domain
switch-off, what the Stump and the fault recorder complete, the removal request, the test access port. -/
def actsInReset : Instr → Bool
  | .powerOnReset => true
  | .aonPorRelease => true
  | .rstN _ => true
  | .systemResetApply _ => true
  | .resetRelease _ _ _ => true
  | .rootPllLock => true
  | .clockGood => true
  | .rootPllLoss => true
  | .oscOk => true
  | .oscFail => true
  | .supLost _ => true
  | .railValid _ => true
  | .pdOffDone _ => true
  | .stDone => true
  | .faultLogWrite => true
  | .hpReq => true
  | .hpCancel => true
  | .extest _ _ => true
  | .samplePreload _ _ => true
  | .idcode => true
  | .debugPort _ => true
  | .bypass _ _ => true
  | _ => false

end Sys2Proof.Machine
end

