-- ==== Sys2Proof/Certificates/Slice0/Obligations.lean ====
section
/-! DEFINITION. The statements for the provers, from the numbered rules of spec/. Each conclusion of the form
`exec c s = .next (s.close t)` says that the command completes with exactly the effect `t`: every part of the state that `t`
does not change is as `s` has it, and `CloseLeavesTheCommandsEffect` says what closing adds. -/

open Sys2Proof Sys2Proof.Machine

/-! ### The machine -/

/-- Step takes the command at the front of the queue and is `exec` of it on the state with the queue's rest; with none
waiting it is one CK_CORE cycle (the idle cycle is the model's choice, log entry 1). -/
def Obligations.StepRunsTheFrontCommand : Prop :=
  (∀ (s : State) (c : Instr) (rest : List Instr),
    step { s with pending := c :: rest } = exec c { s with pending := rest }) ∧
  (∀ s : State, s.pending = [] → step s = .next (s.close s.tick))

/-- Every command, whatever its operands, answers a next state from every state, and leaves the queue to the step. What
each command does is stated by the statements that follow; that a command with operands that no packet, record or
register can hold runs too is the model's choice (log entry 2). -/
def Obligations.EveryCommandCompletes : Prop :=
  ∀ (c : Instr) (s : State), ∃ t, exec c s = .next t ∧ t.pending = s.pending

/-- R10, Table 15-6, kept by every step from every state: EVENT_N is low exactly while the load is over (CFG_STAT.STATE
DONE or DEFAULTED) and a flag and its enable bit are both 1 in some flag register of the machine; until the load is
over it is high. -/
def Obligations.EventPinFollowsTheFlagsAfterEveryStep : Prop :=
  ∀ s s' : State, step s = .next s' → s'.eventInv

/-- The state after power-on reset satisfies the condition that every step keeps for EVENT_N: no flag is set and EVENT_N
is high; the contents of DRAM are in canonical form and the queue is empty. The model's choices and readings in
these clauses, no rules of the spec: what the units hold beyond their registers is empty at reset (log entry 9). -/
def Obligations.EventPinAfterReset : Prop :=
  State.reset.eventInv ∧ State.reset.eventN = true ∧ Memory.wf State.reset.dram.mem = true ∧
    State.reset.pending = []

/-- R267, Table 13-1: every step leads from every state to one in which, while the block is out of system reset with its
clocks running, DRAM_GEOM.SIZE shows the capacity that WIDTH, DENS and RANKS name. Where Table 13-1 has no row for
them SIZE is 0: the model's choice (DESIGN CHOICE, log entry 35). -/
def Obligations.DramSizeFollowsTheGeometry : Prop :=
  ∀ s s' : State, step s = .next s' → s'.sizeInv

/-- R303: in a system reset every command leaves everything as it was but EVENT_N, which follows the flags, except those
that `actsInReset` names: of resets, clocks, supplies, the Stump, the fault recorder, the removal request and the
test access port. R303 says that the chip takes no event then; which commands act all the same is the model's
reading (log entry 25). -/
def Obligations.SystemResetTakesNothing : Prop :=
  ∀ (c : Instr) (s : State), s.sys.held = true → actsInReset c = false →
    exec c s = .next { s with eventN := !s.eventNLow }

/-- Where nothing is due by itself (`State.calm` lists what could be), the end of a command changes EVENT_N and the
field SIZE of DRAM_GEOM alone: every other word of the register file, the other fields of DRAM_GEOM, every byte of
DRAM and every unit's state stay as the command's own effect left them, and the queue is what it was before the
command. -/
def Obligations.CloseLeavesTheCommandsEffect : Prop :=
  ∀ s t : State, t.calm = true →
    (∀ a, a ≠ DRAM_GEOM.at 0 → (s.close t).word a = t.word a) ∧
    (∀ f ∈ [DRAM_GEOM.WIDTH, DRAM_GEOM.DENS, DRAM_GEOM.RANKS], (s.close t).fld f = t.fld f) ∧
    (∃ regs, s.close t = { t with regs := regs, eventN := !t.eventNLow, pending := s.pending })

/-- One CK_CORE cycle with no command waiting (an idle step is one cycle: the model's choice, log entry 1). R7, R323:
with the oscillator running SYS_HOLD counts 32.768 kHz out of CK_CORE. Without the root lock nothing else happens.
With it the cycle is counted; the position estimate and its velocity stay, what they projected in this cycle is
kept, and the projection advances by one cycle, at most 63, while the position unit is not OFF (R38); POS_FWD
follows pos_out forwards; outside a system reset network time advances by TADDEND (R238). With no display driven
nothing else but POS_FLAG.REVERSE, with its stamp, event and counter, can change. A scanning display advances by one
cycle within a line, fetches and shows at a new line, and starts its next frame after its last line; a blanked,
driven one runs on its pixel clock; one not driven stays (R378, R384). Queued Ethernet frames whose time has come go
out (R240). The model's choices and readings in these clauses, no rules of the spec: a time between events is an
operand (log entry 4); OFF freezes the whole estimate (log entry 37); the frame that blanks counts and latches (log
entry 81); when a frame starts and its lines are fetched (log entry 212). -/
def Obligations.IdleCycleAdvancesWhatTimeDrives : Prop :=
  (∀ (s : State), (∀ t : State, step { s with pending := [] } = .next t → t = ({ s with pending := [] } : State).close
     ({ s with pending := [] } : State).tick)) ∧
  (∀ (s : State), s.on SYS_CLKSTAT.ROOT_LOCK = false → s.tick = s.holdTick) ∧
  (∀ (s : State), s.on SYS_CLKSTAT.OSC_OK = true → s.on SYS_AONCTL.OSC_EN = true → (s.holdAcc + 32768 < 1200000000 →
     s.holdTick = { s with holdAcc := s.holdAcc + 32768 }) ∧ (1200000000 ≤ s.holdAcc + 32768 → s.holdTick = { s with regs := (s.setReg SYS_HOLD (s.reg SYS_HOLD + 1)).regs, holdAcc := s.holdAcc + 32768 - 1200000000 })) ∧
  (∀ (s : State), s.on SYS_CLKSTAT.OSC_OK = false → s.holdTick = s) ∧
  (∀ (s : State), s.on SYS_CLKSTAT.ROOT_LOCK = true → (
     let t := s.tick;
     t.cycle = s.cycle + 1 ∧ t.pos.est = s.pos.est ∧ t.pos.vel = s.pos.vel ∧ t.pos.was = (s.pos.est, s.pos.vel,
       s.pos.k) ∧ t.pos.k = (if s.pos.k < 63 ∧ s.posState ≠ 0 then s.pos.k + 1 else s.pos.k) ∧ t.net = (if
       s.sys.held then s.net else { s.net with time := timeMod (s.net.time + (s.reg ETH_TADDEND).toNat) }))) ∧
  (∀ (s : State), s.on SYS_CLKSTAT.ROOT_LOCK = true → s.pos.k < 63 → s.posState ≠ 0 → (
     let p := projected s.pos.est s.pos.vel (s.pos.k + 1 + s.latComp);
     s.tick.pos.fwd = if after (s.fwdCoord p) (s.fwdCoord s.pos.fwd) then p else s.pos.fwd)) ∧
  (∀ (s : State), (s.dout 0).scanning = false → (s.dout 0).driven = false → (s.dout 1).scanning = false → (s.dout
     1).driven = false → (∃ regs cycle holdAcc pos net evt hlnk, s.tick = { s with regs := regs, cycle := cycle, holdAcc := holdAcc, pos := pos, net := net, evt := evt, hlnk := hlnk })
     ∧ (∀ a, (∀ r ∈ [SYS_HOLD, POS_FLAG, HLNK_FLAG], a ≠ r.at 0) → (∀ i, a ≠ TALLY_CNT.at i) → s.tick.word a = s.word
     a)) ∧
  (∀ (s : State) (o : Fin 2), (s.dout o).scanning = false → s.dispTick o = if (s.dout o).driven then s.setDout o { s.dout o with tick := ((s.dout o).tick + 1) % s.pixTicks o }
     else s) ∧
  (∀ (s : State) (o : Fin 2) (d : DOut), s.dout o = d → d.scanning = true → s.pixTicks o * s.htot o * s.vtot o ≤ d.tick
     + 1 → s.dispTick o = s.frameLatch o) ∧
  (∀ (s : State) (o : Fin 2) (d : DOut) (t : State), s.dout o = d → d.scanning = true → d.tick + 1 < s.pixTicks o *
     s.htot o * s.vtot o → t = s.setDout o { d with tick := d.tick + 1 } → s.dispTick o = if t.dispLine o = s.dispLine
     o then t else t.dispNewLine o (t.dispLine o)) ∧
  (∀ (s : State), s.macRuns = true → s.launchFrames = { s with out := s.out ++ (s.net.txq.filter fun x => decide (x.1 ≤ s.net.time)).map (fun x => Out.ethFrame x.2), net := { s.net with txq := s.net.txq.filter fun x => decide (s.net.time < x.1) } }) ∧
  (∀ (s : State), s.macRuns = false → s.launchFrames = s)

/-- R8, R9, R45, R261: an occurrence of a flag's condition sets its bit and adds one to its Tally counter, modulo 2^40;
every other register word and bit stays. Where the flag was clear, the stamp, INFO and UNCERTAIN of the occurrence
are kept; where it was clear and its enable bit is 1, one EVENT packet with these and the new count is queued,
otherwise none. A flag that a write of this cycle cleared counts as set (R8; what the cycle of a write is: the
model's reading, log entry 208; the stamp where a chapter gives none: log entry 183). R262: with 511 packets queued
the packet is discarded and HLNK_FLAG.EVQ_OVF is set and counted; the last entry takes the packet of EVQ_OVF itself,
where that flag was clear and is enabled. -/
def Obligations.RaisingAFlagMarksItAndItsCounter : Prop :=
  (∀ (s : State) (f : Fld) (i k : Nat) (st : Option Word) (info : Word) (r : FlagRow), flagRow? f.reg = some r → i <
  max r.flag.n1 1 → f.lo + k < 40 → (s.hlnk.evq.length < 511 ∨ (s.reg r.en i).getLsbD (f.lo + k) = false ∨ (s.reg
  f.reg i).getLsbD (f.lo + k) = true) → (
     let u := s.raiseAt f i k st info;
     let t := r.base + i * r.stride + (f.lo + k);
     let was := (s.reg f.reg i).getLsbD (f.lo + k) || s.clearing t;
     (u.reg f.reg i).getLsbD (f.lo + k) = true ∧ u.reg TALLY_CNT t = s.reg TALLY_CNT t + 1 ∧ (∀ a, a ≠ f.reg.at i →
       a ≠ TALLY_CNT.at t → u.word a = s.word a) ∧ (∀ b, b ≠ f.lo + k → (u.reg f.reg i).getLsbD b = (s.reg f.reg
       i).getLsbD b) ∧ u.evt = (if was then s.evt else SMap.set (0, 0, false) s.evt t (st.getD s.posOut, info,
       s.uncertain)) ∧ u.hlnk = (if (s.reg r.en i).getLsbD (f.lo + k) && !was then
       { s.hlnk with evq := s.hlnk.evq ++ [⟨t, s.uncertain, st.getD s.posOut, info, s.reg TALLY_CNT t + 1⟩] } else
       s.hlnk) ∧ (∃ regs evt hlnk, u = { s with regs := regs, evt := evt, hlnk := hlnk }))) ∧
  (∀ (s : State) (f : Fld) (i k : Nat) (st : Option Word) (info : Word) (r : FlagRow) (t : Nat), flagRow? f.reg = some
  r → i < max r.flag.n1 1 → f.lo + k < 40 → t = r.base + i * r.stride + (f.lo + k) → t ≠ evqOvfIdx → 511 ≤
  s.hlnk.evq.length → (s.reg r.en i).getLsbD (f.lo + k) = true → (s.reg f.reg i).getLsbD (f.lo + k) = false →
  s.clearing t = false → (
     let u := s.raiseAt f i k st info;
     let ovf := s.on HLNK_FLAG.EVQ_OVF || s.clearing evqOvfIdx;
     (u.reg f.reg i).getLsbD (f.lo + k) = true ∧ u.on HLNK_FLAG.EVQ_OVF = true ∧ u.reg TALLY_CNT t = s.reg
       TALLY_CNT t + 1 ∧ u.reg TALLY_CNT evqOvfIdx = s.reg TALLY_CNT evqOvfIdx + 1 ∧ (∀ a, a ≠ f.reg.at i → a ≠
       HLNK_FLAG.at 0 → a ≠ TALLY_CNT.at t → a ≠ TALLY_CNT.at evqOvfIdx → u.word a = s.word a) ∧ u.hlnk = (if s.on
       HLNK_FLAGEN.EVQ_OVF && !ovf && decide (s.hlnk.evq.length < 512) then
       { s.hlnk with evq := s.hlnk.evq ++ [⟨evqOvfIdx, s.uncertain, s.posOut, 0, s.reg TALLY_CNT evqOvfIdx + 1⟩] }
       else s.hlnk) ∧ (∃ regs evt hlnk, u = { s with regs := regs, evt := evt, hlnk := hlnk }))) ∧
  (∀ (s : State) (e : EvtPkt) (t : State), s.hlnk.evq.length = 512 → e.idx ≠ evqOvfIdx → t = s.queueEvent e →
     t.hlnk.evq = s.hlnk.evq ∧ t.on HLNK_FLAG.EVQ_OVF = true)

/-- R4: a write stored under the access codes: an RW, RWL or RWS field takes the written value, a 1 clears a W1C bit and
a 0 leaves it, RO and WO fields stay, and so do reserved bits; every other register word stays. It holds of every
element of every register, and of each origin's copy of a banked one (the copy at the address with the origin's
number above bit 24: the model's layout, R159). -/
def Obligations.StoreObeysTheAccessCodes : Prop :=
  ∀ (s : State) (r : Reg) (i j : Nat) (w : Word), regAt r i j = true → (
    let u := s.store r i j w;
    (∀ f ∈ fieldsAt (r.at i j), match f.acc with
    | .rw => u.fld f i j = f.ext w
    | .rwl => u.fld f i j = f.ext w
    | .rws => u.fld f i j = f.ext w
    | .ro => u.fld f i j = s.fld f i j
    | .wo => u.fld f i j = s.fld f i j
    | .w1c => u.fld f i j = f.ext (s.reg r i j &&& ~~~ w)) ∧ (∀ b, (∀ f ∈ fieldsAt (r.at i j), f.mask.getLsbD b =
      false) → (u.reg r i j).getLsbD b = (s.reg r i j).getLsbD b) ∧ (∀ a, a ≠ r.at i j → u.word a = s.word a) ∧ (∃
      regs, u = { s with regs := regs }))

/-! ### Register file and job queue -/

/-- R4, R154 to R156: REGISTER_WRITE. A write to an address that names no register sets TXN_FLAG.ADDR_ERR. A write to an
isolated register takes no effect there and counts one access of the block whose wrapper drains or is off; where the
register belongs to no block nothing happens. With a transaction of the sender open, a write to a register with RWS
fields is staged. Every other write is a direct one: RWS fields keep their value, and where that changes the written
word DIRECT_WR is raised; RWL fields keep theirs outside the block reset, and where that changes the word RWL_REJ is
raised; what is left of the word is delivered to the register, or to the sender's copy of a banked one. Delivery
stores it under the access codes in a register with no effect of its own, in a flag enable register besides queues
an EVENT packet for each bit written 1 whose flag is set, also where the bit was 1 already (the model's choice, log
entry 30), and in a flag register besides keeps which flags it cleared in its cycle (R8; log entry 208) and, once no
flag of HLNK_ERRINFO is left, lets that register record again (log entry 209). That a refused access is counted only
where the register has a block wrapper is the model's choice (log entry 27), and so is ADDR_ERR for any unmapped
access (log entry 28). The model's choices and readings in these clauses, no rules of the spec: what acts in a
system reset (log entry 25); a held Warden core makes no access (log entry 26); BAR_CFG.ROLE opens with both blocks
held (log entry 119). -/
def Obligations.RegisterWriteActsOnEachField : Prop :=
  (∀ (s : State) (o : Sender) (a : BitVec 24) (w : Word), s.maySend o = true → regRow? a.toNat = none → exec
     (.registerWrite o a w) s = .next (s.close (s.raise TXN_FLAG.ADDR_ERR))) ∧
  (∀ (s : State) (o : Sender) (a : BitVec 24) (w : Word) (b : Nat), s.maySend o = true → regRow? a.toNat ≠ none →
     s.regIso a.toNat = true → regBlk a.toNat = some b → exec (.registerWrite o a w) s = .next (s.close (s.isoCount b
     1))) ∧
  (∀ (s : State) (o : Sender) (a : BitVec 24) (w : Word), s.maySend o = true → regRow? a.toNat ≠ none → s.regIso
     a.toNat = true → regBlk a.toNat = none → exec (.registerWrite o a w) s = .next (s.close (s))) ∧
  (∀ (s : State) (o : Sender) (a : BitVec 24) (w : Word) (row : RegRow) (i j : Nat), s.maySend o = true → regRow?
     a.toNat = some (row, i, j) → s.regIso a.toNat = false → s.txnOpen o.origin = true → row.fields.any (fun f => f.acc
     == .rws) = true → exec (.registerWrite o a w) s = .next (s.close (s.stage (originNum o.origin) a.toNat w false))) ∧
  (∀ (s : State) (o : Sender) (a : BitVec 24) (w : Word) (row : RegRow) (i j : Nat), s.maySend o = true → regRow?
  a.toNat = some (row, i, j) → s.regIso a.toNat = false → (s.txnOpen o.origin && row.fields.any (fun f => f.acc ==
  .rws)) = false → 
     let old := s.word (bankAddr o.origin row a.toNat);
     let n := bankAddr o.origin row a.toNat % 2 ^ 24;
     let fs := row.fieldsOf (bankAddr o.origin row a.toNat);
     let w1 := keepFields .rws fs old w;
     let t := s.when (w1 != w) (·.directWrite o.origin n);
     let w2 := if t.rwlOpen n then w1 else keepFields .rwl fs old w1;
     let u := t.when (w2 != w1) (·.rwlReject o.origin n);
     exec (.registerWrite o a w) s = .next (s.close (u.deliver o.origin row.reg (if row.reg.s1 = 2 ^ 24 then
       originNum o.origin else i) j w2))) ∧
  (∀ (s : State) (o : Origin) (r : Reg) (i j : Nat) (w : Word), ordinaryReg r = true → s.deliver o r i j w = s.store r
     i j w) ∧
  (∀ (s : State) (o : Origin) (r : Reg) (i j : Nat) (w : Word) (f : FlagRow), flagOfEn? r = some f → (
     let u := s.store f.en i j w;
     s.deliver o r i j w = forTo 16 (fun b t => t.when ((u.reg f.en i &&& w &&& u.reg f.flag i).getLsbD b) fun t =>
       t.queueEvent (t.evtOf (f.base + i * f.stride + b))) u)) ∧
  (∀ (s : State) (o : Origin) (r : Reg) (i j : Nat) (w : Word) (f : FlagRow) (t : State), flagRow? r = some f → t =
  s.store r i j w → s.deliver o r i j w = (
     let u := t.noteClear f i (s.reg r i &&& ~~~ t.reg r i);
     if r = HLNK_FLAG ∧ u.hdrFault = false then u.hlUpd (fun h => { h with errCap := false }) else u)) ∧
  (∀ (s : State) (f : FlagRow) (i : Nat) (gone : Word) (l : List Nat), l = (((List.range 16).filter fun b =>
     gone.getLsbD b).map fun b => f.base + i * f.stride + b) → l ≠ [] → s.noteClear f i gone = { s with clrNow := (s.cycle, (if s.clrNow.1 = s.cycle then s.clrNow.2 else []) ++ l) })

/-- R256, R16, R19, R20. JOBDESC: in UP, an in-order undamaged packet of four words within its credit advances RX_NEXT
and its descriptor is taken; while the link is still UP its ACK and its credit go out. A valid job descriptor, with
room in the queue, is placed as the next entry, not released; a valid page descriptor is placed as the next entry
and, where no job descriptor waits, released to the data path; a full queue sets OVERRUN; an invalid descriptor sets
DESC_INVALID and fails the job it belongs to or follows (`State.descInvalid`). JOBQ_RELEASE: a write of REL_IDX one
past a job descriptor releases that job, and the front job starts where it may; any other value is ignored. R24:
JOBQ_FLUSH with a job in progress fails the job with cause 0x0A and empties the queue; with none it empties the
queue and writes ENABLE. JOBQ_ENABLE with FLUSH 0 writes ENABLE. Writing ENABLE takes FAILED back to IDLE when
ENABLE rises, and starts a released job at the front where it may. The model's choices and readings in these
clauses, no rules of the spec: a command out of its state changes nothing (log entry 6); a released job starts while
the last one drains (log entry 42); FLUSH acts before ENABLE (log entry 71); when a queue entry is freed (log entry
151); the job an invalid descriptor belongs to (log entry 152). -/
def Obligations.JobDescriptorIsQueuedAndReleased : Prop :=
  (∀ (s : State) (seq : BitVec 8) (words : List Word), s.awake = true → s.hlState = 3 → words.length = 4 → seq.toNat =
     s.fld HLNK_SEQ.RX_NEXT → (s.countIn 1 6).overCredit 1 0 = false → exec (.jobdesc seq words .none) s = .next
     (s.close ((((s.countIn 1 6).setFld HLNK_SEQ.RX_NEXT ((seq.toNat + 1) % 256)).jobdesc (words.getD 0 0) (words.getD
     1 0) (words.getD 2 0) (words.getD 3 0)).tookPkt 1 6))) ∧
  (∀ (s : State) (w0 w1 w2 w3 : Word) (d : JobDesc), s.jq.q.length < 64 → parseDesc w0 w1 w2 w3 = .job d → s.jobDescOk
  d w0 w1 w2 w3 = true → (
     let t := s.jobdesc w0 w1 w2 w3;
     t = s.enqueue (fun i => .job i d false) ∧ t.jq.q = s.jq.q ++ [.job (s.fld SYS_JOBQ_STAT.WR_IDX) d false] ∧
       t.fld SYS_JOBQ_STAT.WR_IDX = (s.fld SYS_JOBQ_STAT.WR_IDX + 1) % 128 ∧ t.fld SYS_JOBQ_STAT.FILL =
       s.jq.q.length + 1)) ∧
  (∀ (s : State) (w0 w1 w2 w3 : Word) (d : PageDesc), s.jq.q.length < 64 → parseDesc w0 w1 w2 w3 = .page d →
  s.pageDescOk d w3 = true → (
     let t := s.enqueue (fun i => .page i d);
     t.jq.q = s.jq.q ++ [.page (s.fld SYS_JOBQ_STAT.WR_IDX) d] ∧ s.jobdesc w0 w1 w2 w3 = if (lastJob s.jq.q).isSome
       then t else t.releasePage d)) ∧
  (∀ (s : State) (w0 w1 w2 w3 : Word), 64 ≤ s.jq.q.length → s.jobdesc w0 w1 w2 w3 = s.raise SYS_JOBQ_FLAG.OVERRUN) ∧
  (∀ (s : State) (w0 w1 w2 w3 : Word), s.jq.q.length < 64 → parseDesc w0 w1 w2 w3 = .bad → s.jobdesc w0 w1 w2 w3 =
     s.descInvalid none) ∧
  (∀ (s : State) (w0 w1 w2 w3 : Word) (d : JobDesc), s.jq.q.length < 64 → parseDesc w0 w1 w2 w3 = .job d → s.jobDescOk
     d w0 w1 w2 w3 = false → s.jobdesc w0 w1 w2 w3 = s.descInvalid none) ∧
  (∀ (s : State) (w0 w1 w2 w3 : Word) (d : PageDesc), s.jq.q.length < 64 → parseDesc w0 w1 w2 w3 = .page d →
     s.pageDescOk d w3 = false → s.jobdesc w0 w1 w2 w3 = s.descInvalid (some d.jobId)) ∧
  (∀ (s : State) (o : Sender) (w : Word) (e : QEnt), s.reaches o SYS_JOBQ_REL = true → e ∈ s.jq.q → e.isJob = true →
  (e.idx + 1) % 128 = SYS_JOBQ_REL.REL_IDX.ext w → 
     exec (.jobqRelease o w) s = .next (s.close (((s.setFld SYS_JOBQ_REL.REL_IDX (SYS_JOBQ_REL.REL_IDX.ext
       w)).setQueue (s.jq.q.map fun x => match x with
     | .job i d r => if (i + 1) % 128 = SYS_JOBQ_REL.REL_IDX.ext w then .job i d true else .job i d r
     | .page i d => .page i d)).tryStart))) ∧
  (∀ (s : State) (o : Sender) (w : Word), s.reaches o SYS_JOBQ_REL = true → s.jq.q.all (fun e => !e.isJob || (e.idx +
     1) % 128 != SYS_JOBQ_REL.REL_IDX.ext w) = true → exec (.jobqRelease o w) s = .next (s.close (s))) ∧
  (∀ (s : State) (o : Sender) (w : Word), s.reaches o SYS_JOBQ_CTL = true → s.jobRuns = true → exec (.jobqFlush o w) s
     = .next (s.close ((s.failNow 10).setQueue []))) ∧
  (∀ (s : State) (o : Sender) (w : Word), s.reaches o SYS_JOBQ_CTL = true → s.jq.job = none → s.jobRuns = false → 
     let u := (s.setQueue []).setFld SYS_JOBQ_CTL.ENABLE (SYS_JOBQ_CTL.ENABLE.ext w);
     exec (.jobqFlush o w) s = .next (s.close ((u.when ((SYS_JOBQ_CTL.ENABLE.ext w == 1) && !s.on
       SYS_JOBQ_CTL.ENABLE && s.jobState == 4) (·.setJobState 0)).tryStart))) ∧
  (∀ (s : State) (o : Sender) (w : Word), s.reaches o SYS_JOBQ_CTL = true → SYS_JOBQ_CTL.FLUSH.ext w = 0 → 
     let u := s.setFld SYS_JOBQ_CTL.ENABLE (SYS_JOBQ_CTL.ENABLE.ext w);
     exec (.jobqEnable o w) s = .next (s.close ((u.when ((SYS_JOBQ_CTL.ENABLE.ext w == 1) && !s.on
       SYS_JOBQ_CTL.ENABLE && s.jobState == 4) (·.setJobState 0)).tryStart)))

/-- R22, R23: UNDERRUN with a current page whose start is known (in scan mode, with the swath of its last line armed)
and the job's LAST page not released sets UNDERRUN and fails the job with cause 0x07 at the next line. R46:
PM_MISSING sets POS_FLAG.PM_MISSING once while the next page to open waits for its mark after a page that has ended,
with WIN not 0. R92: ROW_CLEAR empties the rows whose tag lies before the first line that a failed or ended job left
to be cleared. A job's failure leaves no job and no drain span in force and STATE FAILED; where JOB_FAILED was clear
its record holds cause, job, page and stamp; JOB_FAILED is set and ENABLE is 0. The model's choices and readings in
these clauses, no rules of the spec: a command out of its state changes nothing (log entry 6). -/
def Obligations.JobEventsFailAndClear : Prop :=
  (∀ (s : State) (j : Job) (p : JPage), s.awake = true → s.jq.job = some j → s.currentPage = some p → j.lastSeen =
     false → p.start.isSome = true → s.swathLeft = false → exec .underrun s = .next (s.close ((s.raise
     SYS_JOBQ_FLAG.UNDERRUN).failNow 7))) ∧
  (∀ (s : State) (w : JPage), s.awake = true → w ∈ s.planPages.jobPages → w.ph = .waiting → w.d.mark = 2 → w.start =
     none → s.planPages.nextToOpen w = true → (s.planPages.prevEnd w).any (·.isSome) = true → s.planPages.on POS_PM.WIN
     = true → s.planPages.jq.pmMissed = false → exec .pmMissing s = .next (s.close ((s.planPages.raise
     POS_FLAG.PM_MISSING).jqUpd fun q => { q with pmMissed := true }))) ∧
  (∀ (s : State) (x : RowClr), s.awake = true → firstClr s.jq.clears = some x → exec .rowClear s = .next (s.close
     ((s.clearBefore x.line).jqUpd fun q => { q with clears := q.clears.erase x }))) ∧
  (∀ (l : List RowClr) (x y : RowClr), firstClr l = some x → l.length = 2 → y ∈ l → x ∈ l ∧ (y = x ∨ lineAfter x.line
     y.line = false)) ∧
  (∀ (s : State) (j : Job) (cause n : Nat), s.jq.job = some j → (s.failJob cause n).jq.job = none ∧ (s.failJob cause
     n).jq.drain = none ∧ (s.failJob cause n).jobState = 4) ∧
  (∀ (s : State) (cause jobId pageNo : Nat) (stamp : Word), s.on SYS_JOBQ_FLAG.JOB_FAILED = false → (
     let t := s.recordFail cause jobId pageNo stamp;
     t.fld SYS_JOBQ_FAIL.CAUSE = cause % 2 ^ SYS_JOBQ_FAIL.CAUSE.width ∧ t.fld SYS_JOBQ_FAIL.JOB_ID = jobId % 2 ^
       16 ∧ t.fld SYS_JOBQ_FAIL.PAGE_NO = pageNo % 2 ^ 16 ∧ t.reg SYS_JOBQ_FAILPOS = stamp)) ∧
  (∀ (s : State) (cause jobId pageNo : Nat) (stamp : Word), (
     let t := s.recordFail cause jobId pageNo stamp;
     t.on SYS_JOBQ_FLAG.JOB_FAILED = true ∧ t.fld SYS_JOBQ_CTL.ENABLE = 0))

/-- R4, R154, R155, Table 08-1: a read of an address that names no register sets TXN_FLAG.ADDR_ERR and answers status 1
with 0 (that a read sets the flag too is the reading of log entry 28). A read of an isolated register counts one
access of the block whose wrapper drains or is off (where it has one: log entry 27) and answers status 2 with 0. A
register whose read has no effect of its own answers status 0 with the word it holds, a banked one with the sender's
own copy, and changes nothing. WO and reserved bits read 0: reset holds 0 in them and no write stores them (how the
model meets the rule: log entry 140). POS_NOW answers pos_out, POS_FWD the forward position; a read of POS_PROBEFIFO
takes the oldest entry; ETH_TIME_S answers the low 40 bits of the seconds and latches the rest and the nanoseconds
for ETH_TIME_NS. R158, R434: TALLY_SNAPSHOT copies every counter of the Tally into the snapshot store and records
pos_out in TALLY_SNAPPOS; nothing else of the state changes. SNAPDATA_READ answers the counter at IDX as the
snapshot holds it, and advances IDX by one, modulo its width, where AUTOINC is 1. The model's choices and readings
in these clauses, no rules of the spec: a row that reads a window is a bus read (log entry 23); a held Warden core
makes no access (log entry 26). -/
def Obligations.RegisterReadsAnswerAndTheSnapshotHolds : Prop :=
  (∀ (s : State) (o : Origin) (a : Nat), regRow? a = none → s.busRead o a = (s.raise TXN_FLAG.ADDR_ERR, .unmapped, 0) ∧
     AccStat.unmapped.code = 1) ∧
  (∀ (s : State) (o : Origin) (a b : Nat), regRow? a ≠ none → s.regIso a = true → regBlk a = some b → s.busRead o a =
     (s.isoCount b 1, .isolated, 0) ∧ AccStat.isolated.code = 2) ∧
  (∀ (s : State) (o : Origin) (a : Nat), regRow? a ≠ none → s.regIso a = true → regBlk a = none → s.busRead o a = (s,
     .isolated, 0)) ∧
  (∀ (s : State) (b : Nat), s.isoCount b 1 = (s.setReg SYS_ISOCNT (s.reg SYS_ISOCNT b + 1) b).raise SYS_FLAG.ISO_ERR) ∧
  (∀ (s : State) (o : Origin) (r : Reg) (i j : Nat), namedAt r i j = true → s.regIso (r.at i j) = false → s.readSpecial
     r i = none → s.busRead o (r.at i j) = (s, .ok, s.reg r i j) ∧ AccStat.ok.code = 0) ∧
  (∀ (s : State) (o : Sender) (a : Nat) (row : RegRow) (i j : Nat), regRow? a = some (row, i, j) → row.reg.s1 = 2 ^ 24
     → s.regIso a = false → s.busRead o.origin a = (s, .ok, s.reg row.reg (originNum o.origin) j)) ∧
  (∀ (r : Reg) (i j b : Nat), regAt r i j = true → (∀ f ∈ fieldsAt (r.at i j), f.acc ≠ .wo → f.mask.getLsbD b = false)
     → (State.reset.reg r i j).getLsbD b = false ∧ (∀ (s : State) (w : Word), (s.reg r i j).getLsbD b = false →
     ((s.store r i j w).reg r i j).getLsbD b = false)) ∧
  (∀ (s : State) (o : Sender), s.regIso (POS_NOW.at 0) = false → s.busRead o.origin (POS_NOW.at 0) = (s, .ok, s.posOut)
     ∧ s.busRead o.origin (POS_FWD.at 0) = (s, .ok, s.pos.fwd)) ∧
  (∀ (s : State) (o : Sender) (p : Fin 2) (w : Word) (e : Bool) (l : List (Word × Bool)), s.regIso (POS_PROBEFIFO.at p)
     = false → s.probeFifo p = (w, e) :: l → s.busRead o.origin (POS_PROBEFIFO.at p) = (s.setProbeFifo p l, .ok, w)) ∧
  (∀ (s : State) (o : Sender), s.regIso (ETH_TIME_S.at 0) = false → s.busRead o.origin (ETH_TIME_S.at 0) = ({ s with net := { s.net with latch := Word.of (s.timeS / 2 ^ 40 * 2 ^ 32 + s.timeNs) } },
     .ok, Word.of s.timeS) ∧ s.busRead o.origin (ETH_TIME_NS.at 0) = (s, .ok, s.net.latch)) ∧
  (∀ (s : State) (o : Sender), s.reaches o TALLY_SNAPCTL = true → ∃ t, exec (.tallySnapshot o) s = .next (s.close t) ∧
     (∀ i < 2048, SMap.get 0 t.txn.snap (TALLY_CNT.at i) = s.reg TALLY_CNT i) ∧ t.reg TALLY_SNAPPOS = s.posOut ∧ (∀ a,
     a ≠ TALLY_SNAPPOS.at 0 → t.word a = s.word a) ∧ t = { s with regs := t.regs, txn := { s.txn with snap := t.txn.snap } }) ∧
  (∀ (s : State) (o : Sender), s.reaches o TALLY_SNAPDATA = true → s.on TALLY_SNAPIDX.AUTOINC = true → exec
     (.snapdataRead o) s = .next (s.close ((s.setFld TALLY_SNAPIDX.IDX (s.fld TALLY_SNAPIDX.IDX + 1)).emit (.regData 0
     (SMap.get 0 s.txn.snap (TALLY_CNT.at (s.fld TALLY_SNAPIDX.IDX))))))) ∧
  (∀ (s : State) (o : Sender), s.reaches o TALLY_SNAPDATA = true → s.on TALLY_SNAPIDX.AUTOINC = false → exec
     (.snapdataRead o) s = .next (s.close (s.emit (.regData 0 (SMap.get 0 s.txn.snap (TALLY_CNT.at (s.fld
     TALLY_SNAPIDX.IDX)))))))

/-! ### Firing engine and Kerf ports -/

/-- R97, Table 01-3, Table 06-2: LINE_DECISION while the position moves (ACQUIRE or LOCKED). Outside a swath it takes,
for the next line n to be decided, the steps in order: the end of a drain span, a bar-wide snapshot due, the page-
mark changes of a page that opens here unprepared, commits, page and job boundaries, the thermal limits, the checks
of Table 05-2, then the end of the job whose last line n is, the preparation of changes for line n + 1, and the
assembly of line n + 1. In a swath that is armed or running it takes for swath line q the snapshot, commits, the
comparison of GEN, a failure due and the thermal limits; if the job is still in force then after the last line of
the swath the swath ends, and on any other line the checks are made and line q + 1 is assembled. In FEED and HELD no
decision acts. An uncorrectable bank error reported with the decision is then handled; the cycles since the last
launched line advance by the time given. While the position stands still nothing happens. The model's choices and
readings in these clauses, no rules of the spec: a time between events is an operand (log entry 4); a command out of
its state changes nothing (log entry 6); check 1 records no FIRE_GINFO (log entry 57); the assembly a decision tests
(log entry 58); COLLIDE and RMAP_RANGE are raised once a line (log entry 59); which ports are assembled outside a
job (log entry 60); what the thermal controller captures without a port (log entry 67); which end is print end (log
entry 88); a voting slot counts as armed (log entry 195); decisions restart from the position after a scan job (log
entry 197). -/
def Obligations.LineDecisionRunsTheStepsOfTheTable : Prop :=
  (∀ (s : State) (dt : Nat) (f : LineFaults), s.awake = true → s.pdOn 4 = true → s.moves = true → s.inScan = false → 
     let n := s.pos.nextDec;
     let u : State := { s with fire := { s.fire with sinceLaunch := s.fire.sinceLaunch.map (· + dt) } };
     let v := ((((((((u.drainOver n).snapAt n).markLate n).commitAt n).boundary n).thermal n).lineChecks
       n).bumpLine false n).jobDoneAt n;
     let w := v.prepareFor (lineMod (n + 1)) (v.opening (lineMod (n + 1))).isSome;
     exec (.lineDecision dt f) s = .next (s.close ((w.assemble (lineMod (n + 1)) (w.check1 (lineMod (n + 1)) ||
       (v.opening (lineMod (n + 1))).isSome) f).when f.bankEcc (·.bankEcc)))) ∧
  (∀ (s : State) (dt : Nat) (f : LineFaults), s.awake = true → s.pdOn 4 = true → s.moves = true → s.inScan = true →
  s.fld FIRE_SCANSTAT.SSTATE ≠ 1 → s.fld FIRE_SCANSTAT.SSTATE ≠ 2 → 
     let u : State := { s with fire := { s.fire with sinceLaunch := s.fire.sinceLaunch.map (· + dt) } };
     exec (.lineDecision dt f) s = .next (s.close (u.when f.bankEcc (·.bankEcc)))) ∧
  (∀ (s : State) (dt : Nat) (f : LineFaults), s.awake = true → s.pdOn 4 = true → s.moves = true → s.inScan = true →
  (s.fld FIRE_SCANSTAT.SSTATE = 1 ∨ s.fld FIRE_SCANSTAT.SSTATE = 2) → 
     let u : State := { s with fire := { s.fire with sinceLaunch := s.fire.sinceLaunch.map (· + dt) } };
     let q := s.scan.swathLine;
     let t := ((((u.snapAt q).commitSwath q).genCheck q).dueFail q).thermal q;
     let x := ((t.swathStep q).lineChecks q).bumpLine true q;
     let v := if !t.inScan then t else if q < 2 ^ 23 ∧ t.qEnd < q then t.swathEnd.when (passLast t.entryNow) fun y
       => if y.fld SYS_HPSTAT.HSTATE = 1 ∧ y.fld SYS_HPCFG.END = 1 then y.hpFlush.hpPrintEnd else y else if
       x.inScan then x.assemble (lineMod (q + 1)) true f else x;
     exec (.lineDecision dt f) s = .next (s.close (v.when f.bankEcc (·.bankEcc)))) ∧
  (∀ (s : State) (dt : Nat) (f : LineFaults), s.awake = true → s.moves = false → exec (.lineDecision dt f) s = .next
     (s.close (s)))

/-- Table 05-2, R98, R99: the checks for line n, the first that fails deciding (`State.check1` says which lines are
tested). A line whose assembly failed is discarded and fails the job with its cause. An enabled port that does not
send GO or whose HEAD_EN is low: the check is recorded, PORT_LOST set, the line discarded, the job fails with cause
0x0C. A port without the acknowledgement of the line gets NAK, one whose waveform set is not valid WSET_INVALID; the
check is recorded, LINE_NAK set, the line discarded, and where NAK_ACT is 1 the job fails with cause 0x0C. A line
that comes less than I_min cycles after the last launched one is discarded and suppressed. Any other line is
launched. Where the failing line lies in a drain span no job fails (`State.failOn`). The model's choices and
readings in these clauses, no rules of the spec: check 1 records no FIRE_GINFO (log entry 57); the assembly a
decision tests (log entry 58); which ports are assembled outside a job (log entry 60). -/
def Obligations.LineChecksFollowTheTable : Prop :=
  (∀ (s : State) (n : Nat), s.check1 n = false → s.lineChecks n = s) ∧
  (∀ (s : State) (n c : Nat), s.check1 n = true → s.fire.asmFail = some (n, c) → s.lineChecks n = (s.discardLine
     n).failOn c n) ∧
  (∀ (s : State) (n p : Nat), s.check1 n = true → s.fire.asmFail.all (fun e => e.1 != n) = true → (s.linePorts n).find?
     (fun p => !s.portRuns p) = some p → s.lineChecks n = (((s.gRecord 3 p 0 n).raiseS FIRE_GFLAG.PORT_LOST 0
     (s.stampOf n)).discardLine n).failOn 12 n) ∧
  (∀ (s : State) (n p : Nat), s.check1 n = true → s.fire.asmFail.all (fun e => e.1 != n) = true → (s.linePorts n).all
  s.portRuns = true → (s.linePorts n).find? (fun p => !s.acked p n || !s.wsetOk p) = some p → (
     let u := forIn' (s.linePorts n) (fun p t => (t.when (!s.acked p n) (·.portErr FIRE_PORTFLAG.NAK p (t.stampOf
       n))).when (!s.wsetOk p) fun t => t.raiseS FIRE_PORTFLAG.WSET_INVALID p (t.stampOf n)) s;
     let v := ((u.gRecord 4 p 0 n).raiseS FIRE_GFLAG.LINE_NAK 0 (u.stampOf n)).discardLine n;
     s.lineChecks n = v.when (v.on FIRE_GCTL.NAK_ACT) (·.failOn 12 n))) ∧
  (∀ (s : State) (n : Nat), s.check1 n = true → s.fire.asmFail.all (fun e => e.1 != n) = true → (s.linePorts n).all
     (fun p => s.portRuns p && s.acked p n && s.wsetOk p) = true → s.fire.sinceLaunch.any (fun c => decide (c <
     s.iMin)) = true → s.lineChecks n = (s.discardLine n).suppress n) ∧
  (∀ (s : State) (n : Nat), s.check1 n = true → s.fire.asmFail.all (fun e => e.1 != n) = true → (s.linePorts n).all
     (fun p => s.portRuns p && s.acked p n && s.wsetOk p) = true → s.fire.sinceLaunch.any (fun c => decide (c <
     s.iMin)) = false → s.lineChecks n = s.launch n)

/-- R97, R99, R100. PORT_GO at a port in RUN with RUN = 1 sends the oldest GO that is due, with its FIRE bit, its
waveform set, the bank in force once `State.bankGo` has switched it for the line, and the parity of the line;
FIRE_PORTSTAT.WSET shows the set; a fired line adds one to FIRE_LSTAT.LINES; where strobes follow, the line joins
the strobes due from phase 0. At a port that sends no GO the GO that is due is dropped. STROBE_ISSUE takes the next
phase of the oldest line due; in RUN the strobe with that phase goes out; after phase 15 the line is done. A port in
RUN with RUN = 0 and no strobe left returns to IDLE, its HEAD_EN following. The model's choices and readings in
these clauses, no rules of the spec: a command out of its state changes nothing (log entry 6); strobes follow a GO
with FIRE = 0 (log entry 61). -/
def Obligations.PortSendsGoAndStrobes : Prop :=
  (∀ (s : State) (p : Fin 48) (g : GoDue) (rest : List GoDue), s.awake = true → s.sendsGo p = true → (s.port p).goDue
  = g :: rest → 
     let u := (s.updPort p fun x => { x with goDue := rest }).bankGo p g.line g.strobes;
     let v := (u.emit (.go p g.fire g.wset (u.fld FIRE_PORTSTAT.BANK p) (g.line % 2))).setFld FIRE_PORTSTAT.WSET
       g.wset p;
     exec (.portGo p) s = .next (s.close ((v.when g.fire (·.addFld FIRE_LSTAT.LINES 1 p)).when g.strobes (·.updPort
       p fun x => { x with strobes := x.strobes ++ [(g.line, 0)] })))) ∧
  (∀ (s : State) (p : Fin 48) (g : GoDue) (rest : List GoDue), s.awake = true → s.sendsGo p = false → (s.port p).goDue
     = g :: rest → exec (.portGo p) s = .next (s.close (s.updPort p fun x => { x with goDue := rest }))) ∧
  (∀ (s : State) (p : Fin 48) (n k : Nat) (rest : List (Nat × Nat)), s.awake = true → s.lstate p = 3 → (s.port
     p).strobes = (n, k) :: rest → exec (.strobeIssue p) s = .next (s.close (((s.updPort p fun x => { x with strobes := if k = 15 then rest else (n, k + 1) :: rest }).emit
     (.strobe p k)).runEnd p))) ∧
  (∀ (s : State) (p : Fin 48) (n k : Nat) (rest : List (Nat × Nat)), s.awake = true → s.lstate p ≠ 3 → (s.port
     p).strobes = (n, k) :: rest → exec (.strobeIssue p) s = .next (s.close (s.updPort p fun x => { x with strobes := if k = 15 then rest else (n, k + 1) :: rest }))) ∧
  (∀ (s : State) (p : Nat), s.lstate p = 3 → s.on FIRE_PORTCTL.RUN p = false → (s.port p).strobes = [] → s.runEnd p =
     (s.setFld FIRE_PORTSTAT.LSTATE 2 p).henSync p) ∧
  (∀ (s : State) (p : Nat), (s.on FIRE_PORTCTL.RUN p = true ∨ (s.port p).strobes ≠ []) → s.runEnd p = s)

/-- R98, R103, R107, R108, in IDLE or RUN. KERF_ACK of a LINE packet with status OK records the line as acknowledged;
with another status, and of a CMD packet, nothing changes. Of a TABLE packet: with status OK it takes that packet
off the pending bank (`State.tableOk`), with another status the packet counts a failed attempt (`State.tableFail`).
Of a WAVE segment it goes to the load in progress (`State.waveAck`). TABLE_ACK_TIMEOUT of a packet of the pending
bank counts a failed attempt: below the third the packet is sent again, the third is TBL_ERR. WAVE_ACK_TIMEOUT ends
a waveform load with WLOAD_ERR. The model's choices and readings in these clauses, no rules of the spec: what a
head, sensor or test reports is an operand (log entry 5); a command out of its state changes nothing (log entry 6);
the effect of a table that cannot be loaded (log entry 62). -/
def Obligations.HeadAcknowledgementsAreTaken : Prop :=
  (∀ (s : State) (p : Fin 48) (ref : BitVec 24), s.awake = true → 2 ≤ s.lstate p → exec (.kerfAck p 1 ref 0) s = .next
     (s.close (s.updPort p fun x => { x with ackOk := some ref.toNat }))) ∧
  (∀ (s : State) (p : Fin 48) (ref : BitVec 24) (st : BitVec 8), s.awake = true → 2 ≤ s.lstate p → st ≠ 0 → exec
     (.kerfAck p 1 ref st) s = .next (s.close (s))) ∧
  (∀ (s : State) (p : Fin 48) (ref : BitVec 24) (st : BitVec 8), s.awake = true → 2 ≤ s.lstate p → exec (.kerfAck p 4
     ref st) s = .next (s.close (s))) ∧
  (∀ (s : State) (p : Fin 48) (ref : BitVec 24), s.awake = true → 2 ≤ s.lstate p → exec (.kerfAck p 2 ref 0) s = .next
     (s.close (s.tableOk p (ref.toNat / 65536)))) ∧
  (∀ (s : State) (p : Fin 48) (ref : BitVec 24) (st : BitVec 8), s.awake = true → 2 ≤ s.lstate p → st ≠ 0 → exec
     (.kerfAck p 2 ref st) s = .next (s.close (s.tableFail p (ref.toNat / 65536)))) ∧
  (∀ (s : State) (p : Fin 48) (ref : BitVec 24) (st : BitVec 8), s.awake = true → 2 ≤ s.lstate p → exec (.kerfAck p 3
     ref st) s = .next (s.close (s.waveAck p (ref.toNat / 65536) (ref.toNat / 256 % 256) (st.toNat == 0)))) ∧
  (∀ (s : State) (p : Fin 48) (code : BitVec 8) (b : BankLoad) (k : Nat), s.awake = true → (s.port p).bank = some b →
  b.left.find? (fun e => e.1 == code.toNat) = some (code.toNat, k) → k < 2 → 
     let u : BankLoad := { b with left := b.left.map fun e => if e.1 = code.toNat then (e.1, e.2 + 1) else e };
     exec (.tableAckTimeout p code) s = .next (s.close ((s.updPort p fun x => { x with bank := some u }).sendTable
       p u code.toNat))) ∧
  (∀ (s : State) (p : Fin 48) (code : BitVec 8) (b : BankLoad) (k : Nat), s.awake = true → (s.port p).bank = some b →
     b.left.find? (fun e => e.1 == code.toNat) = some (code.toNat, k) → 2 ≤ k → exec (.tableAckTimeout p code) s =
     .next (s.close (s.tblErr p b))) ∧
  (∀ (s : State) (p : Fin 48), s.awake = true → (s.port p).wload.isSome = true → exec (.waveAckTimeout p) s = .next
     (s.close (((s.updPort p fun x => { x with wload := none }).setFld FIRE_PORTSTAT.WLOAD_BUSY 0 p).raise
     FIRE_PORTFLAG.WLOAD_ERR p)))

/-- R108, R110, R111, R133: TEMP_PACKET outside OFF records both temperatures, the greater of them, READY and the valid
waveform sets, and takes the limit as reached in this line window when the greater is HI or more. In TRAIN the port
then enters IDLE (`State.trainDone`). In IDLE or RUN, with a supply fault or an over-temperature reported, it sets
HEAD_FAULT, latches the fault, drops the GOs and strobes due and goes to IDLE, its HEAD_EN following. TEL_CRC
outside OFF sets its flag. TEL_LOST in IDLE or RUN sets its flag once for each loss, and where TEL_ACT is 1 takes
the limit as reached. The model's choices and readings in these clauses, no rules of the spec: what a head, sensor
or test reports is an operand (log entry 5); a command out of its state changes nothing (log entry 6); what the
thermal controller captures without a port (log entry 67); HI reached by a packet with the head's bit (log entry
193). -/
def Obligations.HeadTelemetryIsRecorded : Prop :=
  (∀ (s : State) (p : Fin 48) (t0 t1 : BitVec 16) (ready sup hot : Bool) (wv : BitVec 8), s.awake = true → 2 ≤
  s.lstate p → (sup || hot) = false → 
     let m := max t0.toInt t1.toInt;
     let u := s.updPort p fun x =>
       { x with t0 := t0.toInt, t1 := t1.toInt, lost := false, tempCycle := some s.cycle, winMin := some (match x.winMin with
     | some w => min w m
     | none => m) };
     let x := ((((u.setFld FIRE_TEMP.T0 (unsigned 12 t0.toInt) p).setFld FIRE_TEMP.T1 (unsigned 12 t1.toInt)
       p).setFld FIRE_THSTAT.TMAX (unsigned 12 m) p).setFld FIRE_PORTSTAT.READY (bit ready) p).setFld
       FIRE_PORTSTAT.WVALID wv.toNat p;
     let y := x.when (decide (x.sfld FIRE_THCFG.HI p ≤ m)) (·.limitReached p);
     exec (.tempPacket p t0 t1 ready sup hot wv) s = .next (s.close (y))) ∧
  (∀ (s : State) (p : Fin 48) (t0 t1 : BitVec 16) (ready sup hot : Bool) (wv : BitVec 8), s.awake = true → 2 ≤
  s.lstate p → (sup || hot) = true → 
     let m := max t0.toInt t1.toInt;
     let u := s.updPort p fun x =>
       { x with t0 := t0.toInt, t1 := t1.toInt, lost := false, tempCycle := some s.cycle, winMin := some (match x.winMin with
     | some w => min w m
     | none => m) };
     let x := ((((u.setFld FIRE_TEMP.T0 (unsigned 12 t0.toInt) p).setFld FIRE_TEMP.T1 (unsigned 12 t1.toInt)
       p).setFld FIRE_THSTAT.TMAX (unsigned 12 m) p).setFld FIRE_PORTSTAT.READY (bit ready) p).setFld
       FIRE_PORTSTAT.WVALID wv.toNat p;
     let y := x.when (decide (x.sfld FIRE_THCFG.HI p ≤ m)) (·.limitReached p);
     let v := y.portErr FIRE_PORTFLAG.HEAD_FAULT p y.posOut;
     exec (.tempPacket p t0 t1 ready sup hot wv) s = .next (s.close (((v.updPort p fun x =>
       { x with faultLatch := true, goDue := [], strobes := [] }).setFld FIRE_PORTSTAT.LSTATE 2 p).henSync p))) ∧
  (∀ (s : State) (p : Fin 48) (t0 t1 : BitVec 16) (ready sup hot : Bool) (wv : BitVec 8), s.awake = true → s.lstate p
  = 1 → 
     let m := max t0.toInt t1.toInt;
     let u := s.updPort p fun x =>
       { x with t0 := t0.toInt, t1 := t1.toInt, lost := false, tempCycle := some s.cycle, winMin := some (match x.winMin with
     | some w => min w m
     | none => m) };
     let x := ((((u.setFld FIRE_TEMP.T0 (unsigned 12 t0.toInt) p).setFld FIRE_TEMP.T1 (unsigned 12 t1.toInt)
       p).setFld FIRE_THSTAT.TMAX (unsigned 12 m) p).setFld FIRE_PORTSTAT.READY (bit ready) p).setFld
       FIRE_PORTSTAT.WVALID wv.toNat p;
     let y := x.when (decide (x.sfld FIRE_THCFG.HI p ≤ m)) (·.limitReached p);
     exec (.tempPacket p t0 t1 ready sup hot wv) s = .next (s.close (y.trainDone p))) ∧
  (∀ (s : State) (p : Fin 48), s.awake = true → s.lstate p ≠ 0 → exec (.telCrc p) s = .next (s.close (s.raise
     FIRE_PORTFLAG.TEL_CRC p))) ∧
  (∀ (s : State) (p : Fin 48), s.awake = true → s.portUp p = true → (s.port p).lost = false → 
     let u := (s.portErr FIRE_PORTFLAG.TEL_LOST p s.posOut).updPort p fun x => { x with lost := true };
     exec (.telLost p) s = .next (s.close (u.when (u.on FIRE_PORTCTL.TEL_ACT p) (·.limitReached p))))

/-- R112: FIRE_TEST_GO in IDLE starts a self-test and sends its command, otherwise it sets TEST_REJ. TEST_PACKET of a
running test writes its bytes at their place in DRAM, bits [3:0] of the last byte as 0; once every one of the eight
segments has come bytes 504 to 511 are written 0, the test ends and TEST_DONE is set; with no test running nothing
happens. TEST_TIMEOUT ends a running test with TEST_REJ. The model's choices and readings in these clauses, no rules
of the spec: what a head, sensor or test reports is an operand (log entry 5); a command out of its state changes
nothing (log entry 6). -/
def Obligations.HeadSelfTestIsRun : Prop :=
  (∀ (s : State) (o : Sender) (p : Fin 48), s.reaches o FIRE_TEST p = true → s.lstate p = 2 → exec (.fireTestGo o p) s
     = .next (s.close ((s.updPort p fun x => { x with testSegs := some [] }).emit (cmdPkt p 1 0)))) ∧
  (∀ (s : State) (o : Sender) (p : Fin 48), s.reaches o FIRE_TEST p = true → s.lstate p ≠ 2 → exec (.fireTestGo o p) s
     = .next (s.close (s.raise FIRE_PORTFLAG.TEST_REJ p))) ∧
  (∀ (s : State) (p : Fin 48) (seg : Fin 8) (bytes : List Byte) (got : List Nat), s.awake = true → (s.port p).testSegs
  = some got → (seg.val :: got).eraseDups.length < 8 → 
     let a := s.fld FIRE_TADDR.ADDR p * 16;
     let u := (s.dramWrite 6 (a + 63 * seg) (bytes.set 62 (bytes.getD 62 0 &&& 0xF0))).1;
     exec (.testPacket p seg bytes) s = .next (s.close (u.updPort p fun x =>
       { x with testSegs := some (seg.val :: got).eraseDups }))) ∧
  (∀ (s : State) (p : Fin 48) (seg : Fin 8) (bytes : List Byte) (got : List Nat), s.awake = true → (s.port p).testSegs
  = some got → 8 ≤ (seg.val :: got).eraseDups.length → 
     let a := s.fld FIRE_TADDR.ADDR p * 16;
     let u := (s.dramWrite 6 (a + 63 * seg) (bytes.set 62 (bytes.getD 62 0 &&& 0xF0))).1;
     exec (.testPacket p seg bytes) s = .next (s.close (((u.dramWrite 6 (a + 504) (List.replicate 8 0)).1.updPort p
       fun x => { x with testSegs := none, tested := true }).raise FIRE_PORTFLAG.TEST_DONE p))) ∧
  (∀ (s : State) (p : Fin 48) (seg : Fin 8) (bytes : List Byte), s.awake = true → (s.port p).testSegs = none → exec
     (.testPacket p seg bytes) s = .next (s.close (s))) ∧
  (∀ (s : State) (p : Fin 48), s.awake = true → (s.port p).testSegs.isSome = true → exec (.testTimeout p) s = .next
     (s.close ((s.updPort p fun x => { x with testSegs := none }).raise FIRE_PORTFLAG.TEST_REJ p)))

/-- R109, R110, R113, R114. LINK_EN, KERF_RUN and HEN each write FIRE_PORTCTL: TEL_ACT is stored; a changed LINK_EN acts
first (1: training starts in OFF where the port's block is released and PD8 on; 0: the port goes to OFF,
`State.portOff`), then HEN (the bit is stored, 1 clears the fault latch, HEAD_EN follows its conditions), then RUN
(the bit is stored; 0 in RUN drops the GOs due, and the port returns to IDLE once no strobe is left,
`State.runEnd`). KERF_RUN_ENTER in IDLE with RUN, HEAD_EN, READY and no bank pending enters RUN. TRAIN_FAIL sets its
flag while training; LINK_DOWN in IDLE or RUN sets its flag with the stamp of the cycle and takes the port back to
training (`State.dropLink`). The model's choices and readings in these clauses, no rules of the spec: a command out
of its state changes nothing (log entry 6); a link's EN acts on a change only (log entry 77). -/
def Obligations.PortControlDrivesTheLinkState : Prop :=
  (∀ (s : State) (o : Sender) (p : Fin 48) (w : Word), s.reaches o FIRE_PORTCTL p = true → FIRE_PORTCTL.LINK_EN.ext w
  = 1 → s.fld FIRE_PORTCTL.LINK_EN p = 0 → s.lstate p = 0 → s.blkHeld p = false → s.pdOn 8 = true → 
     let u := s.setFld FIRE_PORTCTL.TEL_ACT (FIRE_PORTCTL.TEL_ACT.ext w) p;
     exec (.linkEn o p w) s = .next (s.close ((((u.setFld FIRE_PORTCTL.LINK_EN 1 p).setFld FIRE_PORTSTAT.LSTATE 1
       p).hen p (FIRE_PORTCTL.HEN.ext w == 1)).kerfRun p (FIRE_PORTCTL.RUN.ext w == 1)))) ∧
  (∀ (s : State) (o : Sender) (p : Fin 48) (w : Word), s.reaches o FIRE_PORTCTL p = true → FIRE_PORTCTL.LINK_EN.ext w
  = 1 → s.fld FIRE_PORTCTL.LINK_EN p = 0 → (s.lstate p ≠ 0 ∨ s.blkHeld p = true ∨ s.pdOn 8 = false) → 
     let u := s.setFld FIRE_PORTCTL.TEL_ACT (FIRE_PORTCTL.TEL_ACT.ext w) p;
     exec (.linkEn o p w) s = .next (s.close (((u.setFld FIRE_PORTCTL.LINK_EN 1 p).hen p (FIRE_PORTCTL.HEN.ext w ==
       1)).kerfRun p (FIRE_PORTCTL.RUN.ext w == 1)))) ∧
  (∀ (s : State) (o : Sender) (p : Fin 48) (w : Word), s.reaches o FIRE_PORTCTL p = true → FIRE_PORTCTL.LINK_EN.ext w
  = 0 → s.fld FIRE_PORTCTL.LINK_EN p = 1 → 
     let u := s.setFld FIRE_PORTCTL.TEL_ACT (FIRE_PORTCTL.TEL_ACT.ext w) p;
     exec (.linkEn o p w) s = .next (s.close ((((u.setFld FIRE_PORTCTL.LINK_EN 0 p).portOff p).hen p
       (FIRE_PORTCTL.HEN.ext w == 1)).kerfRun p (FIRE_PORTCTL.RUN.ext w == 1)))) ∧
  (∀ (s : State) (o : Sender) (p : Fin 48) (w : Word), s.reaches o FIRE_PORTCTL p = true → FIRE_PORTCTL.LINK_EN.ext w
  = s.fld FIRE_PORTCTL.LINK_EN p → 
     let u := s.setFld FIRE_PORTCTL.TEL_ACT (FIRE_PORTCTL.TEL_ACT.ext w) p;
     exec (.linkEn o p w) s = .next (s.close ((u.hen p (FIRE_PORTCTL.HEN.ext w == 1)).kerfRun p
       (FIRE_PORTCTL.RUN.ext w == 1)))) ∧
  (∀ (s : State) (o : Sender) (p : Fin 48) (w : Word), s.reaches o FIRE_PORTCTL p = true → FIRE_PORTCTL.LINK_EN.ext w
  = s.fld FIRE_PORTCTL.LINK_EN p → 
     let u := s.setFld FIRE_PORTCTL.TEL_ACT (FIRE_PORTCTL.TEL_ACT.ext w) p;
     exec (.kerfRun o p w) s = .next (s.close ((u.hen p (FIRE_PORTCTL.HEN.ext w == 1)).kerfRun p
       (FIRE_PORTCTL.RUN.ext w == 1)))) ∧
  (∀ (s : State) (o : Sender) (p : Fin 48) (w : Word), s.reaches o FIRE_PORTCTL p = true → FIRE_PORTCTL.LINK_EN.ext w
  = s.fld FIRE_PORTCTL.LINK_EN p → 
     let u := s.setFld FIRE_PORTCTL.TEL_ACT (FIRE_PORTCTL.TEL_ACT.ext w) p;
     exec (.hen o p w) s = .next (s.close ((u.hen p (FIRE_PORTCTL.HEN.ext w == 1)).kerfRun p (FIRE_PORTCTL.RUN.ext
       w == 1)))) ∧
  (∀ (s : State) (p : Nat) (en : Bool), s.hen p en = ((s.setFld FIRE_PORTCTL.HEN (bit en) p).when en (·.updPort p fun x
     => { x with faultLatch := false })).henSync p) ∧
  (∀ (s : State) (p : Nat), s.lstate p = 3 → s.kerfRun p false = ((s.setFld FIRE_PORTCTL.RUN 0 p).updPort p fun x => { x with goDue := [] }).runEnd
     p) ∧
  (∀ (s : State) (p : Nat) (run : Bool), (run = true ∨ s.lstate p ≠ 3) → s.kerfRun p run = s.setFld FIRE_PORTCTL.RUN
     (bit run) p) ∧
  (∀ (s : State) (p : Fin 48), s.awake = true → s.lstate p = 2 → s.on FIRE_PORTCTL.RUN p = true → s.on
     FIRE_PORTSTAT.HEN_OUT p = true → s.on FIRE_PORTSTAT.READY p = true → s.on FIRE_PORTSTAT.BANK_PEND p = false → exec
     (.kerfRunEnter p) s = .next (s.close (s.setFld FIRE_PORTSTAT.LSTATE 3 p))) ∧
  (∀ (s : State) (p : Fin 48), s.awake = true → s.lstate p = 1 → exec (.trainFail p) s = .next (s.close (s.raise
     FIRE_PORTFLAG.TRAIN_FAIL p))) ∧
  (∀ (s : State) (p : Fin 48), s.awake = true → s.portUp p = true → exec (.linkDown p) s = .next (s.close ((s.portErr
     FIRE_PORTFLAG.LINK_DOWN p s.posOut).dropLink p 1)))

/-- R94, R434. DLY_WRITE at an index that names no word sets DLY_REJ and changes nothing else; at one that does, between
jobs, it writes the entries of the word that are below 4,000, during a job it sets DLY_REJ instead, and in both
cases the index advances by one, wrapping after word 1,333, where AUTOINC is 1. R103: WLOAD_GO stores TARGET and
NSEG; it sets WLOAD_REJ where NSEG is 0 or above 64, the port is neither in IDLE nor in RUN, a load is in progress,
or SET, COOL or a staged value of them names the set; otherwise the image is read, and the load is in progress with
every segment of it sent, or, where the read is answered poisoned, ends with WLOAD_ERR. R131: OVSP_FIFO_POP answers
the oldest suppressed line's stamp and removes it; an empty FIFO answers 0. The model's choices and readings in
these clauses, no rules of the spec: a command out of its state changes nothing (log entry 6); a row that writes a
register writes its whole word (log entry 22); a row that reads a window is a bus read (log entry 23); the wave
image is read before the first packet (log entry 66). -/
def Obligations.HeadTablesAndFifoAreAccessed : Prop :=
  (∀ (s : State) (o : Sender) (p : Fin 48) (w : Word), s.reaches o FIRE_DLYDATA p = true → s.fld FIRE_DLYIDX.WORD p ≤
  1333 → s.betweenJobs = true → 
     let i := s.fld FIRE_DLYIDX.WORD p;
     let u := ((s.setDly p (3 * i) (FIRE_DLYDATA.ENT0.ext w)).setDly p (3 * i + 1) (FIRE_DLYDATA.ENT1.ext
       w)).setDly p (3 * i + 2) (FIRE_DLYDATA.ENT2.ext w);
     exec (.dlyWrite o p w) s = .next (s.close (u.when (u.on FIRE_DLYIDX.AUTOINC p) fun t => t.setFld
       FIRE_DLYIDX.WORD ((u.fld FIRE_DLYIDX.WORD p + 1) % 1334) p))) ∧
  (∀ (s : State) (p ch v : Nat), ch < 4000 → s.setDly p ch v = { s with fire := { s.fire with delay := SMap.set 0 s.fire.delay (4096 * p + ch) v } }) ∧
  (∀ (s : State) (p ch v : Nat), 4000 ≤ ch → s.setDly p ch v = s) ∧
  (∀ (s : State) (o : Sender) (p : Fin 48) (w : Word), s.reaches o FIRE_DLYDATA p = true → s.fld FIRE_DLYIDX.WORD p ≤
  1333 → s.betweenJobs = false → 
     let u := s.raise FIRE_GFLAG.DLY_REJ;
     exec (.dlyWrite o p w) s = .next (s.close (u.when (u.on FIRE_DLYIDX.AUTOINC p) fun t => t.setFld
       FIRE_DLYIDX.WORD ((u.fld FIRE_DLYIDX.WORD p + 1) % 1334) p))) ∧
  (∀ (s : State) (o : Sender) (p : Fin 48) (w : Word), s.reaches o FIRE_DLYDATA p = true → 1333 < s.fld
     FIRE_DLYIDX.WORD p → exec (.dlyWrite o p w) s = .next (s.close (s.raise FIRE_GFLAG.DLY_REJ))) ∧
  (∀ (s : State) (o : Sender) (p : Fin 48) (w : Word), s.reaches o FIRE_WLOAD p = true → (FIRE_WLOAD.NSEG.ext w == 0
  || decide (64 < FIRE_WLOAD.NSEG.ext w) || !s.portUp p || (s.port p).wload.isSome || s.fld FIRE_WAVE.SET p ==
  FIRE_WLOAD.TARGET.ext w || s.fld FIRE_WAVE.COOL p == FIRE_WLOAD.TARGET.ext w ||
     s.waveStaged p (FIRE_WLOAD.TARGET.ext w)) = true → 
     let u := (s.setFld FIRE_WLOAD.TARGET (FIRE_WLOAD.TARGET.ext w) p).setFld FIRE_WLOAD.NSEG (FIRE_WLOAD.NSEG.ext
       w) p;
     exec (.wloadGo o p w) s = .next (s.close (u.raise FIRE_PORTFLAG.WLOAD_REJ p))) ∧
  (∀ (s : State) (o : Sender) (p : Fin 48) (w : Word) (bs : List Byte), s.reaches o FIRE_WLOAD p = true →
  (FIRE_WLOAD.NSEG.ext w == 0 || decide (64 < FIRE_WLOAD.NSEG.ext w) || !s.portUp p || (s.port p).wload.isSome ||
  s.fld FIRE_WAVE.SET p == FIRE_WLOAD.TARGET.ext w || s.fld FIRE_WAVE.COOL p == FIRE_WLOAD.TARGET.ext w ||
     s.waveStaged p (FIRE_WLOAD.TARGET.ext w)) = false → (((s.setFld FIRE_WLOAD.TARGET (FIRE_WLOAD.TARGET.ext w)
       p).setFld FIRE_WLOAD.NSEG (FIRE_WLOAD.NSEG.ext w) p).dramRead 6 (s.fld FIRE_WADDR.ADDR p * 16) (256 *
       FIRE_WLOAD.NSEG.ext w)).2 = some bs → 
     let u := (s.setFld FIRE_WLOAD.TARGET (FIRE_WLOAD.TARGET.ext w) p).setFld FIRE_WLOAD.NSEG (FIRE_WLOAD.NSEG.ext
       w) p;
     let x : WLoad := { set := FIRE_WLOAD.TARGET.ext w, left := (List.range (FIRE_WLOAD.NSEG.ext w)).map fun g => (g, 0), image := bs };
     exec (.wloadGo o p w) s = .next (s.close (forTo (FIRE_WLOAD.NSEG.ext w) (fun g t => t.sendWave p x g)
       (((u.dramRead 6 (s.fld FIRE_WADDR.ADDR p * 16) (256 * FIRE_WLOAD.NSEG.ext w)).1.updPort p fun y =>
       { y with wload := some x }).setFld FIRE_PORTSTAT.WLOAD_BUSY 1 p)))) ∧
  (∀ (s : State) (o : Sender) (p : Fin 48) (w : Word), s.reaches o FIRE_WLOAD p = true → (FIRE_WLOAD.NSEG.ext w == 0
  || decide (64 < FIRE_WLOAD.NSEG.ext w) || !s.portUp p || (s.port p).wload.isSome || s.fld FIRE_WAVE.SET p ==
  FIRE_WLOAD.TARGET.ext w || s.fld FIRE_WAVE.COOL p == FIRE_WLOAD.TARGET.ext w ||
     s.waveStaged p (FIRE_WLOAD.TARGET.ext w)) = false → (((s.setFld FIRE_WLOAD.TARGET (FIRE_WLOAD.TARGET.ext w)
       p).setFld FIRE_WLOAD.NSEG (FIRE_WLOAD.NSEG.ext w) p).dramRead 6 (s.fld FIRE_WADDR.ADDR p * 16) (256 *
       FIRE_WLOAD.NSEG.ext w)).2 = none → 
     let u := (s.setFld FIRE_WLOAD.TARGET (FIRE_WLOAD.TARGET.ext w) p).setFld FIRE_WLOAD.NSEG (FIRE_WLOAD.NSEG.ext
       w) p;
     exec (.wloadGo o p w) s = .next (s.close ((((u.dramRead 6 (s.fld FIRE_WADDR.ADDR p * 16) (256 *
       FIRE_WLOAD.NSEG.ext w)).1.updPort p fun x => { x with wload := none }).setFld FIRE_PORTSTAT.WLOAD_BUSY 0
       p).raise FIRE_PORTFLAG.WLOAD_ERR p))) ∧
  (∀ (s : State) (o : Sender) (t : Word) (rest : List Word), s.reaches o FIRE_OVSP_FIFO = true → s.fire.ovspFifo = t ::
     rest → exec (.ovspFifoPop o) s = .next (s.close ((({ s with fire := { s.fire with ovspFifo := rest } } :
     State).setFld FIRE_OVSP_STAT.LEVEL rest.length).emit (.regData 0 t)))) ∧
  (∀ (s : State) (o : Sender), s.reaches o FIRE_OVSP_FIFO = true → s.fire.ovspFifo = [] → exec (.ovspFifoPop o) s =
     .next (s.close (s.emit (.regData 0 0))))

/-! ### Position unit -/

/-- R31, R34 to R37: ENCODER_EDGE takes the levels of the pairs that are not held; while the rail VDDIO_33 is lost its
inputs are ignored (R401, log entry 216). In quadrature mode a change of one level is one count in the direction
that the change and INVERT give, its interval a speed sample when the direction is the same as before; a change of
both is illegal (`State.quadIllegal`); no change counts nothing. In tooth-wheel mode a rise of A is a tooth: one
count, the interval a speed sample; after a change of direction, and for the interval after an extra tooth, no
sample (log entry 39); an interval beyond GAP_NUM eighths of the last is a gap, counting MISS teeth more, and with
MISS = 0 one below EXTRA_NUM eighths an extra tooth, counting nothing, both going to the index check. A count of m
moves POS_ENCCNT by m modulo 2^40, and the reference of the source by m times POS_RATIO. INDEX_EVENT is a rise of Z
in quadrature mode with Z_EN whose pair is not held. The index check: the first index sets the reference; with the
counts since as many as PERIOD (TEETH) a pending correction is applied and UNCERT cleared; any other number d too
many is a mismatch: DIFF, IDXPOS, its flag, any pending correction dropped, and for the source what IDX_ACT says.
WIRE_DISAGREEMENT holds its pair and sets its flag; of A or B of the source with WIRE_ACT it declares the encoder
faulty with cause 2. WIRE_DISAGREEMENT_END releases the pair at its level without a count. The model's choices and
readings in these clauses, no rules of the spec: a time between events is an operand (log entry 4); a command out of
its state changes nothing (log entry 6); POS_FWD comes up to the position of the fault (log entry 40); an interval
before the first sample (log entry 153); a fault is declared at WIRE_DISAGREEMENT alone (log entry 186). -/
def Obligations.EncoderEdgesAreCounted : Prop :=
  (∀ (s : State) (n : Fin 2) (a b : Bool) (dt : Nat), s.awake = true → s.pdOn 4 = true → s.fld POS_ENCCFG.MODE n = 1 →
  (((s.enc n).lvlA == (if (s.enc n).wireA || !s.railOk 1 then (s.enc n).lvlA else a)) != ((s.enc n).lvlB == (if
  (s.enc n).wireB || !s.railOk 1 then (s.enc n).lvlB else b))) = true → 
     let e := s.enc n;
     let t := s.setEnc n { e with lvlA := (if (s.enc n).wireA || !s.railOk 1 then (s.enc n).lvlA else a), lvlB := (if (s.enc n).wireB || !s.railOk 1 then (s.enc n).lvlB else b), acc := e.acc + dt };
     let rev := quadRev e.lvlA (if (s.enc n).wireA || !s.railOk 1 then (s.enc n).lvlA else a) (if (s.enc n).wireB
       || !s.railOk 1 then (s.enc n).lvlB else b) != t.on POS_ENCCFG.INVERT n;
     let u := (t.setEnc n { t.enc n with acc := 0, lastRev := some rev }).count n 1 rev;
     exec (.encoderEdge n a b dt) s = .next (s.close (u.when (e.lastRev == some rev) (·.speedSample n (e.acc + dt))))) ∧
  (∀ (s : State) (n : Fin 2) (a b : Bool) (dt : Nat), s.awake = true → s.pdOn 4 = true → s.fld POS_ENCCFG.MODE n = 1 →
  (s.enc n).lvlA ≠ (if (s.enc n).wireA || !s.railOk 1 then (s.enc n).lvlA else a) → (s.enc n).lvlB ≠ (if (s.enc
  n).wireB || !s.railOk 1 then (s.enc n).lvlB else b) → 
     let e := s.enc n;
     let t := s.setEnc n { e with lvlA := (if (s.enc n).wireA || !s.railOk 1 then (s.enc n).lvlA else a), lvlB := (if (s.enc n).wireB || !s.railOk 1 then (s.enc n).lvlB else b), acc := e.acc + dt };
     exec (.encoderEdge n a b dt) s = .next (s.close (t.quadIllegal n))) ∧
  (∀ (s : State) (n : Fin 2) (a b : Bool) (dt : Nat), s.awake = true → s.pdOn 4 = true → s.fld POS_ENCCFG.MODE n = 1 →
  (s.enc n).lvlA = (if (s.enc n).wireA || !s.railOk 1 then (s.enc n).lvlA else a) → (s.enc n).lvlB = (if (s.enc
  n).wireB || !s.railOk 1 then (s.enc n).lvlB else b) → 
     let e := s.enc n;
     let t := s.setEnc n { e with lvlA := (if (s.enc n).wireA || !s.railOk 1 then (s.enc n).lvlA else a), lvlB := (if (s.enc n).wireB || !s.railOk 1 then (s.enc n).lvlB else b), acc := e.acc + dt };
     exec (.encoderEdge n a b dt) s = .next (s.close (t))) ∧
  (∀ (s : State) (n : Fin 2) (a b : Bool) (dt : Nat), s.awake = true → s.pdOn 4 = true → s.fld POS_ENCCFG.MODE n = 2 →
  (s.enc n).lvlA = false → (if (s.enc n).wireA || !s.railOk 1 then (s.enc n).lvlA else a) = true → 
     let e := s.enc n;
     let t := s.setEnc n { e with lvlA := (if (s.enc n).wireA || !s.railOk 1 then (s.enc n).lvlA else a), lvlB := (if (s.enc n).wireB || !s.railOk 1 then (s.enc n).lvlB else b), acc := e.acc + dt };
     exec (.encoderEdge n a b dt) s = .next (s.close (t.toothEdge n (if (s.enc n).wireB || !s.railOk 1 then (s.enc
       n).lvlB else b)))) ∧
  (∀ (s : State) (n : Fin 2) (a b : Bool) (dt : Nat), s.awake = true → s.pdOn 4 = true → s.fld POS_ENCCFG.MODE n ≠ 1 →
  (s.fld POS_ENCCFG.MODE n ≠ 2 ∨ (s.enc n).lvlA = true ∨ (if (s.enc n).wireA || !s.railOk 1 then (s.enc n).lvlA
  else a) = false) → 
     let e := s.enc n;
     let t := s.setEnc n { e with lvlA := (if (s.enc n).wireA || !s.railOk 1 then (s.enc n).lvlA else a), lvlB := (if (s.enc n).wireB || !s.railOk 1 then (s.enc n).lvlB else b), acc := e.acc + dt };
     exec (.encoderEdge n a b dt) s = .next (s.close (t))) ∧
  (∀ (s : State) (n : Nat) (b : Bool), (s.enc n).lastRev ≠ some (s.toothRev n b) → (
     let e := s.enc n;
     let t := s.setEnc n { e with acc := 0, lastRev := some (s.toothRev n b), skipNext := false };
     s.toothEdge n b = t.count n 1 (s.toothRev n b))) ∧
  (∀ (s : State) (n : Nat) (b : Bool), (s.enc n).lastRev = some (s.toothRev n b) → (s.enc n).lastP ≠ 0 → (s.enc
  n).lastP * s.fld POS_TOOTH.GAP_NUM n < (s.enc n).acc * 8 → (
     let e := s.enc n;
     let t := s.setEnc n { e with acc := 0, lastRev := some (s.toothRev n b), skipNext := false };
     s.toothEdge n b = (t.count n (1 + t.fld POS_TOOTH.MISS n) (s.toothRev n b)).indexCheck n)) ∧
  (∀ (s : State) (n : Nat) (b : Bool), (s.enc n).lastRev = some (s.toothRev n b) → (s.enc n).lastP ≠ 0 → (s.enc n).acc
  * 8 ≤ (s.enc n).lastP * s.fld POS_TOOTH.GAP_NUM n → s.fld POS_TOOTH.MISS n = 0 → (s.enc n).acc * 8 < (s.enc
  n).lastP * s.fld POS_TOOTH.EXTRA_NUM n → (
     let e := s.enc n;
     let t := s.setEnc n { e with acc := 0, lastRev := some (s.toothRev n b), skipNext := false };
     s.toothEdge n b = (t.updEnc n fun e => { e with skipNext := true }).indexCheck n)) ∧
  (∀ (s : State) (n : Nat) (b : Bool), (s.enc n).lastRev = some (s.toothRev n b) → ((s.enc n).lastP = 0 ∨ ((s.enc
  n).acc * 8 ≤ (s.enc n).lastP * s.fld POS_TOOTH.GAP_NUM n ∧ (s.fld POS_TOOTH.MISS n ≠ 0 ∨ (s.enc n).lastP * s.fld
  POS_TOOTH.EXTRA_NUM n ≤ (s.enc n).acc * 8))) → (
     let e := s.enc n;
     let t := s.setEnc n { e with acc := 0, lastRev := some (s.toothRev n b), skipNext := false };
     s.toothEdge n b = (t.count n 1 (s.toothRev n b)).when (!e.skipNext) (·.speedSample n e.acc))) ∧
  (∀ (s : State) (n m : Nat) (rev : Bool), ((s.count n m rev).reg POS_ENCCNT n = if rev then s.reg POS_ENCCNT n -
     Word.of m else s.reg POS_ENCCNT n + Word.of m) ∧ (s.isSource n = true → ((s.count n m rev).enc n).ref = (s.enc
     n).ref + BitVec.ofInt 56 ((if rev then -(m : Int) else m) * (s.reg POS_RATIO).toNat)) ∧ (s.isSource n = false →
     ((s.count n m rev).enc n).ref = (s.enc n).ref)) ∧
  (∀ (s : State) (n : Fin 2), s.awake = true → s.pdOn 4 = true → s.fld POS_ENCCFG.MODE n = 1 → s.on POS_ENCCFG.Z_EN n =
     true → (s.enc n).wireZ = false → s.railOk 1 = true → exec (.indexEvent n) s = .next (s.close (s.indexCheck n))) ∧
  (∀ (s : State) (n : Fin 2), s.awake = true → s.pdOn 4 = true → (s.fld POS_ENCCFG.MODE n ≠ 1 ∨ s.on POS_ENCCFG.Z_EN n
     = false ∨ (s.enc n).wireZ = true ∨ s.railOk 1 = false) → exec (.indexEvent n) s = .next (s.close (s))) ∧
  (∀ (s : State) (n : Nat), (s.enc n).idxRef = false → s.indexCheck n = s.setEnc n { s.enc n with idxRef := true, since := 0 }) ∧
  (∀ (s : State) (n : Nat), (s.enc n).idxRef = true → (s.enc n).since = ((if s.fld POS_ENCCFG.MODE n = 2 then s.fld
  POS_TOOTH.TEETH n else s.fld POS_IDXCFG.PERIOD n) : Nat) → (
     let u := s.updEnc n fun e => { e with since := 0 };
     let v := u.when (u.on POS_ENCSTAT.CORR_PEND n) fun t => (t.updEnc n fun e =>
       { e with ref := e.ref - BitVec.ofInt 56 (e.held * (t.reg POS_RATIO).toNat), held := 0 }).setFld
       POS_ENCSTAT.CORR_PEND 0 n;
     s.indexCheck n = v.setFld POS_ENCSTAT.UNCERT 0 n)) ∧
  (∀ (s : State) (n : Nat), (s.enc n).idxRef = true → (s.enc n).since ≠ ((if s.fld POS_ENCCFG.MODE n = 2 then s.fld
  POS_TOOTH.TEETH n else s.fld POS_IDXCFG.PERIOD n) : Nat) → (
     let d : Int := (s.enc n).since - (if s.fld POS_ENCCFG.MODE n = 2 then s.fld POS_TOOTH.TEETH n else s.fld
       POS_IDXCFG.PERIOD n);
     let u := s.updEnc n fun e => { e with since := 0 };
     let v := ((u.setFld POS_IDXSTAT.DIFF (unsigned 24 d) n).setReg POS_IDXPOS u.posOut n).raise
       POS_ENCFLAG.INDEX_MISMATCH n;
     let w := (v.updEnc n fun e => { e with held := 0 }).setFld POS_ENCSTAT.CORR_PEND 0 n;
     s.indexCheck n = if !w.isSource n then w else if w.fld POS_POLICY.IDX_ACT = 1 then (w.updEnc n fun e =>
       { e with held := d }).setFld POS_ENCSTAT.CORR_PEND 1 n else if w.fld POS_POLICY.IDX_ACT = 2 then w.encFault
       3 else w)) ∧
  (∀ (s : State) (n : Fin 2), s.awake = true → s.pdOn 4 = true → 
     let u := (s.setEnc n { s.enc n with wireA := true }).raise POS_ENCFLAG.WIRE_A n;
     exec (.wireDisagreement n 0) s = .next (s.close (u.when (u.isSource n && u.on POS_POLICY.WIRE_ACT) (·.encFault
       2)))) ∧
  (∀ (s : State) (n : Fin 2), s.awake = true → s.pdOn 4 = true → 
     let u := (s.setEnc n { s.enc n with wireB := true }).raise POS_ENCFLAG.WIRE_B n;
     exec (.wireDisagreement n 1) s = .next (s.close (u.when (u.isSource n && u.on POS_POLICY.WIRE_ACT) (·.encFault
       2)))) ∧
  (∀ (s : State) (n : Fin 2), s.awake = true → s.pdOn 4 = true → exec (.wireDisagreement n 2) s = .next (s.close
     ((s.setEnc n { s.enc n with wireZ := true }).raise POS_ENCFLAG.WIRE_Z n))) ∧
  (∀ (s : State) (n : Fin 2) (l : Bool), s.awake = true → s.pdOn 4 = true → s.railOk 1 = true → exec
     (.wireDisagreementEnd n 0 l) s = .next (s.close (s.setEnc n { s.enc n with wireA := false, lvlA := l }))) ∧
  (∀ (s : State) (n : Fin 2) (l : Bool), s.awake = true → s.pdOn 4 = true → s.railOk 1 = true → exec
     (.wireDisagreementEnd n 1 l) s = .next (s.close (s.setEnc n { s.enc n with wireB := false, lvlB := l }))) ∧
  (∀ (s : State) (n : Fin 2) (l : Bool), s.awake = true → s.pdOn 4 = true → s.railOk 1 = true → exec
     (.wireDisagreementEnd n 2 l) s = .next (s.close (s.setEnc n { s.enc n with wireZ := false }))) ∧
  (∀ (s : State) (n : Fin 2) (k : Fin 3) (l : Bool), s.railOk 1 = false → exec (.wireDisagreementEnd n k l) s = .next
     (s.close (s)))

/-- R38, R223: LOOP_UPDATE does nothing in OFF; in FAULTY only the projection starts again; in ACQUIRE or LOCKED vel and
est take the loop's increments modulo 2^56 from e, the difference of the source's reference and est (on a follower
est takes vel and vel stays), the line rate follows vel, and the lock (not on a follower), the overspeed warning and
the forward position are judged. The model's choices and readings in these clauses, no rules of the spec: a command
out of its state changes nothing (log entry 6); POS_FWD comes up to the position of the fault (log entry 40);
reverse travel in scan mode (log entry 162). -/
def Obligations.LoopUpdateFollowsTheEncoder : Prop :=
  (∀ (s : State), s.awake = true → s.pdOn 4 = true → s.posState = 0 → exec .loopUpdate s = .next (s.close (s))) ∧
  (∀ (s : State), s.awake = true → s.pdOn 4 = true → s.posState = 3 → exec .loopUpdate s = .next (s.close (s.posUpd fun
     p => { p with k := 0 }))) ∧
  (∀ (s : State), s.awake = true → s.pdOn 4 = true → s.posState ≠ 0 → s.posState ≠ 3 → s.follows = false → 
     let e := ((s.enc s.srcCh).ref - s.pos.est).toInt;
     let vel := s.pos.vel + BitVec.ofInt 56 (e * loopKi s.loopBw / 2 ^ 48);
     let est := s.pos.est + vel + BitVec.ofInt 56 (e * loopKp s.loopBw / 2 ^ 48);
     exec .loopUpdate s = .next (s.close ((((((s.posUpd fun p => { p with est := est, vel := vel, k := 0 }).setFld
       POS_SPEED.LINE_RATE (lineRate vel)).lockTest e).ovspWarn).updateFwd)))) ∧
  (∀ (s : State), s.awake = true → s.pdOn 4 = true → s.posState ≠ 0 → s.posState ≠ 3 → s.follows = true → exec
     .loopUpdate s = .next (s.close ((((s.posUpd fun p => { p with est := p.est + p.vel, k := 0 }).setFld
     POS_SPEED.LINE_RATE (lineRate s.pos.vel)).ovspWarn).updateFwd)))

/-- R41, R43: POS_ENABLE and REARM are direct writes of POS_CTL: the other fields are stored, then ENABLE acts, then
REARM where it is written 1. ENABLE = 1 in OFF starts the unit (`State.posStart`: with no job in force and a source
of this chip the estimate is the source's reference, velocity 0, state ACQUIRE) and changes nothing in another
state; ENABLE = 0 outside OFF with no job running enters OFF. REARM in FAULTY, the source being a channel of this
chip of which no pair is held under WIRE_ACT, sets the source's reference to est and velocity 0, clears FAULTY and
FCAUSE and enters ACQUIRE. Declaring the encoder faulty keeps est, sets vel 0, enters FAULTY and sets ENC_FAULT.
R42: where the host clears ENABLE while SYS_JOBQ_STAT.STATE is 1, 2 or 3, the encoder is declared faulty (FCAUSE
0b101 of Table 02-4) and then the unit enters OFF, from every state of the unit but OFF. That OFF clears LOCKED and
FAULTY is the model's choice (log entry 154). The model's choices and readings in these clauses, no rules of the
spec: a row that writes a register writes its whole word (log entry 22); OFF freezes the whole estimate (log entry
37); ENABLE acts before REARM (log entry 38); what a REARM clears (log entry 155). -/
def Obligations.PositionUnitIsEnabledAndRearmed : Prop :=
  (∀ (s : State) (o : Sender) (w : Word), s.reaches o POS_CTL = true → s.unguarded o POS_CTL 0 w = true →
  POS_CTL.REARM.ext w = 0 → 
     let u := (s.store POS_CTL 0 0 w).setFld POS_CTL.ENABLE (s.fld POS_CTL.ENABLE);
     exec (.posEnable o w) s = .next (s.close (u.posEnable (POS_CTL.ENABLE.ext w == 1)))) ∧
  (∀ (s : State) (o : Sender) (w : Word), s.reaches o POS_CTL = true → s.unguarded o POS_CTL 0 (putFields w
  [(POS_CTL.REARM, 1)]) = true → 
     let u := (s.store POS_CTL 0 0 (putFields w [(POS_CTL.REARM, 1)])).setFld POS_CTL.ENABLE (s.fld POS_CTL.ENABLE);
     exec (.rearm o w) s = .next (s.close ((u.posEnable (POS_CTL.ENABLE.ext w == 1)).rearm))) ∧
  (∀ (s : State), s.posState = 0 → s.posEnable true = (s.setFld POS_CTL.ENABLE 1).posStart ∧ s.posEnable false =
     s.setFld POS_CTL.ENABLE 0) ∧
  (∀ (s : State), s.posState ≠ 0 → s.posEnable true = s.setFld POS_CTL.ENABLE 1) ∧
  (∀ (s : State), s.posState ≠ 0 → s.jobRuns = false → s.posEnable false = (((s.setFld POS_CTL.ENABLE 0).setFld
     POS_STAT.STATE 0).setFld POS_STAT.LOCKED 0).setFld POS_STAT.FAULTY 0) ∧
  (∀ (s : State), s.follows = false → s.jq.job = none → s.posStart.posState = 1 ∧ s.posStart.pos.est = (s.enc
     s.srcCh).ref ∧ s.posStart.pos.vel = 0) ∧
  (∀ (s : State), s.posState = 3 → s.wireHeld = false → s.follows = false → s.rearm.posState = 1 ∧ s.rearm.pos.est =
     s.pos.est ∧ s.rearm.pos.vel = 0 ∧ s.rearm.fld POS_STAT.FAULTY = 0 ∧ s.rearm.fld POS_STAT.FCAUSE = 0 ∧ (s.rearm.enc
     s.srcCh).ref = s.pos.est) ∧
  (∀ (s : State) (c : Nat), (s.declareFault c).pos.est = s.pos.est ∧ (s.declareFault c).pos.vel = 0 ∧ (s.declareFault
     c).posState = 3 ∧ (s.declareFault c).on POS_FLAG.ENC_FAULT = true) ∧
  (∀ (s : State) (o : Sender) (w : Word), s.reaches o POS_CTL = true → s.unguarded o POS_CTL 0 w = true →
  POS_CTL.ENABLE.ext w = 0 → s.posState ≠ 0 → s.fld SYS_JOBQ_STAT.STATE ∈ [1, 2, 3] → 
     let u := ((s.store POS_CTL 0 0 w).setFld POS_CTL.ENABLE (s.fld POS_CTL.ENABLE)).setFld POS_CTL.ENABLE 0;
     exec (.posEnable o w) s = .next (s.close ((((u.declareFault 5).setFld POS_STAT.STATE 0).setFld POS_STAT.LOCKED
       0).setFld POS_STAT.FAULTY 0))) ∧
  (∀ (s : State), (s.declareFault 5).posState = 3 ∧ (s.declareFault 5).on POS_STAT.FAULTY = true ∧ (s.declareFault
     5).fld POS_STAT.FCAUSE = 5 ∧ (s.declareFault 5).on POS_FLAG.ENC_FAULT = true)

/-- R44, R46, R48, R225: PROBE_EDGE on an edge that EDGE selects pushes its stamp and kind into the probe's FIFO; with
eight entries held it sets the probe's bit of PROBE_OVF instead and the stamp is lost; an edge not selected does
nothing. On the page-mark probe a leader sends the stamp out in a page-mark message, and except on a follower the
stamp goes to the page-mark logic, which holds eight and sets PM_OVF beyond. PROBE_FIFO_POP answers the oldest stamp
and removes it; an empty FIFO answers 0. The model's choices and readings in these clauses, no rules of the spec: a
command out of its state changes nothing (log entry 6); a row that reads a window is a bus read (log entry 23);
inputs of a lost rail are ignored (log entry 216). -/
def Obligations.ProbeEdgesAreStamped : Prop :=
  (∀ (s : State) (p : Fin 4) (f : Bool), (s.probeTakes p f = false ∨ s.railOk 1 = false) → exec (.probeEdge p f) s =
     .next (s.close (s))) ∧
  (∀ (s : State) (p : Fin 4) (f : Bool), s.awake = true → s.pdOn 4 = true → s.railOk 1 = true → s.probeTakes p f = true
     → s.fld POS_PM.PROBE ≠ p.val → exec (.probeEdge p f) s = .next (s.close ((if 8 ≤ (s.probeFifo p).length then
     s.raiseAt POS_FLAG.PROBE_OVF 0 p none 0 else s.setProbeFifo p (s.probeFifo p ++ [(s.probeStamp p, f)]))))) ∧
  (∀ (s : State) (p : Fin 4) (f : Bool), s.awake = true → s.pdOn 4 = true → s.railOk 1 = true → s.probeTakes p f =
  true → s.fld POS_PM.PROBE = p.val → 
     let u := (if 8 ≤ (s.probeFifo p).length then s.raiseAt POS_FLAG.PROBE_OVF 0 p none 0 else s.setProbeFifo p
       (s.probeFifo p ++ [(s.probeStamp p, f)]));
     let v := u.when (u.bstate == 1) (·.flood 2 [s.probeStamp p]);
     exec (.probeEdge p f) s = .next (s.close (if v.follows then v else v.pmStamp (s.probeStamp p)))) ∧
  (∀ (s : State) (t : Word), 8 ≤ s.pos.marks.length → s.pmStamp t = s.raise POS_FLAG.PM_OVF) ∧
  (∀ (s : State) (t : Word), s.pos.marks.length < 8 → s.pmStamp t = (s.posUpd fun x => { x with marks := x.marks ++ [t] }).planPages) ∧
  (∀ (s : State) (o : Sender) (p : Fin 4) (t : Word) (f : Bool) (rest : List (Word × Bool)), s.reaches o POS_PROBEFIFO
     p = true → s.probeFifo p = (t, f) :: rest → exec (.probeFifoPop o p) s = .next (s.close ((s.setProbeFifo p
     rest).emit (.regData 0 t)))) ∧
  (∀ (s : State) (o : Sender) (p : Fin 4), s.reaches o POS_PROBEFIFO p = true → s.probeFifo p = [] → exec
     (.probeFifoPop o p) s = .next (s.close (s.emit (.regData 0 0))))

/-! ### Codec and Skidder -/

/-- R61 to R67, R81, R90, R437. BLOCK_RELEASE of a fetched block hands it to the codec and marks the eight line-buffer
rows it will fill PENDING; where its ring has RATIO 0 it is the error 0x02 instead; the block of a page that is gone
is dropped. BLOCK_DECODE acts while the codec is up with ENABLE = 1, on the oldest released block of the stream: a
spill area not requested yet is fetched where the checks pass; a block that fails its checks or its decoding is
reported by `State.codecError`; otherwise the context is what the decoder leaves, the lines go to the Scaler and, in
a forward swath that reuses them, to their encode stream; a corrected bank word sets BANK_CORR; an uncorrectable
remap word is a Skidder fault with code 5 that fails the page's job with cause 0x0C, an uncorrectable bank word is
`State.bankEcc`; with neither the eight rows are written and the block counted. With nothing released, or the codec
down or disabled, nothing happens. The model's choices and readings in these clauses, no rules of the spec: what a
head, sensor or test reports is an operand (log entry 5); a command out of its state changes nothing (log entry 6);
a poisoned descriptor records the awaited block (log entry 48); NEXT_BLK counts fetches and PREF stays after a
failure (log entry 49); RATIO = 0 turns no row PENDING (log entry 50); CODEC_ERRLINE is the block's first line (log
entry 54); BLK_SEQ is 0 without a header (log entry 156); the stamp of CODEC_ERRLINE (log entry 157); which engine
takes a block (log entry 161); the order of events in one cycle (log entry 183); PREF counts modulo 64 (log entry
187); a block stays when the codec is held (log entry 198). -/
def Obligations.BlocksAreReleasedAndDecoded : Prop :=
  (∀ (s : State) (st : Fin 56) (b : Blk) (rest : List Blk) (pg : JPage), s.awake = true → s.blkHeld 49 = false →
  (s.stream st).prefetched = b :: rest → s.page? b.page = some pg → (s.updStream st fun x =>
  { x with prefetched := rest }).ringRatio st pg ≠ 0 → 
     let u := (s.updStream st fun x => { x with prefetched := rest }).updStream st fun x =>
       { x with released := x.released ++ [b] };
     exec (.blockRelease st) s = .next (s.close ((forTo 8 (fun i t => t.pendRow (portOfStream st) (pg.rowTag b.blk
       i)) u).skidSync st))) ∧
  (∀ (s : State) (st : Fin 56) (b : Blk) (rest : List Blk) (pg : JPage), s.awake = true → s.blkHeld 49 = false →
     (s.stream st).prefetched = b :: rest → s.page? b.page = some pg → (s.updStream st fun x => { x with prefetched := rest }).ringRatio
     st pg = 0 → exec (.blockRelease st) s = .next (s.close (((s.updStream st fun x => { x with prefetched := rest }).codecError
     st pg b.blk 2 0).skidSync st))) ∧
  (∀ (s : State) (st : Fin 56), s.awake = true → s.blkHeld 49 = true → (s.stream st).prefetched ≠ [] → exec
     (.blockRelease st) s = .next (s.close (s.isoCount 49 1))) ∧
  (∀ (s : State) (st : Fin 56) (b : Blk) (rest : List Blk), s.awake = true → s.blkHeld 49 = false → (s.stream
     st).prefetched = b :: rest → s.page? b.page = none → exec (.blockRelease st) s = .next (s.close ((s.updStream st
     fun x => { x with prefetched := rest }).skidSync st))) ∧
  (∀ (s : State) (st : Fin 56) (b : Blk) (rest : List Blk) (pg : JPage) (f : DecFaults), s.awake = true → s.codecUp =
  true → s.on CODEC_CTL.ENABLE = true → (s.stream st).released = b :: rest → (s.updStream st fun x =>
  { x with released := rest }).page? b.page = some pg → 
     let u := s.updStream st fun x => { x with released := rest };
     let q := if b.spill = [] && !b.poison then u.fetchSpill pg (u.blkCtx st pg b.blk) b else (u, b);
     exec (.blockDecode st f) s = .next (s.close (match q.1.decodeTry st pg q.2 f.ctxEcc with
     | .error e => (q.1.codecError st pg q.2.blk e (slotHdr q.2.slot).seq).skidSync st
     | .ok r => 
     let v := (q.1.setCodecCtx st (ctxAfter (slotHdr q.2.slot) (q.1.ringRatio st pg) r.1 r.2)).scaleBlock st pg
       q.2.blk r.1;
     let w := match reuseTo st pg with
     | some e => v.encFeed e 1 ((List.range 8).map (blockRow r.1))
     | none => v;
     let x := w.when f.bankCorr (·.raise CAL_FLAG.BANK_CORR);
     if f.rmapEcc then ((x.skidFault SKID_FLAG.RMAP_ECC 5 st q.2.blk x.posOut).failFor pg 12 x.nextLine).skidSync
       st else if f.bankEcc then x.bankEcc.skidSync st else (x.writeBlock st pg q.2.blk r.1).blockDone st pg q.2
       (slotHdr q.2.slot).spill))) ∧
  (∀ (s : State) (st : Fin 56) (b : Blk) (rest : List Blk) (f : DecFaults), s.awake = true → s.codecUp = true → s.on
     CODEC_CTL.ENABLE = true → (s.stream st).released = b :: rest → (s.updStream st fun x => { x with released := rest }).page?
     b.page = none → exec (.blockDecode st f) s = .next (s.close ((s.updStream st fun x => { x with released := rest }).skidSync
     st))) ∧
  (∀ (s : State) (st : Fin 56) (f : DecFaults), s.awake = true → ((s.stream st).released = [] ∨ (s.codecUp && s.on
     CODEC_CTL.ENABLE) = false) → exec (.blockDecode st f) s = .next (s.close (s)))

/-- R66: CTX_XFER_GO writes DIR and STREAM. With a transfer in progress, a load of a stream with a block queued or in
the encoder, or a record that would end beyond the Landing, it sets CTX_BUSY; otherwise the transfer starts with
XFER_BUSY, a save holding the stream's record as it is then. While the codec is held in reset the fields are stored
and no transfer starts. CTX_XFER_DONE ends the transfer and clears XFER_BUSY: a save writes its record to the
Landing or to DRAM, a load takes the context from there; a load that DRAM answers poisoned leaves the context and
sets CTX_ECC; with no transfer nothing happens. The model's choices and readings in these clauses, no rules of the
spec: a command out of its state changes nothing (log entry 6); the record holds the ratio of the last block's ring
(log entry 52); a save takes its record at GO (log entry 53); fields of a held lighting block act at its release
(log entry 76); queued lines refuse a load (log entry 158). -/
def Obligations.ContextTransfersRun : Prop :=
  (∀ (s : State) (o : Sender) (w : Word), s.reaches o CODEC_CTXXFER = true → s.blkHeld 49 = false →
  (s.codec.xfer.isSome || (CODEC_CTXXFER.DIR.ext w == 1 && s.streamBusy (CODEC_CTXXFER.STREAM.ext w)) ||
     (s.on CODEC_CTXADDR.SPACE && decide (262144 - 1088 < s.fld CODEC_CTXADDR.ADDR * 16))) = true → 
     let i := CODEC_CTXXFER.STREAM.ext w;
     let load := CODEC_CTXXFER.DIR.ext w == 1;
     let u := (s.setFld CODEC_CTXXFER.DIR (bit load)).setFld CODEC_CTXXFER.STREAM i;
     exec (.ctxXferGo o w) s = .next (s.close (u.raise CODEC_FLAG.CTX_BUSY))) ∧
  (∀ (s : State) (o : Sender) (w : Word), s.reaches o CODEC_CTXXFER = true → s.blkHeld 49 = false →
  (s.codec.xfer.isSome || (CODEC_CTXXFER.DIR.ext w == 1 && s.streamBusy (CODEC_CTXXFER.STREAM.ext w)) ||
     (s.on CODEC_CTXADDR.SPACE && decide (262144 - 1088 < s.fld CODEC_CTXADDR.ADDR * 16))) = false → 
     let i := CODEC_CTXXFER.STREAM.ext w;
     let load := CODEC_CTXXFER.DIR.ext w == 1;
     let u := (s.setFld CODEC_CTXXFER.DIR (bit load)).setFld CODEC_CTXXFER.STREAM i;
     exec (.ctxXferGo o w) s = .next (s.close ((u.codecUpd fun k =>
       { k with xfer := some { load := load, stream := i, landing := s.on CODEC_CTXADDR.SPACE, addr := s.fld CODEC_CTXADDR.ADDR, record := if load then [] else (s.codecCtx i).bytes } }).setFld CODEC_STAT.XFER_BUSY 1))) ∧
  (∀ (s : State) (o : Sender) (w : Word), s.reaches o CODEC_CTXXFER = true → s.blkHeld 49 = true → exec (.ctxXferGo o
     w) s = .next (s.close (s.store CODEC_CTXXFER 0 0 (putFields w [(CODEC_CTXXFER.GO, 1)])))) ∧
  (∀ (s : State) (x : Xfer), s.awake = true → s.codec.xfer = some x → x.load = true → x.landing = true → 
     let u := (s.codecUpd fun k => { k with xfer := none }).setFld CODEC_STAT.XFER_BUSY 0;
     exec .ctxXferDone s = .next (s.close (u.setCodecCtx x.stream (Ctx.ofBytes (u.landingBytes (x.addr * 16) 1088))))) ∧
  (∀ (s : State) (x : Xfer), s.awake = true → s.codec.xfer = some x → x.load = true → x.landing = false → 
     let u := (s.codecUpd fun k => { k with xfer := none }).setFld CODEC_STAT.XFER_BUSY 0;
     let r := u.dramRead 5 (x.addr * 16) 1088;
     exec .ctxXferDone s = .next (s.close (match r.2 with
     | some bs => r.1.setCodecCtx x.stream (Ctx.ofBytes bs)
     | none => r.1.raise CODEC_FLAG.CTX_ECC))) ∧
  (∀ (s : State) (x : Xfer), s.awake = true → s.codec.xfer = some x → x.load = false → x.landing = true → 
     let u := (s.codecUpd fun k => { k with xfer := none }).setFld CODEC_STAT.XFER_BUSY 0;
     exec .ctxXferDone s = .next (s.close (u.setLanding (x.addr * 16) x.record))) ∧
  (∀ (s : State) (x : Xfer), s.awake = true → s.codec.xfer = some x → x.load = false → x.landing = false → 
     let u := (s.codecUpd fun k => { k with xfer := none }).setFld CODEC_STAT.XFER_BUSY 0;
     exec .ctxXferDone s = .next (s.close ((u.dramWrite 5 (x.addr * 16) x.record).1))) ∧
  (∀ (s : State), s.awake = true → s.codec.xfer = none → exec .ctxXferDone s = .next (s.close (s)))

/-- R58, R68, R69: ENC_CFG_WRITE and BAND_NEXT are writes of CODEC_ENCCFG. With RATIO 0 the write sets ENC_REJ and
writes nothing. Otherwise the four fields are written, ENABLE = 1 empties the pool, and with ENABLE or BAND_NEXT
written 1 the next block opens a band; BAND_NEXT always writes it 1. ENC_BLOCK with the codec up, the stream enabled
and eight lines collected codes them, as the first block of a band where one is due or SRC is 1, writes the block to
its ring slot, counts it, keeps the context and drops the lines; what spills goes to the pool where it fits and adds
to POOL_USED, else sets ENC_POOL; otherwise nothing happens. The model's choices and readings in these clauses, no
rules of the spec: a command out of its state changes nothing (log entry 6); the slot index of a ring goes on (log
entry 55); fields of a held lighting block act at its release (log entry 76); queued lines stay over a disable (log
entry 159); RING_LOG2 above 20 acts as a power of 2 (log entry 160). -/
def Obligations.EncodeStreamsAreConfiguredAndFilled : Prop :=
  (∀ (s : State) (o : Sender) (e : Fin 8) (w : Word), s.reaches o CODEC_ENCCFG e = true → CODEC_ENCCFG.RATIO.ext w = 0
     → exec (.encCfgWrite o e w) s = .next (s.close (s.raise CODEC_FLAG.ENC_REJ))) ∧
  (∀ (s : State) (o : Sender) (e : Fin 8) (w : Word), s.reaches o CODEC_ENCCFG e = true → CODEC_ENCCFG.RATIO.ext w ≠ 0 → 
     let u := ((((s.setFld CODEC_ENCCFG.ENABLE (CODEC_ENCCFG.ENABLE.ext w) e).setFld CODEC_ENCCFG.RATIO
       (CODEC_ENCCFG.RATIO.ext w) e).setFld CODEC_ENCCFG.TAG (CODEC_ENCCFG.TAG.ext w) e).setFld CODEC_ENCCFG.SRC
       (CODEC_ENCCFG.SRC.ext w) e).when (CODEC_ENCCFG.ENABLE.ext w == 1) (·.setFld CODEC_ENCSTAT.POOL_USED 0 e);
     exec (.encCfgWrite o e w) s = .next (s.close (u.when (CODEC_ENCCFG.ENABLE.ext w == 1 ||
       CODEC_ENCCFG.BAND_NEXT.ext w == 1) fun t => t.setEncStream e { t.encStream e with bandNext := true }))) ∧
  (∀ (s : State) (o : Sender) (e : Fin 8) (w : Word), s.reaches o CODEC_ENCCFG e = true → CODEC_ENCCFG.RATIO.ext w = 0
     → exec (.bandNext o e w) s = .next (s.close (s.raise CODEC_FLAG.ENC_REJ))) ∧
  (∀ (s : State) (o : Sender) (e : Fin 8) (w : Word), s.reaches o CODEC_ENCCFG e = true → CODEC_ENCCFG.RATIO.ext w ≠ 0 → 
     let u := ((((s.setFld CODEC_ENCCFG.ENABLE (CODEC_ENCCFG.ENABLE.ext w) e).setFld CODEC_ENCCFG.RATIO
       (CODEC_ENCCFG.RATIO.ext w) e).setFld CODEC_ENCCFG.TAG (CODEC_ENCCFG.TAG.ext w) e).setFld CODEC_ENCCFG.SRC
       (CODEC_ENCCFG.SRC.ext w) e).when (CODEC_ENCCFG.ENABLE.ext w == 1) (·.setFld CODEC_ENCSTAT.POOL_USED 0 e);
     exec (.bandNext o e w) s = .next (s.close (u.setEncStream e { u.encStream e with bandNext := true }))) ∧
  (∀ (s : State) (e : Fin 8), s.awake = true → (!s.codecUp || !s.on CODEC_ENCCFG.ENABLE e || decide ((s.encStream
     e).lines.length < 8)) = true → exec (.encBlock e) s = .next (s.close (s))) ∧
  (∀ (s : State) (e : Fin 8), s.awake = true → s.codecUp = true → s.on CODEC_ENCCFG.ENABLE e = true → 8 ≤ (s.encStream
  e).lines.length → 
     let ws := ((s.encStream e).lines.take 8).flatten;
     let c := s.codecCtx (56 + e);
     let band := (s.encStream e).bandNext || s.fld CODEC_ENCCFG.SRC e == 1;
     let r := if band then encodeBlock [] Classes.initial ws else encodeBlock c.line
       { copy := c.copy, rep := c.rep, lit := c.lit } ws;
     let ratio := s.fld CODEC_ENCCFG.RATIO e;
     let spill := decide (cap0 ratio < r.1.length);
     let h : BlkHdr := { ver := 1, band := band, spill := spill, ratio := ratio, tag := s.fld CODEC_ENCCFG.TAG e, seq := if band then 0 else c.seq, cbits := r.1.length };
     let used := s.fld CODEC_ENCSTAT.POOL_USED e;
     let need := if spill then spillUnits ratio r.1.length else 0;
     let fits := decide ((used + need) * 16 ≤ s.fld CODEC_ENCPOOL.SIZE e * 4096);
     let bytes := blockBytes h r.1 used fits;
     let u := (s.dramWrite 5 (s.fld CODEC_ENCDST.BASE e * 16 + (s.encStream e).slot % 2 ^ s.fld
       CODEC_ENCDST.RING_LOG2 e * slotBytes ratio) bytes.1).1;
     let v := (u.when (spill && fits) fun t => ((t.dramWrite 5 (t.fld CODEC_ENCPOOL.BASE e * 4096 + used * 16)
       bytes.2).1).setFld CODEC_ENCSTAT.POOL_USED (used + need) e).when (spill && !fits) (·.raise
       CODEC_FLAG.ENC_POOL);
     exec (.encBlock e) s = .next (s.close (((v.setCodecCtx (56 + e) (ctxAfter h ratio ws r.2)).addFld
       CODEC_ENCSTAT.BLOCKS 1 e).setEncStream e
       { bandNext := false, slot := (s.encStream e).slot + 1, lines := (s.encStream e).lines.drop 8 })))

/-- R74 to R78: DESCRIPTOR_READ and DESCRIPTOR_POLL of a stream that has not stopped, with the Skidder up and ENABLE =
1, read the next descriptor of the page whose descriptors come next; otherwise nothing happens. A descriptor that
DRAM answers poisoned is a fault with code 4 and fails the page's job with cause 0x0C; one with OWN = 0 stays where
it is. An owned one advances the head: outside a page one that is no FIRST descriptor of this page's tag is stale,
written back with status 1; one that fails a check of Table 04-4 is written back with status 3, sets DESC_BAD with
its place and reason and stops the stream; a good one is taken. DESC_WRITEBACK writes the oldest descriptor that is
ready (`State.wbReady`) back with status 0 and drops it. A write-back writes word 1 with the status, the blocks
decoded and pos_out, then word 0 with OWN = 0, and sets DESC_DONE where EVT is 1. The model's choices and readings
in these clauses, no rules of the spec: a command out of its state changes nothing (log entry 6); descriptors are
read only while a page awaits one (log entry 47); a poisoned descriptor records the awaited block (log entry 48);
NEXT_BLK counts fetches and PREF stays after a failure (log entry 49); two rows read a descriptor (log entry 145);
logarithms beyond their range act as powers of 2 (log entry 189); a bad descriptor is written back at once (log
entry 190). -/
def Obligations.SkidderReadsDescriptors : Prop :=
  (∀ (s : State) (st : Fin 56) (pg : JPage), s.awake = true → s.skidUp = true → s.on SKID_CTL.ENABLE = true → (s.stream
     st).stopped = false → s.descPage st = some pg → exec (.descriptorRead st) s = .next (s.close ((s.readDesc st
     pg).1.skidSync st))) ∧
  (∀ (s : State) (st : Fin 56) (pg : JPage), s.awake = true → s.skidUp = true → s.on SKID_CTL.ENABLE = true → (s.stream
     st).stopped = false → s.descPage st = some pg → exec (.descriptorPoll st) s = .next (s.close ((s.readDesc st
     pg).1.skidSync st))) ∧
  (∀ (s : State) (st : Fin 56), s.awake = true → ((s.stream st).stopped = true ∨ s.skidUp = false ∨ s.on
     SKID_CTL.ENABLE = false ∨ s.descPage st = none) → exec (.descriptorRead st) s = .next (s.close (s))) ∧
  (∀ (s : State) (st : Fin 56), s.awake = true → ((s.stream st).stopped = true ∨ s.skidUp = false ∨ s.on
     SKID_CTL.ENABLE = false ∨ s.descPage st = none) → exec (.descriptorPoll st) s = .next (s.close (s))) ∧
  (∀ (s : State) (st : Nat) (pg : JPage), (s.dramRead 0 (dringAddr (copyReg (s.copyOf pg) SKID_DRING st) (s.fld
  SKID_DHEAD.IDX st)) 16).2 = none → (
     let i := s.fld SKID_DHEAD.IDX st;
     let g := copyReg (s.copyOf pg) SKID_DRING st;
     let r := s.dramRead 0 (dringAddr g i) 16;
     s.readDesc st pg = ((r.1.skidFault SKID_FLAG.DESC_ECC 4 st ((r.1.stream st).awaits pg) r.1.posOut).failFor pg
       12 r.1.nextLine, .ecc))) ∧
  (∀ (s : State) (st : Nat) (pg : JPage) (bs : List Byte), (s.dramRead 0 (dringAddr (copyReg (s.copyOf pg) SKID_DRING
  st) (s.fld SKID_DHEAD.IDX st)) 16).2 = some bs → (ofBytesBE (bs.take 8)).testBit 63 = false → (
     let i := s.fld SKID_DHEAD.IDX st;
     let g := copyReg (s.copyOf pg) SKID_DRING st;
     let r := s.dramRead 0 (dringAddr g i) 16;
     s.readDesc st pg = (r.1, .unowned))) ∧
  (∀ (s : State) (st : Nat) (pg : JPage) (bs : List Byte), (s.dramRead 0 (dringAddr (copyReg (s.copyOf pg) SKID_DRING
  st) (s.fld SKID_DHEAD.IDX st)) 16).2 = some bs → (ofBytesBE (bs.take 8)).testBit 63 = true → ((s.dramRead 0
  (dringAddr (copyReg (s.copyOf pg) SKID_DRING st) (s.fld SKID_DHEAD.IDX st)) 16).1.stream st).inPage = false →
  ((ofBytesBE (bs.take 8)).testBit 61 && ofBytesBE (bs.take 8) / 2 ^ 24 % 2 ^ 32 == pg.d.tag) = false → (
     let i := s.fld SKID_DHEAD.IDX st;
     let g := copyReg (s.copyOf pg) SKID_DRING st;
     let r := s.dramRead 0 (dringAddr g i) 16;
     let d : RawDesc := { w0 := ofBytesBE (bs.take 8), w1 := ofBytesBE (bs.drop 8) };
     let x := r.1.stream st;
     let u := r.1.setFld SKID_DHEAD.IDX (i + 1) st;
     let k := d.entry i pg.ser g;
     s.readDesc st pg = ((u.writeBack k 1).raise SKID_FLAG.STALE, .stale))) ∧
  (∀ (s : State) (st : Nat) (pg : JPage) (bs : List Byte), (s.dramRead 0 (dringAddr (copyReg (s.copyOf pg) SKID_DRING
  st) (s.fld SKID_DHEAD.IDX st)) 16).2 = some bs → (ofBytesBE (bs.take 8)).testBit 63 = true → (((s.dramRead 0
  (dringAddr (copyReg (s.copyOf pg) SKID_DRING st) (s.fld SKID_DHEAD.IDX st)) 16).1.stream st).inPage ||
  ((ofBytesBE (bs.take 8)).testBit 61 && ofBytesBE (bs.take 8) / 2 ^ 24 % 2 ^ 32 == pg.d.tag)) = true → descWhy
  { w0 := ofBytesBE (bs.take 8), w1 := ofBytesBE (bs.drop 8) } ((s.dramRead 0 (dringAddr (copyReg (s.copyOf pg)
  SKID_DRING st) (s.fld SKID_DHEAD.IDX st)) 16).1.stream st) pg (SKID_RING.RING_LOG2.ext (copyReg (s.copyOf pg)
  SKID_RING st)) ≠ 0 → (
     let i := s.fld SKID_DHEAD.IDX st;
     let g := copyReg (s.copyOf pg) SKID_DRING st;
     let r := s.dramRead 0 (dringAddr g i) 16;
     let d : RawDesc := { w0 := ofBytesBE (bs.take 8), w1 := ofBytesBE (bs.drop 8) };
     let x := r.1.stream st;
     let u := r.1.setFld SKID_DHEAD.IDX (i + 1) st;
     let k := d.entry i pg.ser g;
     let v := u.writeBack k 3;
     let w := v.when (!v.on SKID_FLAG.DESC_BAD) fun t => ((t.setFld SKID_DBADINFO.STREAM st).setFld
       SKID_DBADINFO.DIDX i).setFld SKID_DBADINFO.WHY (descWhy d x pg (SKID_RING.RING_LOG2.ext (copyReg (s.copyOf
       pg) SKID_RING st)));
     s.readDesc st pg = ((w.raise SKID_FLAG.DESC_BAD).updStream st fun x => { x with stopped := true }, .bad))) ∧
  (∀ (s : State) (st : Nat) (pg : JPage) (bs : List Byte), (s.dramRead 0 (dringAddr (copyReg (s.copyOf pg) SKID_DRING
  st) (s.fld SKID_DHEAD.IDX st)) 16).2 = some bs → (ofBytesBE (bs.take 8)).testBit 63 = true → (((s.dramRead 0
  (dringAddr (copyReg (s.copyOf pg) SKID_DRING st) (s.fld SKID_DHEAD.IDX st)) 16).1.stream st).inPage ||
  ((ofBytesBE (bs.take 8)).testBit 61 && ofBytesBE (bs.take 8) / 2 ^ 24 % 2 ^ 32 == pg.d.tag)) = true → descWhy
  { w0 := ofBytesBE (bs.take 8), w1 := ofBytesBE (bs.drop 8) } ((s.dramRead 0 (dringAddr (copyReg (s.copyOf pg)
  SKID_DRING st) (s.fld SKID_DHEAD.IDX st)) 16).1.stream st) pg (SKID_RING.RING_LOG2.ext (copyReg (s.copyOf pg)
  SKID_RING st)) = 0 → (
     let i := s.fld SKID_DHEAD.IDX st;
     let g := copyReg (s.copyOf pg) SKID_DRING st;
     let r := s.dramRead 0 (dringAddr g i) 16;
     let d : RawDesc := { w0 := ofBytesBE (bs.take 8), w1 := ofBytesBE (bs.drop 8) };
     let x := r.1.stream st;
     let u := r.1.setFld SKID_DHEAD.IDX (i + 1) st;
     let k := d.entry i pg.ser g;
     s.readDesc st pg = (u.updStream st fun x =>
       { x with descs := x.descs ++ [k], inPage := !d.flag 60, pageLo := if d.flag 60 then pg.ser + 1 else pg.ser, expBlk := if pg.rev then d.blk else d.blk + d.nblk }, .good))) ∧
  (∀ (s : State) (st : Fin 56) (d : SkDesc), s.awake = true → (s.stream st).descs.find? (s.wbReady st) = some d → exec
     (.descWriteback st) s = .next (s.close ((s.writeBack d 0).updStream st fun x => { x with descs := x.descs.erase d }))) ∧
  (∀ (s : State) (st : Fin 56), s.awake = true → (s.stream st).descs.all (fun d => !s.wbReady st d) = true → exec
     (.descWriteback st) s = .next (s.close (s))) ∧
  (∀ (s : State) (d : SkDesc) (st : Nat), (
     let a := dringAddr d.dring d.didx;
     let u := (s.dramWrite 0 (a + 8) (bytesBE 8 (st * 2 ^ 56 + d.done * 2 ^ 44 + s.posOut.toNat))).1;
     let v := (u.dramWrite 0 a (bytesBE 8 (d.w0 % 2 ^ 63))).1;
     s.writeBack d st = v.when d.evt (·.raise SKID_FLAG.DESC_DONE)))

/-- R72, R81, R82, R233: FETCH_DEADLINE of a stream's next block: where its page waits for its barrier, BARRIER_LATE and
the failure of the page's job with cause 0x0B; with the Skidder disabled a STARVE fault with code 3; otherwise the
descriptors are read, and where one covers the block it becomes due for fetching and the next deadline is that of
the next block; where none does, a STARVE fault with code 1. SLOT_FETCH_DONE fetches the oldest block due, its slot
and, where the checks of its header let it be requested, its spill area; a poisoned slot is kept as such; NEXT_BLK
follows. LATE of the oldest block held is a LATE fault with code 2. Each STARVE and LATE fault fails the page's job
with cause 0x01 from the line after the boundary, or from the next line to be decided if that is later. The model's
choices and readings in these clauses, no rules of the spec: a command out of its state changes nothing (log entry
6); deadlines before a late-known start (log entry 43); deadlines and failures before swath line 0 (log entry 44); a
poisoned descriptor records the awaited block (log entry 48); NEXT_BLK counts fetches and PREF stays after a failure
(log entry 49); NEXT_BLK after a page's last block (log entry 188); logarithms beyond their range act as powers of 2
(log entry 189). -/
def Obligations.SkidderFetchesByItsDeadlines : Prop :=
  (∀ (s : State) (st : Fin 56) (pg : JPage) (i l : Nat), s.awake = true → s.skidUp = true → s.dlBlock st = some (pg,
  i) → s.blockLine pg st i = some l → (pg.ph == .waiting && !s.barrierOk pg.d) = true → 
     let u := s.raise BAR_FLAG.BARRIER_LATE;
     exec (.fetchDeadline st) s = .next (s.close (u.failFor pg 11 (if lineAfter u.nextLine (s.deadlineOf pg l).1
       then u.nextLine else (s.deadlineOf pg l).1)))) ∧
  (∀ (s : State) (st : Fin 56) (pg : JPage) (i l : Nat), s.awake = true → s.skidUp = true → s.dlBlock st = some (pg,
  i) → s.blockLine pg st i = some l → (pg.ph == .waiting && !s.barrierOk pg.d) = false → s.on SKID_CTL.ENABLE =
  false → 
     let u := s.skidFault SKID_FLAG.STARVE 3 st (pg.blkAt i) (s.deadlineOf pg l).2;
     exec (.fetchDeadline st) s = .next (s.close ((u.failFor pg 1 (u.failLine (s.deadlineOf pg l).1))))) ∧
  (∀ (s : State) (st : Fin 56) (pg : JPage) (i l : Nat) (d : SkDesc) (q : JPage), s.awake = true → s.skidUp = true →
  s.dlBlock st = some (pg, i) → s.blockLine pg st i = some l → (pg.ph == .waiting && !s.barrierOk pg.d) = false →
  s.on SKID_CTL.ENABLE = true → (State.deadlineRead pg st (pg.blkAt i) 65536 s).covering st pg (pg.blkAt i) = some
  d → (State.deadlineRead pg st (pg.blkAt i) 65536 s).page? pg.ser = some q → 
     let u := State.deadlineRead pg st (pg.blkAt i) 65536 s;
     exec (.fetchDeadline st) s = .next (s.close ((u.updStream st fun x =>
       { x with dlPage := if i + 1 = pg.d.blocks then pg.ser + 1 else pg.ser, dlCnt := if i + 1 = pg.d.blocks then 0 else i + 1, toFetch := x.toFetch ++ [{ page := pg.ser, blk := pg.blkAt i, addr := u.slotAddr st pg d (pg.blkAt i), slot := [], spill := [], poison := false }] }).skidSync st))) ∧
  (∀ (s : State) (st : Fin 56) (pg : JPage) (i l : Nat) (q : JPage), s.awake = true → s.skidUp = true → s.dlBlock st =
  some (pg, i) → s.blockLine pg st i = some l → (pg.ph == .waiting && !s.barrierOk pg.d) = false → s.on
  SKID_CTL.ENABLE = true → (State.deadlineRead pg st (pg.blkAt i) 65536 s).covering st pg (pg.blkAt i) = none →
  (State.deadlineRead pg st (pg.blkAt i) 65536 s).page? pg.ser = some q → 
     let u := State.deadlineRead pg st (pg.blkAt i) 65536 s;
     let v := u.skidFault SKID_FLAG.STARVE 1 st (pg.blkAt i) (s.deadlineOf pg l).2;
     exec (.fetchDeadline st) s = .next (s.close (v.failFor pg 1 (v.failLine (s.deadlineOf pg l).1)))) ∧
  (∀ (s : State) (st : Fin 56) (b : Blk) (rest : List Blk), s.awake = true → s.blkHeld 48 = true → (s.stream
     st).toFetch = b :: rest → exec (.slotFetchDone st) s = .next (s.close (((s.updStream st fun x => { x with toFetch := rest }).isoCount
     48 1).skidSync st))) ∧
  (∀ (s : State) (st : Fin 56) (b : Blk) (rest : List Blk) (pg : JPage), s.awake = true → s.blkHeld 48 = false →
  (s.stream st).toFetch = b :: rest → s.page? b.page = some pg → 
     let n := slotBytes (s.ringRatio st pg);
     let r := s.dramRead 0 b.addr n;
     let q := if n = 0 then (s, b) else match r.2 with
     | none => (r.1, { b with poison := true })
     | some slot => r.1.fetchSpill pg (r.1.fetchCtx st pg b.blk) { b with slot := slot };
     exec (.slotFetchDone st) s = .next (s.close (((q.1.updStream st fun x =>
       { x with toFetch := rest, prefetched := x.prefetched ++ [q.2] }).setFld SKID_SSTAT.NEXT_BLK (q.2.blk + 1)
       st).skidSync st))) ∧
  (∀ (s : State) (st : Fin 56) (b : Blk) (rest : List Blk) (pg : JPage) (l : Nat), s.awake = true → (s.stream
  st).released ++ (s.stream st).prefetched ++ (s.stream st).toFetch = b :: rest → s.page? b.page = some pg →
  s.blockLine pg st (pg.placeOf b.blk) = some l → 
     let u := s.skidFault SKID_FLAG.LATE 2 st b.blk (s.stampOf l);
     exec (.late st) s = .next (s.close (u.failFor pg 1 (u.failLine l)))) ∧
  (∀ (s : State) (b : Nat), s.failLine b = if lineAfter s.nextLine (lineMod (b + 1)) then s.nextLine else lineMod (b +
     1))

/-- R84, R87, R434: RMAP_WRITE at an index outside the table sets RMAP_RANGE. At an index that names a word: during a
job it sets RMAP_REJ; between jobs a word that would break the entry's rules (`rmapOk`) sets RMAP_RANGE, and any
other is written; in each case the index advances to the next word where AUTOINC is 1 (`State.rmapAdvance`). The
model's choices and readings in these clauses, no rules of the spec: which candidates a word 0 checks (log entry
51). -/
def Obligations.RemapTableIsWrittenBetweenJobs : Prop :=
  (∀ (s : State) (o : Sender) (w : Word), s.reaches o SKID_RMAPDATA = true → s.rmapIdxOk = true → s.betweenJobs = true
     → (if s.fld SKID_RMAPIDX.WORD = 0 then rmapOk w (s.rmapWord (s.rmapIdx + 1)) w 0 else rmapOk (s.rmapWord
     (s.rmapIdx - 1)) w w (s.fld SKID_RMAPIDX.WORD)) = true → exec (.rmapWrite o w) s = .next (s.close ((s.setRmapWord
     s.rmapIdx w).rmapAdvance))) ∧
  (∀ (s : State) (o : Sender) (w : Word), s.reaches o SKID_RMAPDATA = true → s.rmapIdxOk = true → s.betweenJobs = true
     → (if s.fld SKID_RMAPIDX.WORD = 0 then rmapOk w (s.rmapWord (s.rmapIdx + 1)) w 0 else rmapOk (s.rmapWord
     (s.rmapIdx - 1)) w w (s.fld SKID_RMAPIDX.WORD)) = false → exec (.rmapWrite o w) s = .next (s.close ((s.raise
     SKID_FLAG.RMAP_RANGE).rmapAdvance))) ∧
  (∀ (s : State) (o : Sender) (w : Word), s.reaches o SKID_RMAPDATA = true → s.rmapIdxOk = true → s.betweenJobs = false
     → exec (.rmapWrite o w) s = .next (s.close ((s.raise SKID_FLAG.RMAP_REJ).rmapAdvance))) ∧
  (∀ (s : State) (o : Sender) (w : Word), s.reaches o SKID_RMAPDATA = true → s.rmapIdxOk = false → exec (.rmapWrite o
     w) s = .next (s.close (s.raise SKID_FLAG.RMAP_RANGE)))

/-! ### Transactions and calibration -/

/-- R159, R169: TXN_BEGIN with no transaction of the sender open or arming opens an empty one, otherwise it sets
CMD_SEQ. TXN_ROLLBACK of an open one drops it with its staged writes, otherwise it sets CMD_SEQ. TXN_SLOT_CANCEL of
an armed transaction whose preparation has not begun aborts it with cause 0x01, of one in preparation sets
CANCEL_REJ, of an empty slot or one that waits for votes does nothing. The model's choices and readings in these
clauses, no rules of the spec: a command out of its state changes nothing (log entry 6); a row that writes a
register writes its whole word (log entry 22); a voting slot counts as armed (log entry 195). -/
def Obligations.TransactionsOpenAndRollBack : Prop :=
  (∀ (s : State) (o : Sender), s.reaches o TXN_CMD = true → (s.ctx (originNum o.origin)).isOpen = false → (s.ctx
     (originNum o.origin)).arming = false → exec (.txnBegin o) s = .next (s.close (s.setCtx (originNum o.origin) { StageCtx.reset with isOpen := true }))) ∧
  (∀ (s : State) (o : Sender), s.reaches o TXN_CMD = true → ((s.ctx (originNum o.origin)).isOpen || (s.ctx (originNum
     o.origin)).arming) = true → exec (.txnBegin o) s = .next (s.close (s.raise TXN_FLAG.CMD_SEQ))) ∧
  (∀ (s : State) (o : Sender), s.reaches o TXN_CMD = true → (s.ctx (originNum o.origin)).isOpen = true → exec
     (.txnRollback o) s = .next (s.close ((s.setCtx (originNum o.origin) StageCtx.reset).txnSync))) ∧
  (∀ (s : State) (o : Sender), s.reaches o TXN_CMD = true → (s.ctx (originNum o.origin)).isOpen = false → exec
     (.txnRollback o) s = .next (s.close (s.raise TXN_FLAG.CMD_SEQ))) ∧
  (∀ (s : State) (o : Sender) (k : Fin 16) (t : Slot), s.reaches o TXN_SLOTCMD k = true → s.slot? k = some t → t.voting
     = false → t.prep = false → exec (.txnSlotCancel o k) s = .next (s.close (s.abortSlot k t 1))) ∧
  (∀ (s : State) (o : Sender) (k : Fin 16) (t : Slot), s.reaches o TXN_SLOTCMD k = true → s.slot? k = some t → t.voting
     = false → t.prep = true → exec (.txnSlotCancel o k) s = .next (s.close (s.raise TXN_FLAG.CANCEL_REJ))) ∧
  (∀ (s : State) (o : Sender) (k : Fin 16) (t : Slot), s.reaches o TXN_SLOTCMD k = true → s.slot? k = some t → t.voting
     = true → exec (.txnSlotCancel o k) s = .next (s.close (s))) ∧
  (∀ (s : State) (o : Sender) (k : Fin 16), s.reaches o TXN_SLOTCMD k = true → s.slot? k = none → exec (.txnSlotCancel
     o k) s = .next (s.close (s)))

/-- R160: TXN_STAGE_WRITE to a register with RWS fields while the sender's transaction is open enters the store and
leaves the register: an address staged before takes the new word in place, a new one (and every write of a queue
register) becomes the transaction's next write; a parity error dooms the transaction with cause 0x04, a write beyond
1,024 of it with cause 0x02, one beyond the store's 4,096 with cause 0x03, each with STAGE_REJ; a doomed transaction
takes nothing. With no transaction open the write is a direct one. A commit gives every RWS field of a register its
staged value and leaves its other fields as they are (`mergeRws`). The model's choices and readings in these
clauses, no rules of the spec: what acts in a system reset (log entry 25); a held Warden core makes no access (log
entry 26); a refusal without a block wrapper is not counted (log entry 27); ADDR_ERR on reads too (log entry 28); a
voting slot counts as armed (log entry 195). -/
def Obligations.StagedWritesWaitForTheirCommit : Prop :=
  (∀ (s : State) (o : Sender) (a : BitVec 24) (w : Word) (row : RegRow) (i j : Nat), s.maySend o = true → s.regIso
     a.toNat = false → regRow? a.toNat = some (row, i, j) → row.fields.any (fun f => f.acc == .rws) = true → (s.ctx
     (originNum o.origin)).isOpen = true → (s.ctx (originNum o.origin)).doomed = none → (s.ctx (originNum
     o.origin)).has a.toNat = false → (s.ctx (originNum o.origin)).writes.length < 1024 → s.storeUsed < 4096 → exec
     (.txnStageWrite o a w false) s = .next (s.close ((s.setCtx (originNum o.origin) ((s.ctx (originNum o.origin)).put
     a.toNat w (s.txChip (originNum o.origin)))).txnSync))) ∧
  (∀ (s : State) (o : Sender) (a : BitVec 24) (w : Word) (row : RegRow) (i j : Nat), s.maySend o = true → s.regIso
     a.toNat = false → regRow? a.toNat = some (row, i, j) → row.fields.any (fun f => f.acc == .rws) = true → (s.ctx
     (originNum o.origin)).isOpen = true → (s.ctx (originNum o.origin)).doomed = none → (s.ctx (originNum
     o.origin)).has a.toNat = true → exec (.txnStageWrite o a w false) s = .next (s.close (s.setCtx (originNum
     o.origin) ((s.ctx (originNum o.origin)).put a.toNat w (s.txChip (originNum o.origin)))))) ∧
  (∀ (s : State) (o : Sender) (a : BitVec 24) (w : Word) (row : RegRow) (i j : Nat), s.maySend o = true → s.regIso
     a.toNat = false → regRow? a.toNat = some (row, i, j) → row.fields.any (fun f => f.acc == .rws) = true → (s.ctx
     (originNum o.origin)).isOpen = true → (s.ctx (originNum o.origin)).doomed = none → (s.ctx (originNum
     o.origin)).has a.toNat = false → 1024 ≤ (s.ctx (originNum o.origin)).writes.length → exec (.txnStageWrite o a w
     false) s = .next (s.close (s.doom (originNum o.origin) 2))) ∧
  (∀ (s : State) (o : Sender) (a : BitVec 24) (w : Word) (row : RegRow) (i j : Nat), s.maySend o = true → s.regIso
     a.toNat = false → regRow? a.toNat = some (row, i, j) → row.fields.any (fun f => f.acc == .rws) = true → (s.ctx
     (originNum o.origin)).isOpen = true → (s.ctx (originNum o.origin)).doomed = none → (s.ctx (originNum
     o.origin)).has a.toNat = false → (s.ctx (originNum o.origin)).writes.length < 1024 → 4096 ≤ s.storeUsed → exec
     (.txnStageWrite o a w false) s = .next (s.close (s.doom (originNum o.origin) 3))) ∧
  (∀ (s : State) (o : Sender) (a : BitVec 24) (w : Word) (row : RegRow) (i j : Nat), s.maySend o = true → s.regIso
     a.toNat = false → regRow? a.toNat = some (row, i, j) → row.fields.any (fun f => f.acc == .rws) = true → (s.ctx
     (originNum o.origin)).isOpen = true → (s.ctx (originNum o.origin)).doomed = none → exec (.txnStageWrite o a w
     true) s = .next (s.close (s.doom (originNum o.origin) 4))) ∧
  (∀ (s : State) (o : Sender) (a : BitVec 24) (w : Word) (row : RegRow) (i j c : Nat) (e : Bool), s.maySend o = true →
     s.regIso a.toNat = false → regRow? a.toNat = some (row, i, j) → row.fields.any (fun f => f.acc == .rws) = true →
     (s.ctx (originNum o.origin)).isOpen = true → (s.ctx (originNum o.origin)).doomed = some c → exec (.txnStageWrite o
     a w e) s = .next (s.close (s))) ∧
  (∀ (s : State) (o : Sender) (a : BitVec 24) (w : Word) (e : Bool), (s.ctx (originNum o.origin)).isOpen = false → exec
     (.txnStageWrite o a w e) s = exec (.registerWrite o a w) s) ∧
  (∀ (r : Reg) (i j : Nat) (old w : Word) (f : Fld), namedAt r i j = true → f ∈ fieldsAt (r.at i j) → f.ext (mergeRws
     (fieldsAt (r.at i j)) old w) = if f.acc = .rws then f.ext w else f.ext old)

/-- R162 to R168: TXN_ARM stores MODE, GEN and DIST of the sender's bank. Without an open transaction it sets CMD_SEQ.
With one, the transaction takes the next sequence number modulo 2^16, the sender's context is emptied (arming, while
a distributed exchange is to run), its result is cleared, and: a parity error aborts it with cause 0x04, a doomed
one with its cause, a mode that is not allowed with cause 0x05; a distributed one starts its exchange
(`State.dxStart`); of a local one the checks of Table 08-2 are made, the first that fails aborting it with its
cause, otherwise it is armed in the free slot, or committed at once, as its mode says (`State.armDone`).
TXN_TIME_TRIGGER of a time-mode transaction whose target network time has reached and that has no line yet triggers
it, a distributed one through its exchange; of any other, or an empty slot, it does nothing. Triggered when the
device is not quiet, outside the scan interval, it resolves to line D + 1. The model's choices and readings in these
clauses, no rules of the spec: a row that writes a register writes its whole word (log entry 22); a PREP takes a
local number; DX_ABORT of the chip's own NO (log entry 118); a voting slot counts as armed (log entry 195); entries
are reserved with EN = 0 (log entry 200). -/
def Obligations.ArmingNumbersAndChecksATransaction : Prop :=
  (∀ (s : State) (o : Sender) (w : Word) (pe : Bool), s.reaches o TXN_ARM = true → (s.ctx (originNum o.origin)).isOpen
  = true → 
     let v := ((s.setFld TXN_ARM.MODE (TXN_ARM.MODE.ext w) (originNum o.origin)).setFld TXN_ARM.GEN
       (TXN_ARM.GEN.ext w) (originNum o.origin)).setFld TXN_ARM.DIST (TXN_ARM.DIST.ext w) (originNum o.origin);
     let q := v.txn.nextSeq;
     let t : Slot := { seq := q, mode := TXN_ARM.MODE.ext w, gen := TXN_ARM.GEN.ext w == 1, dist := TXN_ARM.DIST.ext w == 1, origin := (originNum o.origin), writes := (v.ctx (originNum o.origin)).writes, target := v.reg TXN_TGT (originNum o.origin), targetNs := v.fld TXN_TGTNS.NS (originNum o.origin), line := none, nextSwath := false, prep := false, early := false, byEmpty := false, deferred := false, units := 0, logs := 0, issuer := true, voting := false, init := v.barId, iseq := q, places := [], armDec := 0 };
     let bad := if pe then some 4 else (v.ctx (originNum o.origin)).doomed;
     let noMode := 4 < t.mode || (t.dist && (t.mode == 0 || t.mode == 3));
     let u := (((((v.txnUpd fun x => { x with nextSeq := (q + 1) % 65536 }).setCtx (originNum o.origin)
       { StageCtx.reset with arming := t.dist && bad.isNone && !noMode }).txnSync).setFld TXN_RESULT.SEQ q
       (originNum o.origin)).setFld TXN_RESULT.OUT 0 (originNum o.origin)).setFld TXN_RESULT.CAUSE 0 (originNum
       o.origin);
     exec (.txnArm o w pe) s = .next (s.close (match bad with
     | some c => u.txnAbort (originNum o.origin) q c
     | none => if noMode then u.txnAbort (originNum o.origin) q 5 else if t.dist then u.dxStart t (v.ctx (originNum
       o.origin)).chips else if (u.armChecks t).2.1 ≠ 0 then (u.armChecks t).1.txnAbort (originNum o.origin) q
       (u.armChecks t).2.1 else (u.armChecks t).1.armDone (u.armChecks t).1.freeSlot (u.armChecks t).2.2))) ∧
  (∀ (s : State) (o : Sender) (w : Word) (pe : Bool), s.reaches o TXN_ARM = true → (s.ctx (originNum o.origin)).isOpen
  = false → 
     let v := ((s.setFld TXN_ARM.MODE (TXN_ARM.MODE.ext w) (originNum o.origin)).setFld TXN_ARM.GEN
       (TXN_ARM.GEN.ext w) (originNum o.origin)).setFld TXN_ARM.DIST (TXN_ARM.DIST.ext w) (originNum o.origin);
     exec (.txnArm o w pe) s = .next (s.close (v.raise TXN_FLAG.CMD_SEQ))) ∧
  (∀ (s : State) (k : Fin 16) (t : Slot), s.awake = true → s.slot? k = some t → (t.voting || t.prep || t.line.isSome ||
     t.nextSwath || t.mode != 4 || !s.timeReached t.target.toNat t.targetNs) = false → t.dist = false → exec
     (.txnTimeTrigger k) s = .next (s.close (s.trigger k t))) ∧
  (∀ (s : State) (k : Fin 16) (t : Slot), s.awake = true → s.slot? k = some t → (t.voting || t.prep || t.line.isSome ||
     t.nextSwath || t.mode != 4 || !s.timeReached t.target.toNat t.targetNs) = false → t.dist = true → exec
     (.txnTimeTrigger k) s = .next (s.close (s.distTrigger k t))) ∧
  (∀ (s : State) (k : Fin 16) (t : Slot), s.awake = true → s.slot? k = some t → (t.voting || t.prep || t.line.isSome ||
     t.nextSwath || t.mode != 4 || !s.timeReached t.target.toNat t.targetNs) = true → exec (.txnTimeTrigger k) s =
     .next (s.close (s))) ∧
  (∀ (s : State) (k : Fin 16), s.awake = true → s.slot? k = none → exec (.txnTimeTrigger k) s = .next (s.close (s))) ∧
  (∀ (s : State) (k : Nat) (t : Slot), s.quiet = false → s.scanInterval = false → calChange? t.seq t.writes = none →
     s.trigger k t = s.setSlot k (some { t with line := some (lineMod (s.pos.nextDec + 1)) }))

/-- R150, R174: COMMIT_RECORD_WRITE writes the oldest waiting record into its ring at the write index, SUBST_LOG_WRITE
the oldest waiting log entries with their numbers; where DRAM took every unit the index advances by the units
written, modulo 2^24, and the entry is dropped, otherwise it stays; with nothing waiting nothing happens. R151,
R175: LOG_REJ and RLOG_REJ, the writes of the log registers: with both indexes equal and nothing reserved the fields
are written, otherwise the flag of that name is set and nothing is. The model's choices and readings in these
clauses, no rules of the spec: a voting slot counts as armed (log entry 195); a row goes over to the bank of a lower
change (log entry 199); a change edits the bank active after it (log entry 163). -/
def Obligations.TransactionAndSubstitutionLogsAreWritten : Prop :=
  (∀ (s : State) (r : List (BitVec 64)) (rest : List (List (BitVec 64))), s.awake = true → s.txn.records = r :: rest → 
     let r2 := s.ringWrite (s.fld TXN_RLOGBASE.ADDR) s.recLog2 (s.fld TXN_RLOGWR.IDX) r;
     exec .commitRecordWrite s = .next (s.close (if r2.2 then ((r2.1.txnUpd fun x =>
       { x with records := rest }).setFld TXN_RLOGWR.IDX (lineMod (s.fld TXN_RLOGWR.IDX + r.length / 2))).txnSync
       else r2.1))) ∧
  (∀ (s : State), s.awake = true → s.txn.records = [] → exec .commitRecordWrite s = .next (s.close (s))) ∧
  (∀ (s : State) (r : List (BitVec 64)) (rest : List (List (BitVec 64))), s.awake = true → s.txn.logQ = r :: rest → 
     let r2 := s.ringWrite (s.fld CAL_LOGBASE.ADDR) s.calLog2 (s.fld CAL_LOGWR.IDX) (logSeq (s.fld CAL_LOGWR.IDX) r);
     exec .substLogWrite s = .next (s.close (if r2.2 then ((r2.1.txnUpd fun x => { x with logQ := rest }).setFld
       CAL_LOGWR.IDX (lineMod (s.fld CAL_LOGWR.IDX + r.length / 2))).txnSync else r2.1))) ∧
  (∀ (s : State), s.awake = true → s.txn.logQ = [] → exec .substLogWrite s = .next (s.close (s))) ∧
  (∀ (s : State) (o : Sender) (w : Word), s.reaches o CAL_LOGBASE = true → (s.fld CAL_LOGWR.IDX = s.fld CAL_LOGRD.IDX ∧
     s.fld CAL_LOGSTAT.RESV = 0) → exec (.logRej o false w) s = .next (s.close (s.setFld CAL_LOGBASE.ADDR
     (CAL_LOGBASE.ADDR.ext w)))) ∧
  (∀ (s : State) (o : Sender) (w : Word), s.reaches o CAL_LOGCFG = true → (s.fld CAL_LOGWR.IDX = s.fld CAL_LOGRD.IDX ∧
     s.fld CAL_LOGSTAT.RESV = 0) → exec (.logRej o true w) s = .next (s.close ((s.setFld CAL_LOGCFG.LOG2
     (CAL_LOGCFG.LOG2.ext w)).setFld CAL_LOGCFG.EN (CAL_LOGCFG.EN.ext w)))) ∧
  (∀ (s : State) (o : Sender) (w : Word) (c : Bool), s.reaches o (if c then CAL_LOGCFG else CAL_LOGBASE) = true → ¬
     (s.fld CAL_LOGWR.IDX = s.fld CAL_LOGRD.IDX ∧ s.fld CAL_LOGSTAT.RESV = 0) → exec (.logRej o c w) s = .next (s.close
     (s.raise CAL_FLAG.LOG_REJ))) ∧
  (∀ (s : State) (o : Sender) (w : Word), s.reaches o TXN_RLOGCFG = true → (s.fld TXN_RLOGWR.IDX = s.fld TXN_RLOGRD.IDX
     ∧ s.fld TXN_RLOGSTAT.RESV = 0) → exec (.rlogRej o true w) s = .next (s.close (((s.setFld TXN_RLOGCFG.LOG2
     (TXN_RLOGCFG.LOG2.ext w)).setFld TXN_RLOGCFG.EN (TXN_RLOGCFG.EN.ext w)).setFld TXN_RLOGCFG.FULL
     (TXN_RLOGCFG.FULL.ext w)))) ∧
  (∀ (s : State) (o : Sender) (w : Word), s.reaches o TXN_RLOGBASE = true → (s.fld TXN_RLOGWR.IDX = s.fld
     TXN_RLOGRD.IDX ∧ s.fld TXN_RLOGSTAT.RESV = 0) → exec (.rlogRej o false w) s = .next (s.close (s.setFld
     TXN_RLOGBASE.ADDR (TXN_RLOGBASE.ADDR.ext w)))) ∧
  (∀ (s : State) (o : Sender) (w : Word) (c : Bool), s.reaches o (if c then TXN_RLOGCFG else TXN_RLOGBASE) = true → ¬
     (s.fld TXN_RLOGWR.IDX = s.fld TXN_RLOGRD.IDX ∧ s.fld TXN_RLOGSTAT.RESV = 0) → exec (.rlogRej o c w) s = .next
     (s.close (s.raise TXN_FLAG.RLOG_REJ)))

/-- R145, R434: CAL_BANK_WRITE at an index that names a word: a word that the table can hold, to a bank that is neither
active nor to be made active by an armed swap, writes the word's entries; any other sets BANK_REJ and writes
nothing; in both cases the index advances where AUTOINC is 1 (`State.calAdvance`). At an index outside the tables it
sets BANK_REJ alone. The model's choices and readings in these clauses, no rules of the spec: a voting slot counts
as armed (log entry 195). -/
def Obligations.CalibrationBankIsWrittenWhileClosedToUse : Prop :=
  (∀ (s : State) (o : Sender) (w : Word), s.reaches o CAL_BANKDATA = true → s.calIdxOk = true → s.calClosed (s.fld
     CAL_BANKIDX.BANK) = false → calDataOk (s.fld CAL_BANKIDX.TABLE) (s.fld CAL_BANKIDX.WORD) w = true → exec
     (.calBankWrite o w) s = .next (s.close ((s.putCalWord (s.fld CAL_BANKIDX.BANK) (s.fld CAL_BANKIDX.PORT) (s.fld
     CAL_BANKIDX.TABLE) (s.fld CAL_BANKIDX.WORD) w).calAdvance))) ∧
  (∀ (s : State) (o : Sender) (w : Word), s.reaches o CAL_BANKDATA = true → s.calIdxOk = true → (s.calClosed (s.fld
     CAL_BANKIDX.BANK) || !calDataOk (s.fld CAL_BANKIDX.TABLE) (s.fld CAL_BANKIDX.WORD) w) = true → exec (.calBankWrite
     o w) s = .next (s.close ((s.raise CAL_FLAG.BANK_REJ).calAdvance))) ∧
  (∀ (s : State) (o : Sender) (w : Word), s.reaches o CAL_BANKDATA = true → s.calIdxOk = false → exec (.calBankWrite o
     w) s = .next (s.close (s.raise CAL_FLAG.BANK_REJ)))

/-! ### Inspection pipeline -/

/-- R180, R183, R185, R186, R189: a port whose EN = 0, or with PD6 off, takes no packet. A header beyond correction sets
PKT_ERR and drops the frame being received with cause 3; a corrected one sets HDR_CORR and the packet acts as a
sound one. FRAME_START, LINE_PACKET and FRAME_END of another channel, or a line of another type, set VC_DROP.
FRAME_START closes with FRAME_ERR what was open, adds one to FSEQ, takes the oldest trigger or the present position
(UNTRIG), makes a due activation, and opens the frame; at a port that no pipeline takes the frame is recorded
dropped with cause 6 and only checked; with the ring full it is dropped with cause 2. A line with a wrong checksum
sets PKT_ERR and drops the frame with cause 3; one of wrong length or beyond HEIGHT sets FRAME_ERR and drops it with
cause 4; one that finds 8 lines staged drops it with cause 1; any other is staged. FRAME_END closes a frame of
HEIGHT lines, otherwise FRAME_ERR and cause 4. LANE_ERR sets its flag. R181, R182: TRIGGER_CROSS at a target that
the moving web comes to (not behind it: log entry 213) makes a pulse and asks for its strobes, or sets TRIG_SKIP
while the gap is short or four triggers wait, and the target moves by PITCH, at least one line; TRIGGER_PULSE_END
returns the pin. R185: PIPE_LINE processes the oldest staged line of the input served, after STORE_CORR for a
corrected one; an uncorrectable one sets STORE_ECC and drops the frame with cause 5. R193: PUBLISHED of a frame
whose lines are all processed writes its statistics, then its header, then its valid bit, archives it, counts it in
VIS_FRWR, sets its flag and scores it; otherwise it does nothing. The model's choices and readings in these clauses,
no rules of the spec: what a head, sensor or test reports is an operand (log entry 5); a command out of its state
changes nothing (log entry 6); the bytes of a zone without a pixel are free (log entry 20); a frame is published at
its end, not only processed (log entry 127); a port takes one frame at a time (log entry 128); the settings at a
port's enabling (log entry 129); SCORE clears after its test; bad entries are operands (log entry 134); the order of
events in one cycle (log entry 183); inputs of a lost rail are ignored (log entry 216). -/
def Obligations.CameraFramesAreReceivedAndPublished : Prop :=
  (∀ (s : State) (n : Fin 8) (vc : Fin 4) (h : Fin 3) (d : BitVec 6) (b : Bool) (px : List (BitVec 14)), s.camOn n =
     false → exec (.frameStart n vc h) s = .next (s.close s) ∧ exec (.linePacket n vc d h b px) s = .next (s.close s) ∧
     exec (.frameEnd n vc h) s = .next (s.close s) ∧ exec (.laneErr n) s = .next (s.close s)) ∧
  (∀ (s : State) (n : Fin 8) (vc : Fin 4) (d : BitVec 6) (px : List (BitVec 14)) (b : Bool), s.awake = true → s.camOn
  n = true → (
     let t := (s.raise VIS_PFLAG.PKT_ERR n).dropRx n 3;
     exec (.frameStart n vc 2) s = .next (s.close t) ∧ exec (.linePacket n vc d 2 b px) s = .next (s.close t) ∧
       exec (.frameEnd n vc 2) s = .next (s.close t))) ∧
  (∀ (s : State) (n : Fin 8) (vc : Fin 4) (d : BitVec 6) (px : List (BitVec 14)) (b : Bool), s.awake = true → s.camOn
  n = true → (
     let u := s.raise VIS_PFLAG.HDR_CORR n;
     exec (.frameStart n vc 1) s = .next (s.close (u.frameStart n vc 0)) ∧ exec (.linePacket n vc d 1 b px) s =
       .next (s.close (u.linePacket n vc d.toNat 0 b (px.map fun p => p.toNat % 2 ^ pixBits d.toNat))) ∧ exec
       (.frameEnd n vc 1) s = .next (s.close (u.frameEnd n vc 0)))) ∧
  (∀ (s : State) (n : Fin 8) (vc : Fin 4), s.awake = true → s.camOn n = true → vc.val = s.fld VIS_PORTCFG.VC n → 
     let r := s.when (s.pstate n == 2 || (s.vport n).check.isSome) (fun s => (s.raise VIS_PFLAG.FRAME_ERR n).dropRx
       n 4);
     let u := r.addFld VIS_PORTSTAT.FSEQ 1 n;
     let t := u.frameStamp n;
     let q := t.1.lateJobs (n / 2) n;
     let v := (q.activate n).pushGen n (q.vport n).dirty;
     let f := v.newFrame n t.2.1 t.2.2.1 t.2.2.2;
     exec (.frameStart n vc 0) s = .next (s.close ((v.setFld VIS_GEN.LASTGEN f.gen n).openFrame n f))) ∧
  (∀ (s : State) (n : Fin 8) (vc : Fin 4), s.awake = true → s.camOn n = true → vc.val ≠ s.fld VIS_PORTCFG.VC n → exec
     (.frameStart n vc 0) s = .next (s.close (s.raise VIS_PFLAG.VC_DROP n))) ∧
  (∀ (s : State) (n : Nat) (p : Word) (lf : Bool) (rest : List (Word × Bool)), s.fld VIS_TRIG.MODE n ≠ 2 → (s.vport
     n).tfifo = (p, lf) :: rest → s.frameStamp n = (s.updVport n (fun x => { x with tfifo := rest }), p, false, lf)) ∧
  (∀ (s : State) (n : Nat), s.fld VIS_TRIG.MODE n ≠ 2 → (s.vport n).tfifo = [] → s.frameStamp n = (s.raise
     VIS_PFLAG.UNTRIG n, s.trigPos n, true, false)) ∧
  (∀ (s : State) (n : Nat), s.fld VIS_TRIG.MODE n = 2 → s.frameStamp n = (s.updVport n (fun x => { x with tfifo := x.tfifo.drop 1 }),
     s.trigPos n, false, false)) ∧
  (∀ (s : State) (n : Nat) (f : VFrame), s.pipeOf n = none → s.openFrame n f = ((s.setFld VIS_PORTSTAT.PSTATE 3
     n).updVport n fun x => { x with check := some 0 }).recordDrop n 6 f.fseq f.stamp) ∧
  (∀ (s : State) (n : Nat) (f : VFrame) (k i : Nat), s.pipeOf n = some (k, i) → s.ringFull n = true → s.openFrame n f =
     (s.setFld VIS_PORTSTAT.PSTATE 3 n).recordDrop n 2 f.fseq f.stamp) ∧
  (∀ (s : State) (n : Nat) (f : VFrame) (k i : Nat), s.pipeOf n = some (k, i) → s.ringFull n = false → (
     let u := (s.updVport n fun x => { x with frames := x.frames ++ [f] }).setFld VIS_PORTSTAT.PSTATE 2 n;
     s.openFrame n f = u.when (s.pipeMode k != 2) (·.serveIdle n))) ∧
  (∀ (s : State) (n : Fin 8) (vc : Fin 4) (d : BitVec 6) (px : List (BitVec 14)), s.awake = true → s.camOn n = true →
     vc.val = s.fld VIS_PORTCFG.VC n → d.toNat = s.fld VIS_PORTCFG.DT n → s.rxFrame n = none → (s.vport n).check = none
     → exec (.linePacket n vc d 0 true px) s = .next (s.close (s.when (s.pstate n == 1) (·.raise VIS_PFLAG.FRAME_ERR
     n)))) ∧
  (∀ (s : State) (n : Fin 8) (vc : Fin 4) (d : BitVec 6) (px : List (BitVec 14)) (k : Nat), s.awake = true → s.camOn n
  = true → vc.val = s.fld VIS_PORTCFG.VC n → d.toNat = s.fld VIS_PORTCFG.DT n → s.rxFrame n = none → (s.vport
  n).check = some k → 
     let bad := px.length != s.fld VIS_PORTCFG.WIDTH n || decide (s.fld VIS_PORTCFG.HEIGHT n ≤ k);
     exec (.linePacket n vc d 0 true px) s = .next (s.close ((s.when bad (·.raise VIS_PFLAG.FRAME_ERR n)).updVport
       n fun x => { x with check := if bad then none else some (k + 1) }))) ∧
  (∀ (s : State) (n : Fin 8) (vc : Fin 4) (d : BitVec 6) (px : List (BitVec 14)) (f : VFrame), s.awake = true → s.camOn
     n = true → vc.val = s.fld VIS_PORTCFG.VC n → d.toNat = s.fld VIS_PORTCFG.DT n → s.rxFrame n = some f → (px.length
     ≠ s.fld VIS_PORTCFG.WIDTH n ∨ s.fld VIS_PORTCFG.HEIGHT n ≤ f.rx) → exec (.linePacket n vc d 0 true px) s = .next
     (s.close ((s.raise VIS_PFLAG.FRAME_ERR n).dropFrame n 4 f))) ∧
  (∀ (s : State) (n : Fin 8) (vc : Fin 4) (d : BitVec 6) (px : List (BitVec 14)) (f : VFrame), s.awake = true → s.camOn
     n = true → vc.val = s.fld VIS_PORTCFG.VC n → d.toNat = s.fld VIS_PORTCFG.DT n → s.rxFrame n = some f → px.length =
     s.fld VIS_PORTCFG.WIDTH n → f.rx < s.fld VIS_PORTCFG.HEIGHT n → 8 ≤ (s.vport n).level → exec (.linePacket n vc d 0
     true px) s = .next (s.close (s.dropFrame n 1 f))) ∧
  (∀ (s : State) (n : Fin 8) (vc : Fin 4) (d : BitVec 6) (px : List (BitVec 14)) (f : VFrame), s.awake = true → s.camOn
     n = true → vc.val = s.fld VIS_PORTCFG.VC n → d.toNat = s.fld VIS_PORTCFG.DT n → s.rxFrame n = some f → px.length =
     s.fld VIS_PORTCFG.WIDTH n → f.rx < s.fld VIS_PORTCFG.HEIGHT n → (s.vport n).level < 8 → exec (.linePacket n vc d 0
     true px) s = .next (s.close ((s.updVport n fun x => { x with frames := x.frames.map fun g => if g.fseq = f.fseq then { g with rx := g.rx + 1, staged := g.staged ++ [px.map fun p => p.toNat % 2 ^ pixBits d.toNat] } else g }).serveIdle
     n))) ∧
  (∀ (s : State) (n : Fin 8) (vc : Fin 4) (d : BitVec 6) (px : List (BitVec 14)), s.awake = true → s.camOn n = true →
     vc.val = s.fld VIS_PORTCFG.VC n → d.toNat = s.fld VIS_PORTCFG.DT n → exec (.linePacket n vc d 0 false px) s =
     .next (s.close ((s.raise VIS_PFLAG.PKT_ERR n).dropRx n 3))) ∧
  (∀ (s : State) (n : Fin 8) (vc : Fin 4) (d : BitVec 6) (px : List (BitVec 14)) (ok : Bool), s.awake = true → s.camOn
     n = true → (vc.val ≠ s.fld VIS_PORTCFG.VC n ∨ d.toNat ≠ s.fld VIS_PORTCFG.DT n) → exec (.linePacket n vc d 0 ok
     px) s = .next (s.close (s.raise VIS_PFLAG.VC_DROP n))) ∧
  (∀ (s : State) (n : Fin 8) (vc : Fin 4) (f : VFrame), s.awake = true → s.camOn n = true → vc.val = s.fld
     VIS_PORTCFG.VC n → s.rxFrame n = some f → f.rx = s.fld VIS_PORTCFG.HEIGHT n → exec (.frameEnd n vc 0) s = .next
     (s.close ((s.updVport n fun x => { x with frames := x.frames.map fun g => if g.fseq = f.fseq then { g with ended := true } else g }).setFld
     VIS_PORTSTAT.PSTATE 1 n))) ∧
  (∀ (s : State) (n : Fin 8) (vc : Fin 4) (f : VFrame), s.awake = true → s.camOn n = true → vc.val = s.fld
     VIS_PORTCFG.VC n → s.rxFrame n = some f → f.rx ≠ s.fld VIS_PORTCFG.HEIGHT n → exec (.frameEnd n vc 0) s = .next
     (s.close (((s.raise VIS_PFLAG.FRAME_ERR n).dropFrame n 4 f).setFld VIS_PORTSTAT.PSTATE 1 n))) ∧
  (∀ (s : State) (n : Fin 8) (vc : Fin 4), s.awake = true → s.camOn n = true → vc.val = s.fld VIS_PORTCFG.VC n →
     s.rxFrame n = none → s.pstate n ≠ 3 → exec (.frameEnd n vc 0) s = .next (s.close (s.raise VIS_PFLAG.FRAME_ERR n))) ∧
  (∀ (s : State) (n : Fin 8) (vc : Fin 4), s.awake = true → s.camOn n = true → vc.val = s.fld VIS_PORTCFG.VC n →
     s.pstate n = 3 → exec (.frameEnd n vc 0) s = .next (s.close (((s.when ((s.vport n).check.any fun k => k != s.fld
     VIS_PORTCFG.HEIGHT n) (·.raise VIS_PFLAG.FRAME_ERR n)).updVport n fun x => { x with check := none }).setFld
     VIS_PORTSTAT.PSTATE 1 n))) ∧
  (∀ (s : State) (n : Fin 8) (vc : Fin 4), s.awake = true → s.camOn n = true → vc.val ≠ s.fld VIS_PORTCFG.VC n → exec
     (.frameEnd n vc 0) s = .next (s.close (s.raise VIS_PFLAG.VC_DROP n))) ∧
  (∀ (s : State) (n : Fin 8), s.awake = true → s.camOn n = true → exec (.laneErr n) s = .next (s.close (s.raise
     VIS_PFLAG.LANE_ERR n))) ∧
  (∀ (s : State) (n : Fin 8) (c : Nat), s.awake = true → s.pdOn 6 = true → s.fld VIS_TRIG.MODE n = 1 → s.comesTo
  (s.fld VIS_TRIG.LEAD n) (s.reg VIS_TRIGPOS n) = true → ((s.vport n).sincePulse.map (· + c)).any (fun g => decide
  (g < (s.fld VIS_TRIGTIME.MINGAP n * 1200))) = false → (s.vport n).tfifo.length < 4 → 
     let x := s.updVport n fun x =>
       { x with tfifo := x.tfifo ++ [(s.reg VIS_TRIGPOS n, s.liteFaulty (s.fld VIS_TRIG.LITE n))], sincePulse := some 0, pulse := true };
     let v := x.emit (.trigPulse n (!x.on VIS_TRIG.POL n));
     let u := forTo 16 (fun c t => t.when ((s.fld VIS_TRIG.LITE n).testBit c) (·.strobeReq c 2 n)) v;
     exec (.triggerCross n c) s = .next (s.close (u.setReg VIS_TRIGPOS (s.reg VIS_TRIGPOS n + Word.of (max 0x10000
       (u.reg VIS_TRIGPITCH n).toNat)) n))) ∧
  (∀ (s : State) (n : Fin 8) (c : Nat), s.awake = true → s.pdOn 6 = true → s.fld VIS_TRIG.MODE n = 1 → s.comesTo
  (s.fld VIS_TRIG.LEAD n) (s.reg VIS_TRIGPOS n) = true → (((s.vport n).sincePulse.map (· + c)).any (fun g => decide
  (g < (s.fld VIS_TRIGTIME.MINGAP n * 1200))) || decide (4 ≤ (s.vport n).tfifo.length)) = true → 
     let u := (s.updVport n fun x => { x with sincePulse := (s.vport n).sincePulse.map (· + c) }).raise
       VIS_PFLAG.TRIG_SKIP n;
     exec (.triggerCross n c) s = .next (s.close (u.setReg VIS_TRIGPOS (s.reg VIS_TRIGPOS n + Word.of (max 0x10000
       (u.reg VIS_TRIGPITCH n).toNat)) n))) ∧
  (∀ (s : State) (n : Fin 8) (c : Nat), (s.pdOn 6 = false ∨ s.fld VIS_TRIG.MODE n ≠ 1 ∨ s.comesTo (s.fld VIS_TRIG.LEAD
     n) (s.reg VIS_TRIGPOS n) = false) → exec (.triggerCross n c) s = .next (s.close (s))) ∧
  (∀ (s : State) (n : Fin 8), s.awake = true → (s.vport n).pulse = true → 
     let u := s.updVport n fun x => { x with pulse := false };
     exec (.triggerPulseEnd n) s = .next (s.close (u.emit (.trigPulse n (u.on VIS_TRIG.POL n))))) ∧
  (∀ (s : State) (n : Fin 8), (s.vport n).pulse = false → exec (.triggerPulseEnd n) s = .next (s.close (s))) ∧
  (∀ (s : State) (k : Fin 4) (n : Nat) (f : VFrame) (px : List Nat) (rest : List (List Nat)), s.awake = true → s.pdOn 6
     = true → s.blkHeld (50 + k) = false → s.on VIS_PIPECFG.EN k = true → s.fld VIS_PIPESTAT.SERVE k ≠ 0 → s.inputPort
     k (s.fld VIS_PIPESTAT.SERVE k) = n → s.servable n = some f → f.staged = px :: rest → exec (.pipeLine k 0) s =
     .next (s.close ((s.processLine n f px).afterLine k (s.fld VIS_PIPESTAT.SERVE k) (decide (s.fld VIS_PORTCFG.HEIGHT
     n ≤ f.done + 1))))) ∧
  (∀ (s : State) (k : Fin 4) (n : Nat) (f : VFrame) (px : List Nat) (rest : List (List Nat)), s.awake = true → s.pdOn 6
     = true → s.blkHeld (50 + k) = false → s.on VIS_PIPECFG.EN k = true → s.fld VIS_PIPESTAT.SERVE k ≠ 0 → s.inputPort
     k (s.fld VIS_PIPESTAT.SERVE k) = n → s.servable n = some f → f.staged = px :: rest → exec (.pipeLine k 1) s =
     .next (s.close (((s.raise VIS_KFLAG.STORE_CORR k).processLine n f px).afterLine k (s.fld VIS_PIPESTAT.SERVE k)
     (decide (s.fld VIS_PORTCFG.HEIGHT n ≤ f.done + 1))))) ∧
  (∀ (s : State) (k : Fin 4) (n : Nat) (f : VFrame) (px : List Nat) (rest : List (List Nat)), s.awake = true → s.pdOn 6
     = true → s.blkHeld (50 + k) = false → s.on VIS_PIPECFG.EN k = true → s.fld VIS_PIPESTAT.SERVE k ≠ 0 → s.inputPort
     k (s.fld VIS_PIPESTAT.SERVE k) = n → s.servable n = some f → f.staged = px :: rest → exec (.pipeLine k 2) s =
     .next (s.close ((s.raise VIS_KFLAG.STORE_ECC k).dropFrame n 5 f))) ∧
  (∀ (s : State) (k : Fin 4) (e : Fin 3), (s.pdOn 6 = false ∨ s.blkHeld (50 + k) = true ∨ s.on VIS_PIPECFG.EN k = false
     ∨ s.fld VIS_PIPESTAT.SERVE k = 0 ∨
   (s.servable (s.inputPort k (s.fld VIS_PIPESTAT.SERVE k))).all (fun f =>
     f.staged == []) = true) → exec (.pipeLine k e) s = .next (s.close (s))) ∧
  (∀ (s : State) (n : Nat) (f : VFrame) (px : List Nat), (
     let outs := (px.zip (SMap.range s.vis.ffDef s.vis.ff (8192 * n) px.length)).map fun e => procPixel (pixBits
       (s.fld VIS_PORTCFG.DT n)) (VIS_PROC.BLACK.ext f.set.proc) e.2 e.1;
     let bytes := (outs.map (bytesBE 2)).flatten;
     let g := f.stats (s.fld VIS_PORTCFG.WIDTH n) (s.fld VIS_PORTCFG.HEIGHT n) f.done outs;
     let h := s.measure n f.done outs
       { g with done := f.done + 1, staged := f.staged.drop 1, crc := bytes.foldl crc32Byte f.crc };
     s.processLine n f px = (s.dramWrite 2 (s.frameAddr n f + 1600 + 2 * f.done * s.fld VIS_PORTCFG.WIDTH n)
       bytes).1.updVport n fun x => { x with frames := x.frames.map fun y => if y.fseq = f.fseq then h else y })) ∧
  (∀ (s : State) (n : Fin 8) (f : VFrame) (rest : List VFrame) (ecc : List Nat) (lost : List (Nat × Nat)), s.awake =
  true → s.pdOn 6 = true → (s.vport n).frames = f :: rest → f.ended = true → s.fld VIS_PORTCFG.HEIGHT n ≤ f.done → 
     let a := s.frameAddr n f;
     let z := s.zoneMeans n f;
     let hist := ((List.range 256).map fun b => bytesBE 4 (SMap.get 0 f.hist b)).flatten;
     let u := (z.1.dramWrite 2 (a + 64) (hist ++ z.2)).1;
     let v := (u.dramWrite 2 a ((u.frameHeader n (u.pubPipe n) f).map bytes64).flatten).1;
     let w := (v.dramWrite 2 (a + 56) (bytes64 0x8000000000000000)).1;
     let x := (((w.updVport n fun p => { p with frames := rest }).archive n f).addFld VIS_FRWR.IDX 1 n).raise
       VIS_PFLAG.PUBLISHED n;
     exec (.published n ecc lost) s = .next (s.close ((((x.scUpd fun c =>
       { c with loop := x.reg VIS_SCLOOP }).hmDamage ecc).scoreFrame n (x.fld VIS_PORTCFG.HEIGHT n) f
       lost).serveIdle n))) ∧
  (∀ (s : State) (n : Fin 8) (ecc : List Nat) (lost : List (Nat × Nat)), (s.vport n).frames.head?.all (fun f =>
     !f.ended || decide (f.done < s.fld VIS_PORTCFG.HEIGHT n)) = true → exec (.published n ecc lost) s = .next (s.close
     (s)))

/-- R179: PORT_ENABLE of a disabled port stores what does not enable; a valid geometry with EN = 1 enables the port,
with state 1 and frame number 0xFFFF so that the first frame is 0; an invalid one, and a change of other fields
while enabled, is CFG_REJ; clearing EN alone drops the port's frames and triggers. R185: PIPE_CFG_WRITE of a
disabled pipeline stores its configuration; clearing EN stops the pipeline; one that breaks the rule, or keeps EN =
1, is CFG_REJ. R190: FF_WRITE of a disabled port writes the pair of gains of the index, of an enabled one sets
FF_REJ; the index advances where AUTOINC is 1. R200: CCI_CMD stores its fields, and on a bus that is on and not busy
puts one transfer into its queue. R197: a transfer done on a bus gives a command its data and status; one of an
activation's list that is not acknowledged sets SENS_NAK and marks the activation late; the bus goes on. R204:
REF_ROW_WRITE writes the means of a row that is whole and not yet written to the reference ring, once (one that no
byte holds is free: the model's choice, log 168). R207: SCALER_ENABLE stores its word, empties the map where EN is
1, and the reference store where it becomes 1; another change while enabled is CFG_REJ. R208: HM_WRITE of an
existing bin sets its entry without its reserved bit and advances, otherwise CFG_REJ; HM_FIFO_POP answers the oldest
change and drops it, 0 when there is none; the Warden's firmware then acts on it (R209, `State.autoRepair`: log
177). The model's choices and readings in these clauses, no rules of the spec: a command out of its state changes
nothing (log entry 6); a row that writes a register writes its whole word (log entry 22); a row that reads a window
is a bus read (log entry 23); a refused CFG write is ignored whole (log entry 130); a row is whole past its last
line and C_max (log entry 131); a control bus works first in, first out (log entry 132); MUX clearing EN drops its
frames (log entry 135); no row is written twice (log entry 202). -/
def Obligations.InspectionIsConfigured : Prop :=
  (∀ (s : State) (o : Sender) (n : Fin 8) (w : Word), s.reaches o VIS_PORTCFG n = true → s.on VIS_PORTCFG.EN n = false
     → VIS_PORTCFG.EN.ext w = 0 → exec (.portEnable o n w) s = .next (s.close (s.setReg VIS_PORTCFG w n))) ∧
  (∀ (s : State) (o : Sender) (n : Fin 8) (w : Word), s.reaches o VIS_PORTCFG n = true → s.on VIS_PORTCFG.EN n = false
  → VIS_PORTCFG.EN.ext w = 1 → s.portCfgOk n w = true → 
     let u := ((s.setReg VIS_PORTCFG w n).setFld VIS_PORTSTAT.PSTATE 1 n).setFld VIS_PORTSTAT.FSEQ 0xFFFF n;
     exec (.portEnable o n w) s = .next (s.close (u.updVport n fun x =>
       { x with hist := List.replicate 8 (u.fld VIS_GEN.AGEN n, (match x.hist with
     | h :: _ => h.1 == u.fld VIS_GEN.AGEN n && h.2
     | [] => false)), active := u.frameSet n }))) ∧
  (∀ (s : State) (o : Sender) (n : Fin 8) (w : Word), s.reaches o VIS_PORTCFG n = true → s.on VIS_PORTCFG.EN n = false
     → VIS_PORTCFG.EN.ext w = 1 → s.portCfgOk n w = false → exec (.portEnable o n w) s = .next (s.close (s.raise
     VIS_PFLAG.CFG_REJ n))) ∧
  (∀ (s : State) (o : Sender) (n : Fin 8) (w : Word), s.reaches o VIS_PORTCFG n = true → s.on VIS_PORTCFG.EN n = true →
     (w &&& 0x7FFFFFFFFF) ≠ (s.reg VIS_PORTCFG n &&& 0x7FFFFFFFFF) → exec (.portEnable o n w) s = .next (s.close
     (s.raise VIS_PFLAG.CFG_REJ n))) ∧
  (∀ (s : State) (o : Sender) (n : Fin 8) (w : Word), s.reaches o VIS_PORTCFG n = true → s.on VIS_PORTCFG.EN n = true →
     (w &&& 0x7FFFFFFFFF) = (s.reg VIS_PORTCFG n &&& 0x7FFFFFFFFF) → VIS_PORTCFG.EN.ext w = 0 → exec (.portEnable o n
     w) s = .next (s.close (((s.dropAll n).setReg VIS_PORTCFG w n).setFld VIS_PORTSTAT.PSTATE 0 n))) ∧
  (∀ (s : State) (o : Sender) (n : Fin 8) (w : Word), s.reaches o VIS_PORTCFG n = true → s.on VIS_PORTCFG.EN n = true →
     (w &&& 0x7FFFFFFFFF) = (s.reg VIS_PORTCFG n &&& 0x7FFFFFFFFF) → VIS_PORTCFG.EN.ext w = 1 → exec (.portEnable o n
     w) s = .next (s.close (s))) ∧
  (∀ (s : State) (o : Sender) (k : Fin 4) (w : Word), s.reaches o VIS_PIPECFG k = true → s.on VIS_PIPECFG.EN k = false
     → s.pipeBad k (w &&& 0xFFF8000000) = false → exec (.pipeCfgWrite o k w) s = .next (s.close (s.setReg VIS_PIPECFG
     (w &&& 0xFFF8000000) k))) ∧
  (∀ (s : State) (o : Sender) (k : Fin 4) (w : Word), s.reaches o VIS_PIPECFG k = true → s.on VIS_PIPECFG.EN k = true →
     VIS_PIPECFG.EN.ext w = 0 → s.pipeBad k (w &&& 0xFFF8000000) = false → exec (.pipeCfgWrite o k w) s = .next
     (s.close ((s.pipeStop k).setReg VIS_PIPECFG (w &&& 0xFFF8000000) k))) ∧
  (∀ (s : State) (o : Sender) (k : Fin 4) (w : Word), s.reaches o VIS_PIPECFG k = true → (s.pipeBad k (w &&&
     0xFFF8000000) = true ∨ (s.on VIS_PIPECFG.EN k = true ∧ VIS_PIPECFG.EN.ext w = 1)) → exec (.pipeCfgWrite o k w) s =
     .next (s.close (s.raise VIS_KFLAG.CFG_REJ k))) ∧
  (∀ (s : State) (o : Sender) (n : Fin 8) (w : Word), s.reaches o VIS_FFDATA n = true → s.on VIS_PORTCFG.EN n = false → 
     let i := s.fld VIS_FFIDX.WORD n;
     let m := SMap.set s.vis.ffDef s.vis.ff (8192 * n + 2 * i) (VIS_FFDATA.GAIN0.ext w);
     let u : State := { s with vis := { s.vis with ff := SMap.set s.vis.ffDef m (8192 * n + 2 * i + 1) (VIS_FFDATA.GAIN1.ext w) } };
     exec (.ffWrite o n w) s = .next (s.close (u.when (s.on VIS_FFIDX.AUTOINC n) (·.addFld VIS_FFIDX.WORD 1 n)))) ∧
  (∀ (s : State) (o : Sender) (n : Fin 8) (w : Word), s.reaches o VIS_FFDATA n = true → s.on VIS_PORTCFG.EN n = true →
     exec (.ffWrite o n w) s = .next (s.close ((s.raise VIS_PFLAG.FF_REJ n).when (s.on VIS_FFIDX.AUTOINC n) (·.addFld
     VIS_FFIDX.WORD 1 n)))) ∧
  (∀ (s : State) (o : Sender) (b : Fin 4) (w : Word), s.reaches o VIS_CCICMD b = true → s.cciOn b = true → s.fld
  VIS_CCIDATA.STAT b ≠ 1 → 
     let u := (((s.setFld VIS_CCICMD.RD (VIS_CCICMD.RD.ext w) b).setFld VIS_CCICMD.W16 (VIS_CCICMD.W16.ext w)
       b).setFld VIS_CCICMD.DEV (VIS_CCICMD.DEV.ext w) b).setFld VIS_CCICMD.ADDR (VIS_CCICMD.ADDR.ext w) b;
     exec (.cciCmd o b w) s = .next (s.close ((u.setFld VIS_CCIDATA.STAT 1 b).cciPut b
       { port := none, gen := 0, late := false, left := [{ rd := u.on VIS_CCICMD.RD b, w16 := u.on VIS_CCICMD.W16 b, dev := u.fld VIS_CCICMD.DEV b, addr := u.fld VIS_CCICMD.ADDR b, data := u.fld VIS_CCIDATA.WDATA b }] }))) ∧
  (∀ (s : State) (o : Sender) (b : Fin 4) (w : Word), s.reaches o VIS_CCICMD b = true → (s.cciOn b = false ∨ s.fld
     VIS_CCIDATA.STAT b = 1) → exec (.cciCmd o b w) s = .next (s.close ((((s.setFld VIS_CCICMD.RD (VIS_CCICMD.RD.ext w)
     b).setFld VIS_CCICMD.W16 (VIS_CCICMD.W16.ext w) b).setFld VIS_CCICMD.DEV (VIS_CCICMD.DEV.ext w) b).setFld
     VIS_CCICMD.ADDR (VIS_CCICMD.ADDR.ext w) b))) ∧
  (∀ (s : State) (b : Fin 4) (t : CciX) (more : List CciX) (late : Bool) (g : Nat) (rest : List CciJob) (ack : Bool)
  (d : BitVec 16), s.awake = true → (s.cci b).busy = true → (s.cci b).queue = ⟨none, g, late, t :: more⟩ :: rest → 
     let u := s.setCci b { queue := if more = [] then rest else ⟨none, g, late, more⟩ :: rest, busy := false };
     exec (.cciTransferDone b ack d) s = .next (s.close (((u.when (t.rd && ack) (·.setFld VIS_CCIDATA.RDATA (if
       t.w16 then d.toNat else d.toNat % 256) b)).setFld VIS_CCIDATA.STAT (if ack then 2 else 3) b).cciKick b))) ∧
  (∀ (s : State) (b : Fin 4) (t : CciX) (more : List CciX) (late : Bool) (g n : Nat) (rest : List CciJob) (ack : Bool)
  (d : BitVec 16), s.awake = true → (s.cci b).busy = true → (s.cci b).queue = ⟨some n, g, late, t :: more⟩ :: rest → 
     let u := s.setCci b { queue := if more = [] then rest else ⟨some n, g, late || !ack, more⟩ :: rest, busy := false };
     exec (.cciTransferDone b ack d) s = .next (s.close (((u.when (!ack) (·.raise VIS_PFLAG.SENS_NAK n)).when (!ack
       && !late) (·.sensLate n g)).cciKick b))) ∧
  (∀ (s : State) (b : Fin 4) (ack : Bool) (d : BitVec 16), ((s.cci b).busy = false ∨ (s.cci b).queue = []) → exec
     (.cciTransferDone b ack d) s = .next (s.close (s))) ∧
  (∀ (s : State) (row : Nat), s.awake = true → s.scalerOn = true → SMap.get 0 s.scaler.rows (s.refSlot row) ≠ row + 1
  → s.refWhole row = true → 
     let r := (SMap.range 0 s.scaler.sums (65536 * row) s.scBins).foldl (fun (a : State × List Byte) x => 
     let v := a.1.refByte (16 * x / 2 ^ (s.scBin + s.scSum));
     (v.1, v.2 :: a.2)) (s, []);
     let u := (r.1.dramWrite 4 (s.refAddr row 0) r.2.reverse).1;
     exec (.refRowWrite row) s = .next (s.close (u.scUpd fun c =>
       { c with sums := SMap.eraseRange c.sums (65536 * row) s.scBins, got := SMap.eraseRange c.got (64 * row) 64, rows := SMap.set 0 c.rows (s.refSlot row) (row + 1), newest := if s.scanJob then c.newest else some row }))) ∧
  (∀ (s : State) (row : Nat), (s.scalerOn = false ∨ SMap.get 0 s.scaler.rows (s.refSlot row) = row + 1 ∨ s.refWhole row
     = false) → exec (.refRowWrite row) s = .next (s.close (s))) ∧
  (∀ (s : State) (v : Nat), v < 256 → s.refByte v = (s, BitVec.ofNat 8 v)) ∧
  (∀ (s : State) (o : Sender) (w : Word), s.reaches o VIS_SCCFG = true → s.on VIS_SCCFG.EN = false → 
     let u := s.setReg VIS_SCCFG (w &&& 0xFFFFE00000);
     exec (.scalerEnable o w) s = .next (s.close (u.when (VIS_SCCFG.EN.ext w == 1) (fun t => (t.scUpd fun c =>
       { c with sums := [], got := [], rows := [], newest := none, cut := [], map := [], bad := [], left := [] }).hmSync)))) ∧
  (∀ (s : State) (o : Sender) (w : Word), s.reaches o VIS_SCCFG = true → s.on VIS_SCCFG.EN = true → ((w &&&
     0xFFFFE00000) &&& 0x7FFFFFFFFF) = (s.reg VIS_SCCFG &&& 0x7FFFFFFFFF) → exec (.scalerEnable o w) s = .next (s.close
     ((s.setReg VIS_SCCFG (w &&& 0xFFFFE00000)).when (VIS_SCCFG.EN.ext w == 1) (fun t => (t.scUpd fun c => { c with map := [], bad := [], left := [] }).hmSync)))) ∧
  (∀ (s : State) (o : Sender) (w : Word), s.reaches o VIS_SCCFG = true → s.on VIS_SCCFG.EN = true → ((w &&&
     0xFFFFE00000) &&& 0x7FFFFFFFFF) ≠ (s.reg VIS_SCCFG &&& 0x7FFFFFFFFF) → exec (.scalerEnable o w) s = .next (s.close
     (s.raise VIS_SCFLAG.CFG_REJ))) ∧
  (∀ (s : State) (o : Sender) (w : Word), s.reaches o VIS_HMDATA = true → s.fld VIS_HMIDX.BIN < s.scBins → exec
     (.hmWrite o w) s = .next (s.close ((s.setHm (s.fld VIS_HMIDX.BIN) (w &&& ~~~ 0x1000000)).hmAdvance))) ∧
  (∀ (s : State) (o : Sender) (w : Word), s.reaches o VIS_HMDATA = true → s.scBins ≤ s.fld VIS_HMIDX.BIN → exec
     (.hmWrite o w) s = .next (s.close (s.raise VIS_SCFLAG.CFG_REJ))) ∧
  (∀ (s : State) (o : Sender) (e : Word) (l : Nat) (rest : List (Word × Nat)), s.reaches o VIS_HMFIFO = true → (o ≠
  .warden ∨ s.scaler.rescan = false) → s.scaler.fifo = (e, l) :: rest → 
     let u := (((s.scUpd fun c => { c with fifo := rest }).setFld VIS_HMLINE.LINE l).hmSync).emit (.regData 0 e);
     exec (.hmFifoPop o) s = .next (s.close (if o = .warden then u.autoRepair e else u))) ∧
  (∀ (s : State), s.reaches .warden VIS_HMFIFO = true → s.scaler.rescan = true → 
     let x := s.rescanMap.busRead .warden (VIS_HMFIFO.at 0);
     exec (.hmFifoPop .warden) s = .next (s.close ((x.1.emit (.regData x.2.1.code x.2.2)).autoRepair x.2.2))) ∧
  (∀ (s : State) (o : Sender), s.reaches o VIS_HMFIFO = true → (o ≠ .warden ∨ s.scaler.rescan = false) → s.scaler.fifo
     = [] → exec (.hmFifoPop o) s = .next (s.close (s.emit (.regData 0 0)))) ∧
  (∀ (s : State) (e : Word), (s.loopFld VIS_SCLOOP.AUTO = 0 ∨ hmState e ≠ 2) → s.autoRepair e = s)

/-! ### The bar link and network time -/

/-- R221: a message on a port that is not up is ignored; one out of sequence is discarded and the last accepted number
acknowledged again; one in sequence is acknowledged, the expected number advances, and it is handed over: it goes on
out of the other port with HOP + 1 where the chip forwards, and where BAR_CTL.EN = 1 it acts. PMARK stamps a
follower's page mark (R225). WRITES stages this chip's share unless the context is busy (R227). PREP takes the next
sequence number and opens the member's slot, or collides with another exchange (R228). VOTE counts in LEAD and
FOLLOW. TRIG gives line m to the armed distributed time transactions of that initiator and number (R230). ARRIVE is
noted (R233). BEACON and TIME go on with AGE raised by HOPDLY and the forwarding delay and act on a chip in FOLLOW
(R223, R239). A vote of NO ends the exchange it belongs to, the YES that completes it arms it. BAR_ACK frees what is
held up to its number; MSG_CRC sets its flag for a wrong CRC or a reserved TYPE; HOP_RETRY sends again what is held,
or takes the port down at a fourth failure; BEACON_LOST declares a following chip's encoder faulty and ends FOLLOW
(R224). The model's choices and readings in these clauses, no rules of the spec: a command out of its state changes
nothing (log entry 6); which chips forward a message (log entry 113); a repeated message is acknowledged again (log
entry 114); ALONE, LEAD, REJOIN and the follower's start (log entry 117); a PREP takes a local number; DX_ABORT of
the chip's own NO (log entry 118); a message is one command (log entry 148); the training of a bar port, its mean
rounded half up (log entry 167). -/
def Obligations.BarMessagesAreTakenAcknowledgedAndForwarded : Prop :=
  (∀ (s : State) (e hseq : Nat) (f : State → State), s.barUp e = false → s.barTake e hseq f = s) ∧
  (∀ (s : State) (e hseq : Nat) (f : State → State), s.barUp e = true → hseq ≠ (s.barPort e).rxSeq → s.barTake e hseq f
     = s.sendBarAck e (((s.barPort e).rxSeq + 255) % 256)) ∧
  (∀ (s : State) (e hseq : Nat) (f : State → State), s.barUp e = true → hseq = (s.barPort e).rxSeq → s.barTake e hseq f
     = f ((s.updBarPort e fun b => { b with rxSeq := ((s.barPort e).rxSeq + 1) % 256 }).sendBarAck e (s.barPort
     e).rxSeq)) ∧
  (∀ (s : State) (e : Fin 2) (hseq : BitVec 8) (orig hop : Fin 16) (t : Word), s.awake = true → exec (.pmark e hseq
  orig hop t) s = .next (s.close (s.barTake e hseq.toNat (fun a => 
     let b := a.when a.forwards (·.forward e ⟨2, orig, hop, [t]⟩);
     b.when (b.on BAR_CTL.EN) fun c => c.when (c.bstate == 3 && c.follows) (·.pmStamp t))))) ∧
  (∀ (s : State) (e : Fin 2) (hseq : BitVec 8) (orig hop : Fin 16) (ws : List Word), s.awake = true → exec (.writes e
  hseq orig hop ws) s = .next (s.close (s.barTake e hseq.toNat (fun a => 
     let b := a.when a.forwards (·.forward e ⟨3, orig, hop, ws.take 14⟩);
     b.when (b.on BAR_CTL.EN) fun c => if c.ctxBusy orig then c else 
     let g := c.updBar fun b => { b with ctxOf := some orig.val };
     let h := g.when (!(g.ctx 2).isOpen) (·.setCtx 2 { StageCtx.reset with isOpen := true });
     forIn' (writePairs (ws.take 14)) (fun p t => t.when (p.2.1.testBit t.barId) (·.stageAs 2 p.1 p.2.2 p.2.1
       false)) h)))) ∧
  (∀ (s : State) (e : Fin 2) (hseq : BitVec 8) (orig hop : Fin 16) (w0 w1 w2 : Word), s.awake = true → exec (.prep e
  hseq orig hop w0 w1 w2) s = .next (s.close (s.barTake e hseq.toNat (fun a => 
     let b := a.when a.forwards (·.forward e ⟨4, orig, hop, [w0, w1, w2]⟩);
     b.when (b.on BAR_CTL.EN) fun c => 
     let t := c.prepSlot orig w0 w1 w2;
     let g := c.txnUpd fun u => { u with nextSeq := (u.nextSeq + 1) % 65536 };
     let h := ((g.setFld TXN_RESULT.SEQ t.seq 2).setFld TXN_RESULT.OUT 0 2).setFld TXN_RESULT.CAUSE 0 2;
     if h.bar.ctxOf.any fun o => o != orig.val then h.dxCollide t else h.ctxClear.dxPrep t (h.ctx 2).doomed
       (w0.toNat % 256))))) ∧
  (∀ (s : State) (e : Fin 2) (hseq : BitVec 8) (orig hop : Fin 16) (w : Word), s.awake = true → exec (.vote e hseq
  orig hop w) s = .next (s.close (s.barTake e hseq.toNat (fun a => 
     let b := a.when a.forwards (·.forward e ⟨5, orig, hop, [w]⟩);
     b.when (b.on BAR_CTL.EN) fun c => c.when c.barActive (·.dxVote orig (w.getLsbD 19) (w.toNat / 2 ^ 20 % 16)
       (w.toNat / 2 ^ 24) (w.toNat / 2 ^ 11 % 256)))))) ∧
  (∀ (s : State) (e : Fin 2) (hseq : BitVec 8) (orig hop : Fin 16) (w : Word), s.awake = true → exec (.trig e hseq
  orig hop w) s = .next (s.close (s.barTake e hseq.toNat (fun a => 
     let b := a.when a.forwards (·.forward e ⟨6, orig, hop, [w]⟩);
     b.when (b.on BAR_CTL.EN) fun c => forTo 16 (fun k t => match t.slot? k with
     | some x => if x.dist && !x.voting && !x.prep && x.mode == 4 && x.line.isNone && x.init == orig && x.iseq ==
       w.toNat / 2 ^ 24 then t.trigAt k x (w.toNat % 2 ^ 24) else t
     | none => t) c)))) ∧
  (∀ (s : State) (e : Fin 2) (hseq : BitVec 8) (orig hop : Fin 16) (j p : BitVec 16), s.awake = true → exec (.arrive e
  hseq orig hop j p) s = .next (s.close (s.barTake e hseq.toNat (fun a => 
     let b := a.when a.forwards (·.forward e ⟨7, orig, hop, [Word.of (j.toNat * 2 ^ 24 + p.toNat * 2 ^ 8)]⟩);
     b.when (b.on BAR_CTL.EN) fun c => (c.updBar fun b =>
       { b with arrived := (orig.val, j.toNat, p.toNat) :: b.arrived.filter fun x => x != (orig.val, j.toNat, p.toNat) }).scanOpen)))) ∧
  (∀ (s : State) (e : Fin 2) (hseq : BitVec 8) (orig hop : Fin 16) (w0 w1 w2 : Word) (d : Nat), s.awake = true → exec
  (.beacon e hseq orig hop w0 w1 w2 d) s = .next (s.close (s.barTake e hseq.toNat (fun a => 
     let age := w2.toNat / 2 ^ 24 + a.fld BAR_PORTSTAT.HOPDLY e;
     let b := a.when a.forwards (·.forward e ⟨1, orig, hop, [w0, w1, Word.of ((age + d) % 65536 * 2 ^ 24 + w2.toNat
       % 2 ^ 24)]⟩);
     b.when (b.bstate == 3 && b.on BAR_PORTSTAT.UPSTREAM e && b.follows) (·.takeBeacon w0 w1.toInt age (w2.getLsbD
       15) (w2.toNat / 2 ^ 12 % 8) (w2.getLsbD 11)))))) ∧
  (∀ (s : State) (p : Word) (v : Int) (age : Nat) (f : Bool) (c : Nat) (q : Bool), (
     let u := s.setFld POS_STAT.UNCERTAIN (bit q);
     let t := u.when (!f) (·.updBar fun b => { b with beaconOk := true });
     s.takeBeacon p v age f c q = if t.posState = 0 ∨ t.posState = 3 then t else if f then (t.setFromBeacon p v
       age).encFault c else if t.posState = 1 then (((t.setFromBeacon p v age).setFld POS_STAT.STATE 2).setFld
       POS_STAT.LOCKED 1).restartDecisions else (t.setFromBeacon p v age).updateFwd)) ∧
  (∀ (s : State) (p : Word) (v : Int) (age : Nat), (s.setFromBeacon p v age).pos.est = BitVec.ofNat 56 (p.toNat * 2 ^
     16) + BitVec.ofInt 56 ((BitVec.ofInt 56 v).toInt * age / 64) ∧ (s.setFromBeacon p v age).pos.vel = BitVec.ofInt 56
     v) ∧
  (∀ (s : State) (v i q r : Nat) (d : Dx), s.bar.dx = some d → d.init = i → d.iseq = q → s.dxVote v false i q r =
     (s.raise BAR_FLAG.DX_ABORT).dxAbort d v r) ∧
  (∀ (s : State) (v i q r : Nat) (d : Dx), s.bar.dx = some d → d.init = i → d.iseq = q → (
     let x : Dx := { d with votes := (v, true) :: d.votes };
     let u := s.updBar fun b => { b with dx := some x };
     s.dxVote v true i q r = if u.dxComplete x then u.dxArm x else u)) ∧
  (∀ (s : State) (e : Fin 2) (h : BitVec 8) (i : Nat), s.awake = true → s.barUp e = true → (s.barPort e).held.findIdx?
     (fun x => x.1 == h.toNat) = some i → exec (.barAck e h) s = .next (s.close (State.pump e 16 (s.updBarPort e fun b
     => { b with held := (s.barPort e).held.drop (i + 1) })))) ∧
  (∀ (s : State) (e : Fin 2) (h : BitVec 8), (s.barUp e = false ∨ (s.barPort e).held.all (fun x => x.1 != h.toNat) =
     true) → exec (.barAck e h) s = .next (s.close (s))) ∧
  (∀ (s : State) (e : Fin 2) (w : Word) (b : List Word), s.awake = true → s.barUp e = true → (barCrcOk w b = false ∨
     w.toNat / 2 ^ 36 = 0 ∨ w.toNat / 2 ^ 36 = 15) → exec (.msgCrc e w b) s = .next (s.close (s.raise
     BAR_FLAG.MSG_CRC))) ∧
  (∀ (s : State) (e : Fin 2) (w : Word) (b : List Word), (s.barUp e = false ∨ (barCrcOk w b = true ∧ w.toNat / 2 ^ 36 ≠
     0 ∧ w.toNat / 2 ^ 36 ≠ 15)) → exec (.msgCrc e w b) s = .next (s.close (s))) ∧
  (∀ (s : State) (e : Fin 2), s.awake = true → s.barUp e = true → (s.barPort e).held ≠ [] → (∀ h ∈ (s.barPort e).held,
     h.2.2 < 4) → exec (.hopRetry e) s = .next (s.close ((forIn' (s.barPort e).held (fun h t => (t.raise
     BAR_FLAG.HOP_RETRY).emit (barPkt e h.1 h.2.1)) s).updBarPort e fun b => { b with held := b.held.map fun h => (h.1, h.2.1, h.2.2 + 1) }))) ∧
  (∀ (s : State) (e : Fin 2), s.awake = true → s.barUp e = true → (∃ h ∈ (s.barPort e).held, 4 ≤ h.2.2) → exec
     (.hopRetry e) s = .next (s.close (s.barPortDown e))) ∧
  (∀ (s : State) (e : Fin 2), (s.barUp e = false ∨ (s.barPort e).held = []) → exec (.hopRetry e) s = .next (s.close
     (s))) ∧
  (∀ (s : State), s.awake = true → s.bstate = 3 → exec .beaconLost s = .next (s.close ((((s.barErr
     BAR_FLAG.BEACON_LOST).when s.follows (·.encFault 6)).cancelDist).setBstate 4))) ∧
  (∀ (s : State), s.awake = true → s.bstate ≠ 3 → s.follows = true → s.moves = true → exec .beaconLost s = .next
     (s.close ((s.barErr BAR_FLAG.BEACON_LOST).encFault 6))) ∧
  (∀ (s : State), s.bstate ≠ 3 → (s.follows = false ∨ s.moves = false) → exec .beaconLost s = .next (s.close (s)))

/-- R235, R236: the leader applies JOIN and LEAVE at once, or holds them while an exchange or operation runs; other
chips only pass them on. BREAK sets its flag, cancels the distributed transactions, and the leader removes the
members beyond a port that failed away from it. A follower takes a MAP, a leader that sees one of a lower ID gives
way; neither goes on at a chip with ROLE = 1. Where BAR_CTL is written, EN = 1 in ALONE with a port up enters LEAD
with the chip alone (ROLE = 1) or sends JOIN once a MAP has been taken, EN = 0 returns to ALONE; LEAVE in FOLLOW
sends LEAVE; REJOIN of an isolated follower sends JOIN, or waits for a MAP. ID_DUP isolates a joining chip, which
then votes no more. R219: BAR_PORT_ALIGN with both lanes locked absorbs offsets up to 16 (above: SKEW_ERR and down),
sends 256 ECHO control blocks and answers the neighbour's (the turnaround a free value: log 210), measures, and with
256 exchanges is up with the mean delay (rounding: log 167). R232: an aligned port that goes down sends BREAK out of
the other port, cancels, and leaves the bar state of Table 11-5. R222: BEACON_SEND and BEACON_KEEPALIVE flood the
leader's beacon, with LINE as its one difference. R234: GOP, and a free BAR_GOP, start a snapshot at a line, a
snapshot now, or the bar-wide reset, which BAR_RESET_APPLY makes a system reset request of cause 7. R228: DX_TIMEOUT
aborts the exchange. The model's choices and readings in these clauses, no rules of the spec: a command out of its
state changes nothing (log entry 6); which chips forward a message (log entry 113); a repeated message is
acknowledged again (log entry 114); a JOIN with an ID in use is left out (log entry 116); ALONE, LEAD, REJOIN and
the follower's start (log entry 117). -/
def Obligations.BarMembershipAndOperations : Prop :=
  (∀ (s : State) (e : Fin 2) (hseq : BitVec 8) (orig hop : Fin 16), s.awake = true → exec (.join e hseq orig hop) s =
  .next (s.close (s.barTake e hseq.toNat (fun a => 
     let b := a.when a.forwards (·.forward e ⟨10, orig, hop, []⟩);
     b.when (b.on BAR_CTL.EN) fun c => if c.bstate ≠ 1 then c else if c.barBusy then c.updBar fun b =>
       { b with wait := b.wait ++ [(true, orig.val, e.val, hop.val)] } else c.applyJoin orig e hop)))) ∧
  (∀ (s : State) (e : Fin 2) (hseq : BitVec 8) (orig hop : Fin 16), s.awake = true → exec (.leave e hseq orig hop) s =
  .next (s.close (s.barTake e hseq.toNat (fun a => 
     let b := a.when a.forwards (·.forward e ⟨11, orig, hop, []⟩);
     b.when (b.on BAR_CTL.EN) fun c => if c.bstate ≠ 1 then c else if c.barBusy then c.updBar fun b =>
       { b with wait := b.wait ++ [(false, orig.val, e.val, hop.val)] } else c.applyLeave orig)))) ∧
  (∀ (s : State) (e : Fin 2) (hseq : BitVec 8) (orig hop : Fin 16) (w : Bool), s.awake = true → exec (.breakMsg e hseq
  orig hop w) s = .next (s.close (s.barTake e hseq.toNat (fun a => 
     let b := a.when a.forwards (·.forward e ⟨12, orig, hop, [Word.of (bit w * 2 ^ 39)]⟩);
     b.when (b.on BAR_CTL.EN) fun c => 
     let g := (c.raise BAR_FLAG.BREAK_RX).when c.barActive (·.cancelDist);
     if g.bstate = 1 ∧ bit w = e.val then g.pruneMembers fun i => g.beyond e (match g.bar.joins.find? fun j => j.1
       == orig.val with
     | some j => j.2.2
     | none => hop.val) i else g)))) ∧
  (∀ (s : State) (e : Fin 2) (hseq : BitVec 8) (orig hop : Fin 16) (ids : BitVec 16) (g : BitVec 8), s.awake = true →
     exec (.map e hseq orig hop ids g) s = .next (s.close (s.barTake e hseq.toNat (fun a => if a.on BAR_CFG.ROLE then
     (if a.bstate = 1 ∧ orig.val < a.barId then (a.raise BAR_FLAG.DUAL_LEAD).setBstate 4 else a) else (a.when
     a.forwards (·.forward e ⟨9, orig, hop, [Word.of (ids.toNat * 2 ^ 24 + g.toNat * 2 ^ 16)]⟩)).takeMap e orig
     ids.toNat g.toNat)))) ∧
  (∀ (s : State) (e orig ids g : Nat), s.on BAR_CTL.EN = true → 
     let u := (((s.setFld BAR_PORTSTAT.UPSTREAM 1 e).setFld BAR_PORTSTAT.UPSTREAM 0 (1 - e)).setFld BAR_STAT.LEADER
       orig).updBar fun b => { b with mapSeen := true };
     let v := ((u.setFld BAR_STAT.MEMBERS ids).setFld BAR_STAT.MGEN g).raise BAR_FLAG.MAP_CHG;
     s.takeMap e orig ids g = if v.bstate = 0 ∨ (v.bstate = 4 ∧ v.bar.rejoin = true) then v.sendJoin else if
       v.bstate = 2 ∧ ids.testBit v.barId = true then v.setBstate 3 else if v.bstate = 3 ∧ ids.testBit v.barId =
       false ∧ v.bar.leaving = true then v.goAlone else v) ∧
  (∀ (s : State) (id e hop : Nat), s.applyJoin id e hop = if id ∈ s.members then s.updBar fun b => { b with refused := id :: b.refused }
     else (s.updBar fun b => { b with joins := (id, e, hop) :: b.joins.filter fun j => j.1 != id }).sendMap (id ::
     s.members)) ∧
  (∀ (s : State) (o : Sender) (w : Word), s.reaches o BAR_CTL = true → 
     let v := (s.barEn (BAR_CTL.EN.ext w == 1)).when (BAR_CTL.LEAVE.ext w == 1) (·.barLeave);
     exec (.barEn o w) s = .next (s.close (v.when (BAR_CTL.REJOIN.ext w == 1) (·.rejoin)))) ∧
  (∀ (s : State) (o : Sender) (w : Word), s.reaches o BAR_CTL = true → exec (.barLeave o w) s = .next (s.close
     ((s.barEn (BAR_CTL.EN.ext w == 1)).barLeave.when (BAR_CTL.REJOIN.ext w == 1) (·.rejoin)))) ∧
  (∀ (s : State) (o : Sender) (w : Word), s.reaches o BAR_CTL = true → exec (.rejoin o w) s = .next (s.close (((s.barEn
     (BAR_CTL.EN.ext w == 1)).when (BAR_CTL.LEAVE.ext w == 1) (·.barLeave)).rejoin))) ∧
  (∀ (s : State), 
     let u := s.setFld BAR_CTL.EN 1;
     s.barEn true = if s.bstate ≠ 0 ∨ (s.barUp 0 = false ∧ s.barUp 1 = false) then u else if s.on BAR_CFG.ROLE then
       u.enterLead else if s.bar.mapSeen then u.sendJoin else u) ∧
  (∀ (s : State), s.barEn false = if s.bstate = 0 then s.setFld BAR_CTL.EN 0 else (s.setFld BAR_CTL.EN 0).goAlone) ∧
  (∀ (s : State), s.barLeave = if s.bstate = 3 then (s.flood 11 []).updBar fun b => { b with leaving := true } else s) ∧
  (∀ (s : State), s.rejoin = if s.bstate ≠ 4 ∨ s.on BAR_CFG.ROLE then s else if s.bar.mapSeen then s.sendJoin else
     s.updBar fun b => { b with rejoin := true }) ∧
  (∀ (s : State), s.awake = true → s.bstate = 2 → exec .idDup s = .next (s.close (((s.raise BAR_FLAG.ID_DUP).setBstate
     4).updBar fun b => { b with mute := true }))) ∧
  (∀ (s : State), s.bstate ≠ 2 → exec .idDup s = .next (s.close (s))) ∧
  (∀ (s : State) (e : Fin 2) (x y : Nat) (q : List (Nat × Nat)) (n : Fin 16), s.awake = true → s.blkHeld (56 + e) =
  false → s.pdOn 8 = true → s.barUp e = false → (s.barLanes e).length = 2 → x ≤ 16 → y ≤ 16 → 256 ≤ q.length → 
     let u := ((s.setFld BAR_LSTAT.SKEW x (2 * e)).setFld BAR_LSTAT.SKEW y (2 * e + 1)).setFld BAR_LSTAT.BSTATE 3
       (2 * e);
     let v := ((u.setFld BAR_LSTAT.BSTATE 3 (2 * e + 1)).updBarPort e fun _ => BarPort.reset).sendEchoes e;
     let w := ((v.setFld BAR_PORTSTAT.LSTATE 3 e).setFld BAR_PORTSTAT.HOPDLY (hopDelay q) e).setFld
       BAR_PORTSTAT.NBR n e;
     exec (.barPortAlign e x y q n) s = .next (s.close (if w.bstate = 0 ∧ w.on BAR_CTL.EN ∧ w.on BAR_CFG.ROLE then
       w.enterLead else w))) ∧
  (∀ (q : List (Nat × Nat)), q.length = 256 → hopDelay q = ((q.map fun x => x.1 - x.2).foldl (· + ·) 0 + 256) / 512) ∧
  (∀ (s : State) (e : Fin 2) (x y : Nat) (q : List (Nat × Nat)) (n : Fin 16), s.awake = true → s.blkHeld (56 + e) =
  false → s.pdOn 8 = true → s.barUp e = false → (s.barLanes e).length = 2 → x ≤ 16 → y ≤ 16 → q.length < 256 → 
     let u := ((s.setFld BAR_LSTAT.SKEW x (2 * e)).setFld BAR_LSTAT.SKEW y (2 * e + 1)).setFld BAR_LSTAT.BSTATE 3
       (2 * e);
     let v := ((u.setFld BAR_LSTAT.BSTATE 3 (2 * e + 1)).updBarPort e fun _ => BarPort.reset).sendEchoes e;
     exec (.barPortAlign e x y q n) s = .next (s.close (v.setFld BAR_PORTSTAT.LSTATE 2 e))) ∧
  (∀ (s : State) (e : Fin 2) (x y : Nat) (q : List (Nat × Nat)) (n : Fin 16), s.awake = true → s.blkHeld (56 + e) =
     false → s.pdOn 8 = true → s.barUp e = false → (s.barLanes e).length = 2 → (16 < x ∨ 16 < y) → exec (.barPortAlign
     e x y q n) s = .next (s.close (((s.when (decide (16 < x)) (·.raise BAR_LFLAG.SKEW_ERR (2 * e))).when (decide (16 <
     y)) (·.raise BAR_LFLAG.SKEW_ERR (2 * e + 1))).barPortDown e))) ∧
  (∀ (s : State) (e : Fin 2) (x y : Nat) (q : List (Nat × Nat)) (n : Fin 16), (s.blkHeld (56 + e) || !s.pdOn 8 ||
     s.barUp e || decide ((s.barLanes e).length < 2)) = true → exec (.barPortAlign e x y q n) s = .next (s.close (s))) ∧
  (∀ (s : State) (e : Nat), 2 ≤ s.fld BAR_PORTSTAT.LSTATE e → 
     let u := forIn' (s.barLanes e) (fun l s => s.setFld BAR_LSTAT.BSTATE 2 l) s;
     let v := ((u.updBarPort e fun _ => BarPort.reset).setReg BAR_PORTSTAT 0 e).barErr BAR_FLAG.PORT_DOWN;
     let w := v.sendMsg (1 - e) ⟨12, v.barId, 0, [Word.of (e * 2 ^ 39)]⟩;
     let x := w.when w.barActive (·.cancelDist);
     s.barPortDown e = if x.barUp 0 = false ∧ x.barUp 1 = false then x.goAlone else if x.bstate = 1 then
       x.pruneMembers fun i => x.bar.joins.any fun j => j.1 == i && j.2.1 == e else if x.bstate = 3 ∧ s.on
       BAR_PORTSTAT.UPSTREAM e = true then x.setBstate 4 else x) ∧
  (∀ (s : State) (age : Nat), s.awake = true → s.bstate = 1 → exec (.beaconSend age) s = .next (s.close ((s.flood 1
     (s.beaconWords age true)).updBar fun b => { b with bseq := (b.bseq + 1) % 256 }))) ∧
  (∀ (s : State) (age : Nat), s.awake = true → s.bstate = 1 → exec (.beaconKeepalive age) s = .next (s.close ((s.flood
     1 (s.beaconWords age false)).updBar fun b => { b with bseq := (b.bseq + 1) % 256 }))) ∧
  (∀ (s : State) (age : Nat), s.bstate ≠ 1 → exec (.beaconSend age) s = .next (s.close s) ∧ exec (.beaconKeepalive age)
     s = .next (s.close s)) ∧
  (∀ (s : State) (o : Sender), s.reaches o BAR_GOP = true → s.on BAR_GOP.BUSY = false → 
     let u := s.setFld BAR_GOP.OP 0;
     let m := lineMod (u.nextLine + u.commitLead);
     exec (.snapshotAtLine o) s = .next (s.close (((u.when u.barActive (·.flood 8 [Word.of (m * 2 ^ 14)])).setFld
       BAR_GOP.BUSY 1).updBar fun b => { b with snapLines := b.snapLines ++ [(m, true)] }))) ∧
  (∀ (s : State) (o : Sender), s.reaches o BAR_GOP = true → s.on BAR_GOP.BUSY = false → 
     let u := s.setFld BAR_GOP.OP 1;
     exec (.snapshotNow o) s = .next (s.close ((u.when u.barActive (·.flood 8 [Word.of (2 ^ 38)])).snapshot))) ∧
  (∀ (s : State) (o : Sender), s.reaches o BAR_GOP = true → s.on BAR_GOP.BUSY = false → 
     let u := s.setFld BAR_GOP.OP 2;
     exec (.barReset o) s = .next (s.close (((u.when u.barActive (·.flood 8 [Word.of (2 * 2 ^ 38)])).setFld
       BAR_GOP.BUSY 1).updBar fun b => { b with gopReset := true }))) ∧
  (∀ (s : State) (o : Sender), s.reaches o BAR_GOP = true → s.on BAR_GOP.BUSY = true → exec (.snapshotAtLine o) s =
     .next (s.close s) ∧ exec (.snapshotNow o) s = .next (s.close s) ∧ exec (.barReset o) s = .next (s.close s)) ∧
  (∀ (s : State) (e : Fin 2) (hseq : BitVec 8) (orig hop : Fin 16) (op : BitVec 2) (l : BitVec 24), s.awake = true →
  exec (.gop e hseq orig hop op l) s = .next (s.close (s.barTake e hseq.toNat (fun a => 
     let b := a.when a.forwards (·.forward e ⟨8, orig, hop, [Word.of (op.toNat * 2 ^ 38 + l.toNat * 2 ^ 14)]⟩);
     b.when (b.on BAR_CTL.EN) fun c => if c.barActive = false ∨ op = 3 then c else if op = 0 then c.updBar fun b =>
       { b with snapLines := b.snapLines ++ [(l.toNat, false)] } else if op = 1 then c.snapshot else c.updBar fun b
       => { b with gopReset := true })))) ∧
  (∀ (s : State), s.awake = true → s.bar.gopReset = true → exec .barResetApply s = .next (s.close (s.requestReset 7 0))) ∧
  (∀ (s : State), s.bar.gopReset = false → exec .barResetApply s = .next (s.close (s))) ∧
  (∀ (s : State) (d : Dx), s.awake = true → s.bar.dx = some d → exec .dxTimeout s = .next (s.close (s.dxAbort d 0 0))) ∧
  (∀ (s : State), s.bar.dx = none → exec .dxTimeout s = .next (s.close (s)))

/-- R238: TIME_S_READ answers the low 40 bits of the seconds and latches the whole counter; TIME_S_WRITE holds the
seconds, TIME_NS_WRITE loads the counter from them and its own word; TIME_STEP adds a signed number of nanoseconds
and sets its flag. R239: TIME_SEND floods the leader's time, and does nothing on another chip; a TIME message goes
on with its AGE raised and a chip in FOLLOW with SRC = 2 loads it, raised by its AGE, and corrects its rate by what
it saw since the last one. R240: with the MAC running, SCHEDULED_LAUNCH of a frame whose time is past sends it with
LAUNCH_LATE, of another one queues it, and it leaves once the counter reaches its time; ONE_STEP_INSERT puts the
network time into the frame's originTimestamp (the byte places in the two frame formats and the checksum's order are
the model's choice, log 34). R241: LINK_CHG follows the link and sets its flag on a change alone. The model's
choices and readings in these clauses, no rules of the spec: a command out of its state changes nothing (log entry
6); which chips forward a message (log entry 113); every hop ages a TIME message (log entry 115); a time step sets
its flag at any size (log entry 126). -/
def Obligations.NetworkTimeIsKeptAndUsed : Prop :=
  (∀ (s : State) (o : Sender), s.reaches o ETH_TIME_S = true → exec (.timeSRead o) s = .next (s.close (({ s with net := { s.net with latch := Word.of (s.timeS / 2 ^ 40 * 2 ^ 32 + s.timeNs) } }
     : State).emit (.regData 0 (Word.of s.timeS))))) ∧
  (∀ (s : State) (o : Sender) (w : Word), s.reaches o ETH_TIME_S = true → exec (.timeSWrite o w) s = .next (s.close ({ s with net := { s.net with heldS := w.toNat } }))) ∧
  (∀ (s : State) (o : Sender) (w : Word), s.reaches o ETH_TIME_NS = true → exec (.timeNsWrite o w) s = .next (s.close
     (s.setTime (timeOf (w.toNat / 2 ^ 32 * 2 ^ 40 + s.net.heldS) (w.toNat % 2 ^ 32))))) ∧
  (∀ (s : State) (sec ns : Nat), ns < 1000000000 → (s.setTime (timeOf sec ns)).timeS = sec % 2 ^ 48 ∧ (s.setTime
     (timeOf sec ns)).timeNs = ns) ∧
  (∀ (s : State) (o : Sender) (w : Word), s.reaches o ETH_TSTEP = true → exec (.timeStep o w) s = .next (s.close
     ((s.setTime ((s.net.time : Int) + w.toInt * 2 ^ 40 + 2 ^ 48 * secUnits).toNat).raise ETH_FLAG.TIME_STEP))) ∧
  (∀ (s : State) (age : Nat), s.awake = true → s.bstate = 1 → exec (.timeSend age) s = .next (s.close (s.flood 13
     (s.timeWords age)))) ∧
  (∀ (s : State) (age : Nat), s.bstate ≠ 1 → exec (.timeSend age) s = .next (s.close (s))) ∧
  (∀ (s : State) (e : Fin 2) (hseq : BitVec 8) (orig hop : Fin 16) (w0 w1 w2 : Word) (d : Nat), s.awake = true → exec
  (.time e hseq orig hop w0 w1 w2 d) s = .next (s.close (s.barTake e hseq.toNat (fun a => 
     let age := w2.toNat / 2 ^ 24 + a.fld BAR_PORTSTAT.HOPDLY e;
     let b := a.when a.forwards (·.forward e ⟨13, orig, hop, [w0, w1, Word.of ((age + d) % 65536 * 2 ^ 24)]⟩);
     b.when (b.bstate == 3 && b.fld ETH_TCFG.SRC == 2) (·.takeTime (w1.toNat / 2 ^ 32 * 2 ^ 40 + w0.toNat)
       (w1.toNat % 2 ^ 32) age))))) ∧
  (∀ (s : State) (sec ns age : Nat), s.bar.lastTime = none → 
     let t := timeMod (timeOf sec ns + ageTime age);
     s.takeTime sec ns age = (s.setTime t).updBar fun b => { b with lastTime := some t }) ∧
  (∀ (s : State) (sec ns age t0 : Nat), s.bar.lastTime = some t0 → timeMod (s.net.time + 2 ^ 48 * secUnits - t0) ≠ 0 → 
     let t := timeMod (timeOf sec ns + ageTime age);
     let u := s.setReg ETH_TADDEND (Word.of ((s.reg ETH_TADDEND).toNat * timeMod (t + 2 ^ 48 * secUnits - t0) /
       timeMod (s.net.time + 2 ^ 48 * secUnits - t0)));
     s.takeTime sec ns age = (u.setTime t).updBar fun b => { b with lastTime := some t }) ∧
  (∀ (s : State) (c : BitVec 48) (n : BitVec 32) (f : List Byte), s.awake = true → s.macRuns = true → s.timeReached
     c.toNat n.toNat = true → exec (.scheduledLaunch c n f) s = .next (s.close ((s.raise ETH_FLAG.LAUNCH_LATE).emit
     (.ethFrame f)))) ∧
  (∀ (s : State) (c : BitVec 48) (n : BitVec 32) (f : List Byte), s.awake = true → s.macRuns = true → s.timeReached
     c.toNat n.toNat = false → exec (.scheduledLaunch c n f) s = .next (s.close ({ s with net := { s.net with txq := s.net.txq ++ [(timeOf c.toNat n.toNat, f)] } }))) ∧
  (∀ (s : State) (c : BitVec 48) (n : BitVec 32) (f : List Byte), s.macRuns = false → exec (.scheduledLaunch c n f) s =
     .next (s.close s) ∧ exec (.oneStepInsert f) s = .next (s.close s)) ∧
  (∀ (s : State), s.macRuns = true → (
     let u : State := { s with net := { s.net with txq := s.net.txq.filter fun x => decide (s.net.time < x.1) } };
     s.launchFrames = forIn' (s.net.txq.filter fun x => decide (x.1 ≤ s.net.time)) (fun x t => t.emit (.ethFrame
       x.2)) u)) ∧
  (∀ (s : State) (f : List Byte), s.awake = true → s.macRuns = true → s.on ETH_PTPCFG.UDP = false → 
     let g := putBytes f 48 (bytesBE 6 s.timeS ++ bytesBE 4 s.timeNs);
     exec (.oneStepInsert f) s = .next (s.close (s.emit (.ethFrame (g ++ fcs g))))) ∧
  (∀ (s : State) (f : List Byte), s.awake = true → s.macRuns = true → s.on ETH_PTPCFG.UDP = true → 
     let g := putBytes (putBytes f 40 [0, 0]) 76 (bytesBE 6 s.timeS ++ bytesBE 4 s.timeNs);
     exec (.oneStepInsert f) s = .next (s.close (s.emit (.ethFrame (g ++ fcs g))))) ∧
  (∀ (s : State) (u : Bool), s.awake = true → s.pdOn 9 = true → s.blkHeld 69 = false → s.on ETH_STAT.LINK ≠ u → exec
     (.linkChg u) s = .next (s.close ((s.setFld ETH_STAT.LINK (bit u)).raise ETH_FLAG.LINK_CHG))) ∧
  (∀ (s : State) (u : Bool), (s.pdOn 9 = false ∨ s.blkHeld 69 = true ∨ s.on ETH_STAT.LINK = u) → exec (.linkChg u) s =
     .next (s.close (s)))

/-! ### The Opzo link -/

/-- R251: BLOCK_LOCK of a running lane below lock locks it, and a bar port that was down then trains; LOCK_LOST_LANE
counts the header errors of a running lane, and with the sixteenth within 64 blocks a locked lane loses lock and
fails the link in use. R246: STUFF_ERR of a running lane is its flag and a header error. R249: FILLER on a link that
is UP moves the elastic store one column toward its middle, takes the offsets up to 16, and with a wrong sequence or
a greater offset sets SKEW_ERR on those lanes and fails the link; EB_ERR sets its flag and fails the link. R252: a
write of HLNK_CTL that changes EN starts training or takes the link DOWN, RETRAIN leaves UP with LINK_DOWN,
HLNK_TRAIN_TIMEOUT starts again with TRAIN_FAIL. A TRAIN column: UP is left with LINK_DOWN; REMOTE is taken; SRST
clears the sequence state; the lanes deskew; in TRAIN with lane 0 aligned the width is settled; in CONFIG a skewed
column or another width returns to TRAIN, a column without CONF starts the count again, and the sixteenth CONF
column brings the link UP. R253: PRBS_CTL sets the generator and a cleared checker, or PRBS_REJ while the link is
enabled, and ERR_INJ inverts a bit of a running generator unless so refused; PRBS_LOCK locks a checker that runs,
PRBS_LOCK_LOSS unlocks it, each counting the bits compared and their errors. R247: CTL_BAD is its flag unless the
link is DOWN; R257: HDR_CRC in UP is recorded and asks again with NAK. The model's choices and readings in these
clauses, no rules of the spec: a command out of its state changes nothing (log entry 6); SRST received in training
(log entry 120); PRBS counts are operands (log entry 123); the counts of invalid headers are operands (log entry
124); a message is one command (log entry 148); the training of a bar port, its mean rounded half up (log entry
167); when HLNK_ERRINFO records again (log entry 209). -/
def Obligations.LanesLockTrainAndAreTested : Prop :=
  (∀ (s : State) (l : Fin 12), s.awake = true → s.laneRuns l = true → s.laneState l < 2 → exec (.blockLock l) s = .next
     (s.close ((s.setLane l 2).when (decide (8 ≤ l.val) && s.fld BAR_PORTSTAT.LSTATE ((l.val - 8) / 2) == 0) (·.setFld
     BAR_PORTSTAT.LSTATE 1 ((l.val - 8) / 2))))) ∧
  (∀ (s : State) (l : Fin 12), (s.laneRuns l = false ∨ 2 ≤ s.laneState l) → exec (.blockLock l) s = .next (s.close (s))) ∧
  (∀ (s : State) (l : Fin 12) (n : Nat), s.awake = true → s.laneRuns l = true → 2 ≤ s.laneState l → exec (.lockLostLane
     l n true) s = .next (s.close ((((forTo n (fun _ t => t.hdrErr l) s).laneRaise l HLNK_LFLAG.LOCK_LOST
     BAR_LFLAG.LOCK_LOST).setLane l 1).laneFail l))) ∧
  (∀ (s : State) (l : Fin 12) (n : Nat) (b : Bool), s.awake = true → s.laneRuns l = true → (b = false ∨ s.laneState l <
     2) → exec (.lockLostLane l n b) s = .next (s.close (forTo n (fun _ t => t.hdrErr l) s))) ∧
  (∀ (s : State) (l : Fin 12) (n : Nat) (b : Bool), s.laneRuns l = false → exec (.lockLostLane l n b) s = .next
     (s.close s) ∧ exec (.stuffErr l) s = .next (s.close s)) ∧
  (∀ (s : State) (l : Fin 12), s.awake = true → s.laneRuns l = true → exec (.stuffErr l) s = .next (s.close
     ((s.laneRaise l HLNK_LFLAG.STUFF_ERR BAR_LFLAG.STUFF_ERR).hdrErr l))) ∧
  (∀ (s : State) (g : Fin 3) (v : Fin 33) (fs sk : List Nat), s.awake = true → s.linkIsUp g = true → 
     let ls := s.linkLanes g;
     let l0 := ls.headD 0;
     let bad := ls.filter fun l => fs[l - l0]? != fs[0]? || decide (16 < sk.getD (l - l0) 0);
     let u := s.laneSet l0 HLNK_LSTAT.EB_LEVEL BAR_LSTAT.EB_LEVEL (if 18 < v.val then v.val - 1 else if v.val < 14
       then v.val + 1 else v.val);
     let x := forIn' ls (fun l t => t.when (decide (sk.getD (l - l0) 0 ≤ 16)) (·.laneSet l HLNK_LSTAT.SKEW
       BAR_LSTAT.SKEW (sk.getD (l - l0) 0))) u;
     let w := forIn' bad (fun l t => t.laneRaise l HLNK_LFLAG.SKEW_ERR BAR_LFLAG.SKEW_ERR) x;
     exec (.filler g v fs sk) s = .next (s.close (if bad = [] then w else w.laneFail l0))) ∧
  (∀ (s : State) (g : Fin 3) (v : Fin 33) (fs sk : List Nat), s.linkIsUp g = false → exec (.filler g v fs sk) s = .next
     (s.close s) ∧ exec (.ebErr g) s = .next (s.close s)) ∧
  (∀ (s : State) (g : Fin 3), s.awake = true → s.linkIsUp g = true → exec (.ebErr g) s = .next (s.close ((s.laneRaise
     ((s.linkLanes g).headD 0) HLNK_LFLAG.EB_ERR BAR_LFLAG.EB_ERR).laneFail ((s.linkLanes g).headD 0)))) ∧
  (∀ (s : State) (o : Sender) (w : Word), s.reaches o HLNK_CTL = true → exec (.hlnkEn o w) s = .next (s.close ((s.when
     (HLNK_CTL.EN.ext w != s.fld HLNK_CTL.EN) (·.hlnkEn (HLNK_CTL.EN.ext w == 1))).when (HLNK_CTL.RETRAIN.ext w == 1)
     (·.retrain)))) ∧
  (∀ (s : State) (o : Sender) (w : Word), s.reaches o HLNK_CTL = true → exec (.retrain o w) s = .next (s.close ((s.when
     (HLNK_CTL.EN.ext w != s.fld HLNK_CTL.EN) (·.hlnkEn (HLNK_CTL.EN.ext w == 1))).retrain))) ∧
  (∀ (s : State), s.hlState = 0 → s.hlRuns = true → s.hlnkEn true = (s.setFld HLNK_CTL.EN 1).toTrain) ∧
  (∀ (s : State), s.hlnkEn false = (s.setFld HLNK_CTL.EN 0).setFld HLNK_STAT.LSTATE 0) ∧
  (∀ (s : State), s.retrain = if s.hlState = 3 then (s.raise HLNK_FLAG.LINK_DOWN).toTrain else s) ∧
  (∀ (s : State), s.awake = true → (s.hlState = 1 ∨ s.hlState = 2) → exec .hlnkTrainTimeout s = .next (s.close
     ((s.raise HLNK_FLAG.TRAIN_FAIL).toTrain))) ∧
  (∀ (s : State), s.hlState ≠ 1 → s.hlState ≠ 2 → exec .hlnkTrainTimeout s = .next (s.close (s))) ∧
  (∀ (s : State) (r : BitVec 8) (c : Bool) (w : Fin 4) (x : Bool) (sk : List Nat), s.awake = true → s.hlState ≠ 0 →
  s.hlRuns = true → (s.hlState = 1 ∨ s.hlState = 3) → 
     let a := (s.when (s.hlState == 3) (·.hlDown)).setFld HLNK_STAT.REMOTE r.toNat;
     let u := (a.when x (·.seqReset)).deskew sk;
     exec (.train r c w x sk) s = .next (s.close (if u.laneState 0 = 3 then u.trainCol r.toNat else u))) ∧
  (∀ (s : State) (r : BitVec 8) (c : Bool) (w : Fin 4) (x : Bool) (sk : List Nat), s.awake = true → s.hlState ≠ 0 →
  s.hlRuns = true → s.hlState = 2 → overSkew (2 ^ s.hlnk.width) sk = true → 
     let a := (s.when (s.hlState == 3) (·.hlDown)).setFld HLNK_STAT.REMOTE r.toNat;
     let u := (a.when x (·.seqReset)).deskew sk;
     exec (.train r c w x sk) s = .next (s.close (u.toTrain))) ∧
  (∀ (s : State) (r : BitVec 8) (c : Bool) (w : Fin 4) (x : Bool) (sk : List Nat), s.awake = true → s.hlState ≠ 0 →
  s.hlRuns = true → s.hlState = 2 → overSkew (2 ^ s.hlnk.width) sk = false → 
     let a := (s.when (s.hlState == 3) (·.hlDown)).setFld HLNK_STAT.REMOTE r.toNat;
     let u := (a.when x (·.seqReset)).deskew sk;
     exec (.train r c w x sk) s = .next (s.close (if c = false then u.hlUpd fun h => { h with confCols := 0 } else
       if w.val ≠ u.hlnk.width then u.toTrain else if u.hlnk.confCols < 15 then u.hlUpd fun h =>
       { h with confCols := h.confCols + 1 } else u.hlUp))) ∧
  (∀ (s : State) (r : BitVec 8) (c : Bool) (w : Fin 4) (x : Bool) (sk : List Nat), (s.hlState = 0 ∨ s.hlRuns = false) →
     exec (.train r c w x sk) s = .next (s.close (s))) ∧
  (∀ (s : State) (r w : Nat), s.widest r (s.fld HLNK_CFG.WIDTH_MAX) = some w → s.trainCol r = ((s.setFld
     HLNK_STAT.LSTATE 2).hlUpd fun h => { h with width := w, confCols := 0 }).emit (.train true w s.hlnk.srst)) ∧
  (∀ (s : State) (r : Nat), s.widest r (s.fld HLNK_CFG.WIDTH_MAX) = none → s.trainCol r = s) ∧
  (∀ (s : State) (o : Sender) (l : Fin 12) (w : Word), s.reaches o (if l.val < 8 then HLNK_LPRBS else BAR_LPRBS) (if
     l.val < 8 then l.val else l.val - 8) = true → exec (.prbsCtl o l w) s = .next (s.close ((s.prbsCtl l
     (HLNK_LPRBS.TX_EN.ext w == 1) (HLNK_LPRBS.RX_EN.ext w == 1) (HLNK_LPRBS.INV.ext w == 1)).when (!s.prbsRefused l
     (HLNK_LPRBS.TX_EN.ext w == 1) (HLNK_LPRBS.RX_EN.ext w == 1) && HLNK_LPRBS.ERR_INJ.ext w == 1) (·.errInj l)))) ∧
  (∀ (s : State) (o : Sender) (l : Fin 12) (w : Word), s.reaches o (if l.val < 8 then HLNK_LPRBS else BAR_LPRBS) (if
     l.val < 8 then l.val else l.val - 8) = true → exec (.errInj o l w) s = .next (s.close ((s.prbsCtl l
     (HLNK_LPRBS.TX_EN.ext w == 1) (HLNK_LPRBS.RX_EN.ext w == 1) (HLNK_LPRBS.INV.ext w == 1)).when (!s.prbsRefused l
     (HLNK_LPRBS.TX_EN.ext w == 1) (HLNK_LPRBS.RX_EN.ext w == 1)) (·.errInj l)))) ∧
  (∀ (s : State) (l : Nat) (t r i : Bool), (t || r) = true → s.linkEnabled l = true → s.prbsCtl l t r i = s.laneRaise l
     HLNK_LFLAG.PRBS_REJ BAR_LFLAG.PRBS_REJ) ∧
  (∀ (s : State) (l : Nat) (t r i : Bool), ((t = false ∧ r = false) ∨ s.linkEnabled l = false) → 
     let u := s.when (t || s.laneFld l HLNK_LPRBS.TX_EN BAR_LPRBS.TX_EN == 1) (·.emit (.prbs l t i));
     let v := ((u.laneSet l HLNK_LPRBS.TX_EN BAR_LPRBS.TX_EN (bit t)).laneSet l HLNK_LPRBS.RX_EN BAR_LPRBS.RX_EN
       (bit r)).laneSet l HLNK_LPRBS.INV BAR_LPRBS.INV (bit i);
     let c := ((v.laneSetReg l HLNK_LPRBSERR BAR_LPRBSERR 0).laneSetReg l HLNK_LPRBSBITS BAR_LPRBSBITS 0).hlUpd fun
       h => { h with prbsBits := SMap.set 0 h.prbsBits l 0 };
     s.prbsCtl l t r i = (if r then c else v).laneSet l HLNK_LSTAT.PRBS_LOCK BAR_LSTAT.PRBS_LOCK 0) ∧
  (∀ (s : State) (l : Fin 12) (b n : Nat), s.awake = true → s.laneRuns l = true → s.laneFld l HLNK_LPRBS.RX_EN
     BAR_LPRBS.RX_EN = 1 → exec (.prbsLock l b n) s = .next (s.close ((s.laneSet l HLNK_LSTAT.PRBS_LOCK
     BAR_LSTAT.PRBS_LOCK 1).prbsCount l b (min n b)))) ∧
  (∀ (s : State) (l : Fin 12) (b n : Nat), (s.laneRuns l = false ∨ s.laneFld l HLNK_LPRBS.RX_EN BAR_LPRBS.RX_EN ≠ 1) →
     exec (.prbsLock l b n) s = .next (s.close (s))) ∧
  (∀ (s : State) (l : Fin 12) (b n : Nat), s.awake = true → s.laneFld l HLNK_LSTAT.PRBS_LOCK BAR_LSTAT.PRBS_LOCK = 1 →
     exec (.prbsLockLoss l b n) s = .next (s.close ((s.prbsCount l b (min n b)).laneSet l HLNK_LSTAT.PRBS_LOCK
     BAR_LSTAT.PRBS_LOCK 0))) ∧
  (∀ (s : State) (l : Fin 12) (b n : Nat), s.laneFld l HLNK_LSTAT.PRBS_LOCK BAR_LSTAT.PRBS_LOCK ≠ 1 → exec
     (.prbsLockLoss l b n) s = .next (s.close (s))) ∧
  (∀ (s : State), s.awake = true → s.hlState ≠ 0 → exec .ctlBad s = .next (s.close (s.raise HLNK_FLAG.CTL_BAD))) ∧
  (∀ (s : State), s.awake = true → s.hlState = 3 → exec .hdrCrc s = .next (s.close (((s.pktErr 0 0 1).raise
     HLNK_FLAG.HDR_CRC).sendNak))) ∧
  (∀ (s : State), s.hlState = 0 → exec .ctlBad s = .next (s.close s)) ∧
  (∀ (s : State), s.hlState ≠ 3 → exec .hdrCrc s = .next (s.close s))

/-- R257 (`State.downPkt`): while the link is not UP a packet is nothing. In UP its blocks count into its class; a wrong
checksum is recorded and asked for again with NAK, whatever the sequence number; a repeat is only acknowledged; one
ahead of its turn is recorded and asked for again, each returning its credit. The next in sequence advances RX_NEXT:
one of a wrong form (WHY) is PKT_BAD, one beyond its credit CREDIT_OVF, any other is performed; it is then
acknowledged, its credit returned and what waits is sent, if the link is still UP. REG_WR (R255) makes its writes in
order and queues one response with their statuses, REG_RD its reads; RASTER (R256) writes its bytes to DRAM, with
WHY 4 for its length, 5 for reserved bits, 6 for its range; a packet by its TYPE alone: 0 is CTL_BAD, 1 to 4 as
named, 15 a link control block, CTL_BAD where its kind is reserved, any other WHY 3. R258 to R260: ACK frees what
was sent up to its SEQ, NAK and REPLAY send the rest again, after eight times without an advance REPLAY_FAIL takes
the link down; CREDIT of classes 2 and 3 sets the limit. R262: EVENT_SEND sends the oldest event when it can. The
model's choices and readings in these clauses, no rules of the spec: a command out of its state changes nothing (log
entry 6); REG_FREE and BULK_FREE stay full (log entry 32); a discarded packet's credit returns by its TYPE (log
entry 121); the ninth replay retrains (log entry 122); a message is one command (log entry 148); when HLNK_ERRINFO
records again (log entry 209). -/
def Obligations.PacketsAreAcceptedAnsweredAndReplayed : Prop :=
  (∀ (s : State) (seq : BitVec 8) (words : List Word) (f : PktFault), s.awake = true → 
     let b := pktBody words f;
     let w0 := b.getD 0 0;
     exec (.regWr seq words f) s = .next (s.close (s.downPkt 1 seq.toNat 0 b f (regPktWhy b true) (fun u => 
     let r := u.regWrites (w0.toNat / 2 ^ 16) (w0.getLsbD 3) (b.drop 1);
     r.1.respond (w0.toNat / 2 ^ 8 % 2 ^ 8) r.2 [])))) ∧
  (∀ (s : State) (seq : BitVec 8) (words : List Word) (f : PktFault), s.awake = true → 
     let b := pktBody words f;
     let w0 := b.getD 0 0;
     exec (.regRd seq words f) s = .next (s.close (s.downPkt 2 seq.toNat 0 b f (regPktWhy b false) (fun u => 
     let r := u.regReads (w0.toNat / 2 ^ 16) (w0.getLsbD 3) (w0.toNat / 16 % 16 + 1);
     r.1.respond (w0.toNat / 2 ^ 8 % 2 ^ 8) (r.2.map (·.1)) (r.2.map (·.2)))))) ∧
  (∀ (s : State) (seq : BitVec 8) (words : List Word) (f : PktFault), s.awake = true → 
     let b := pktBody words f;
     let w0 := b.getD 0 0;
     let n := (b.getD 1 0).toNat / 2 ^ 32 + 1;
     let bytes := (((b.drop 2).map fun w => bytesBE 5 w.toNat).flatten).take (16 * n);
     let why := if b.length ≠ (16 * n + 4) / 5 + 2 then 4 else if w0.toNat / 2 ^ 36 ≠ 0 ∨ (b.getD 1 0).toNat % 2 ^
       32 ≠ 0 then 5 else if w0.toNat % 2 ^ 36 % 16 ≠ 0 ∨ s.dramCap < w0.toNat % 2 ^ 36 + 16 * n then 6 else 0;
     exec (.raster seq words f) s = .next (s.close (s.downPkt 3 seq.toNat 1 b f why (fun u => (u.dramWrite 3
       (w0.toNat % 2 ^ 36) bytes).1)))) ∧
  (∀ (s : State) (ty : BitVec 4) (seq : BitVec 8) (words : List Word) (f : PktFault), s.awake = true → exec
     (.reservedTypePacket ty seq words f) s = .next (s.close (if ty = 0 then s.ctlBad else if ty = 1 then s.regWrPkt
     seq.toNat words f else if ty = 2 then s.regRdPkt seq.toNat words f else if ty = 3 then s.rasterPkt seq.toNat words
     f else if ty = 4 then s.jobdescPkt seq.toNat words f else if ty = 15 then (if seq.toNat / 16 ∈ [0, 1, 2, 4, 5, 6]
     then s else s.ctlBad) else s.downPkt ty.toNat seq.toNat 2 words f 3 (fun u => u)))) ∧
  (∀ (s : State) (t q c : Nat) (ws : List Word) (f : PktFault) (why : Nat) (g : State → State), s.hlState ≠ 3 →
     s.downPkt t q c ws f why g = s) ∧
  (∀ (s : State) (t q c : Nat) (ws : List Word) (f : PktFault) (why : Nat) (g : State → State), s.hlState = 3 → f =
  .crc → 
     let u := s.when (decide (c < 2)) (·.countIn c (pktBlocks ws f));
     s.downPkt t q c ws f why g = (((u.pktErr t q 2).raise HLNK_FLAG.PKT_CRC).sendNak).returnCredit c (pktBlocks ws f)) ∧
  (∀ (s : State) (t q c : Nat) (ws : List Word) (f : PktFault) (why : Nat) (g : State → State), s.hlState = 3 → f ≠
  .crc → q ≠ s.fld HLNK_SEQ.RX_NEXT → (s.fld HLNK_SEQ.RX_NEXT + 256 - q) % 256 ≤ 64 → 
     let u := s.when (decide (c < 2)) (·.countIn c (pktBlocks ws f));
     s.downPkt t q c ws f why g = u.sendAck.returnCredit c (pktBlocks ws f)) ∧
  (∀ (s : State) (t q c : Nat) (ws : List Word) (f : PktFault) (why : Nat) (g : State → State), s.hlState = 3 → f ≠
  .crc → q ≠ s.fld HLNK_SEQ.RX_NEXT → 64 < (s.fld HLNK_SEQ.RX_NEXT + 256 - q) % 256 → 
     let u := s.when (decide (c < 2)) (·.countIn c (pktBlocks ws f));
     s.downPkt t q c ws f why g = ((u.pktErr t q 8).sendNak).returnCredit c (pktBlocks ws f)) ∧
  (∀ (s : State) (t q c : Nat) (ws : List Word) (f : PktFault) (why : Nat) (g : State → State), s.hlState = 3 → f ≠
  .crc → q = s.fld HLNK_SEQ.RX_NEXT → why ≠ 0 → 
     let u := s.when (decide (c < 2)) (·.countIn c (pktBlocks ws f));
     let v := u.setFld HLNK_SEQ.RX_NEXT ((u.fld HLNK_SEQ.RX_NEXT + 1) % 256);
     s.downPkt t q c ws f why g = ((v.pktErr t q why).raise HLNK_FLAG.PKT_BAD).tookPkt c (pktBlocks ws f)) ∧
  (∀ (s : State) (t q c : Nat) (ws : List Word) (f : PktFault) (why : Nat) (g : State → State), s.hlState = 3 → f ≠
  .crc → q = s.fld HLNK_SEQ.RX_NEXT → why = 0 → 
     let u := s.when (decide (c < 2)) (·.countIn c (pktBlocks ws f));
     let v := u.setFld HLNK_SEQ.RX_NEXT ((u.fld HLNK_SEQ.RX_NEXT + 1) % 256);
     s.downPkt t q c ws f why g = (if v.overCredit c (pktBehind f) then (v.pktErr t q 7).raise HLNK_FLAG.CREDIT_OVF
       else g v).tookPkt c (pktBlocks ws f)) ∧
  (∀ (s : State) (c n : Nat), s.tookPkt c n = if s.hlState = 3 then (s.sendAck.returnCredit c n).pumpUp else s) ∧
  (∀ (s : State) (seq : BitVec 8), s.awake = true → s.hlState = 3 → exec (.ack seq) s = .next (s.close ((s.hlAcked
     seq.toNat).pumpUp))) ∧
  (∀ (s : State) (seq i : Nat), s.hlnk.replay.findIdx? (fun p => p.seq == seq) = some i → s.hlAcked seq = (s.hlUpd fun
     h => { h with replay := h.replay.drop (i + 1), tries := 0, resend := h.resend.filter fun p => !((s.hlnk.replay.take (i + 1)).map fun p => p.seq).contains p.seq }).setFld
     HLNK_SEQ.TX_ACKED seq) ∧
  (∀ (s : State) (seq : Nat), s.hlnk.replay.all (fun p => p.seq != seq) = true → s.hlAcked seq = s) ∧
  (∀ (s : State) (seq : BitVec 8), s.awake = true → s.hlState = 3 → exec (.nak seq) s = .next (s.close ((s.hlAcked
     seq.toNat).hlReplay))) ∧
  (∀ (s : State), s.awake = true → s.hlState = 3 → exec .replay s = .next (s.close (if s.hlnk.replay = [] then s else
     if 8 ≤ s.hlnk.tries then (s.raise HLNK_FLAG.REPLAY_FAIL).hlDown else ((s.hlUpd fun h => { h with tries := h.tries + 1, resend := h.replay }).raise
     HLNK_FLAG.REPLAY).pumpUp))) ∧
  (∀ (s : State) (c : Fin 4) (n : BitVec 30), s.awake = true → s.hlState = 3 → (c = 2 ∨ c = 3) → exec (.credit c n) s =
     .next (s.close (((s.hlUpd fun h => { h with limit := SMap.set 0 h.limit c n.toNat }).creditSync).pumpUp))) ∧
  (∀ (s : State) (c : Fin 4) (n : BitVec 30) (q : BitVec 8), s.hlState ≠ 3 → exec (.ack q) s = .next (s.close s) ∧ exec
     (.nak q) s = .next (s.close s) ∧ exec .replay s = .next (s.close s) ∧ exec (.credit c n) s = .next (s.close s)) ∧
  (∀ (s : State) (c : Fin 4) (n : BitVec 30), c.val < 2 → exec (.credit c n) s = .next (s.close (s))) ∧
  (∀ (s : State) (e : EvtPkt) (rest : List EvtPkt), s.awake = true → s.hlnk.evq = e :: rest → s.canSend 3 6 = true →
     exec .eventSend s = .next (s.close ((s.hlUpd fun h => { h with evq := rest }).sendUp 3 6 (.event e)))) ∧
  (∀ (s : State), (s.hlnk.evq = [] ∨ s.canSend 3 6 = false) → exec .eventSend s = .next (s.close (s)))

/-! ### The memory controller -/

/-- R272, R270: a client write that the controller takes is committed: from then on every byte of it reads as written,
and every other byte as before, whatever queue it stands in; one that is refused sets its flag and changes no byte;
one of a Warden core whose wrapper has closed is discarded (R341). A read that is taken, by a unit of the chip while
no other read waits, of bytes whose bursts hold no error, returns the bytes held; no read changes a byte; a refused
one returns none. What a write that covers no whole code word does with the rest is the model's reading (log entries
14, 207), and so is that a unit's read is served at once where no other waits (log entry 207). The model's choices
and readings in these clauses, no rules of the spec: DRAM without a stated content reads a free value (log entry
13); a refused DRAM request is counted in element 54 (log entry 138); zero-filled DRAM reads 0 (log entry 141). -/
def Obligations.MemoryReadsWhatWasWritten : Prop :=
  (∀ (s : State) (c : Fin 12) (a : BitVec 40) (bs : List Byte), s.awake = true → (c.val ≠ 9 ∨ s.coreCut = false) →
  s.dramGate a.toNat bs.length = .go → 
     let t := s.dramWriteRequest c a.toNat bs;
     exec (.dramWriteRequest c a bs) s = .next (s.close t) ∧ (∀ x, t.dramByte x = if a.toNat ≤ x ∧ x < a.toNat +
       bs.length then bs.getD (x - a.toNat) 0 else s.dramByte x)) ∧
  (∀ (s : State) (c : Fin 12) (a : BitVec 40) (bs : List Byte), s.awake = true → (c.val ≠ 9 ∨ s.coreCut = false) →
  s.dramGate a.toNat bs.length ≠ .go → 
     let t := s.gateFlag (s.dramGate a.toNat bs.length);
     exec (.dramWriteRequest c a bs) s = .next (s.close t) ∧ (∀ x, t.dramByte x = s.dramByte x)) ∧
  (∀ (s : State) (a : BitVec 40) (bs : List Byte), s.coreCut = true → exec (.dramWriteRequest 9 a bs) s = .next
     (s.close (s))) ∧
  (∀ (s : State) (c a n : Nat), s.dramGate a n = .go → s.dram.rq = [] → (∀ w, a / 64 * 8 ≤ w → w < (a + n + 63) / 64 *
     8 → s.cwErr w = 0) → (s.dramRead c a n).2 = some ((List.range n).map fun i => s.dramByte (a + i))) ∧
  (∀ (s : State) (c a n : Nat), ∀ x, (s.dramRead c a n).1.dramByte x = s.dramByte x) ∧
  (∀ (s : State) (c a n : Nat), s.dramGate a n ≠ .go → s.dramRead c a n = (s.gateFlag (s.dramGate a n), none))

/-- R272, R278, R279: the contents of DRAM, a list of addresses and bytes, keep their canonical form (addresses strictly
rising, no byte that an unlisted address reads as) through every step from every state that has it: whatever the
command, a write, a read-modify-write, an initialisation, a loss of the contents. What an unlisted byte reads as
before anything is written is the model's choice (log entries 9, 13). -/
def Obligations.MemoryKeepsItsCanonicalForm : Prop :=
  ∀ s s' : State, Memory.wf s.dram.mem = true → step s = .next s' → Memory.wf s'.dram.mem = true

/-- R278, R267, R279: a read request that the gate refuses sets its flag and is answered poisoned; one in RUN puts a
read of each of its bursts into the read queues. R276: DRAM_READ_COMPLETE serves the read chosen (none: nothing), by
class RT, ISO, round robin, scrubber; serving it moves the round robin on, decodes its eight code words (R268,
R269), follows its bank's page policy, spends its client's allowance, drains, delivers in order what is ready and
lets waiting reads enter. R271: SCRUB reads the four bursts at the scrub address and goes on; once the last burst of
the capacity is read SCRUB_DONE is set and it starts from 0. R275: while an RT read waits or a drain runs a refresh
is postponed, four times at most, then forced; otherwise it is issued and postponed ones are made up while their
banks are idle (postponing and idleness: the model's reading, log 172). MR4_POLL reads every rank and shows the
rates and HOT, ZQ_CAL calibrates every rank. R274: PAGE_IDLE_CLOSE closes an open row. R278: DRAM_INIT starts, wakes
a retained memory, or fails with its cause; then ZQ, the check, the zero fill, RUN (what PROGRESS shows after the
fill is free, log 15; contents without ZERO are free but for the check pattern, log 170). The model's choices and
readings in these clauses, no rules of the spec: a command out of its state changes nothing (log entry 6); the first
initialisation fault is 3 (log entry 136); a refused DRAM request is counted in element 54 (log entry 138); which
read of the queue is served (log entry 147); the order of queued writes (log entry 171); a full write queue makes
the commit wait (log entry 206); what one cycle is (log entry 208). -/
def Obligations.TheMemoryControllerRuns : Prop :=
  (∀ (s : State) (c : Fin 12) (a : BitVec 40) (n : Nat), s.awake = true → s.dramGate a.toNat n ≠ .go → exec
     (.dramReadRequest c a n) s = .next (s.close ((s.gateFlag (s.dramGate a.toNat n)).answerPoison c a.toNat n))) ∧
  (∀ (s : State) (c : Fin 12) (a : BitVec 40) (n : Nat), s.awake = true → s.dramGate a.toNat n = .go → exec
     (.dramReadRequest c a n) s = .next (s.close (s.askReads ((burstsOf a.toNat n).map (readPart c a.toNat n))))) ∧
  (∀ (s : State) (i : Nat) (d : DRead), s.dram.rq[i]? = some d → d.entered = false → s.rqCount (d.burst % 4) < 64 →
  s.tieOf d = none → (
     let u := s.drainFor d.burst d.ser;
     State.enterRead i s = u.updRead i fun x =>
       { x with entered := true, bytes := u.dramBytes (d.burst * 64) 64, errs := (List.range' (d.burst * 8) 8).map u.cwErr })) ∧
  (∀ (s : State) (i : Nat) (d : DRead) (t : DTie), s.dram.rq[i]? = some d → d.entered = false → s.rqCount (d.burst % 4)
     < 64 → s.tieOf d = some t → State.enterRead i s = s.updRead i fun x => { x with entered := true, ser := t.ser - 1, bytes := t.bytes, errs := t.errs, newer := List.range 8 }) ∧
  (∀ (s : State) (q : Fin 4) (b : List Nat) (e : List (Nat × Nat)), (s.dramRuns = false ∨ s.pickRead q b = none) → exec
     (.dramReadComplete q b e) s = .next (s.close (s))) ∧
  (∀ (s : State) (q : Fin 4) (b : List Nat) (e : List (Nat × Nat)) (i : Nat), s.awake = true → s.dramRuns = true →
     s.pickRead q b = some i → exec (.dramReadComplete q b e) s = .next (s.close (s.serveRead q i e))) ∧
  (∀ (s : State) (q : Nat) (b : List Nat), s.pickRead q b = ((s.pickClass q b 0).or (s.pickClass q b 1)).or
     ((s.pickClass q b 2).or (s.pickClass q b 3))) ∧
  (∀ (s : State) (q i : Nat) (e : List (Nat × Nat)) (d : DRead), s.dram.rq[i]? = some d → (
     let r := (List.range 8).foldl (State.serveCw d e) (s.turnTaken q i, []);
     let b := if r.2.all fun m => decide (m.2 ≤ 2) then some ((d.bytes.drop d.off).take d.n) else none;
     let u := (r.1.updRead i fun x => { x with answer := some b, marks := r.2 }).drainAgain d.burst;
     let v := ((u.touch (d.burst * 64)).when (d.client != 10) (·.spend d.client)).wqDrain q;
     let w := (v.deliverReads d.client).enterReads;
     s.serveRead q i e = forTo w.ranks (fun r t => t.makeUp q r) w)) ∧
  (∀ (s : State) (d : DRead) (e l : List (Nat × Nat)) (j : Nat), (
     let cw := d.burst * 8 + j;
     let old := d.newer.contains j;
     let n := (e.lookup cw).getD (if old then d.errs.getD j 0 else s.cwErr cw);
     let u := s.when (!old && decide (n ≠ s.cwErr cw)) (·.putErr cw n);
     State.serveCw d e (s, l) j = (u.when (!old) (·.healCw cw n), l ++ [(cw, n)]))) ∧
  (∀ (s : State) (c i : Nat) (d : DRead) (x : Option (List Byte)) (u : State), s.dram.rq.findIdx? (fun d => d.client
  == c) = some i → s.dram.rq[i]? = some d → d.answer = some x → u =
  { s with dram := { s.dram with rq := s.dram.rq.eraseIdx i } } → (
     let v := d.marks.foldl (fun t m => t.noteCw c m.1 m.2) u;
     State.deliverOne c s = if d.eng then { v with dram := { v.dram with got := v.dram.got ++ [x] } } else if c =
       10 then v.when (decide (v.dramCap ≤ d.burst * 64 + 64)) fun t => (t.setFld DRAM_SCRUBPOS.ADDR 0).raise
       DRAM_FLAG.SCRUB_DONE else if x = none then v.answerPoison c (d.burst * 64 + d.off) d.n else v.emit
       (.dramData c (d.burst * 64 + d.off) x))) ∧
  (∀ (s : State) (e : List (Nat × Nat)), s.awake = true → s.dramRuns = true → s.on DRAM_CTL.SCRUB_EN = true →
  s.scrubEnding = false → 
     let a := s.fld DRAM_SCRUBPOS.ADDR;
     let u := s.when (decide (a + 256 < s.dramCap)) (·.setFld DRAM_SCRUBPOS.ADDR (a + 256));
     let v := u.askReads ((List.range 4).map fun i => readPart 10 (a / 256 * 256) 256 (a / 256 * 4 + i));
     exec (.scrub e) s = .next (s.close (forTo 4 (fun q t => if t.rqCount q = 1 then t.serveNext q [] e else t) v))) ∧
  (∀ (s : State) (e : List (Nat × Nat)), (s.dramRuns = false ∨ s.on DRAM_CTL.SCRUB_EN = false ∨ s.scrubEnding = true) →
     exec (.scrub e) s = .next (s.close (s))) ∧
  (∀ (s : State) (q : Fin 4) (r : Fin 2) (d : Bool), s.awake = true → s.dramLive = true → (s.rtWaits q || d) = true →
     s.owed q r < 4 → exec (.refresh q r d) s = .next (s.close (s.setOwed q r (s.owed q r + 1)))) ∧
  (∀ (s : State) (q : Fin 4) (r : Fin 2) (d : Bool), s.awake = true → s.dramLive = true → (s.rtWaits q || d) = true → 4
     ≤ s.owed q r → exec (.refresh q r d) s = .next (s.close ((s.refreshOnce q r).raise DRAM_FLAG.REF_FORCED))) ∧
  (∀ (s : State) (q : Fin 4) (r : Fin 2) (d : Bool), s.awake = true → s.dramLive = true → (s.rtWaits q || d) = false →
     exec (.refresh q r d) s = .next (s.close ((s.refreshOnce q r).makeUp q r))) ∧
  (∀ (s : State) (q r : Nat), (
     let b := SMap.get 0 s.dram.refBank (q * 2 + r);
     let u := forTo 8 (fun g t => t.closeBank (((q * 2 + r) * 8 + g) * 4 + b)) s;
     let v : State := { u with dram := { u.dram with refBank := SMap.set 0 u.dram.refBank (q * 2 + r) ((b + 1) % 4) } };
     s.refreshOnce q r = v.emit (.dramCmd q 0 (r * 4 + b)))) ∧
  (∀ (s : State) (a b c d : Fin 8) (x h : Bool), s.awake = true → s.dramLive = true → 
     let u := (((s.setFld DRAM_TEMP.RR a 0).setFld DRAM_TEMP.RR b 1).setFld DRAM_TEMP.RR c 2).setFld DRAM_TEMP.RR d 3;
     exec (.mr4Poll a b c d x h) s = .next (s.close (((u.toRanks 1).setFld DRAM_STAT.REF2X (bit x)).when (x && h)
       (·.raise DRAM_FLAG.HOT)))) ∧
  (∀ (s : State), s.awake = true → s.dramLive = true → exec .zqCal s = .next (s.close ((s.toRanks 2).toRanks 5))) ∧
  (∀ (s : State) (q : Fin 4) (r : Fin 2) (g : Fin 8) (b : Fin 4) (row : Nat), s.awake = true → s.dramRuns = true →
     s.fld DRAM_PAGE.MODE ≠ 1 → (s.bank (((q * 2 + r) * 8 + g) * 4 + b)).openRow = some row → exec (.pageIdleClose q r
     g b) s = .next (s.close (s.setBank (((q * 2 + r) * 8 + g) * 4 + b) { s.bank (((q * 2 + r) * 8 + g) * 4 + b) with openRow := none, lastRow := row, byPred := false }))) ∧
  (∀ (s : State) (q : Fin 4) (r : Fin 2) (g : Fin 8) (b : Fin 4), (s.dramRuns = false ∨ s.fld DRAM_PAGE.MODE = 1 ∨
     (s.bank (((q * 2 + r) * 8 + g) * 4 + b)).openRow = none) → exec (.pageIdleClose q r g b) s = .next (s.close (s))) ∧
  (∀ (s : State) (q : Fin 4) (r : Fin 2) (d : Bool) (x : Fin 8) (h : Bool), s.dramLive = false → exec (.refresh q r d)
     s = .next (s.close s) ∧ exec (.mr4Poll x x x x d h) s = .next (s.close s) ∧ exec .zqCal s = .next (s.close s)) ∧
  (∀ (s : State) (o : Sender) (w : Word), s.reaches o DRAM_CTL = true → exec (.dramInit o w) s = .next (s.close
     ((s.store DRAM_CTL 0 0 (putFields w [(DRAM_CTL.INIT, 1)])).dramInit))) ∧
  (∀ (s : State), (
     let g := geomSize (s.fld DRAM_GEOM.WIDTH) (s.fld DRAM_GEOM.DENS) (s.fld DRAM_GEOM.RANKS);
     let u := ((((s.dramLose.setFld DRAM_STAT.RETAINED 0).setFld DRAM_STAT.FCAUSE 0).setFld DRAM_STAT.FAILQ
       0).setFld DRAM_STAT.PROGRESS 0).setFld DRAM_STAT.STATE 1;
     let v := (({ u with dram := { u.dram with rstN := true } } : State).emit (.dramReset false)).emit (.dramReset
       true);
     s.dramInit = if s.blkHeld 54 then s.raise DRAM_FLAG.NOT_READY else if s.fld DRAM_STAT.STATE ≠ 0 ∧ s.fld
       DRAM_STAT.STATE ≠ 6 then s else if s.on DRAM_CTL.RETAIN && !s.on DRAM_STAT.RETAINED then s.initFail 3 else
       if g = 0 then (if s.on DRAM_CTL.RETAIN then s else s.dramLose.setFld DRAM_STAT.RETAINED 0).initFail 1 else
       if s.on DRAM_CTL.RETAIN then (if s.fld DRAM_STAT.STATE = 0 then (s.setFld DRAM_STAT.RETAINED 0).dramWake
       else s) else v.sendMrInit.toRanks 2)) ∧
  (∀ (s : State) (n : Nat), s.initFail n = ((s.setFld DRAM_STAT.FCAUSE n).setFld DRAM_STAT.STATE 6).raise
     DRAM_FLAG.INIT_FAIL) ∧
  (∀ (s : State), s.awake = true → s.blkHeld 54 = false → s.fld DRAM_STAT.STATE = 1 → exec .dramZqDone s = .next
     (s.close ((s.toRanks 5).setFld DRAM_STAT.STATE 2))) ∧
  (∀ (s : State), (s.fld DRAM_STAT.STATE ≠ 1 ∨ s.blkHeld 54 = true) → exec .dramZqDone s = .next (s.close (s))) ∧
  (∀ (s : State) (f : BitVec 4), s.awake = true → s.blkHeld 54 = false → s.fld DRAM_STAT.STATE = 2 → f ≠ 0 → exec
     (.dramCheckDone f) s = .next (s.close ((s.setFld DRAM_STAT.FAILQ f.toNat).initFail 2))) ∧
  (∀ (s : State), s.awake = true → s.blkHeld 54 = false → s.fld DRAM_STAT.STATE = 2 → s.on DRAM_CTL.ZERO = true → exec
     (.dramCheckDone 0) s = .next (s.close (s.setFld DRAM_STAT.STATE 3))) ∧
  (∀ (s : State), s.awake = true → s.blkHeld 54 = false → s.fld DRAM_STAT.STATE = 2 → s.on DRAM_CTL.ZERO = false → exec
     (.dramCheckDone 0) s = .next (s.close (({ s.dramLose with dram := { s.dramLose.dram with undef := some s.freeCtr, pat := s.patternAreas }, freeCtr := s.freeCtr + 1 }
     : State).setFld DRAM_STAT.STATE 4))) ∧
  (∀ (s : State) (f : BitVec 4), (s.fld DRAM_STAT.STATE ≠ 2 ∨ s.blkHeld 54 = true) → exec (.dramCheckDone f) s = .next
     (s.close (s))) ∧
  (∀ (s : State), s.awake = true → s.blkHeld 54 = false → s.fld DRAM_STAT.STATE = 3 → exec .dramZeroDone s = .next
     (s.close ((s.dramLose.draw.2.setFld DRAM_STAT.PROGRESS s.dramLose.draw.1.toNat).setFld DRAM_STAT.STATE 4))) ∧
  (∀ (s : State), (s.fld DRAM_STAT.STATE ≠ 3 ∨ s.blkHeld 54 = true) → exec .dramZeroDone s = .next (s.close (s)))

/-! ### The configuration loader, the flash window and the Stump store -/

/-- R285 to R287, R290, R335: each record of pass 2 is read: covered by the CRC, its body padded, it waits; outside
APPLY, or after END, nothing. Pass 2 begins once every domain is ON (R330); the oldest record that waits is then
applied, while no self-test that the loader started runs: a DRAMDATA record that applies waits for RUN, and is
skipped with its kind where DRAM_STAT shows FAILED. A record whose VARMASK does not name the board variant changes
nothing. Of one that does, the bytes that its operands spell do what the operands say: REGSET, TRAIN, EQ make their
loader writes in order, REMAP, DELAY, CALBANK write their index and then their words through the window, DRAMDATA
writes its bytes to DRAM (unless skipped), FWPATCH joins the patch store within its bounds. A loader write that the
bus or a window refuses sets WR_ERR, is counted, and the first address is captured. DRAM_SKIP at a waiting DRAMDATA
record passes over all of them. R292: END compares the check word with the CRC of what was read; with every record
applied a match completes the load and releases HEAD_EN and the Warden, otherwise the slot is rejected with cause 7
and a reset of cause 6 that skips it is requested. The writes of a REGSET record go out one after the other (R390).
The model's choices and readings in these clauses, no rules of the spec: a command out of its state changes nothing
(log entry 6); the address of a failed DRAMDATA or FWPATCH write is free (log entry 21); a factory image that fails
its check is not applied (log entry 104); a 64th patch is refused (log entry 106); the records behind a waiting
DRAMDATA wait (log entry 107); a refused window write is a failed write (log entry 108). -/
def Obligations.RecordsOfTheImageAreApplied : Prop :=
  (∀ (s : State) (m : BitVec 8) (l : List (BitVec 24 × Word)), s.awake = true → exec (.regset m l) s = .next (s.close
     (s.readRecord 1 m.toNat ((l.map fun e => bytesBE 3 e.1.toNat ++ bytesBE 5 e.2.toNat).flatten)))) ∧
  (∀ (s : State) (m : BitVec 8) (ws : List Word), s.awake = true → exec (.trainRecord m ws) s = .next (s.close
     (s.readRecord 2 m.toNat (wordBytes ws)))) ∧
  (∀ (s : State) (m : BitVec 8) (ws : List Word), s.awake = true → exec (.eq m ws) s = .next (s.close (s.readRecord 3
     m.toNat (wordBytes ws)))) ∧
  (∀ (s : State) (m : BitVec 8) (f : Nat) (ws : List Word), s.awake = true → exec (.remap m f ws) s = .next (s.close
     (s.readRecord 4 m.toNat (bytesBE 8 (f % 2 ^ 18 * 2 ^ 46 + ws.length / 2 % 2 ^ 18 * 2 ^ 28) ++ wordBytes ws)))) ∧
  (∀ (s : State) (m : BitVec 8) (p : Fin 48) (f : Nat) (ws : List Word), s.awake = true → exec (.delay m p f ws) s =
     .next (s.close (s.readRecord 5 m.toNat (bytesBE 8 (p * 2 ^ 58 + f % 2 ^ 11 * 2 ^ 47 + ws.length % 2 ^ 11 * 2 ^ 36)
     ++ wordBytes ws)))) ∧
  (∀ (s : State) (m : BitVec 8) (p : Fin 48) (t : Fin 4) (f : Nat) (ws : List Word), s.awake = true → exec (.calbank m
     p t f ws) s = .next (s.close (s.readRecord 6 m.toNat (bytesBE 8 (p * 2 ^ 58 + t * 2 ^ 56 + f % 2 ^ 10 * 2 ^ 46 +
     ws.length % 2 ^ 10 * 2 ^ 36) ++ wordBytes ws)))) ∧
  (∀ (s : State) (m : BitVec 8) (u : BitVec 32) (bs : List Byte), s.awake = true → exec (.dramdata m u bs) s = .next
     (s.close (s.readRecord 7 m.toNat (bytesBE 8 (u.toNat * 2 ^ 32 + bs.length) ++ bs)))) ∧
  (∀ (s : State) (m : BitVec 8) (i : BitVec 16) (bs : List Byte), s.awake = true → exec (.fwpatch m i bs) s = .next
     (s.close (s.readRecord 8 m.toNat (bytesBE 8 (i.toNat * 2 ^ 48) ++ bs)))) ∧
  (∀ (s : State) (t m : Nat) (b : List Byte), s.cfgState = 3 → s.cfg.fin = none → s.readRecord t m b = s.cfgUpd fun c
     => { c with recs := c.recs ++ [⟨t, m, padBody b⟩], crc := crcOver (crcOver c.crc (recHeader ⟨t, m, padBody b⟩)) (padBody b) }) ∧
  (∀ (s : State) (t m : Nat) (b : List Byte), (s.cfgState ≠ 3 ∨ s.cfg.fin.isSome = true) → s.readRecord t m b = s) ∧
  (∀ (s : State) (r : ImgRec) (rest : List ImgRec), s.loadReady = true → s.cfg.writes = [] → s.cfg.recs = r :: rest →
     s.dramWaits = false → s.loadNext = (s.cfgUpd fun c => { c with recs := rest, dramGo := c.dramGo || (r.type == 7 && s.applies r) }).applyRecord
     r) ∧
  (∀ (s : State), s.loadReady = true → s.cfg.writes = [] → s.dramWaits = true → s.loadNext = if s.fld DRAM_STAT.STATE =
     6 then s.skipDram else s) ∧
  (∀ (s : State) (e : Nat × Word) (rest : List (Nat × Word)), s.loadReady = true → s.cfg.writes = e :: rest →
     s.loadNext = (s.cfgUpd fun c => { c with writes := rest }).loaderWrite e.1 e.2) ∧
  (∀ (s : State) (ok p : Bool), s.loadReady = true → s.cfg.writes = [] → s.cfg.recs = [] → s.cfg.fin = some (ok, p) →
     s.loadNext = s.loadEnd ok p) ∧
  (∀ (s : State), s.loadReady = false → s.loadNext = s) ∧
  (∀ (s : State), s.loadReady = true → s.cfg.writes = [] → s.cfg.recs = [] → s.cfg.fin = none → s.loadNext = if
     s.cfgState = 5 then s.defaultsEnd else s) ∧
  (∀ (s : State) (r : ImgRec), s.applies r = false → s.applyRecord r = s) ∧
  (∀ (s : State) (m : BitVec 8) (l : List (BitVec 24 × Word)), m.toNat.testBit s.sys.varSel = true → s.applyRecord ⟨1,
     m.toNat, padBody ((l.map fun e => bytesBE 3 e.1.toNat ++ bytesBE 5 e.2.toNat).flatten)⟩ = s.cfgUpd fun c => { c with writes := c.writes ++ l.map fun e => (e.1.toNat, e.2) }) ∧
  (∀ (s : State) (m : BitVec 8) (ws : List Word), m.toNat.testBit s.sys.varSel = true → ws.length = 44 → s.applyRecord
     ⟨2, m.toNat, padBody (wordBytes ws)⟩ = s.loaderWrites ((List.range 44).map fun i => (if i % 11 = 10 then
     DRAM_TRN_CA.at (i / 11) else DRAM_TRN_DQ.at (i / 11) (i % 11), ws.getD i 0))) ∧
  (∀ (s : State) (m : BitVec 8) (ws : List Word), m.toNat.testBit s.sys.varSel = true → ws.length = 12 → s.applyRecord
     ⟨3, m.toNat, padBody (wordBytes ws)⟩ = s.loaderWrites ((List.range 12).map fun i => (if i < 8 then HLNK_LCFG.at i
     else BAR_LCFG.at (i - 8), ws.getD i 0))) ∧
  (∀ (s : State) (m : BitVec 8) (f : Nat) (ws : List Word), m.toNat.testBit s.sys.varSel = true → ws.length % 2 = 0 → f
     < 192000 → ws.length ≤ 384000 → s.applyRecord ⟨4, m.toNat, padBody (bytesBE 8 (f % 2 ^ 18 * 2 ^ 46 + ws.length / 2
     % 2 ^ 18 * 2 ^ 28) ++ wordBytes ws)⟩ = (s.loaderWrite SKID_RMAPIDX.base (Word.of (f / 4000 * 2 ^ 34 + f % 4000 * 2
     ^ 22 + 2 ^ 20))).loaderWrites (ws.map fun w => (SKID_RMAPDATA.base, w))) ∧
  (∀ (s : State) (m : BitVec 8) (p : Fin 48) (f : Nat) (ws : List Word), m.toNat.testBit s.sys.varSel = true → f < 1334
     → ws.length ≤ 1334 → s.applyRecord ⟨5, m.toNat, padBody (bytesBE 8 (p * 2 ^ 58 + f % 2 ^ 11 * 2 ^ 47 + ws.length %
     2 ^ 11 * 2 ^ 36) ++ wordBytes ws)⟩ = (s.loaderWrite (FIRE_DLYIDX.at p) (Word.of (f * 2 ^ 29 + 2 ^
     28))).loaderWrites (ws.map fun w => (FIRE_DLYDATA.at p, w))) ∧
  (∀ (s : State) (m : BitVec 8) (p : Fin 48) (t : Fin 4) (f : Nat) (ws : List Word), m.toNat.testBit s.sys.varSel =
     true → f < 1024 → ws.length < 1024 → s.applyRecord ⟨6, m.toNat, padBody (bytesBE 8 (p * 2 ^ 58 + t * 2 ^ 56 + f %
     2 ^ 10 * 2 ^ 46 + ws.length % 2 ^ 10 * 2 ^ 36) ++ wordBytes ws)⟩ = (s.loaderWrite CAL_BANKIDX.base (Word.of (p * 2
     ^ 33 + t * 2 ^ 31 + f * 2 ^ 21 + 2 ^ 20))).loaderWrites (ws.map fun w => (CAL_BANKDATA.base, w))) ∧
  (∀ (s : State) (m : BitVec 8) (u : BitVec 32) (bs : List Byte), m.toNat.testBit s.sys.varSel = true → bs.length % 16
     = 0 → bs.length < 2 ^ 32 → s.applyRecord ⟨7, m.toNat, padBody (bytesBE 8 (u.toNat * 2 ^ 32 + bs.length) ++ bs)⟩ =
     if s.cfg.dramSkip then s else if (s.dramWrite 11 (u.toNat * 16) bs).2 then (s.dramWrite 11 (u.toNat * 16) bs).1
     else (s.dramWrite 11 (u.toNat * 16) bs).1.loaderErrFree) ∧
  (∀ (s : State) (m : BitVec 8) (i : BitVec 16) (bs : List Byte), m.toNat.testBit s.sys.varSel = true → bs.length % 8 =
     0 → s.applyRecord ⟨8, m.toNat, padBody (bytesBE 8 (i.toNat * 2 ^ 48) ++ bs)⟩ = if 8192 < s.fld WARD_PATCH.UNITS +
     (bs.length + 15) / 16 ∨ 63 ≤ s.fld WARD_PATCH.N then s.loaderErrFree else ((s.setFld WARD_PATCH.N (s.fld
     WARD_PATCH.N + 1)).setFld WARD_PATCH.UNITS (s.fld WARD_PATCH.UNITS + (bs.length + 15) / 16)).wardUpd fun w => { w with patch := w.patch ++ [(i.toNat, bs)] }) ∧
  (∀ (s : State) (a : Nat) (w : Word), (
     let r := s.busWrite .loader a w;
     s.loaderWrite a w = if r.2 ≠ .ok ∨ windowRefused s r.1 a = true then r.1.loaderErr a else r.1)) ∧
  (∀ (s : State) (a : Nat), (
     let u := s.when (!s.on CFG_FLAG.WR_ERR) (·.setFld CFG_WERR.ADDR a);
     s.loaderErr a = (u.setFld CFG_WERR.COUNT (min 65535 (u.fld CFG_WERR.COUNT + 1))).raise CFG_FLAG.WR_ERR)) ∧
  (∀ (s : State), s.awake = true → s.applying = true → s.cfg.writes = [] → s.dramWaits = true → exec .dramSkip s =
     .next (s.close ((s.cfgUpd fun c => { c with dramSkip := true }).raise CFG_FLAG.DRAM_SKIP))) ∧
  (∀ (s : State), (s.applying = false ∨ s.cfg.writes ≠ [] ∨ s.dramWaits = false) → exec .dramSkip s = .next (s.close
     (s))) ∧
  (∀ (s : State) (m : BitVec 8) (c : BitVec 32) (p : Bool), s.awake = true → s.cfgState = 3 → s.cfg.fin = none → 
     let crc := crcOver s.cfg.crc (recHeader ⟨15, m.toNat, []⟩);
     exec (.loadEnd m c p) s = .next (s.close (s.cfgUpd fun x =>
       { x with crc := crc, fin := some (~~~ crc == c, p) }))) ∧
  (∀ (s : State) (m : BitVec 8) (c : BitVec 32) (p : Bool), (s.cfgState ≠ 3 ∨ s.cfg.fin.isSome = true) → exec (.loadEnd
     m c p) s = .next (s.close (s))) ∧
  (∀ (s : State) (p : Bool), (
     let t := s.cfgUpd fun c => { c with fin := none };
     let u := ((t.setFld CFG_STAT.SRC (s.cfg.slot + 1)).setFld CFG_STAT.SERIAL s.cfg.serial).setFld CFG_BOARD.BOARD
       s.cfg.board;
     s.loadEnd true p = ((({ u with aonHold := false } : State).henSyncAll).firstRelease p).setFld CFG_STAT.STATE 4
       ∧ s.loadEnd false p = (t.rejectSlot s.cfg.slot 7 0).requestReset 6 (s.cfg.slot + 1)))

/-- R282, R289: PASS1_DONE in SFDP takes what the SFDP tables give (mode, dummies, address length, quad enable) and goes
on with slot A, or with B where A is skipped; without SFDP, and on WIP_TIMEOUT in SFDP, both slots fail with cause 1
and the defaults are made. R288: an image that passes its check takes the slot into APPLY with its serial and board
number; slot A rejected passes to B, B rejected to the defaults, each with cause and SLOT_BAD. R293, R289: RELOAD
and FROM_B after a load request a reset of cause 5, at once or when the flash command ends, and skip slot A where
FROM_B is 1; before a load they do nothing. R296: FLASH_CMD stores its fields and sends one command or sets FL_REJ;
FL_DONE of a busy command stores what was read (the rest of a short answer reads as erased flash) and sets its flag.
R299, R300: STUMP_READ shows the word (an uncorrectable one as it was read, known as such from then on: log 204),
STUMP_PROGRAM and STUMP_ERASE start a pulse or set ST_REJ, and ST_DONE makes the pulse's change and sets its flag
for a commanded one. The model's choices and readings in these clauses, no rules of the spec: a command out of its
state changes nothing (log entry 6); the Stump store reads erased at first (log entry 11); which fault log entries
there are and how they are written (log entry 101); a RELOAD outside DONE and DEFAULTED (log entry 102); reserved
header bytes reject a slot (log entry 103); a factory image that fails its check is not applied (log entry 104); the
operand of PASS1_DONE (log entry 105); Stump words from 4,096 need no UNLOCK (log entry 109); a Stump read's
uncorrectable word is an operand (log entry 110); when a log word is known uncorrectable (log entry 204); the form
of the SFDP reads (log entry 205). -/
def Obligations.SlotsAreCheckedAndTheStoresCommanded : Prop :=
  (∀ (s : State), s.awake = true → s.inSfdp = true → exec .wipTimeout s = .next (s.close ((s.rejectSlot 0 1
     0).rejectSlot 1 1 0).defaults) ∧ exec (.pass1Done .noSfdp) s = .next (s.close (((s.emit (.flash 0x5A 3 0 8 0 16
     [])).rejectSlot 0 1 0).rejectSlot 1 1 0).defaults)) ∧
  (∀ (s : State) (d : Sfdp), s.inSfdp = false → exec .wipTimeout s = .next (s.close s) ∧ exec (.pass1Done .noSfdp) s =
     .next (s.close s) ∧ exec (.pass1Done (.sfdp d)) s = .next (s.close s)) ∧
  (∀ (s : State) (d : Sfdp), s.awake = true → s.inSfdp = true → 
     let a := (s.emit (.flash 0x5A 3 0 8 0 16 [])).emit (.flash 0x5A 3 d.ptr.toNat 8 0 (4 * d.dwords.toNat) []);
     let f := d.fast144.getD d.fast114;
     let b := (a.setFld CFG_FLINFO.DENS d.dens.toNat).setFld CFG_FLINFO.ADDR4 (bit (decide (24 < d.dens.toNat)));
     let v := (((b.setFld CFG_FLINFO.MODE (if d.fast144.isSome then 2 else 1)).setFld CFG_FLINFO.DUMMY
       f.1.toNat).emit (.flashQuad d.qer)).cfgUpd fun c => { c with mclk := f.2.toNat };
     exec (.pass1Done (.sfdp d)) s = .next (s.close (if v.fld SYS_RSTCAUSE.SKIP = 1 then ((v.skipSlot 0).readSlot
       1).setFld CFG_STAT.STATE 2 else (v.readSlot 0).setFld CFG_STAT.STATE 1))) ∧
  (∀ (s : State) (k : Fin 2), s.readSlot k = s.emit (.flashFast (s.fld CFG_FLINFO.MODE == 2) (s.on CFG_FLINFO.ADDR4)
     (s.fld CFG_FLINFO.DUMMY) s.cfg.mclk (if k = 0 then 0 else 2 ^ s.fld CFG_FLINFO.DENS / 2))) ∧
  (∀ (s : State) (img : List Byte), s.awake = true → s.cfgState = 1 → exec (.pass1Done (.image img)) s = .next (s.close
     (s.judgeA img))) ∧
  (∀ (s : State) (img : List Byte), s.awake = true → s.cfgState = 2 → exec (.pass1Done (.image img)) s = .next (s.close
     (s.judgeB img))) ∧
  (∀ (s : State) (img : List Byte), s.cfgState ≠ 1 → s.cfgState ≠ 2 → exec (.pass1Done (.image img)) s = .next (s.close
     (s))) ∧
  (∀ (s : State) (img : List Byte) (rs : List ImgRec), checkImage (s.fld SYS_ID.REV) (2 ^ (s.fld CFG_FLINFO.DENS) / 2)
     img = .ok rs → s.judgeA img = s.slotPasses 0 img ∧ s.judgeB img = s.slotPasses 1 img ∧ (∀ k, s.slotPasses k img =
     ((s.readSlot k).setFld CFG_STAT.STATE 3).cfgUpd fun c => { c with slot := k, serial := imgNum img 12 4, board := imgNum img 16 4, dramSkip := false, dramGo := false, begun := false, recs := [], writes := [], crc := crcOver (BitVec.allOnes 32) (img.take 32), fin := none })) ∧
  (∀ (s : State) (img : List Byte) (c k : Nat), checkImage (s.fld SYS_ID.REV) (2 ^ (s.fld CFG_FLINFO.DENS) / 2) img =
  .error (c, k) → s.judgeB img = (s.rejectSlot 1 c k).defaults ∧ s.judgeA img = (
     let t := s.rejectSlot 0 c k;
     if t.fld SYS_RSTCAUSE.SKIP = 2 then (t.skipSlot 1).defaults else (t.readSlot 1).setFld CFG_STAT.STATE 2)) ∧
  (∀ (s : State), (s.defaults).cfgState = 5 ∧ (s.defaults).cfg.recs = s.defaultRecs ∧ (∀ r ∈ s.defaultRecs, r.type ≠ 8)) ∧
  (∀ (s : State), (s.defaultsEnd).cfgState = 6 ∧ (s.defaultsEnd).fld CFG_STAT.SRC = 3 ∧ (s.defaultsEnd).fld
     CFG_STAT.SERIAL = 0 ∧ (s.defaultsEnd).on CFG_FLAG.DEFAULTED = true ∧ (s.defaultsEnd).fld SYS_JOBQ_CTL.ENABLE = 0) ∧
  (∀ (s : State) (o : Sender) (w : Word), s.reaches o CFG_CTL = true → s.loaded = true → s.on CFG_FLCMD.BUSY = false →
     exec (.reload o w) s = .next (s.close ((s.cfgUpd fun c => { c with reload := none }).requestReset 5
     (CFG_CTL.FROM_B.ext w)))) ∧
  (∀ (s : State) (o : Sender) (w : Word), s.reaches o CFG_CTL = true → s.loaded = true → s.on CFG_FLCMD.BUSY = true →
     exec (.reload o w) s = .next (s.close (s.cfgUpd fun c => { c with reload := some (CFG_CTL.FROM_B.ext w == 1) }))) ∧
  (∀ (s : State) (o : Sender), s.reaches o CFG_CTL = true → s.loaded = true → s.on CFG_FLCMD.BUSY = false → exec
     (.fromB o) s = .next (s.close ((s.cfgUpd fun c => { c with reload := none }).requestReset 5 1))) ∧
  (∀ (s : State) (o : Sender), s.reaches o CFG_CTL = true → s.loaded = true → s.on CFG_FLCMD.BUSY = true → exec (.fromB
     o) s = .next (s.close (s.cfgUpd fun c => { c with reload := some true }))) ∧
  (∀ (s : State) (o : Sender) (w : Word), s.reaches o CFG_CTL = true → s.loaded = false → exec (.reload o w) s = .next
     (s.close s) ∧ exec (.fromB o) s = .next (s.close s)) ∧
  (∀ (s : State) (o : Sender) (w : Word), s.reaches o CFG_FLCMD = true → 
     let u := (s.flFields (putFields w [(CFG_FLCMD.GO, 1)]));
     let v := (u.setFld CFG_FLCMD.BUSY 1).cfgUpd fun c =>
       { c with flRead := if u.on CFG_FLCMD.DIR then 0 else u.fld CFG_FLCMD.NBYTES };
     exec (.flashCmd o w) s = .next (s.close (if (s.on CFG_FLCMD.BUSY || !u.loaded || u.fld CFG_FLCMD.ALEN == 3 ||
       u.fld CFG_FLCMD.LANES == 3 || decide (260 < u.fld CFG_FLCMD.NBYTES)) then u.raise CFG_FLAG.FL_REJ else
       v.emit (.flash (v.fld CFG_FLCMD.OPCODE) v.flAlen (v.fld CFG_FLADDR.ADDR % 2 ^ (8 * v.flAlen)) (v.fld
       CFG_FLCMD.DUMMY) (v.fld CFG_FLCMD.LANES) (if u.on CFG_FLCMD.DIR then 0 else u.fld CFG_FLCMD.NBYTES) (if u.on
       CFG_FLCMD.DIR then v.flBytes (u.fld CFG_FLCMD.NBYTES) else []))))) ∧
  (∀ (s : State) (bs : List Byte), s.awake = true → s.on CFG_FLCMD.BUSY = true → 
     let u := if s.cfg.flRead = 0 then s else s.setFlBytes ((bs ++ List.replicate (s.cfg.flRead - bs.length)
       0xFF).take s.cfg.flRead);
     let v := (u.setFld CFG_FLCMD.BUSY 0).raise CFG_FLAG.FL_DONE;
     exec (.flDone bs) s = .next (s.close (match v.cfg.reload with
     | some b => v.reloadNow b
     | none => v))) ∧
  (∀ (s : State) (bs : List Byte), s.on CFG_FLCMD.BUSY = false → exec (.flDone bs) s = .next (s.close (s))) ∧
  (∀ (s : State) (o : Sender) (a : BitVec 13) (e : Fin 3) (raw : BitVec 64), s.reaches o CFG_STCMD = true → 
     let u := ((s.setFld CFG_STCMD.OP 0).setFld CFG_STCMD.WORD a.toNat).setFld CFG_STCMD.UNLOCK 0;
     let v := if e.val = 2 then raw else u.stumpWord a.toNat;
     exec (.stumpRead o a e raw) s = .next (s.close (((((((u.setBad a.toNat (e.val == 2)).setFld CFG_STDATAH.DATA
       (v.toNat / 2 ^ 32)).setFld CFG_STDATAL.DATA v.toNat).when (e.val == 1) (·.raise CFG_FLAG.ST_CORR)).when
       (e.val == 2) (·.raise CFG_FLAG.ST_ECC)).emit (.stump 0 a.toNat)).raise CFG_FLAG.ST_DONE))) ∧
  (∀ (s : State) (o : Sender) (a : BitVec 13) (k : BitVec 8), s.reaches o CFG_STCMD = true → s.on CFG_STCMD.BUSY =
  false → s.stumpAllowed (o == .warden) a.toNat k.toNat = true → s.stumpWord a.toNat = stumpErased → 
     let u := ((s.setFld CFG_STCMD.OP 1).setFld CFG_STCMD.WORD a.toNat).setFld CFG_STCMD.UNLOCK 0;
     exec (.stumpProgram o a k) s = .next (s.close (u.pulseStart
       { recorder := false, erase := false, word := a.toNat, data := BitVec.ofNat 64 (u.fld CFG_STDATAH.DATA * 2 ^ 32 + u.fld CFG_STDATAL.DATA) }))) ∧
  (∀ (s : State) (o : Sender) (a : BitVec 13) (k : BitVec 8), s.reaches o CFG_STCMD = true → (s.on CFG_STCMD.BUSY =
     true ∨ s.stumpAllowed (o == .warden) a.toNat k.toNat = false ∨ s.stumpWord a.toNat ≠ stumpErased) → exec
     (.stumpProgram o a k) s = .next (s.close ((((s.setFld CFG_STCMD.OP 1).setFld CFG_STCMD.WORD a.toNat).setFld
     CFG_STCMD.UNLOCK 0).raise CFG_FLAG.ST_REJ))) ∧
  (∀ (s : State) (o : Sender) (a : BitVec 13) (k : BitVec 8), s.reaches o CFG_STCMD = true → s.on CFG_STCMD.BUSY =
  false → s.stumpAllowed (o == .warden) a.toNat k.toNat = true → 
     let u := ((s.setFld CFG_STCMD.OP 2).setFld CFG_STCMD.WORD a.toNat).setFld CFG_STCMD.UNLOCK 0;
     exec (.stumpErase o a k) s = .next (s.close (u.pulseStart
       { recorder := false, erase := true, word := a.toNat, data := BitVec.ofNat 64 (u.fld CFG_STDATAH.DATA * 2 ^ 32 + u.fld CFG_STDATAL.DATA) }))) ∧
  (∀ (s : State) (o : Sender) (a : BitVec 13) (k : BitVec 8), s.reaches o CFG_STCMD = true → (s.on CFG_STCMD.BUSY =
     true ∨ s.stumpAllowed (o == .warden) a.toNat k.toNat = false) → exec (.stumpErase o a k) s = .next (s.close
     ((((s.setFld CFG_STCMD.OP 2).setFld CFG_STCMD.WORD a.toNat).setFld CFG_STCMD.UNLOCK 0).raise CFG_FLAG.ST_REJ))) ∧
  (∀ (s : State) (p : Pulse), s.cfg.pulse = some p → p.recorder = false → 
     let u := if p.erase then s.eraseSector p.word else s.setStump p.word p.data;
     exec .stDone s = .next (s.close (((u.cfgUpd fun c => { c with pulse := none }).setFld CFG_STCMD.BUSY 0).raise
       CFG_FLAG.ST_DONE))) ∧
  (∀ (s : State) (p : Pulse), s.cfg.pulse = some p → p.recorder = true → 
     let u := if p.erase then s.eraseSector p.word else s.setStump p.word p.data;
     let v := (u.cfgUpd fun c => { c with pulse := none }).setFld CFG_STCMD.BUSY 0;
     exec .stDone s = .next (s.close ((v.setFld WARD_FLOG.ERASING 0).when p.erase fun t =>
       { t with ward := { t.ward with flogErased := true } }))) ∧
  (∀ (s : State), s.cfg.pulse = none → exec .stDone s = .next (s.close (s)))

/-! ### Reset, clocks, supplies and power domains -/

/-- R302, R304: RST_N low, SYS_RESET_CMD with its KEY, request a system reset of their cause, which holds HEAD_EN at
once; one already requested keeps its cause, of one cycle the lower; in a reset that is held only the hold follows,
in a power-on reset nothing. RST_N high ends its hold. With a wrong KEY the command sets CMD_REJ. R305, R303:
SYSTEM_RESET_APPLY applies a request once no Stump pulse is in progress: every register but those of the always-on
domain, the inputs, the domain states and the clocks has its reset value, the record shows the cause, the Stump
keeps its contents. R302: POWER_ON_RESET returns all but the Stump and the inputs, R312: AON_POR_RELEASE ends it
once VAON is valid. R315: RESET_RELEASE, with the clocks good, the rails valid, RST_N high and nothing requested,
samples the straps, sets RESET_SEEN and starts the loader, or the BIST of a low pin. R306: CORE_RESET_CMD holds the
Warden and is recorded, unless a system reset is held or requested; CORE_RESET_RELEASE lets it go, once loaded and
outside TAKEOVER. R308: BLOCK_RESET_ASSERT isolates a block until BLOCK_RESET_DRAINED resets it, R309:
BLOCK_RELEASE_REQUEST makes its release pending until its conditions hold, RST_STALL is set when it stays so. Table
15-6: what the balls are in a held reset. The model's choices and readings in these clauses, no rules of the spec: a
command out of its state changes nothing (log entry 6); a word whose pulse is broken is free (log entry 16); a block
reset row rewrites its register (log entry 31); the job fails when the reset is asserted (log entry 46); the first
of several reset causes stands (log entry 93); what survives a system reset (log entry 94); SYS_PDSTAT after power-
on (log entry 95); what a VDD loss leaves until VDD returns (log entry 96); a PLL of held groups stops without a
flag (log entry 100); which fault log entries there are and how they are written (log entry 101); what the Spotter
watches in which state (log entry 111); inputs of a lost rail are ignored (log entry 216). -/
def Obligations.ResetsAreRequestedAppliedAndReleased : Prop :=
  (∀ (s : State), 
     let u := s.pulseBroken;
     let t := ((State.reset.keepModel u).keepInputs u).setReg SYS_SUPSTAT (u.reg SYS_SUPSTAT &&& 0x7F00000000);
     exec .powerOnReset s = .next (s.close (({ t with holdAcc := 0, sys := { t.sys with rstLow := u.sys.rstLow } }
       : State).flogScan))) ∧
  (∀ (s : State), s.sys.por = true → s.railOk 7 = true → exec .aonPorRelease s = .next (s.close ({ s with sys := { s.sys with por := false } }))) ∧
  (∀ (s : State), (s.sys.por = false ∨ s.railOk 7 = false) → exec .aonPorRelease s = .next (s.close (s))) ∧
  (∀ (s : State), exec (.rstN true) s = .next (s.close (({ s with sys := { s.sys with rstLow := true } } :
     State).requestReset 3 0))) ∧
  (∀ (s : State), exec (.rstN false) s = .next (s.close ({ s with sys := { s.sys with rstLow := false } }))) ∧
  (∀ (s : State) (c k : Nat), s.sys.por = true → s.requestReset c k = s) ∧
  (∀ (s : State) (c k : Nat), s.sys.por = false → s.sys.held = true → s.requestReset c k = ({ s with aonHold := true }
     : State).henSyncAll) ∧
  (∀ (s : State) (c k : Nat) (r : SysReq), s.sys.por = false → s.sys.held = false → s.sys.req = some r →
  s.requestReset c k = 
     let u := ({ s with aonHold := true } : State).henSyncAll;
     { u with sys := { u.sys with req := some { r with cause := if r.since = s.cycle then min r.cause c else r.cause, skip := if r.skip = 0 then k else r.skip } } }) ∧
  (∀ (s : State) (c k : Nat), s.sys.por = false → s.sys.held = false → s.sys.req = none → s.requestReset c k = 
     let u := ({ s with aonHold := true } : State).henSyncAll;
     { u with sys := { u.sys with req := some { since := s.cycle, cause := c, delayed := s.cfg.pulse.isSome, skip := k } } }) ∧
  (∀ (s : State) (o : Sender) (w : Word), s.reaches o SYS_RSTCMD = true → SYS_RSTCMD.KEY.ext w = 0x5A → exec
     (.sysResetCmd o w) s = .next (s.close ((s.requestReset 4 0).when (SYS_RSTCMD.CORE.ext w == 1) (·.coreReset 1)))) ∧
  (∀ (s : State) (o : Sender) (w : Word), s.reaches o SYS_RSTCMD = true → SYS_RSTCMD.KEY.ext w = 0x5A → exec
     (.coreResetCmd o w) s = .next (s.close ((s.when (SYS_RSTCMD.SYS.ext w == 1) (·.requestReset 4 0)).coreReset 1))) ∧
  (∀ (s : State) (o : Sender) (w : Word), s.reaches o SYS_RSTCMD = true → SYS_RSTCMD.KEY.ext w ≠ 0x5A → exec
     (.sysResetCmd o w) s = .next (s.close (s.raise SYS_FLAG.CMD_REJ)) ∧ exec (.coreResetCmd o w) s = .next (s.close
     (s.raise SYS_FLAG.CMD_REJ))) ∧
  (∀ (s : State) (c : Nat), s.sys.held = false → s.sys.req = none → s.coreReset c = 
     let u := ((s.wardUpd fun w => { w with coreUp := false }).loseWardenCtx).coreCause c;
     { u with sys := { u.sys with core := some u.cfg.pulse.isSome } }) ∧
  (∀ (s : State) (c : Nat), (s.sys.held = true ∨ s.sys.req.isSome = true) → s.coreReset c = s) ∧
  (∀ (s : State) (d : Nat) (p : Bool), s.awake = true → s.sys.core.isSome = true → s.cfg.pulse = none → 
     let t := ({ s with sys := { s.sys with core := none } } : State).coreDelay d;
     exec (.coreResetRelease d p) s = .next (s.close (if !t.loaded || t.sstate = 2 then t else t.coreRelease p))) ∧
  (∀ (s : State) (d : Nat) (p : Bool), (s.sys.core = none ∨ s.cfg.pulse.isSome = true) → exec (.coreResetRelease d p) s
     = .next (s.close (s))) ∧
  (∀ (s : State) (p : Bool), (s.coreRelease p).ward.coreUp = true ∧ (s.coreRelease p).ward.first = true ∧
     (s.coreRelease p).ward.verify = true ∧ (s.coreRelease p).fld WARD_PATCH.OK = bit p ∧ (s.coreRelease p).on
     WARD_STAT.CKPT_READY = false) ∧
  (∀ (s : State) (d : Nat) (r : SysReq), s.sys.req = some r → s.cfg.pulse = none → exec (.systemResetApply d) s = .next
     (s.close (s.systemReset r.cause d r.skip r.delayed))) ∧
  (∀ (s : State) (d : Nat), (s.sys.req = none ∨ s.cfg.pulse.isSome = true) → exec (.systemResetApply d) s = .next
     (s.close (s))) ∧
  (∀ (s : State) (c d k : Nat) (st : Bool) (a : Nat), a ∉ aonRegs → a ∉ [SYS_SUPSTAT.base, SYS_HPSTAT.base,
     SYS_PDSTAT.base, SYS_CLKSTAT.base, WARD_FLOG.base] → (s.systemReset c d k st).word a = State.reset.word a ∧
     (s.systemReset c d k st).stump = s.stump ∧ (s.systemReset c d k st).dram = State.reset.dram ∧ (s.systemReset c d k
     st).jq = State.reset.jq ∧ (s.systemReset c d k st).txn = State.reset.txn ∧ (s.systemReset c d k st).sys = { State.reset.sys with por := false, rstLow := s.sys.rstLow }) ∧
  (∀ (s : State) (c d k : Nat) (st : Bool), c < 16 → (s.systemReset c d k st).fld SYS_RSTCAUSE.CAUSE = c ∧
     (s.systemReset c d k st).on SYS_RSTCAUSE.STDLY = st ∧ (s.systemReset c d k st).fld SYS_RSTCAUSE.NRESET = min 65535
     (s.fld SYS_RSTCAUSE.NRESET + 1) ∧ (s.systemReset c d k st).reg SYS_RSTSTAMP = s.reg SYS_HOLD) ∧
  (∀ (s : State) (b : Fin 16) (v : Fin 8), s.sys.held = true → s.sys.por = false → s.sys.req = none → s.sys.rstLow =
  false → s.clocksGood = true → s.railOk 6 = true → s.railOk 5 = true → 
     let u : State := { s with sys := { s.sys with held := false, barId := b, varSel := v } };
     let t := ((u.setFld BAR_STAT.ID b).setFld CFG_STAT.VAR v).raise SYS_FLAG.RESET_SEEN;
     exec (.resetRelease b v false) s = .next (s.close (((t.hpStart).flogPush 1 (t.hpStart.fld
       SYS_RSTCAUSE.CAUSE)).loadStart))) ∧
  (∀ (s : State) (b : Fin 16) (v : Fin 8), s.sys.held = true → s.sys.por = false → s.sys.req = none → s.sys.rstLow =
  false → s.clocksGood = true → s.railOk 6 = true → s.railOk 5 = true → 
     let u : State := { s with sys := { s.sys with held := false, barId := b, varSel := v } };
     let t := ((u.setFld BAR_STAT.ID b).setFld CFG_STAT.VAR v).raise SYS_FLAG.RESET_SEEN;
     exec (.resetRelease b v true) s = .next (s.close ((((t.hpStart).flogPush 1 (t.hpStart.fld
       SYS_RSTCAUSE.CAUSE)).cfgUpd fun c => { c with waitBist := true }).bistPin))) ∧
  (∀ (s : State) (b : Fin 16) (v : Fin 8) (x : Bool), (s.sys.held = false ∨ s.sys.por = true ∨ s.sys.req.isSome = true
     ∨ s.sys.rstLow = true ∨ s.clocksGood = false ∨ s.railOk 6 = false ∨ s.railOk 5 = false) → exec (.resetRelease b v
     x) s = .next (s.close (s))) ∧
  (∀ (s : State) (o : Sender) (b : Fin 70), s.reaches o (if b.val < 40 then SYS_BLKRST0 else SYS_BLKRST1) = true → exec
     (.blockResetAssert o b) s = .next (s.close (s.blkrstWrite (if b.val < 40 then 0 else 1) (s.blkWord b true)))) ∧
  (∀ (s : State) (o : Sender) (b : Fin 70), s.reaches o (if b.val < 40 then SYS_BLKRST0 else SYS_BLKRST1) = true → exec
     (.blockReleaseRequest o b) s = .next (s.close (s.blkrstWrite (if b.val < 40 then 0 else 1) (s.blkWord b false)))) ∧
  (∀ (s : State) (w : Word), s.blkrstWrite 0 w = forTo 40 (fun j t => if w.getLsbD j then t.blockAssert j else
     t.blockReleaseReq j) s ∧ s.blkrstWrite 1 w = forTo 30 (fun j t => if w.getLsbD j then t.blockAssert (40 + j) else
     t.blockReleaseReq (40 + j)) s) ∧
  (∀ (s : State) (b : Nat), b ≤ 69 → s.blkHeld b = false → s.blockAssert b = 
     let u := (s.setBlkBit SYS_BLKRST0 SYS_BLKRST1 b true).pllIdle b;
     let v : State := { u with sys := { u.sys with draining := b :: u.sys.draining } };
     ((((v.when (b == 48) (·.dropDescs)).when (b == 49) (·.dropXfer)).when (b == 54) (·.dramHold)).failByBlock
       b).when (decide (b < 48)) (·.henSync b)) ∧
  (∀ (s : State) (b : Nat), b ≤ 69 → s.blkHeld b = true → s.blockAssert b = ((s.setBlkBit SYS_BLKRST0 SYS_BLKRST1 b
     true).setBlkBit SYS_RSTPEND0 SYS_RSTPEND1 b false).pllIdle b) ∧
  (∀ (s : State) (b : Fin 70) (n : Nat), s.awake = true → b.val ∈ s.sys.draining → exec (.blockResetDrained b n) s =
     .next (s.close ((({ s with sys := { s.sys with draining := s.sys.draining.filter fun x => x != b.val } } :
     State).isoCount b n).blockReset b))) ∧
  (∀ (s : State) (b : Fin 70) (n : Nat), b.val ∉ s.sys.draining → exec (.blockResetDrained b n) s = .next (s.close (s))) ∧
  (∀ (s : State) (b : Nat), s.blkBit SYS_BLKRST0 SYS_BLKRST1 b = true → s.blockReleaseReq b = (s.setBlkBit SYS_BLKRST0
     SYS_BLKRST1 b false).setBlkBit SYS_RSTPEND0 SYS_RSTPEND1 b true) ∧
  (∀ (s : State) (b : Nat), s.blkBit SYS_BLKRST0 SYS_BLKRST1 b = false → s.blockReleaseReq b = s) ∧
  (∀ (s : State), s.settleReleases = forTo 70 (fun b t => if t.blkPend b && t.mayRelease b then (t.setBlkBit
     SYS_RSTPEND0 SYS_RSTPEND1 b false).blockGo b else t) s) ∧
  (∀ (s : State) (b : Fin 70), s.awake = true → s.blkPend b = true → exec (.rstStall b) s = .next (s.close (s.raise
     SYS_FLAG.RST_STALL))) ∧
  (∀ (s : State) (b : Fin 70), s.blkPend b = false → exec (.rstStall b) s = .next (s.close (s))) ∧
  (∀ (s : State) (p e n d : Nat), s.sys.held = true → s.reg SYS_SUPSTAT = 0xFF00000000 → s.tap.ir ≠ 0 → s.ball (.kerfTx
     p) = .idle ∧ s.ball .hostTx = .idle ∧ s.ball (.barTx e) = .idle ∧ s.ball (.camTrig n) = .highZ ∧ s.ball (.cci n) =
     .released ∧ s.ball (.motion n) = .highZ ∧ s.ball (.lighting n) = .highZ ∧ s.ball .matrix = .highZ ∧ s.ball
     (.display d) = .highZ ∧ s.ball .ethResetN = (if s.pdOn 9 then .low else .highZ) ∧ s.ball .ethTx = (if s.pdOn 9
     then .stopped else .highZ) ∧ s.ball .gpio = .highZ)

/-- R315, R318, R319: the ROOT PLL locks once its supplies are valid, the clocks are good after it, and its loss
requests a reset of cause 9. R320 to R322: a lane PLL that runs locks, its loss sets LPLL_LOST and its lanes lose
alignment; a lane reference outside 46 counts of 156,250 is LREF_BAD. R323: the oscillator that OSC_EN lets run.
R325, R414: a rail lost resets the chip (VAON; VDD, recorded when it returns), stops the PLLs (VDDA_PLL), or holds
its blocks with SUP_LOST; RAIL_VALID shows it again. R327: PD_SWITCH_REQUEST starts the requested switches in
ascending order, or sets PD_REJ with why and which; R328: a rail that is good turns the domain ON in its reset
state, in its turn, PD_OFF_DONE turns it OFF, PD_FAIL opens the switch; the next switch follows. What none of them
names, or where its condition fails, changes nothing. The model's choices and readings in these clauses, no rules of
the spec: a command out of its state changes nothing (log entry 6); a word whose pulse is broken is free (log entry
16); a refusal without a block wrapper is not counted (log entry 27); the operand of LANE_PLL_LOCK (log entry 36);
the job fails when the reset is asserted (log entry 46); STATE and PROG are 0 outside a run (log entry 86); the
first of several reset causes stands (log entry 93); what survives a system reset (log entry 94); what a VDD loss
leaves until VDD returns (log entry 96); when a domain's contents go (log entry 97); the order of a refused
SYS_PDCTL's reasons (log entry 98); PD_FAIL of PD1 and PD2 (log entry 99); the training of a bar port, its mean
rounded half up (log entry 167); inputs of a lost rail are ignored (log entry 216). -/
def Obligations.ClocksRailsAndDomainsFollowTheirEvents : Prop :=
  (∀ (s : State), s.sys.por = false → s.railOk 6 = true → s.railOk 5 = true → exec .rootPllLock s = .next (s.close
     (s.setFld SYS_CLKSTAT.ROOT_LOCK 1))) ∧
  (∀ (s : State), (s.sys.por = true ∨ s.railOk 6 = false ∨ s.railOk 5 = false) → exec .rootPllLock s = .next (s.close
     (s))) ∧
  (∀ (s : State), s.on SYS_CLKSTAT.ROOT_LOCK = true → exec .clockGood s = .next (s.close (s.setFld SYS_CLKSTAT.CKGOOD
     0x1F))) ∧
  (∀ (s : State), s.on SYS_CLKSTAT.ROOT_LOCK = true → exec .rootPllLoss s = .next (s.close (((s.setFld
     SYS_CLKSTAT.ROOT_LOCK 0).setFld SYS_CLKSTAT.CKGOOD 0).requestReset 9 0))) ∧
  (∀ (s : State), s.on SYS_CLKSTAT.ROOT_LOCK = false → exec .clockGood s = .next (s.close s) ∧ exec .rootPllLoss s =
     .next (s.close s)) ∧
  (∀ (s : State) (g : Fin 15), s.awake = true → s.pllRuns g = true → exec (.lanePllLock g) s = .next (s.close (s.setFld
     SYS_CLKSTAT.LPLL_LOCK (s.fld SYS_CLKSTAT.LPLL_LOCK ||| 2 ^ g.val)))) ∧
  (∀ (s : State) (g : Fin 15), s.pllRuns g = false → exec (.lanePllLock g) s = .next (s.close (s))) ∧
  (∀ (s : State) (g : Fin 15), s.awake = true → (s.fld SYS_CLKSTAT.LPLL_LOCK).testBit g = true → exec (.lpllLost g) s =
     .next (s.close (((s.setFld SYS_CLKSTAT.LPLL_LOCK (s.fld SYS_CLKSTAT.LPLL_LOCK - 2 ^ g.val)).raise
     SYS_PWRFLAG.LPLL_LOST).lanesLost g))) ∧
  (∀ (s : State) (g : Fin 15), (s.fld SYS_CLKSTAT.LPLL_LOCK).testBit g = false → exec (.lpllLost g) s = .next (s.close
     (s))) ∧
  (∀ (s : State) (i : Nat), 3 ≤ i → s.lanesLost 0 = ((s.setLane 10 0).setLane 11 0).barPortDown 1 ∧ s.lanesLost 1 =
     ((s.setLane 8 0).setLane 9 0).barPortDown 0 ∧ s.lanesLost 2 = (forTo 8 (fun l t => t.setLane l 0) s).hlLose ∧
     s.lanesLost i = forIn' (pllBlocks i) (fun p t => t.linkDown p) s) ∧
  (∀ (s : State) (r : Fin 2) (n : BitVec 18), s.awake = true → 156250 - 46 ≤ n.toNat → n.toNat ≤ 156250 + 46 → 
     let u := s.setFld SYS_LREFMEAS.COUNT n.toNat r;
     exec (.lrefMeasure r n) s = .next (s.close (u.setFld SYS_CLKSTAT.LREF_OK (u.fld SYS_CLKSTAT.LREF_OK ||| 2 ^
       (if r.val = 0 then 1 else 0))))) ∧
  (∀ (s : State) (r : Fin 2) (n : BitVec 18), s.awake = true → (n.toNat < 156250 - 46 ∨ 156250 + 46 < n.toNat) → 
     let u := s.setFld SYS_LREFMEAS.COUNT n.toNat r;
     let m := if r.val = 0 then 1 else 0;
     exec (.lrefMeasure r n) s = .next (s.close ((u.setFld SYS_CLKSTAT.LREF_OK (if (u.fld
       SYS_CLKSTAT.LREF_OK).testBit m then u.fld SYS_CLKSTAT.LREF_OK - 2 ^ m else u.fld SYS_CLKSTAT.LREF_OK)).raise
       SYS_PWRFLAG.LREF_BAD))) ∧
  (∀ (s : State), s.on SYS_AONCTL.OSC_EN = true → exec .oscOk s = .next (s.close (s.setFld SYS_CLKSTAT.OSC_OK 1))) ∧
  (∀ (s : State), s.on SYS_AONCTL.OSC_EN = false → exec .oscOk s = .next (s.close (s))) ∧
  (∀ (s : State), s.on SYS_CLKSTAT.OSC_OK = true → exec .oscFail s = .next (s.close ((s.setFld SYS_CLKSTAT.OSC_OK
     0).raise SYS_PWRFLAG.OSC_FAIL))) ∧
  (∀ (s : State), s.on SYS_CLKSTAT.OSC_OK = false → exec .oscFail s = .next (s.close (s))) ∧
  (∀ (s : State), s.railOk 7 = true → exec (.supLost 7) s = .next (s.close ((s.setRail 7 false).powerOn))) ∧
  (∀ (s : State), s.railOk 6 = true → 
     let u := s.setRail 6 false;
     exec (.supLost 6) s = .next (s.close (if u.sys.por then u else u.vddLost))) ∧
  (∀ (s : State), s.sys.held = false → s.vddLost = (
     let u := s.pulseBroken;
     let t := (u.resetState true 2).flogScan;
     { t with sys := { t.sys with vddLost := some ((match u.sys.req with
     | some r => (if r.since = u.cycle then min r.cause 2 else r.cause, r.skip, u.reg SYS_HOLD)
     | none => (2, 0, u.reg SYS_HOLD)) : Nat × Nat × Word) } })) ∧
  (∀ (s : State), s.pulseBroken.sys.held = true → s.vddLost = { ((s.pulseBroken.resetDomains s.pulseBroken true).setFld SYS_CLKSTAT.ROOT_LOCK 0).setFld SYS_CLKSTAT.CKGOOD 0 with tap := TapSt.reset }) ∧
  (∀ (s : State), s.railOk 5 = true → exec (.supLost 5) s = .next (s.close ((s.setRail 5 false).pllRailLost))) ∧
  (∀ (s : State), s.pllRailLost = (forTo 15 (fun i t => t.pllLost i) s).rootLoss) ∧
  (∀ (s : State) (r : Fin 8), s.railOk r = true → r.val < 5 → 
     let u := s.setRail r false;
     exec (.supLost r) s = .next (s.close (if u.railOk 6 && !u.sys.por then u.railLost r else u))) ∧
  (∀ (s : State) (r : Nat), r ≠ 4 → s.railLost r = forIn' (railBlocks r) (fun b t => t.blockAssert b) (s.raise
     SYS_PWRFLAG.SUP_LOST) ∧ s.railLost 4 = ((((s.raise SYS_PWRFLAG.SUP_LOST).blockAssert 54).poisonReads fun t =>
     t.isoCount 54 1).dramOff).setFld DRAM_STAT.STATE 0) ∧
  (∀ (s : State) (r : Fin 8), s.railOk r = false → exec (.supLost r) s = .next (s.close (s))) ∧
  (∀ (s : State) (r : Fin 8), 
     let u := s.setFld SYS_SUPSTAT.RAIL_OK (s.fld SYS_SUPSTAT.RAIL_OK ||| 2 ^ r.val);
     exec (.railValid r) s = .next (s.close (if r.val = 6 then u.vddBack else u))) ∧
  (∀ (s : State) (c k : Nat) (h : Word), s.sys.vddLost = some (c, k, h) → s.vddBack = ({ s with sys := { s.sys with vddLost := none } }
     : State).resetRecord c 0 k false h) ∧
  (∀ (s : State), s.sys.vddLost = none → s.vddBack = s) ∧
  (∀ (s : State) (o : Sender) (w : Word) (y d : Nat), s.reaches o SYS_PDCTL = true → s.pdWhy (SYS_PDCTL.KEY.ext w)
     (SYS_PDCTL.REQ.ext w) = some (y, d) → exec (.pdSwitchRequest o w) s = .next (s.close (s.pdErr SYS_PWRFLAG.PD_REJ d
     y))) ∧
  (∀ (s : State) (o : Sender) (w : Word) (d : Nat) (rest : List Nat), s.reaches o SYS_PDCTL = true → s.pdWhy
  (SYS_PDCTL.KEY.ext w) (SYS_PDCTL.REQ.ext w) = none → (List.range' 4 6).filter (fun k => (s.pdState k == 2) !=
  (SYS_PDCTL.REQ.ext w).testBit (k - 4)) = d :: rest → 
     let v := s.setFld SYS_PDCTL.REQ (SYS_PDCTL.REQ.ext w);
     exec (.pdSwitchRequest o w) s = .next (s.close
       (({ v with sys := { v.sys with pdQueue := rest, pdReq := true } } : State).pdSwitch d ((v.fld
       SYS_PDCTL.REQ).testBit (d - 4))))) ∧
  (∀ (s : State) (o : Sender) (w : Word), s.reaches o SYS_PDCTL = true → s.pdWhy (SYS_PDCTL.KEY.ext w)
     (SYS_PDCTL.REQ.ext w) = none → (List.range' 4 6).filter (fun k => (s.pdState k == 2) != (SYS_PDCTL.REQ.ext
     w).testBit (k - 4)) = [] → exec (.pdSwitchRequest o w) s = .next (s.close (s.setFld SYS_PDCTL.REQ
     (SYS_PDCTL.REQ.ext w)))) ∧
  (∀ (s : State) (r d : Nat), s.pdState d = 2 → r.testBit (d - 4) = false → s.pdWhyOf r d = if (domainBlocks d).any
     (fun b => !s.blkHeld b) then 2 else if (domainBlocks d).any (fun b => s.blkPend b) then 3 else if !s.pdCond d then
     4 else 0) ∧
  (∀ (s : State) (r d : Nat), s.pdState d = 0 → r.testBit (d - 4) = true → s.pdWhyOf r d = if s.pdRails d then 0 else 7) ∧
  (∀ (s : State) (r k : Nat), (k ≠ 0xC3 ∨ s.pdBusy = true ∨ s.on BIST_STAT.STATE = true) → s.pdWhy k r = some (if k =
     0xC3 then 5 else 1, 0)) ∧
  (∀ (s : State) (f : Fld) (d y : Nat), s.on SYS_PWRFLAG.PD_REJ = false → s.on SYS_PWRFLAG.PD_FAIL = false → s.pdErr f
     d y = ((s.raise f).setFld SYS_PDERR.DOMAIN d).setFld SYS_PDERR.WHY y) ∧
  (∀ (s : State) (f : Fld) (d y : Nat), (s.on SYS_PWRFLAG.PD_REJ = true ∨ s.on SYS_PWRFLAG.PD_FAIL = true) → s.pdErr f
     d y = s.raise f) ∧
  (∀ (s : State) (d : Nat), d ≠ 4 → d ≠ 7 → d ≠ 8 → s.pdSwitch d true = s.setPd d 1 ∧ s.pdSwitch d false = (s.setPd d
     3).pdReset d) ∧
  (∀ (s : State), s.pdSwitch 7 true = s.setPd 7 1 ∧ s.pdSwitch 7 false = (s.dramPowerOff.setPd 7 3).pdReset 7 ∧
     s.pdSwitch 4 false = ((s.setPd 4 3).pdReset 4).henSyncAll ∧ s.pdSwitch 8 false = ((s.setPd 8 3).pdReset
     8).henSyncAll) ∧
  (∀ (s : State) (d : Fin 10), s.awake = true → exec (.pdRailGood d) s = .next (s.close (((s.pdGood d).sbPowered
     d).bistPowered d))) ∧
  (∀ (s : State) (d : Nat), s.pdState d = 1 → s.sys.held = false → s.pdTurn d = true → s.pdGood d = (((s.setPd d
     2).pdReset d).when (d == 7) (·.dramPowerOn)).when (decide (4 ≤ d)) (·.pdNext)) ∧
  (∀ (s : State) (d : Nat), (s.pdState d ≠ 1 ∨ s.sys.held = true ∨ s.pdTurn d = false) → s.pdGood d = s) ∧
  (∀ (s : State) (d k : Nat), 4 ≤ k → k < d → s.pdState k = 1 → s.pdTurn d = false) ∧
  (∀ (s : State) (d : Fin 10), s.pdState d = 3 → exec (.pdOffDone d) s = .next (s.close ((s.setPd d 0).when (decide (4
     ≤ d.val) && (s.sys.held || s.on SYS_CLKSTAT.ROOT_LOCK)) (·.pdNext)))) ∧
  (∀ (s : State) (d : Fin 10), s.pdState d ≠ 3 → exec (.pdOffDone d) s = .next (s.close (s))) ∧
  (∀ (s : State) (d : Fin 10), s.awake = true → exec (.pdFail d) s = .next (s.close ((s.pdFail d).sbNoPower d))) ∧
  (∀ (s : State) (d : Nat), s.pdState d = 1 → 4 ≤ d → s.pdFail d = (((s.setFld SYS_PDCTL.REQ (if (s.fld
     SYS_PDCTL.REQ).testBit (d - 4) then s.fld SYS_PDCTL.REQ - 2 ^ (d - 4) else s.fld SYS_PDCTL.REQ)).setPd d 0).pdErr
     SYS_PWRFLAG.PD_FAIL d 6).pdNext) ∧
  (∀ (s : State) (d : Nat), s.pdState d = 1 → d < 4 → s.pdFail d = (s.setPd d 0).pdErr SYS_PWRFLAG.PD_FAIL d 6) ∧
  (∀ (s : State) (d : Nat), s.pdState d ≠ 1 → s.pdFail d = s) ∧
  (∀ (s : State) (d : Nat) (rest : List Nat), s.sys.pdQueue = d :: rest → s.pdNext = ({ s with sys := { s.sys with pdQueue := rest } }
     : State).pdSwitch d ((s.fld SYS_PDCTL.REQ).testBit (d - 4))) ∧
  (∀ (s : State), s.sys.pdQueue = [] → s.sys.pdReq = true → s.pdNext = ({ s with sys := { s.sys with pdReq := false } }
     : State).raise SYS_PWRFLAG.PD_DONE) ∧
  (∀ (s : State), s.sys.pdQueue = [] → s.sys.pdReq = false → s.pdNext = s)

/-! ### Supervision and failover -/

/-- R336: a HEARTBEAT with the next TOKEN, or the first after a release, is accepted: it is shown, WARN ends with the
standby off unless a test runs, a swap that waits for it is done; any other is a sequence error and a failover
trigger, in HALTED nothing. R337: HB_LATE warms the standby; HEARTBEAT_MISSED, CORE_ERR and REL_STALL are triggers;
BUS_STALL is marked. R338, R339: a trigger in WATCH or WARN ends a test or swap, and escalates where the rule says
so, to a system reset or to HALTED, otherwise fails over (R340: the cores held, REASON and FROM kept, the standby
switched on, TAKEOVER, a seal in progress ended); in the other states it does nothing; a trigger in the cycle of
another one only lowers the recorded REASON. R340: TAKEOVER_RELEASE with the standby ON changes ACTIVE and releases
the incoming core, at the end of a core reset where one is in progress; R341: ISO_DONE makes the overlap writes,
each counted, those of the WARD window ignored and TXN_CMD and TXN_ARM setting CMD_SEQ only, and ends the window;
R344: CKPT_READY chooses the checkpoint. An event outside its condition changes nothing. The model's choices and
readings in these clauses, no rules of the spec: a time between events is an operand (log entry 4); a command out of
its state changes nothing (log entry 6); overlap writes that meet a reset count (log entry 70); SB_OK is 0 from the
start of a test (log entry 87); the first of several reset causes stands (log entry 93); which fault log entries
there are and how they are written (log entry 101); what the Spotter watches in which state (log entry 111); a
heartbeat by the bus has a gap of 4,096 (log entry 112); a new core rescans the health map (log entry 201); what a
trigger leaves of a test (log entry 203). -/
def Obligations.SpotterWatchesAndFailsOver : Prop :=
  (∀ (s : State) (t : BitVec 16) (g : Nat), s.reaches .warden WARD_HB = true → (s.ward.first = true ∨ t.toNat = (s.fld
     WARD_STAT.HB_LAST + 1) % 65536) → exec (.heartbeat t g) s = .next (s.close (s.hbAccept t.toNat))) ∧
  (∀ (s : State) (t : Nat), s.sstate ≠ 1 → s.ward.swapWait = false → s.hbAccept t = (s.setFld WARD_STAT.HB_LAST
     t).wardUpd fun w => { w with first := false }) ∧
  (∀ (s : State) (t : Nat), s.sstate ≠ 1 → s.ward.swapWait = true → s.hbAccept t = (((s.setFld WARD_STAT.HB_LAST
     t).wardUpd fun w => { w with first := false }).wardUpd fun w => { w with swapWait := false }).raise
     WARD_FLAG.SWAP_DONE) ∧
  (∀ (s : State) (t : Nat), s.sstate = 1 → s.ward.swapWait = false → s.hbAccept t = 
     let u := (s.setFld WARD_STAT.HB_LAST t).wardUpd fun w => { w with first := false };
     ((if s.ward.op = none then u.sbOff else u).raise WARD_FLAG.HB_LATE).setFld WARD_STAT.SSTATE 0) ∧
  (∀ (s : State) (t : BitVec 16) (g : Nat), s.reaches .warden WARD_HB = true → s.ward.first = false → t.toNat ≠ (s.fld
     WARD_STAT.HB_LAST + 1) % 65536 → s.sstate ≠ 4 → exec (.heartbeat t g) s = .next (s.close ((s.raise
     WARD_FLAG.HB_SEQ).foTrigger 2 g))) ∧
  (∀ (s : State) (t : BitVec 16) (g : Nat), s.reaches .warden WARD_HB = true → s.ward.first = false → t.toNat ≠ (s.fld
     WARD_STAT.HB_LAST + 1) % 65536 → s.sstate = 4 → s.trigNow = false → exec (.heartbeat t g) s = .next (s.close (s))) ∧
  (∀ (s : State), s.awake = true → s.ward.coreUp = true → s.sstate = 0 → s.on WARD_ROLE.SB_OK = true → exec .hbLate s =
     .next (s.close (s.sbOn.setFld WARD_STAT.SSTATE 1))) ∧
  (∀ (s : State), (s.ward.coreUp = false ∨ s.sstate ≠ 0 ∨ s.on WARD_ROLE.SB_OK = false) → exec .hbLate s = .next
     (s.close (s))) ∧
  (∀ (s : State) (g : Nat), s.awake = true → s.ward.coreUp = true → exec (.heartbeatMissed g) s = .next (s.close
     (s.foTrigger 1 g))) ∧
  (∀ (s : State) (g : Nat), s.awake = true → s.ward.coreUp = true → exec (.coreErr g) s = .next (s.close ((s.raise
     WARD_FLAG.CORE_ERR).foTrigger 3 g))) ∧
  (∀ (s : State) (g : Nat), s.ward.coreUp = false → s.trigNow = false → exec (.heartbeatMissed g) s = .next (s.close s)
     ∧ exec (.coreErr g) s = .next (s.close s)) ∧
  (∀ (s : State) (g : Nat), s.awake = true → s.relStalled = true → exec (.relStall g) s = .next (s.close ((s.raise
     WARD_FLAG.REL_STALL).foTrigger 4 g))) ∧
  (∀ (s : State) (g : Nat), s.relStalled = false → exec (.relStall g) s = .next (s.close (s))) ∧
  (∀ (s : State) (d : JobDesc) (j : Nat) (rest : List QEnt), s.on WARD_POLICY.REL_TMO = true → s.on SYS_JOBQ_CTL.ENABLE
     = true → s.jobState = 0 → s.jq.q = .job j d false :: rest → s.relStalled = true) ∧
  (∀ (s : State) (p : Bool), s.awake = true → exec (.busStall p) s = .next (s.close (s.wardUpd fun w => { w with busStall := p }))) ∧
  (∀ (s : State) (r g : Nat), (s.sstate = 0 ∨ s.sstate = 1) → s.trigNow = false → s.foTrigger r g = if
     s.endOp.escalates g then s.endOp.escalate r else s.endOp.failover r) ∧
  (∀ (s : State) (r g : Nat), s.sstate ≠ 0 → s.sstate ≠ 1 → s.trigNow = false → s.foTrigger r g = s) ∧
  (∀ (s : State) (g : Nat), s.awake = true → s.trigNow = true → exec (.heartbeatMissed g) s = .next (s.close
     (s.lowerReason 1))) ∧
  (∀ (s : State) (r g : Nat), s.trigNow = true → s.foTrigger r g = s.lowerReason r) ∧
  (∀ (s : State), (s.sstate = 2 ∨ s.sstate = 4) → (s.noteTrig).trigNow = true ∧ s.noteTrig.regs = s.regs ∧
     s.noteTrig.ward.flogQ = s.ward.flogQ) ∧
  (∀ (s : State) (r : Nat), s.sstate = 2 → r < 16 → (s.lowerReason r).fld WARD_LASTFO.REASON = min r (s.fld
     WARD_LASTFO.REASON) ∧ (s.lowerReason r).sstate = 2 ∧ (s.fld WARD_LASTFO.REASON = 5 → r < 5 → (s.lowerReason
     r).ward.swapWait = false ∧ (s.lowerReason r).fld SYS_CORECAUSE.CAUSE = 2)) ∧
  (∀ (s : State) (r : Nat) (q : List FlogEnt) (e : FlogEnt), s.ward.trig.any (·.2) = true → s.ward.flogQ = q ++ [e] →
     (e.kind = 2 ∨ e.kind = 3) → (s.lowerReason r).ward.flogQ = q ++ [{ e with detail := min e.detail r }]) ∧
  (∀ (s : State) (r : Nat), s.escalate r = 
     let u := (s.noteTrig.raise WARD_FLAG.ESCALATE).flogPush 3 r;
     let v := u.when (!u.sbKept) (·.sbOff);
     if s.on WARD_POLICY.ESC_ACT then v.requestReset 8 0 else v.setFld WARD_STAT.SSTATE 4) ∧
  (∀ (s : State) (g : Nat), s.escalates g = true ↔ s.ward.busStall = true ∨ s.on WARD_ROLE.SB_OK = false ∨ (0 < s.fld
     WARD_POLICY.MIN_GAP ∧ s.ward.bumped = true ∧ g < s.fld WARD_POLICY.MIN_GAP)) ∧
  (∀ (s : State), s.endOp.ward.op = none ∧ s.endOp.ward.swapWait = false ∧ (s.ward.op.isSome = true → s.endOp.on
     WARD_STAT.SWAP_REQ = false ∧ s.endOp.sbState ≠ 1) ∧ (s.ward.op = none → s.endOp = s.wardUpd fun w => { w with swapWait := false })) ∧
  (∀ (s : State) (r : Nat), r < 16 → (s.failover r).sstate = 2 ∧ (s.failover r).ward.coreUp = false ∧ (s.failover
     r).ward.bumped = true ∧ (s.failover r).fld WARD_LASTFO.REASON = r ∧ (s.failover r).fld WARD_LASTFO.FROM = s.fld
     WARD_ROLE.ACTIVE ∧ (s.failover r).fld WARD_LASTFO.NFO = min 65535 (s.fld WARD_LASTFO.NFO + 1) ∧ (s.failover r).on
     WARD_ROLE.SB_OK = false ∧ (s.failover r).on WARD_CKPTSTAT.SEALING 0 = false ∧ (s.failover r).on
     WARD_CKPTSTAT.SEALING 1 = false ∧ (s.failover r).on WARD_STAT.ISO_DONE = false ∧ ((s.failover r).pdState
     s.sbDomain = 1 ∨ (s.failover r).pdState s.sbDomain = 2) ∧ (s.failover r).fld SYS_CORECAUSE.CAUSE = (if r = 5 then
     4 else 2)) ∧
  (∀ (s : State) (d : Nat) (p : Bool), s.awake = true → s.sstate = 2 → s.pdState s.sbDomain = 2 → s.cfg.pulse = none →
     s.sys.core = none → exec (.takeoverRelease d p) s = .next (s.close ((((s.setFld WARD_ROLE.ACTIVE (1 - s.fld
     WARD_ROLE.ACTIVE)).coreDelay d).coreRelease p).setFld WARD_STAT.SSTATE 3))) ∧
  (∀ (s : State) (d : Nat) (p : Bool), s.awake = true → s.sstate = 2 → s.pdState s.sbDomain = 2 → s.cfg.pulse = none →
     s.sys.core.isSome = true → exec (.takeoverRelease d p) s = .next (s.close (((s.setFld WARD_ROLE.ACTIVE (1 - s.fld
     WARD_ROLE.ACTIVE)).coreDelay d).setFld WARD_STAT.SSTATE 3))) ∧
  (∀ (s : State) (d : Nat) (p : Bool), (s.sstate ≠ 2 ∨ s.pdState s.sbDomain ≠ 2 ∨ s.cfg.pulse.isSome = true) → exec
     (.takeoverRelease d p) s = .next (s.close (s))) ∧
  (∀ (s : State) (ws : List (BitVec 24 × Word)), s.awake = true → (s.sstate = 2 ∨ s.sstate = 3) → s.on
     WARD_STAT.ISO_DONE = false → exec (.isoDone ws) s = .next (s.close (((forIn' (ws.map fun e => (e.1.toNat, e.2))
     (fun e t => t.overlapWrite e.1 e.2) s).setFld WARD_STAT.ISO_DONE 1).drainEnd))) ∧
  (∀ (s : State) (ws : List (BitVec 24 × Word)), ((s.sstate ≠ 2 ∧ s.sstate ≠ 3) ∨ s.on WARD_STAT.ISO_DONE = true) →
     exec (.isoDone ws) s = .next (s.close (s))) ∧
  (∀ (s : State) (a : Nat) (w : Word), (a = TXN_CMD.base ∨ a = TXN_ARM.base) → (
     let u := s.when (s.fld WARD_OVLCNT.COUNT == 0) (·.setFld WARD_OVLCNT.ADDR a);
     let v := (u.setFld WARD_OVLCNT.COUNT (min 255 (u.fld WARD_OVLCNT.COUNT + 1))).raise WARD_FLAG.OVL_WRITE;
     s.overlapWrite a w = v.raise TXN_FLAG.CMD_SEQ)) ∧
  (∀ (s : State) (a : Nat) (w : Word), 0x280000 ≤ a → a < 0x2C0000 → (regRow? a).isSome = true → (
     let u := s.when (s.fld WARD_OVLCNT.COUNT == 0) (·.setFld WARD_OVLCNT.ADDR a);
     let v := (u.setFld WARD_OVLCNT.COUNT (min 255 (u.fld WARD_OVLCNT.COUNT + 1))).raise WARD_FLAG.OVL_WRITE;
     s.overlapWrite a w = v)) ∧
  (∀ (s : State) (a : Nat) (w : Word), regRow? a = none → (
     let u := s.when (s.fld WARD_OVLCNT.COUNT == 0) (·.setFld WARD_OVLCNT.ADDR a);
     let v := (u.setFld WARD_OVLCNT.COUNT (min 255 (u.fld WARD_OVLCNT.COUNT + 1))).raise WARD_FLAG.OVL_WRITE;
     s.overlapWrite a w = v.raise TXN_FLAG.ADDR_ERR)) ∧
  (∀ (s : State) (a b : Bool), s.awake = true → s.ward.verify = true → s.ward.coreUp = true → s.on WARD_CKPTSTAT.VALID
     0 = false → s.on WARD_CKPTSTAT.VALID 1 = false → exec (.ckptReady a b) s = .next (s.close ((((((s.wardUpd fun w =>
     { w with verify := false }).setFld WARD_CKPTSTAT.USED 0 0).setFld WARD_CKPTSTAT.USED 0 1).raise
     WARD_FLAG.CKPT_NONE).rescanDue.setFld WARD_STAT.CKPT_READY 1).drainEnd))) ∧
  (∀ (s : State) (a b : Bool), s.awake = true → s.ward.verify = true → s.ward.coreUp = true → 
     let u := s.wardUpd fun w => { w with verify := false };
     let p := ckptPick (u.ckptOk 0 a) (u.ckptOk 1 b) (u.fld WARD_CKPTSTAT.SEQ 0) (u.fld WARD_CKPTSTAT.SEQ 1);
     let v := u.when (u.on WARD_CKPTSTAT.VALID 0 && !(u.ckptOk 0 a)) (·.raise WARD_FLAG.CKPT_BAD);
     let w := v.when (v.on WARD_CKPTSTAT.VALID 1 && !(u.ckptOk 1 b)) (·.raise WARD_FLAG.CKPT_BAD);
     let x := (w.setFld WARD_CKPTSTAT.USED (bit (p == some 0)) 0).setFld WARD_CKPTSTAT.USED (bit (p == some 1)) 1;
     exec (.ckptReady a b) s = .next (s.close (((match ckptPick (u.ckptOk 0 a) (u.ckptOk 1 b) (u.fld
       WARD_CKPTSTAT.SEQ 0) (u.fld WARD_CKPTSTAT.SEQ 1) with
     | some c => x.setFld WARD_LASTFO.CKPT c
     | none => (x.raise WARD_FLAG.CKPT_NONE).rescanDue).setFld WARD_STAT.CKPT_READY 1).drainEnd))) ∧
  (∀ (s : State) (a b : Bool), (s.ward.verify = false ∨ s.ward.coreUp = false) → exec (.ckptReady a b) s = .next
     (s.close (s))) ∧
  (∀ (q0 q1 : Nat), q0 < 2 ^ 32 → q1 < 2 ^ 32 → ckptPick true true q0 q1 = some (if q0 < q1 ∧ q1 - q0 < 2 ^ 31 ∨ q1 <
     q0 ∧ 2 ^ 31 < q0 - q1 then 1 else 0) ∧ ckptPick true false q0 q1 = some 0 ∧ ckptPick false true q0 q1 = some 1 ∧
     ckptPick false false q0 q1 = none) ∧
  (∀ (s : State), s.drainEnd = if s.sstate = 3 ∧ s.on WARD_STAT.ISO_DONE = true ∧ s.on WARD_STAT.CKPT_READY = true then (
     let u := s.setFld WARD_STAT.SSTATE 0;
     if s.on WARD_POLICY.AUTO_BIST then u.sbBist else u.setFld WARD_ROLE.SB_STATE 6) else s)

/-- R343: SEAL clears VALID and seals the copy, or sets CKPT_REJ where one is being sealed or the copy is the last
valid; SEAL_DONE stores the check word of its bytes, sets VALID and shows SEQ. R346: SWAP and TEST start a test of
the standby (BIST at once or when its domain is ON, which fails with the domain), or set SWAP_FAIL; a wrong KEY
ignores them; WARD_REARM leaves HALTED; HANDOVER after SWAP_REQ is a takeover with reason 5, HANDOVER_TIMEOUT sets
SWAP_FAIL. R348: SELFRST with its KEY starts a core reset. R345: in the standby check SBCHK_RESULT 0 makes the
standby READY (and requests the hand-over of a swap), any other and SBCHK_TIMEOUT FAILED. R349: FAULT_LOG_WRITE
writes the oldest entry's four words at NEXT, erasing the sector it opens first; it waits for a pulse. R434:
LANDING_READ answers four bytes and advances where AUTOINC is 1. A command outside its condition changes nothing.
The model's choices and readings in these clauses, no rules of the spec: a command out of its state changes nothing
(log entry 6); SB_OK is 0 from the start of a test (log entry 87); which fault log entries there are and how they
are written (log entry 101); what the Spotter watches in which state (log entry 111); what a trigger leaves of a
test (log entry 203). -/
def Obligations.CheckpointsSwapsAndTheFaultLog : Prop :=
  (∀ (s : State) (c : Fin 2), s.reaches .warden WARD_CKPT = true → s.on WARD_CKPTSTAT.SEALING 0 = false → s.on
     WARD_CKPTSTAT.SEALING 1 = false → (s.on WARD_CKPTSTAT.VALID c = false ∨ s.on WARD_CKPTSTAT.VALID (1 - c.val) =
     true) → exec (.seal c) s = .next (s.close (((s.setFld WARD_CKPT.COPY c).setFld WARD_CKPTSTAT.VALID 0 c).setFld
     WARD_CKPTSTAT.SEALING 1 c))) ∧
  (∀ (s : State) (c : Fin 2), s.reaches .warden WARD_CKPT = true → (s.on WARD_CKPTSTAT.SEALING 0 = true ∨ s.on
     WARD_CKPTSTAT.SEALING 1 = true ∨ (s.on WARD_CKPTSTAT.VALID c = true ∧ s.on WARD_CKPTSTAT.VALID (1 - c.val) =
     false)) → exec (.seal c) s = .next (s.close ((s.setFld WARD_CKPT.COPY c).raise WARD_FLAG.CKPT_REJ))) ∧
  (∀ (s : State) (c : Fin 2), s.awake = true → s.on WARD_CKPTSTAT.SEALING c = true → 
     let u := (s.setFld WARD_CKPTSTAT.SEALING 0 c).setLanding (ckptBase c + 131068) (bytesBE 4 (crc32
       (s.landingBytes (ckptBase c) 131068))).reverse;
     exec (.sealDone c) s = .next (s.close ((u.setFld WARD_CKPTSTAT.VALID 1 c).setFld WARD_CKPTSTAT.SEQ (ofBytesBE
       (u.landingBytes (ckptBase c + 4) 4)) c))) ∧
  (∀ (s : State) (c : Fin 2), s.on WARD_CKPTSTAT.SEALING c = false → exec (.sealDone c) s = .next (s.close (s))) ∧
  (∀ (s : State), s.reaches .host WARD_SWAP = true → exec (.swap 0x3C) s = .next (s.close ((s.setFld WARD_SWAP.OP
     0).swapStart true)) ∧ exec (.test 0x3C) s = .next (s.close ((s.setFld WARD_SWAP.OP 1).swapStart false))) ∧
  (∀ (s : State) (k : BitVec 8), s.reaches .host WARD_SWAP = true → k ≠ 0x3C → exec (.swap k) s = .next (s.close s) ∧
     exec (.test k) s = .next (s.close s) ∧ exec (.wardRearm k) s = .next (s.close s)) ∧
  (∀ (s : State) (x : Bool), s.sstate = 0 → (s.sbState = 0 ∨ s.sbState = 4 ∨ s.sbState = 5 ∨ (s.sbState = 6 ∧ x =
  false)) → s.swapStart x = 
     let u := ((s.wardUpd fun w => { w with op := some x }).setFld WARD_STAT.SWAP_REQ 0).sbOn;
     if u.pdState u.sbDomain = 2 then u.sbBist else u.setFld WARD_ROLE.SB_STATE 1) ∧
  (∀ (s : State) (x : Bool), (s.sstate ≠ 0 ∨ s.sbState ∉ [0, 4, 5, 6] ∨ (s.sbState = 6 ∧ x = true)) → s.swapStart x =
     s.raise WARD_FLAG.SWAP_FAIL) ∧
  (∀ (s : State), s.pdState s.sbDomain ≠ 1 → s.pdState s.sbDomain ≠ 2 → s.sbOn = s.setPd s.sbDomain 1 ∧ s.sbOff = s) ∧
  (∀ (s : State), (s.pdState s.sbDomain = 1 ∨ s.pdState s.sbDomain = 2) → s.sbOn = s ∧ s.sbOff = s.setPd s.sbDomain 3) ∧
  (∀ (s : State) (d : Nat), s.sbState = 1 → d = s.sbDomain → (s.pdState d = 2 → s.sbPowered d = s.sbBist) ∧ (s.pdState
     d = 0 → s.sbNoPower d = s.sbFailed)) ∧
  (∀ (s : State) (d : Nat), (s.sbState ≠ 1 ∨ d ≠ s.sbDomain) → s.sbPowered d = s ∧ s.sbNoPower d = s) ∧
  (∀ (s : State), s.sbBist = (
     let u := (s.setFld WARD_ROLE.SB_OK 0).setFld WARD_ROLE.SB_STATE 2;
     { u with bist := { u.bist with spot := u.bist.spot ++ [u.sbDomain] } })) ∧
  (∀ (s : State) (p : Bool), s.sbDomain ∈ s.bist.spot → s.sbBistDone p = s) ∧
  (∀ (s : State) (p : Bool), ¬s.sbDomain ∈ s.bist.spot → s.sbState = 2 → s.sbBistDone p = if p then s.setFld
     WARD_ROLE.SB_STATE 3 else s.sbFailed) ∧
  (∀ (s : State), s.reaches .host WARD_SWAP = true → s.sstate = 4 → exec (.wardRearm 0x3C) s = .next (s.close
     ((s.setFld WARD_SWAP.OP 2).setFld WARD_STAT.SSTATE 0))) ∧
  (∀ (s : State), s.reaches .host WARD_SWAP = true → s.sstate ≠ 4 → exec (.wardRearm 0x3C) s = .next (s.close (s.setFld
     WARD_SWAP.OP 2))) ∧
  (∀ (s : State), s.reaches .warden WARD_CTL = true → s.on WARD_STAT.SWAP_REQ = true → s.sstate ≤ 1 → exec .handover s
     = .next (s.close ((s.wardUpd fun w => { w with op := none, swapWait := true }).failover 5))) ∧
  (∀ (s : State), s.reaches .warden WARD_CTL = true → (s.on WARD_STAT.SWAP_REQ = false ∨ 1 < s.sstate) → exec .handover
     s = .next (s.close (s))) ∧
  (∀ (s : State), s.awake = true → s.on WARD_STAT.SWAP_REQ = true → exec .handoverTimeout s = .next (s.close
     ((((s.wardUpd fun w => { w with op := none }).setFld WARD_STAT.SWAP_REQ 0).raise WARD_FLAG.SWAP_FAIL).sbOff))) ∧
  (∀ (s : State), s.on WARD_STAT.SWAP_REQ = false → exec .handoverTimeout s = .next (s.close (s))) ∧
  (∀ (s : State), s.reaches .warden WARD_CTL = true → exec (.selfrst 0x5A) s = .next (s.close (s.coreReset 3))) ∧
  (∀ (s : State) (k : BitVec 8), s.reaches .warden WARD_CTL = true → k ≠ 0x5A → exec (.selfrst k) s = .next (s.close
     (s))) ∧
  (∀ (s : State), s.awake = true → s.sbState = 3 → 
     let u := (((s.setFld WARD_SBCHK.RESULT 0).setFld WARD_ROLE.SB_STATE 4).setFld WARD_ROLE.SB_OK 1).flogPush 4 0;
     exec (.sbchkResult 0) s = .next (s.close (if s.ward.op = some true then u.setFld WARD_STAT.SWAP_REQ 1 else
       (u.wardUpd fun w => { w with op := none }).sbOff))) ∧
  (∀ (s : State) (r : BitVec 8), s.awake = true → s.sbState = 3 → r ≠ 0 → exec (.sbchkResult r) s = .next (s.close
     ((s.setFld WARD_SBCHK.RESULT r.toNat).sbFailed))) ∧
  (∀ (s : State), s.awake = true → s.sbState = 3 → exec .sbchkTimeout s = .next (s.close (s.sbFailed))) ∧
  (∀ (s : State) (r : BitVec 8), s.sbState ≠ 3 → exec (.sbchkResult r) s = .next (s.close s) ∧ exec .sbchkTimeout s =
     .next (s.close s)) ∧
  (∀ (s : State), s.sbFailed = 
     let u := ((((s.setFld WARD_ROLE.SB_STATE 5).setFld WARD_ROLE.SB_OK 0).raise WARD_FLAG.SB_FAIL).sbOff).flogPush
       4 1;
     if s.ward.op.isSome then (u.wardUpd fun w => { w with op := none }).raise WARD_FLAG.SWAP_FAIL else u) ∧
  (∀ (s : State) (e : FlogEnt) (rest : List FlogEnt), s.ward.flogQ = e :: rest → s.cfg.pulse = none → s.fld
     WARD_FLOG.NEXT % 512 = 0 → s.ward.flogErased = false → exec .faultLogWrite s = .next (s.close (s.pulseStart { recorder := true, erase := true, word := s.fld WARD_FLOG.NEXT, data := 0 }))) ∧
  (∀ (s : State) (e : FlogEnt) (rest : List FlogEnt), s.ward.flogQ = e :: rest → s.cfg.pulse = none → (s.fld
  WARD_FLOG.NEXT % 512 ≠ 0 ∨ s.ward.flogErased = true) → 
     let n := s.fld WARD_FLOG.NEXT;
     let ws := flogWords e s.ward.flogSeq (if e.kind = 2 then (s.reg WARD_OVLCNT).toNat / 256 else 0);
     let u := forTo 3 (fun i t => (t.setStump (n + i) (ws.getD i 0)).emit (.stump 1 (n + i))) s;
     let v := u.pulseStart { recorder := true, erase := false, word := n + 3, data := ws.getD 3 0 };
     exec .faultLogWrite s = .next (s.close (((v.wardUpd fun w =>
       { w with flogQ := rest, flogSeq := (w.flogSeq + 1) % 2 ^ 32, flogErased := false }).setFld WARD_FLOG.NEXT
       (if n + 4 < 8192 then n + 4 else 4096)).flogSync))) ∧
  (∀ (s : State), (s.ward.flogQ = [] ∨ s.cfg.pulse.isSome = true) → exec .faultLogWrite s = .next (s.close (s))) ∧
  (∀ (s : State) (k d : Nat), s.flogPush k d = if 8 ≤ s.ward.flogQ.length then s.raise WARD_FLAG.FLOG_OVF else
     (s.wardUpd fun w => { w with flogQ := w.flogQ ++ [{ kind := k, detail := d, hold := s.reg SYS_HOLD, stamp := s.posOut, sec := s.timeS }] }).flogSync) ∧
  (∀ (s : State) (o : Sender), s.reaches o WARD_LDATA = true → s.on WARD_LIDX.AUTOINC = true → exec (.landingRead o) s
     = .next (s.close ((s.setFld WARD_LIDX.WORD (s.fld WARD_LIDX.WORD + 1)).emit (.regData 0 (Word.of (ofBytesBE
     (s.landingBytes (4 * s.fld WARD_LIDX.WORD) 4))))))) ∧
  (∀ (s : State) (o : Sender), s.reaches o WARD_LDATA = true → s.on WARD_LIDX.AUTOINC = false → exec (.landingRead o) s
     = .next (s.close (s.emit (.regData 0 (Word.of (ofBytesBE (s.landingBytes (4 * s.fld WARD_LIDX.WORD) 4)))))))

/-! ### Motion -/

/-- R353: MOVE_PUSH with room in the queue and no reserved bit queues the move that the three words spell; with sixteen
queued it is QFULL, with a reserved bit CFG_REJ. R358: MOT_GO starts the HOLD move that waits, is held pending
otherwise, and TRIG_OVR when one is pending. R360: HALT lets the move in progress finish, and flushes what waits;
STOP stops the axis at once. R359: SYNC takes the references and clears SUSPECT. R361: AXIS_ENABLE turns the axis on
or off, or leaves FAULT while the fault input is high. R352: MOT_POS_WRITE sets the position in IDLE, else CFG_REJ.
R354: STEP moves the position by the microsteps of one step in the move's direction, makes the step, and loads the
next interval or ends the move; the limit in its direction stops it; an interval is clamped with its flag. R358:
MOVE_DONE of a MARK move that is due sets its flag, and completes the feed of the feed axis. R356: a dwell below
SAFE_IVL that leaves the queue empty sets QUNDER and SUSPECT. In block reset the commands do nothing; MOT_QW2 and
MOT_AXCFG are stored. The model's choices and readings in these clauses, no rules of the spec: a command out of its
state changes nothing (log entry 6); the order of several MOT_CMD bits (log entry 72); a dwell's interval is a last
interval (log entry 73); SUSPECT by the axis's last interval, in every state (log entry 74); an edge of both inputs;
the fraction from standstill (log entry 175); a HOLD move with a pending event starts at the joint (log entry 178);
HALT in WAIT, pushes in OFF, faults in every state (log entry 180); a failed feed after the last pass goes to HELD
(log entry 194). -/
def Obligations.AxesTakeAndMakeMoves : Prop :=
  (∀ (s : State) (o : Sender) (n : Fin 8) (w : Word), s.reaches o MOT_QW2 n = true → s.blkHeld (60 + n) = false →
     (s.axis n).queue.length < 16 → (s.reg MOT_QW0 n).toNat % 2 ^ 12 = 0 → (s.reg MOT_QW1 n).toNat % 2 ^ 8 = 0 →
     w.toNat % 2 ^ 16 = 0 → exec (.movePush o n w) s = .next (s.close (((s.setReg MOT_QW2 w n).updAxis n fun x => { x with queue := x.queue ++ [{ dir := (s.reg MOT_QW0 n).getLsbD 39, blend := (s.reg MOT_QW0 n).getLsbD 38, hold := (s.reg MOT_QW0 n).getLsbD 37, mark := (s.reg MOT_QW0 n).getLsbD 36, nstep := (s.reg MOT_QW0 n).toNat / 2 ^ 12 % 2 ^ 24, i0 := (s.reg MOT_QW1 n).toNat / 2 ^ 8, di := signed 24 (w.toNat / 2 ^ 16) }] }).kick
     n))) ∧
  (∀ (s : State) (o : Sender) (n : Fin 8) (w : Word), s.reaches o MOT_QW2 n = true → s.blkHeld (60 + n) = false → 16 ≤
  (s.axis n).queue.length → exec (.movePush o n w) s = .next (s.close (
     let u := (s.setReg MOT_QW2 w n).raise MOT_FLAG.QFULL n;
     if ((s.reg MOT_QW0 n).toNat % 2 ^ 12 ≠ 0 ∨ (s.reg MOT_QW1 n).toNat % 2 ^ 8 ≠ 0 ∨ w.toNat % 2 ^ 16 ≠ 0) then
       u.raise MOT_FLAG.CFG_REJ n else u))) ∧
  (∀ (s : State) (o : Sender) (n : Fin 8) (w : Word), s.reaches o MOT_QW2 n = true → s.blkHeld (60 + n) = false →
     (s.axis n).queue.length < 16 → ((s.reg MOT_QW0 n).toNat % 2 ^ 12 ≠ 0 ∨ (s.reg MOT_QW1 n).toNat % 2 ^ 8 ≠ 0 ∨
     w.toNat % 2 ^ 16 ≠ 0) → exec (.movePush o n w) s = .next (s.close ((s.setReg MOT_QW2 w n).raise MOT_FLAG.CFG_REJ
     n))) ∧
  (∀ (s : State) (o : Sender) (n : Fin 8) (w : Word), s.reaches o MOT_QW2 n = true → s.blkHeld (60 + n) = true → exec
     (.movePush o n w) s = .next (s.close (s.store MOT_QW2 n 0 w))) ∧
  (∀ (s : State) (o : Sender) (n : Fin 8), s.reaches o MOT_CMD n = true → s.blkHeld (60 + n) = true → exec (.motGo o n)
     s = .next (s.close s) ∧ exec (.halt o n) s = .next (s.close s) ∧ exec (.stop o n) s = .next (s.close s) ∧ exec
     (.sync o n) s = .next (s.close s)) ∧
  (∀ (s : State) (o : Sender) (n : Fin 8), s.reaches o MOT_CMD n = true → s.blkHeld (60 + n) = false → s.astate n = 2 →
     exec (.motGo o n) s = .next (s.close ((s.setFld MOT_STAT.PEND 1 n).takeMove n none))) ∧
  (∀ (s : State) (o : Sender) (n : Fin 8), s.reaches o MOT_CMD n = true → s.blkHeld (60 + n) = false → s.astate n ≠ 2 →
     s.on MOT_STAT.PEND n = false → exec (.motGo o n) s = .next (s.close (s.setFld MOT_STAT.PEND 1 n))) ∧
  (∀ (s : State) (o : Sender) (n : Fin 8), s.reaches o MOT_CMD n = true → s.blkHeld (60 + n) = false → s.astate n ≠ 2 →
     s.on MOT_STAT.PEND n = true → exec (.motGo o n) s = .next (s.close (s.raise MOT_FLAG.TRIG_OVR n))) ∧
  (∀ (s : State) (o : Sender) (n : Fin 8), s.reaches o MOT_CMD n = true → s.blkHeld (60 + n) = false → s.astate n = 3 →
     exec (.halt o n) s = .next (s.close (s.updAxis n fun x => { x with halting := true }))) ∧
  (∀ (s : State) (o : Sender) (n : Fin 8), s.reaches o MOT_CMD n = true → s.blkHeld (60 + n) = false → s.astate n = 2 →
     exec (.halt o n) s = .next (s.close ((s.updAxis n fun x => { x with queue := [] }).setAstate n 1))) ∧
  (∀ (s : State) (o : Sender) (n : Fin 8), s.reaches o MOT_CMD n = true → s.blkHeld (60 + n) = false → s.astate n ≠ 2 →
     s.astate n ≠ 3 → exec (.halt o n) s = .next (s.close (s.updAxis n fun x => { x with queue := [] }))) ∧
  (∀ (s : State) (o : Sender) (n : Fin 8), s.reaches o MOT_CMD n = true → s.blkHeld (60 + n) = false → s.axisUp n =
     true → exec (.stop o n) s = .next (s.close ((s.motStop n).setAstate n 1))) ∧
  (∀ (s : State) (o : Sender) (n : Fin 8), s.reaches o MOT_CMD n = true → s.blkHeld (60 + n) = false → s.axisUp n =
     false → exec (.stop o n) s = .next (s.close (s))) ∧
  (∀ (s : State) (n : Nat), s.motStop n = 
     let u := s.updAxis n fun x => { x with queue := [], run := none, halting := false, markDue := 0 };
     let v := (u.setFld MOT_STAT.PEND 0 n).setReg MOT_STOPPOS (s.reg MOT_POS n) n;
     if s.atSpeed n then v.setFld MOT_STAT.SUSPECT 1 n else v) ∧
  (∀ (s : State) (o : Sender) (n : Fin 8), s.reaches o MOT_CMD n = true → s.blkHeld (60 + n) = false → exec (.sync o n)
     s = .next (s.close ((s.updAxis n fun x => { x with enc0 := s.reg MOT_ENCCNT n, pos0 := s.reg MOT_POS n }).setFld
     MOT_STAT.SUSPECT 0 n))) ∧
  (∀ (s : State) (o : Sender) (n : Fin 8) (w : Word), s.reaches o MOT_AXCFG n = true → exec (.axisEnable o n w) s =
     .next (s.close ((s.busWrite o.origin (MOT_AXCFG.at n) w).1))) ∧
  (∀ (s : State) (o : Sender) (n : Fin 8) (w : Word), s.reaches o MOT_AXCFG n = true → s.unguarded o MOT_AXCFG n w =
  true → 
     let u := s.store MOT_AXCFG n 0 w;
     exec (.axisEnable o n w) s = .next (s.close (if s.blkHeld (60 + n) then u else u.axisEnable n
       (MOT_AXCFG.EN.ext w == 1)))) ∧
  (∀ (s : State) (n : Nat), s.axisEnable n false = (((((s.setFld MOT_AXCFG.EN 0 n).motStop n).setAstate n 0).motEnOut
     n).bridgesOff n)) ∧
  (∀ (s : State) (n : Nat) (u : State), u = s.setFld MOT_AXCFG.EN 1 n → s.axisEnable n true = if (u.astate n = 0 ∧
     (u.fld MOT_AXCFG.MODE n = 1 ∨ u.fld MOT_AXCFG.MODE n = 2)) ∨ (u.astate n = 4 ∧ (u.axis n).fltLow = false) then
     u.axisOn n else u) ∧
  (∀ (s : State) (n : Nat), s.axisOn n = 
     let u := ((s.setAstate n 1).updAxis n fun x =>
       { x with enc0 := s.reg MOT_ENCCNT n, pos0 := s.reg MOT_POS n }).motEnOut n;
     let v := u.updAxis n fun x => { x with chA := ChopPhase.reset, chB := ChopPhase.reset };
     let t := v.setCur n (s.fld MOT_CUR.HOLD n);
     if (t.axis n).fltLow then t.motFault MOT_FLAG.BRIDGE_FLT n else t.kick n) ∧
  (∀ (s : State) (o : Sender) (n : Fin 8) (w : Word), s.reaches o MOT_POS n = true → s.astate n = 1 → exec
     (.motPosWrite o n w) s = .next (s.close ((s.setReg MOT_POS w n).setFld MOT_STAT.SUSPECT 0 n))) ∧
  (∀ (s : State) (o : Sender) (n : Fin 8) (w : Word), s.reaches o MOT_POS n = true → s.astate n ≠ 1 → exec
     (.motPosWrite o n w) s = .next (s.close (s.raise MOT_FLAG.CFG_REJ n))) ∧
  (∀ (s : State) (n : Fin 8) (r : MoveRun), s.awake = true → s.astate n = 3 → (s.axis n).run = some r → 2 ≤ r.left →
  s.atLimit n r.m.dir = false → 
     let u := s.setReg MOT_POS (if r.m.dir then s.reg MOT_POS n - Word.of (s.microsteps n) else s.reg MOT_POS n +
       Word.of (s.microsteps n)) n;
     let v := u.when (!u.hpGates && u.fld MOT_AXCFG.MODE n == 2) (·.emit (.step n (!r.m.dir)));
     exec (.step n) s = .next (s.close ((v.updAxis n fun x => { x with last := some r.ivl }).loadIvl n r.m (r.left
       - 1) (r.ivl + r.m.di) r.frac))) ∧
  (∀ (s : State) (n : Fin 8) (r : MoveRun), s.awake = true → s.astate n = 3 → (s.axis n).run = some r → r.left = 1 →
  s.atLimit n r.m.dir = false → 
     let u := s.setReg MOT_POS (if r.m.dir then s.reg MOT_POS n - Word.of (s.microsteps n) else s.reg MOT_POS n +
       Word.of (s.microsteps n)) n;
     let v := u.when (!u.hpGates && u.fld MOT_AXCFG.MODE n == 2) (·.emit (.step n (!r.m.dir)));
     exec (.step n) s = .next (s.close ((v.updAxis n fun x => { x with last := some r.ivl }).moveEnd n r.m))) ∧
  (∀ (s : State) (n : Fin 8) (r : MoveRun), s.awake = true → s.astate n = 3 → (s.axis n).run = some r → r.left = 0 →
     exec (.step n) s = .next (s.close ((s.updAxis n fun x => { x with last := some r.ivl }).moveEnd n r.m))) ∧
  (∀ (s : State) (n : Fin 8) (r : MoveRun), s.awake = true → s.astate n = 3 → (s.axis n).run = some r → 0 < r.left →
     s.atLimit n r.m.dir = true → exec (.step n) s = .next (s.close (((s.raise MOT_FLAG.LIMIT n).motStop n).setAstate n
     1))) ∧
  (∀ (s : State) (n : Fin 8), (s.astate n ≠ 3 ∨ (s.axis n).run = none) → exec (.step n) s = .next (s.close (s))) ∧
  (∀ (s : State) (n : Nat) (m : Move) (left : Nat) (a : Int) (f : Nat), s.minIvl n * 256 ≤ (2 ^ 24 - 1) * 256 →
  m.nstep ≠ 0 → s.loadIvl n m left a f = 
     let i := max (s.minIvl n * 256 : Int) (min a ((2 ^ 24 - 1) * 256));
     let u := if i = a then s else s.raise MOT_FLAG.IVL_CLAMP n;
     u.updAxis n fun x =>
       { x with run := some ⟨m, left, i, (f + (i % 256).toNat) % 256, (i / 256).toNat + (f + (i % 256).toNat) / 256⟩ }) ∧
  (∀ (s : State) (n : Nat) (m : Move) (a : Int) (f : Nat), m.nstep = 0 → s.loadIvl n m 0 a f = s.updAxis n fun x => { x with run := some ⟨m, 0, a, (f + (a % 256).toNat) % 256, (a / 256).toNat + (f + (a % 256).toNat) / 256⟩ }) ∧
  (∀ (s : State) (n : Nat), s.atSpeed n = (match (s.axis n).last with
     | some l => decide (l < s.fld MOT_AXCFG.SAFE_IVL n * 256)
     | none => false)) ∧
  (∀ (s : State) (n : Nat), s.motEnOut n = s.emit (.motEn n (if s.on MOT_AXCFG.EN_POL n then ¬(s.axisUp n ∧ ¬s.hpGates)
     else (s.axisUp n ∧ ¬s.hpGates)))) ∧
  (∀ (s : State) (n : Nat) (m : Move), s.moveEnd n m = 
     let u := if m.mark then s.updAxis n fun x => { x with markDue := x.markDue + 1 } else s;
     let v := if (u.axis n).halting then u.updAxis n fun x => { x with queue := [], halting := false } else u;
     let t := v.takeMove n (some m.dir);
     if (v.axis n).queue = [] ∧ t.atSpeed n then (t.raise MOT_FLAG.QUNDER n).setFld MOT_STAT.SUSPECT 1 n else t) ∧
  (∀ (s : State) (n : Nat) (j : Option Bool), (s.axis n).queue = [] → s.takeMove n j = (s.updAxis n fun x => { x with run := none }).setAstate
     n 1) ∧
  (∀ (s : State) (n : Nat) (j : Option Bool) (m : Move) (rest : List Move), (s.axis n).queue = m :: rest → s.takeMove n
     j = if m.hold ∧ s.on MOT_STAT.PEND n = false then (s.updAxis n fun x => { x with run := none }).setAstate n 2 else
     ((if m.hold then s.setFld MOT_STAT.PEND 0 n else s).updAxis n fun x => { x with queue := rest }).startMove n m j) ∧
  (∀ (s : State) (n : Fin 8), s.awake = true → 0 < (s.axis n).markDue → 
     let u := (s.updAxis n fun x => { x with markDue := x.markDue - 1 }).raise MOT_FLAG.MOVE_DONE n;
     exec (.moveDone n) s = .next (s.close (if u.fld FIRE_SCANCFG.FEED_AXIS = n then u.feedDone else u))) ∧
  (∀ (s : State) (n : Fin 8), (s.axis n).markDue = 0 → exec (.moveDone n) s = .next (s.close (s))) ∧
  (∀ (s : State) (n : Fin 8) (r : MoveRun), s.awake = true → s.astate n = 3 → (s.axis n).run = some r → r.left = 0 →
     ((s.axis n).queue = [] ∨ (s.axis n).halting = true) → r.ivl < s.fld MOT_AXCFG.SAFE_IVL n * 256 → ∃ t, exec (.step
     n) s = .next (s.close t) ∧ t.on MOT_FLAG.QUNDER n = true ∧ t.on MOT_STAT.SUSPECT n = true)

/-- R356: where the last step of the last move is due, its interval was below SAFE_IVL cycles and the queue is empty (or
flushed by a HALT), the axis sets QUNDER and SUSPECT. -/
def Obligations.EmptyQueueAtSpeedIsSuspected : Prop :=
  ∀ (s : State) (n : Fin 8) (r : MoveRun), s.awake = true → s.astate n = 3 → (s.axis n).run = some r → r.left = 1 →
    s.atLimit n r.m.dir = false → ((s.axis n).queue = [] ∨ (s.axis n).halting = true) → r.ivl < s.fld
    MOT_AXCFG.SAFE_IVL n * 256 → ∃ t, exec (.step n) s = .next (s.close t) ∧ t.on MOT_FLAG.QUNDER n = true ∧ t.on
    MOT_STAT.SUSPECT n = true

/-- R355: CURRENT_REDUCE of an axis that stands takes the current to HOLD. R359: STALL beyond the window sets its flag
and SUSPECT, and stops where STALL_ACT is 1; MOT_ENCODER_EDGE of one input counts by its direction, of both or none
(the model's choice, log entry 175), or in block reset, counts nothing. R362: OVERCUR, BRIDGE_FLT and OPEN_MOTOR of
an axis that is on set their flag, stop it and take it to FAULT with the capture of the first; LIMIT active in the
direction of a step stops it. R357: CHOPPER_THRESHOLD switches a phase between drive and decay (after TOFF_MIN) with
the threshold that ends it. R124: SWATH_RESUME from HELD arms the next swath. R127: PASS_WRITE and MASK_WRITE write
their tables, or set their REJ while a job could use them, and advance. What an axis that is off, or a threshold out
of turn, meets changes no more than the input's level. The model's choices and readings in these clauses, no rules
of the spec: a command out of its state changes nothing (log entry 6); tables that a job uses are read but not
written (log entry 68); SUSPECT by the axis's last interval, in every state (log entry 74); the steps of the
current's ramp (log entry 146); HALT in WAIT, pushes in OFF, faults in every state (log entry 180); the switch
within a mixed decay is blanked (log entry 214); inputs of a lost rail are ignored (log entry 216). -/
def Obligations.AxesAreSensedAndSwathsArmed : Prop :=
  (∀ (s : State) (n : Fin 8), s.awake = true → (s.astate n = 1 ∨ s.astate n = 2) → (s.axis n).ramp = none → exec
     (.currentReduce n) s = .next (s.close (s.updAxis n fun x => { x with ramp := some (s.cycle, s.fld MOT_CUR.HOLD n) }))) ∧
  (∀ (s : State) (n a g : Nat), (s.axis n).ramp = some (a, g) → (s.axis n).cur ≤ g → s.curNow n = (s.axis n).cur + (g -
     (s.axis n).cur) * min 1200000 (s.cycle - a) / 1200000) ∧
  (∀ (s : State) (n a g : Nat), (s.axis n).ramp = some (a, g) → g ≤ (s.axis n).cur → s.curNow n = (s.axis n).cur -
     ((s.axis n).cur - g) * min 1200000 (s.cycle - a) / 1200000) ∧
  (∀ (s : State) (n : Fin 8), ((s.astate n ≠ 1 ∧ s.astate n ≠ 2) ∨ (s.axis n).ramp ≠ none) → exec (.currentReduce n) s
     = .next (s.close (s))) ∧
  (∀ (s : State) (n c : Nat), s.setCur n c = (s.updAxis n fun x => { x with cur := c, ramp := none }).setFld
     MOT_STAT.REDUCED (if c < s.fld MOT_CUR.RUN n then 1 else 0) n) ∧
  (∀ (s : State) (n : Fin 8), s.awake = true → s.axisSenses n = true → s.on MOT_STALL.STALL_EN n = true → s.fld
  MOT_STALL.WINDOW n < (s.motDev n).natAbs → 
     let u := (s.raise MOT_FLAG.STALL n).setFld MOT_STAT.SUSPECT 1 n;
     exec (.stall n) s = .next (s.close (if u.on MOT_STALL.STALL_ACT n ∧ u.axisUp n then (u.motStop n).setAstate n
       1 else u))) ∧
  (∀ (s : State) (n : Fin 8), (s.axisSenses n = false ∨ s.on MOT_STALL.STALL_EN n = false ∨ (s.motDev n).natAbs ≤ s.fld
     MOT_STALL.WINDOW n) → exec (.stall n) s = .next (s.close (s))) ∧
  (∀ (s : State) (n : Fin 8), s.awake = true → s.axisSenses n = true → s.axisUp n = true → 
     let u := s.raise MOT_FLAG.OVERCUR n;
     exec (.overcur n) s = .next (s.close (((((((u.when (!u.on MOT_FLAG.FAULT n) (·.setFld MOT_FAULTINFO.BIT
       MOT_FLAG.OVERCUR.lo n)).motStop n).raise MOT_FLAG.FAULT n).setAstate n 4).motEnOut n).bridgesOff n)))) ∧
  (∀ (s : State) (n : Fin 8), s.awake = true → s.axisSenses n = true → s.axisUp n = true → s.fld MOT_AXCFG.MODE n = 1
  → (s.fld MOT_CUR.RUN n ≤ 4 * (s.phaseTarget n 0).natAbs ∨ s.fld MOT_CUR.RUN n ≤ 4 * (s.phaseTarget n 1).natAbs) → 
     let u := s.raise MOT_FLAG.OPEN n;
     exec (.openMotor n) s = .next (s.close (((((((u.when (!u.on MOT_FLAG.FAULT n) (·.setFld MOT_FAULTINFO.BIT
       MOT_FLAG.OPEN.lo n)).motStop n).raise MOT_FLAG.FAULT n).setAstate n 4).motEnOut n).bridgesOff n)))) ∧
  (∀ (s : State) (n : Fin 8), s.axisUp n = true → (s.fld MOT_AXCFG.MODE n ≠ 1 ∨ (4 * (s.phaseTarget n 0).natAbs < s.fld
     MOT_CUR.RUN n ∧ 4 * (s.phaseTarget n 1).natAbs < s.fld MOT_CUR.RUN n)) → exec (.openMotor n) s = .next (s.close
     (s))) ∧
  (∀ (s : State) (n : Fin 8), (s.axisUp n = false ∨ s.axisSenses n = false) → exec (.overcur n) s = .next (s.close s) ∧
     exec (.openMotor n) s = .next (s.close s)) ∧
  (∀ (s : State) (n : Fin 8), s.awake = true → s.axisSenses n = true → s.axisUp n = true → 
     let u := (s.updAxis n fun x => { x with fltLow := true }).raise MOT_FLAG.BRIDGE_FLT n;
     exec (.bridgeFlt n true) s = .next (s.close (((((((u.when (!u.on MOT_FLAG.FAULT n) (·.setFld MOT_FAULTINFO.BIT
       MOT_FLAG.BRIDGE_FLT.lo n)).motStop n).raise MOT_FLAG.FAULT n).setAstate n 4).motEnOut n).bridgesOff n)))) ∧
  (∀ (s : State) (n : Fin 8), s.awake = true → s.axisSenses n = true → s.axisUp n = false → exec (.bridgeFlt n true) s
     = .next (s.close ((s.updAxis n fun x => { x with fltLow := true }).raise MOT_FLAG.BRIDGE_FLT n))) ∧
  (∀ (s : State) (n : Fin 8), s.awake = true → s.railOk 1 = true → exec (.bridgeFlt n false) s = .next (s.close
     (s.updAxis n fun x => { x with fltLow := false }))) ∧
  (∀ (s : State) (n : Fin 8) (a b : Bool), s.railOk 1 = false → exec (.bridgeFlt n a) s = .next (s.close s) ∧ exec
     (.limit n a) s = .next (s.close s) ∧ exec (.motEncoderEdge n a b) s = .next (s.close s)) ∧
  (∀ (s : State) (n : Fin 8) (h : Bool), s.awake = true → s.railOk 1 = true → (s.astate n ≠ 3 ∨ (s.axis n).run = none)
     → exec (.limit n h) s = .next (s.close (s.updAxis n fun x => { x with limHigh := h }))) ∧
  (∀ (s : State) (n : Fin 8) (h : Bool) (r : MoveRun), s.awake = true → s.astate n = 3 → (s.axis n).run = some r →
  s.railOk 1 = true → 0 < r.left → h = s.on MOT_STALL.LIM_POL n → s.on MOT_STALL.LIM_DIR n = r.m.dir → 
     let u := s.updAxis n fun x => { x with limHigh := h };
     exec (.limit n h) s = .next (s.close (((u.raise MOT_FLAG.LIMIT n).motStop n).setAstate n 1))) ∧
  (∀ (s : State) (n : Fin 8) (h : Bool) (r : MoveRun), s.awake = true → s.railOk 1 = true → (s.axis n).run = some r →
     (r.left = 0 ∨ h ≠ s.on MOT_STALL.LIM_POL n ∨ s.on MOT_STALL.LIM_DIR n ≠ r.m.dir) → exec (.limit n h) s = .next
     (s.close (s.updAxis n fun x => { x with limHigh := h }))) ∧
  (∀ (s : State) (n : Fin 8) (a : Bool), s.awake = true → s.railOk 1 = true → (s.axis n).qa ≠ a → s.blkHeld (60 + n) =
  false → 
     let u := s.setAxis n { s.axis n with qa := a, qb := (s.axis n).qb };
     exec (.motEncoderEdge n a (s.axis n).qb) s = .next (s.close (u.setReg MOT_ENCCNT (if quadRev (s.axis n).qa a
       (s.axis n).qb then u.reg MOT_ENCCNT n - 1 else u.reg MOT_ENCCNT n + 1) n))) ∧
  (∀ (s : State) (n : Fin 8) (b : Bool), s.awake = true → s.railOk 1 = true → (s.axis n).qb ≠ b → s.blkHeld (60 + n) =
  false → 
     let u := s.setAxis n { s.axis n with qa := (s.axis n).qa, qb := b };
     exec (.motEncoderEdge n (s.axis n).qa b) s = .next (s.close (u.setReg MOT_ENCCNT (if quadRev (s.axis n).qa
       (s.axis n).qa b then u.reg MOT_ENCCNT n - 1 else u.reg MOT_ENCCNT n + 1) n))) ∧
  (∀ (a b : Bool), quadRev (!a) a b = (a == b) ∧ quadRev a a b = (a != b)) ∧
  (∀ (s : State) (n : Fin 8) (a b : Bool), s.awake = true → s.railOk 1 = true → (((s.axis n).qa = a ↔ (s.axis n).qb =
     b) ∨ s.blkHeld (60 + n) = true) → exec (.motEncoderEdge n a b) s = .next (s.close (s.setAxis n { s.axis n with qa := a, qb := b }))) ∧
  (∀ (s : State) (n : Fin 8) (t : Nat), s.awake = true → s.axisSenses n = true → s.axisUp n = true → s.fld
  MOT_AXCFG.MODE n = 1 → (s.axis n).chA.drive = true → s.blanked n true (max 1 t) = false → 
     let c : ChopPhase := { (s.axis n).chA with drive := false, tOn := max 1 t };
     let u := s.setAxis n { s.axis n with chA := c };
     exec (.chopperThreshold n 0 true t) s = .next (s.close (u.when (!u.hpGates) (·.emit (.bridge n 0 false
       (u.phaseNeg n 0) (u.chopDecay n) (u.fld MOT_CHOP.FASTT n) (u.chopThr n 0 c)))))) ∧
  (∀ (s : State) (n : Fin 8) (t : Nat), s.awake = true → s.axisSenses n = true → s.axisUp n = true → s.fld
  MOT_AXCFG.MODE n = 1 → (s.axis n).chB.drive = true → s.blanked n true (max 1 t) = false → 
     let c : ChopPhase := { (s.axis n).chB with drive := false, tOn := max 1 t };
     let u := s.setAxis n { s.axis n with chB := c };
     exec (.chopperThreshold n 1 true t) s = .next (s.close (u.when (!u.hpGates) (·.emit (.bridge n 1 false
       (u.phaseNeg n 1) (u.chopDecay n) (u.fld MOT_CHOP.FASTT n) (u.chopThr n 1 c)))))) ∧
  (∀ (s : State) (n : Fin 8) (t : Nat), s.awake = true → s.axisSenses n = true → s.axisUp n = true → s.fld
  MOT_AXCFG.MODE n = 1 → (s.axis n).chA.drive = false → s.fld MOT_CHOP.TOFF_MIN n ≤ max 1 t → s.blanked n false
  (max 1 t) = false → 
     let c : ChopPhase :=
       { (s.axis n).chA with drive := true, ofs := s.chopOfs n (s.axis n).chA.tOn (max 1 t) (s.axis n).chA.ofs };
     let u := s.setAxis n { s.axis n with chA := c };
     exec (.chopperThreshold n 0 false t) s = .next (s.close (u.when (!u.hpGates) (·.emit (.bridge n 0 true
       (u.phaseNeg n 0) (u.chopDecay n) (u.fld MOT_CHOP.FASTT n) (u.chopThr n 0 c)))))) ∧
  (∀ (s : State) (n : Fin 8) (t : Nat), s.awake = true → s.axisSenses n = true → s.axisUp n = true → s.fld
  MOT_AXCFG.MODE n = 1 → (s.axis n).chB.drive = false → s.fld MOT_CHOP.TOFF_MIN n ≤ max 1 t → s.blanked n false
  (max 1 t) = false → 
     let c : ChopPhase :=
       { (s.axis n).chB with drive := true, ofs := s.chopOfs n (s.axis n).chB.tOn (max 1 t) (s.axis n).chB.ofs };
     let u := s.setAxis n { s.axis n with chB := c };
     exec (.chopperThreshold n 1 false t) s = .next (s.close (u.when (!u.hpGates) (·.emit (.bridge n 1 true
       (u.phaseNeg n 1) (u.chopDecay n) (u.fld MOT_CHOP.FASTT n) (u.chopThr n 1 c)))))) ∧
  (∀ (s : State) (n : Fin 8) (k : Fin 2) (u : Bool) (t : Nat), (s.fld MOT_AXCFG.MODE n ≠ 1 ∨ s.axisUp n = false ∨
     s.axisSenses n = false ∨ s.blanked n u (max 1 t) = true ∨ (if k.val = 0 then (s.axis n).chA else (s.axis
     n).chB).drive ≠ u ∨ (u = false ∧ max 1 t < s.fld MOT_CHOP.TOFF_MIN n)) → exec (.chopperThreshold n k u t) s =
     .next (s.close (s))) ∧
  (∀ (s : State) (n t : Nat), s.blanked n true t = decide (t < s.fld MOT_CHOP.BLANK n)) ∧
  (∀ (s : State) (n t : Nat), s.fld MOT_CHOP.DECAY n = 2 → (s.blanked n false t = true ↔ t < s.fld MOT_CHOP.BLANK n ∨
     (s.fld MOT_CHOP.FASTT n ≤ t ∧ t < s.fld MOT_CHOP.FASTT n + s.fld MOT_CHOP.BLANK n))) ∧
  (∀ (s : State) (n a b : Nat) (x : Int), s.on MOT_CHOP.ADAPT n = false → s.chopOfs n a b x = 0) ∧
  (∀ (s : State) (o : Sender), s.reaches o FIRE_SCANCTL = true → exec (.swathResume o) s = .next (s.close ((s.busWrite
     o.origin (FIRE_SCANCTL.at 0) (putFields (s.reg FIRE_SCANCTL) [(FIRE_SCANCTL.RESUME, 1)])).1))) ∧
  (∀ (s : State) (o : Sender), s.reaches o FIRE_SCANCTL = true → s.unguarded o FIRE_SCANCTL 0 (putFields (s.reg
  FIRE_SCANCTL) [(FIRE_SCANCTL.RESUME, 1)]) = true → 
     let u := s.store FIRE_SCANCTL 0 0 (putFields (s.reg FIRE_SCANCTL) [(FIRE_SCANCTL.RESUME, 1)]);
     exec (.swathResume o) s = .next (s.close (if u.fld FIRE_SCANSTAT.SSTATE = 4 then (u.setFld
       FIRE_SCANSTAT.SSTATE 3).nextSwath else u))) ∧
  (∀ (s : State) (o : Sender) (w : Word), s.reaches o FIRE_PASSDATA = true → (s.fld FIRE_SCANSTAT.SSTATE = 0 ∨
     s.passLocked (s.fld FIRE_SCANSTAT.PASS) (s.fld FIRE_PASSIDX.ENTRY) 256 = false) → exec (.passWrite o w) s = .next
     (s.close (({ s with scan := { s.scan with pass := SMap.set 0 s.scan.pass (2 * s.fld FIRE_PASSIDX.ENTRY + s.fld FIRE_PASSIDX.WORD) w } }
     : State).passAdvance))) ∧
  (∀ (s : State) (o : Sender) (w : Word), s.reaches o FIRE_PASSDATA = true → s.fld FIRE_SCANSTAT.SSTATE ≠ 0 →
     s.passLocked (s.fld FIRE_SCANSTAT.PASS) (s.fld FIRE_PASSIDX.ENTRY) 256 = true → exec (.passWrite o w) s = .next
     (s.close ((s.raise FIRE_SCANFLAG.PASS_REJ).passAdvance))) ∧
  (∀ (s : State) (o : Sender) (w : Word), s.reaches o FIRE_MASKDATA = true → s.betweenJobs = true → exec (.maskWrite o
     w) s = .next (s.close (({ s with scan := { s.scan with mask := SMap.set 0 s.scan.mask (32 * s.fld FIRE_MASKIDX.MASK + s.fld FIRE_MASKIDX.ROW) (FIRE_MASKDATA.BITS.ext w) } }
     : State).maskAdvance))) ∧
  (∀ (s : State) (o : Sender) (w : Word), s.reaches o FIRE_MASKDATA = true → s.betweenJobs = false → exec (.maskWrite o
     w) s = .next (s.close ((s.raise FIRE_SCANFLAG.MASK_REJ).maskAdvance)))

/-! ### Lighting and displays -/

/-- R367, R368: LITE_TARGET_CROSS of a STROBE_POS channel to whose target the web comes, taken LEAD cycles ahead,
requests a pulse (dropped with STRB_SKIP outside IDLE, but where another source asked for it in this cycle) and
moves the target by PITCH; STROBE_DELAY_END turns the lamp on, STROBE_WIDTH_END off, with the sense check of R369
for pulses of sixteen cycles and more; RECOVER_END returns to IDLE with the level in force; CONT_CHECK checks a CONT
channel. R370, R371: TEMP_SAMPLE takes the code, counts faulty and sound samples, and updates the levels of the
channels that use it. R365: LITE_CH_WRITE stores the register and starts, stops or restarts the channel. R373, R374:
ROW_SLOT drives the next row, with a pending copy at row 0; MATRIX_SWAP marks the copy. R378: DISP_ENABLE starts an
output whose timing is accepted, else TIM_BAD with EN 0. R380: LAYER_BASE_WRITE marks the layer in use;
DISP_FRAME_START, for the first frame or in the last line of one, latches the layers and rectangles, clears the
marks and counts the frame; a line has sync, back porch, active and front porch. R379: a layer at full alpha covers,
at none shows what is beneath. R382: CRC_MISM stores and compares a rectangle's CRC (free where a write hit a layer
that it shows, log entry 17); R383: DISP_UNDERRUN shows the background from the pixel on. Out of its state an event
changes nothing. The model's choices and readings in these clauses, no rules of the spec: a command out of its state
changes nothing (log entry 6); fields of a held lighting block act at its release (log entry 76); which LITE_CH
writes restart a channel (log entry 78); a poisoned burst shows BG (log entry 80); the frame that blanks counts and
latches (log entry 81); a refused EN reads 0 (log entry 82); the phase of a blinking LED (log entry 176); the order
of a pixel's bytes; LINE as DISP_STAT.LINE (log entry 182); when a frame starts and its lines are fetched (log entry
212); a target acts where the web comes to it (log entry 213); inputs of a lost rail are ignored (log entry 216); a
run is judged by the FCNT in force (log entry 218). -/
def Obligations.LampsStrobeAndDisplaysShowTheirFrames : Prop :=
  (∀ (s : State) (c : Fin 16), s.awake = true → s.liteRuns = true → s.liteMode c = 3 → s.comesTo (s.fld LITE_STRB.LEAD
  c) (s.reg LITE_SPOS c) = true → s.cstate c = 1 → 
     let u := (s.setLiteCh c { s.liteCh c with asked := s.cycle + 1, askers := [16] }).setCstate c 2;
     exec (.liteTargetCross c) s = .next (s.close (u.setReg LITE_SPOS (s.reg LITE_SPOS c + Word.of (max 0x10000
       (s.reg LITE_SPITCH c).toNat)) c))) ∧
  (∀ (s : State) (c : Fin 16), s.awake = true → s.liteRuns = true → s.liteMode c = 3 → s.comesTo (s.fld LITE_STRB.LEAD
  c) (s.reg LITE_SPOS c) = true → s.cstate c = 2 → (s.liteCh c).asked = s.cycle + 1 → ¬16 ∈ (s.liteCh c).askers → 
     let u := s.setLiteCh c { s.liteCh c with askers := 16 :: (s.liteCh c).askers };
     exec (.liteTargetCross c) s = .next (s.close (u.setReg LITE_SPOS (s.reg LITE_SPOS c + Word.of (max 0x10000
       (s.reg LITE_SPITCH c).toNat)) c))) ∧
  (∀ (s : State) (c : Fin 16), s.awake = true → s.liteRuns = true → s.liteMode c = 3 → s.comesTo (s.fld LITE_STRB.LEAD
  c) (s.reg LITE_SPOS c) = true → s.cstate c ≠ 1 → ¬(s.cstate c = 2 ∧ (s.liteCh c).asked = s.cycle + 1 ∧ ¬16 ∈
  (s.liteCh c).askers) → 
     let u := s.raise LITE_CHFLAG.STRB_SKIP c;
     exec (.liteTargetCross c) s = .next (s.close (u.setReg LITE_SPOS (s.reg LITE_SPOS c + Word.of (max 0x10000
       (s.reg LITE_SPITCH c).toNat)) c))) ∧
  (∀ (s : State) (c : Fin 16), (s.liteRuns = false ∨ s.liteMode c ≠ 3 ∨ s.comesTo (s.fld LITE_STRB.LEAD c) (s.reg
     LITE_SPOS c) = false) → exec (.liteTargetCross c) s = .next (s.close (s))) ∧
  (∀ (s : State) (c : Fin 16), s.awake = true → s.cstate c = 2 → exec (.strobeDelayEnd c) s = .next (s.close
     ((s.setCstate c 3).liteEn c true))) ∧
  (∀ (s : State) (c : Fin 16), s.cstate c ≠ 2 → exec (.strobeDelayEnd c) s = .next (s.close (s))) ∧
  (∀ (s : State) (c : Nat) (b : Bool), s.liteEn c b = if s.hpGates then s else s.emit (.liteEn c (b != s.on
     LITE_CH.EN_POL c))) ∧
  (∀ (s : State) (c : Fin 16) (d : BitVec 10), s.awake = true → s.cstate c = 3 → s.liteMode c ≠ 1 → 
     let u := (s.liteEn c false).setCstate c 4;
     exec (.strobeWidthEnd c d) s = .next (s.close (if 16 ≤ u.fld LITE_STRB.WIDTH c ∧ u.railOk 1 then u.liteCheck c
       d.toNat else u))) ∧
  (∀ (s : State) (c : Fin 16) (d : BitVec 10), (s.cstate c ≠ 3 ∨ s.liteMode c = 1) → exec (.strobeWidthEnd c d) s =
     .next (s.close (s))) ∧
  (∀ (s : State) (c d : Nat) (x : LiteCh), x = s.senseRuns c d → s.liteCheck c d = 
     let u := (s.setFld LITE_CHSTAT.SENSE d c).setLiteCh c x;
     let o := x.openTaken && !(s.liteCh c).openTaken;
     let h := x.shortTaken && !(s.liteCh c).shortTaken;
     let v := if o then u.raise LITE_CHFLAG.OPEN c else u;
     let t := if h then v.raise LITE_CHFLAG.SHORT c else v;
     if h ∨ (o ∧ s.on LITE_CH.OPEN_ACT c = true) then (t.liteStop c 5).raise LITE_CHFLAG.FAULT c else t) ∧
  (∀ (s : State) (c d : Nat), s.fld LITE_CH.OPEN_THR c < d → (s.senseRuns c d).opens = min 16 ((s.liteCh c).opens + 1)
     ∧ ((s.senseRuns c d).openTaken = true ↔ (s.liteCh c).openTaken = true ∨ max 1 (s.fld LITE_CH.FCNT c) ≤ min 16
     ((s.liteCh c).opens + 1))) ∧
  (∀ (s : State) (c d : Nat), d ≤ s.fld LITE_CH.OPEN_THR c → (s.senseRuns c d).opens = 0 ∧ (s.senseRuns c d).openTaken
     = false) ∧
  (∀ (s : State) (c d : Nat), d < s.fld LITE_CH.SHORT_THR c → (s.senseRuns c d).shorts = min 16 ((s.liteCh c).shorts +
     1) ∧ ((s.senseRuns c d).shortTaken = true ↔ (s.liteCh c).shortTaken = true ∨ max 1 (s.fld LITE_CH.FCNT c) ≤ min 16
     ((s.liteCh c).shorts + 1))) ∧
  (∀ (s : State) (c d : Nat), s.fld LITE_CH.SHORT_THR c ≤ d → (s.senseRuns c d).shorts = 0 ∧ (s.senseRuns c
     d).shortTaken = false) ∧
  (∀ (s : State) (c v : Nat), s.liteStop c v = ((s.liteEn c false).setDac c 0).setCstate c v) ∧
  (∀ (s : State) (c : Fin 16), s.awake = true → s.cstate c = 4 → exec (.recoverEnd c) s = .next (s.close ((s.setCstate
     c 1).setDac c ((s.setCstate c 1).liteDac c)))) ∧
  (∀ (s : State) (c : Fin 16), s.cstate c ≠ 4 → exec (.recoverEnd c) s = .next (s.close (s))) ∧
  (∀ (s : State) (c : Fin 16) (d : BitVec 10), s.awake = true → s.cstate c = 3 → s.liteMode c = 1 → s.railOk 1 = true →
     exec (.contCheck c d) s = .next (s.close (s.liteCheck c d.toNat))) ∧
  (∀ (s : State) (c : Fin 16) (d : BitVec 10), (s.cstate c ≠ 3 ∨ s.liteMode c ≠ 1 ∨ s.railOk 1 = false) → exec
     (.contCheck c d) s = .next (s.close (s))) ∧
  (∀ (s : State) (g : Fin 4) (d : BitVec 10), s.awake = true → s.liteRuns = true → s.railOk 1 = true → 0 < d.toNat →
  d.toNat < 1023 → 
     let x := s.tin g;
     let u := (s.setFld LITE_TEMP.CODE d.toNat g).liteUpd fun l =>
       { l with tin := SMap.set LiteTin.reset l.tin g { x with stuck := 0, fine := min 4 (x.fine + 1), fault := x.fault && min 4 (x.fine + 1) != 4 } };
     exec (.tempSample g d) s = .next (s.close (forTo 16 (fun c t => t.when (t.fld LITE_CH.TSRC c == g.val)
       (·.liteLevel c)) u))) ∧
  (∀ (s : State) (g : Fin 4) (d : BitVec 10), s.awake = true → s.liteRuns = true → s.railOk 1 = true → (d.toNat = 0 ∨
  d.toNat = 1023) → 
     let x := s.tin g;
     let u := (s.setFld LITE_TEMP.CODE d.toNat g).liteUpd fun l =>
       { l with tin := SMap.set LiteTin.reset l.tin g { x with stuck := min 4 (x.stuck + 1), fine := 0, fault := x.fault || min 4 (x.stuck + 1) == 4 } };
     exec (.tempSample g d) s = .next (s.close (forTo 16 (fun c t => t.when (t.fld LITE_CH.TSRC c == g.val)
       (·.liteLevel c)) (if (s.tin g).fault = false ∧ min 4 ((s.tin g).stuck + 1) = 4 then u.raiseAt
       LITE_FLAG.TIN_FAULT 0 g none 0 else u)))) ∧
  (∀ (s : State) (g : Fin 4) (d : BitVec 10), (s.liteRuns = false ∨ s.railOk 1 = false) → exec (.tempSample g d) s =
     .next (s.close (s))) ∧
  (∀ (s : State) (c : Nat), s.liteLevel c = 
     let b := decide (s.liteFactor c < 1024);
     let u := if b ∧ s.on LITE_CHSTAT.DERATED c = false then s.raise LITE_CHFLAG.DERATE c else s;
     let v := u.setFld LITE_CHSTAT.DERATED (if b then 1 else 0) c;
     if v.cstate c = 1 ∨ (v.cstate c = 3 ∧ v.liteMode c = 1) then v.setDac c (v.liteDac c) else v) ∧
  (∀ (s : State) (c : Nat), s.on LITE_CH.DRT_EN c = false → s.liteFactor c = 1024) ∧
  (∀ (s : State) (c : Nat), s.on LITE_CH.DRT_EN c = true → (s.tin (s.fld LITE_CH.TSRC c)).fault = true → s.liteFactor c
     = s.fld LITE_LVL.FLOOR c) ∧
  (∀ (s : State) (c x : Nat), s.on LITE_CH.DRT_EN c = true → (s.tin (s.fld LITE_CH.TSRC c)).fault = false → x = (if
     s.on LITE_TINCFG.TPOL (s.fld LITE_CH.TSRC c) then 1023 - s.fld LITE_TEMP.CODE (s.fld LITE_CH.TSRC c) else s.fld
     LITE_TEMP.CODE (s.fld LITE_CH.TSRC c)) → s.liteFactor c = max (s.fld LITE_LVL.FLOOR c) (1024 - (x - s.fld
     LITE_LVL.KNEE c) * s.fld LITE_LVL.SLOPE c / 16)) ∧
  (∀ (s : State) (o : Sender) (c : Fin 16) (w : Word), s.reaches o LITE_CH c = true → exec (.liteChWrite o c w) s =
     .next (s.close ((s.busWrite o.origin (LITE_CH.at c) w).1))) ∧
  (∀ (s : State) (o : Sender) (c : Fin 16) (w : Word), s.reaches o LITE_CH c = true → s.unguarded o LITE_CH c w = true
     → exec (.liteChWrite o c w) s = .next (s.close ((s.store LITE_CH c 0 w).liteChWritten c (s.liteMode c)))) ∧
  (∀ (s : State) (c m : Nat), s.liteRuns = true → s.liteChWritten c m = (if s.liteMode c = 0 then s.liteStop c 0 else
     if s.cstate c = 0 ∨ s.cstate c = 5 then s.liteStart c else if s.cstate c = 2 ∨ s.cstate c = 3 ∨ m ≠ s.liteMode c
     then (s.liteStop c 0).liteStart c else s).liteLevel c) ∧
  (∀ (s : State) (c m : Nat), s.liteRuns = false → s.liteChWritten c m = s) ∧
  (∀ (s : State) (c : Nat), s.liteStart c = 
     let v := s.liteUpd fun l => { l with driven := if c ∈ l.driven then l.driven else c :: l.driven };
     let u := (v.setLiteCh c LiteCh.reset).setDac c (s.liteDac c);
     if u.liteMode c = 1 then (u.setCstate c 3).liteEn c true else u.setCstate c 1) ∧
  (∀ (s : State), s.awake = true → s.liteRuns = true → s.on LITE_MXCTL.EN = true → 
     let u := if s.lite.row = 0 then s.matrixFrame else s;
     let v := u.emit (.matrixRow s.lite.row u.rowCycles.2 u.rowCycles.1 (!u.on LITE_MXCTL.ROW_POL) (!u.on
       LITE_MXCTL.COL_POL) ((List.range 16).map fun c => u.ledCycles (u.lite.rows.getD s.lite.row 0 / 4 ^ c % 4)));
     exec .rowSlot s = .next (s.close (v.liteUpd fun l => { l with row := (s.lite.row + 1) % 8 }))) ∧
  (∀ (s : State), (s.liteRuns = false ∨ s.on LITE_MXCTL.EN = false) → exec .rowSlot s = .next (s.close (s))) ∧
  (∀ (s : State), s.on LITE_MXCTL.PEND = true → s.matrixFrame = ((s.liteUpd fun l => { l with frame := l.frame + 1 }).liteUpd
     fun l => { l with rows := (List.range 8).map fun r => s.fld LITE_MXROW.LEDS r }).setFld LITE_MXCTL.PEND 0) ∧
  (∀ (s : State), s.on LITE_MXCTL.PEND = false → s.matrixFrame = s.liteUpd fun l => { l with frame := l.frame + 1 }) ∧
  (∀ (s : State) (o : Sender) (w : Word), s.reaches o LITE_MXCTL = true → exec (.matrixSwap o w) s = .next (s.close
     (((s.store LITE_MXCTL 0 0 (putFields w [(LITE_MXCTL.SWAP, 1)])).matrixEn (s.on LITE_MXCTL.EN)).setFld
     LITE_MXCTL.PEND 1))) ∧
  (∀ (s : State) (o : Sender) (d : Fin 2) (w : Word), s.reaches o DISP_CTL d = true → exec (.dispEnable o d w) s =
     .next (s.close ((s.busWrite o.origin (DISP_CTL.at d) w).1))) ∧
  (∀ (s : State) (o : Sender) (d : Fin 2) (w : Word), s.reaches o DISP_CTL d = true → s.unguarded o DISP_CTL d w =
  true → 
     let u := (s.store DISP_CTL d 0 w).setFld DISP_CTL.EN (s.fld DISP_CTL.EN d) d;
     exec (.dispEnable o d w) s = .next (s.close (if DISP_CTL.EN.ext w = 0 then u.setFld DISP_CTL.EN 0 d else if
       u.timingOk d then (if u.dispUp d then (u.setFld DISP_CTL.EN 1 d).setDout d { u.dout d with driven := true }
       else u.setFld DISP_CTL.EN 1 d) else (u.setFld DISP_CTL.EN 0 d).raise DISP_FLAG.TIM_BAD d))) ∧
  (∀ (s : State), (s.fld DISP_HTIM.HACT 1 < 16 ∨ 4096 < s.fld DISP_HTIM.HACT 1 ∨ 4096 < s.fld DISP_VTIM.VACT 1 ∨ s.fld
     DISP_VTIM.VACT 1 = 0 ∨ s.fld DISP_CTL.DIV 1 < 4 ∨ s.fld DISP_HTIM.HFP 1 = 0 ∨ 8191 < s.htot 1) → s.timingOk 1 =
     false) ∧
  (∀ (s : State) (o : Sender) (d : Fin 2) (l : Fin 4) (w : Word), s.maySend o = true → s.regIso (DISP_LBASE.at d l) =
  false → 
     let u := s.setFld DISP_LBASE.BASE (DISP_LBASE.BASE.ext w) d l;
     exec (.layerBaseWrite o d l w) s = .next (s.close (u.setFld DISP_STAT.LAYER_INUSE (u.fld DISP_STAT.LAYER_INUSE
       d ||| 2 ^ l.val) d))) ∧
  (∀ (s : State) (d : Fin 2), s.awake = true → s.dispUp d = true → s.on DISP_CTL.EN d = true → ((s.dout d).scanning =
  false ∨ s.dispLine d + 1 = s.vtot d) → 
     let u := s.setDout d
       { scanning := true, layers := (List.range 4).map (s.latchLayer d), rects := (List.range 4).map (s.latchRect d), early := [], bgFrom := [], bad := [], tick := 0, fetched := 0, toFetch := linesToFetch (s.fld DISP_VTIM.VACT d) ((List.range 4).map (s.latchLayer d)), shown := 0, rows := [], crcs := List.replicate 4 (BitVec.allOnes 32), done := [], driven := (s.dout d).driven };
     let v := forTo 4 (fun l t => t.setFld DISP_LCUR.BASE (t.fld DISP_LBASE.BASE d l) d l) u;
     exec (.dispFrameStart d) s = .next (s.close ((((v.setFld DISP_STAT.LAYER_INUSE 0 d).addFld DISP_STAT.FRAME 1
       d).setFld DISP_STAT.LINE 0 d).raise DISP_FLAG.FSTART d))) ∧
  (∀ (s : State) (d : Fin 2), s.awake = true → s.dispUp d = true → s.on DISP_CTL.EN d = false → (s.dout d).scanning =
  true → s.dispLine d + 1 = s.vtot d → 
     let u := s.setDout d
       { scanning := false, layers := (List.range 4).map (s.latchLayer d), rects := (List.range 4).map (s.latchRect d), early := [], bgFrom := [], bad := [], tick := 0, fetched := 0, toFetch := linesToFetch (s.fld DISP_VTIM.VACT d) ((List.range 4).map (s.latchLayer d)), shown := 0, rows := [], crcs := List.replicate 4 (BitVec.allOnes 32), done := [], driven := (s.dout d).driven };
     let v := forTo 4 (fun l t => t.setFld DISP_LCUR.BASE (t.fld DISP_LBASE.BASE d l) d l) u;
     exec (.dispFrameStart d) s = .next (s.close ((((v.setFld DISP_STAT.LAYER_INUSE 0 d).addFld DISP_STAT.FRAME 1
       d).setFld DISP_STAT.LINE 0 d).raise DISP_FLAG.FSTART d))) ∧
  (∀ (s : State) (d : Fin 2), (s.dispUp d = false ∨ (s.on DISP_CTL.EN d = false ∧ (s.dout d).scanning = false) ∨
     ((s.dout d).scanning = true ∧ s.dispLine d + 1 ≠ s.vtot d)) → exec (.dispFrameStart d) s = .next (s.close (s))) ∧
  (∀ (s : State) (o y x : Nat), s.pixelPins o y x = (decide (x < s.fld DISP_HTIM.HSYNC o), decide (y < s.fld
     DISP_VTIM.VSYNC o), (if s.fld DISP_HTIM.HSYNC o + s.fld DISP_HTIM.HBP o ≤ x ∧ x < s.fld DISP_HTIM.HSYNC o + s.fld
     DISP_HTIM.HBP o + s.fld DISP_HTIM.HACT o ∧ s.fld DISP_VTIM.VSYNC o + s.fld DISP_VTIM.VBP o ≤ y ∧ y < s.fld
     DISP_VTIM.VSYNC o + s.fld DISP_VTIM.VBP o + s.fld DISP_VTIM.VACT o then (true, s.composed o (x - (s.fld
     DISP_HTIM.HSYNC o + s.fld DISP_HTIM.HBP o)) (y - (s.fld DISP_VTIM.VSYNC o + s.fld DISP_VTIM.VBP o))) else (false,
     ⟨0, 0, 0⟩)))) ∧
  (∀ (p : Nat) (x y : Rgb), x.r < 256 → x.g < 256 → x.b < 256 → blend 255 255 x y = x ∧ blend 0 p y x = x ∧ blend p 0 y
     x = x) ∧
  (∀ (s : State) (d : Fin 2) (k : Fin 4) (r : DRect) (x1 y1 : Nat), s.awake = true → (s.dout d).scanning = true →
  ¬k.val ∈ (s.dout d).done → (s.dout d).rects[k.val]? = some r → r.en = true → s.clipRect d r = some (x1, y1) → 
     let v := s.showTo d (y1 + 1);
     let x := v.setDout d { v.dout d with done := k.val :: (v.dout d).done };
     let c := x.rectCrc d k r x1 y1;
     let u := c.1.setFld DISP_RCRC.CRC c.2 d k;
     exec (.crcMism d k) s = .next (s.close (if c.2 = r.exp then u else if s.on DISP_FLAG.CRC_MISM d then u.raise
       DISP_FLAG.CRC_MISM d else (u.raise DISP_FLAG.CRC_MISM d).setFld DISP_ERRINFO.FRAME (u.fld DISP_STAT.FRAME d)
       d))) ∧
  (∀ (s : State) (d : Fin 2) (k : Fin 4), ((s.dout d).scanning = false ∨ k.val ∈ (s.dout d).done ∨ (s.dout
     d).rects[k.val]? = none) → exec (.crcMism d k) s = .next (s.close (s))) ∧
  (∀ (s : State) (d : Fin 2) (k : Fin 4) (r : DRect), (s.dout d).rects[k.val]? = some r → (r.en = false ∨ s.clipRect d
     r = none) → exec (.crcMism d k) s = .next (s.close (s))) ∧
  (∀ (s : State) (d k : Nat) (r : DRect) (x1 y1 : Nat), s.rectCrc d k r x1 y1 = if (s.dout d).hitRect r x1 y1 then
     (s.draw.2, s.draw.1.toNat % 2 ^ 32) else (s, (~~~ (s.dout d).crcs.getD k 0).toNat)) ∧
  (∀ (s : State) (d k y : Nat) (r : DRect) (x1 y1 : Nat), (s.dout d).rects[k]? = some r → r.en = true → s.clipRect d r
     = some (x1, y1) → r.y0 ≤ y → y ≤ y1 → s.crcLine d y k = (s.lineBytes d y r.x0 x1).foldl crc32Byte ((s.dout
     d).crcs.getD k (BitVec.allOnes 32))) ∧
  (∀ (s : State) (d : Fin 2) (y x : BitVec 16), s.awake = true → (s.dout d).scanning = true → (s.dout d).shown ≤
  y.toNat → (s.on DISP_FLAG.UNDERRUN d = true ∨ s.on DISP_FLAG.POISON d = true) → 
     let u := (s.raise DISP_FLAG.UNDERRUN d).setDout d
       { s.dout d with bgFrom := (s.dout d).bgFrom ++ [(y.toNat, x.toNat)] };
     exec (.dispUnderrun d y x) s = .next (s.close (u))) ∧
  (∀ (s : State) (d : Fin 2) (y x : BitVec 16), s.awake = true → (s.dout d).scanning = true → (s.dout d).shown ≤
  y.toNat → s.on DISP_FLAG.UNDERRUN d = false → s.on DISP_FLAG.POISON d = false → 
     let u := (s.raise DISP_FLAG.UNDERRUN d).setDout d
       { s.dout d with bgFrom := (s.dout d).bgFrom ++ [(y.toNat, x.toNat)] };
     exec (.dispUnderrun d y x) s = .next (s.close ((u.setFld DISP_ERRINFO.LINE (s.fld DISP_VTIM.VSYNC d + s.fld
       DISP_VTIM.VBP d + y.toNat) d).setFld DISP_ERRINFO.FRAME (s.fld DISP_STAT.FRAME d) d))) ∧
  (∀ (s : State) (d : Fin 2) (y x : BitVec 16), ((s.dout d).scanning = false ∨ y.toNat < (s.dout d).shown) → exec
     (.dispUnderrun d y x) s = .next (s.close (s)))

/-! ### Self-test, hot-plug, the copy engine and the test access port -/

/-- R389: BIST_START and BIST_ABORT write BIST_CTL: with its KEY and domains that may be tested a start queues them and
begins; a refused one sets REJ with why and which, kept from the first. R393: an abort of a run drops the domains
that wait. R386, R388: BIST_DOMAIN_DONE with no test in progress does nothing, otherwise the domain's result is
recorded, a failed domain of PD4 to PD9 is switched off, and the next one follows; after the run of the pin the
loader starts (R391). R406, R407: HP_REQ in NORMAL begins the quiesce with the print end that END names;
HP_PRINT_END and HP_END_TMO lead to PARK, PARKED and HP_PARK_TMO to DISABLE, HP_BAR_LEAVE_TIMEOUT to SAFE; HP_CANCEL
is recorded; HP_INSERT and RESUME lead to NORMAL; each does nothing in another state. R404: EXTEST drives,
SAMPLE_PRELOAD captures, IDCODE shifts out the identification, BYPASS its one flip-flop, DEBUG makes host accesses.
R396, R398: no two Kerf signals share a ball. The model's choices and readings in these clauses, no rules of the
spec: what a head, sensor or test reports is an operand (log entry 5); a command out of its state changes nothing
(log entry 6); the lowest reason and domain are shown (log entry 84); STATE and PROG are 0 outside a run (log entry
86); which end is print end (log entry 88); PARKED needs IDLE axes (log entry 89); when a domain's contents go (log
entry 97); a failed PD1 or PD2 in a pin run (log entry 184); the order of the boundary cells (log entry 215); inputs
of a lost rail are ignored (log entry 216). -/
def Obligations.SelfTestAndHotPlugFollowTheirStates : Prop :=
  (∀ (s : State) (o : Sender) (w : Word), s.reaches o BIST_CTL = true → exec (.bistStart o w) s = .next (s.close
     (s.bistCtl false (putFields w [(BIST_CTL.GO, 1)])))) ∧
  (∀ (s : State) (o : Sender) (key : BitVec 8), s.reaches o BIST_CTL = true → exec (.bistAbort o key) s = .next
     (s.close (s.bistCtl false (putFields (s.reg BIST_CTL) [(BIST_CTL.ABORT, 1), (BIST_CTL.KEY, key.toNat)])))) ∧
  (∀ (s : State) (l : Bool) (w : Word) (y d : Nat), BIST_CTL.GO.ext w = 1 → (s.bistWhy (BIST_CTL.KEY.ext w)
  (BIST_CTL.KIND.ext w) (BIST_CTL.DMASK.ext w)) = some (y, d) → (BIST_CTL.ABORT.ext w = 0 ∨ BIST_CTL.KEY.ext w ≠
  0x4B ∨ s.bistRuns = false) → s.bistCtl l w = (
     let u := s.raise BIST_FLAG.REJ;
     if s.on BIST_FLAG.REJ then u else (u.setFld BIST_REJINFO.DOMAIN d).setFld BIST_REJINFO.WHY y)) ∧
  (∀ (s : State) (l : Bool) (w : Word), BIST_CTL.GO.ext w = 1 → (s.bistWhy (BIST_CTL.KEY.ext w) (BIST_CTL.KIND.ext w)
     (BIST_CTL.DMASK.ext w)) = none → (BIST_CTL.ABORT.ext w = 0 ∨ BIST_CTL.KEY.ext w ≠ 0x4B ∨ s.bistRuns = false) →
     s.bistCtl l w = ((((s.setFld BIST_CTL.DMASK (BIST_CTL.DMASK.ext w)).setFld BIST_CTL.KIND (BIST_CTL.KIND.ext
     w)).bistUpd fun b => { b with kind := BIST_CTL.KIND.ext w, src := bit l }).setFld BIST_STAT.QUEUE
     (BIST_CTL.DMASK.ext w)).bistNext) ∧
  (∀ (s : State) (l : Bool) (w : Word), BIST_CTL.GO.ext w = 0 → (BIST_CTL.ABORT.ext w = 0 ∨ BIST_CTL.KEY.ext w ≠ 0x4B ∨
     s.bistRuns = false) → s.bistCtl l w = (s.setFld BIST_CTL.DMASK (BIST_CTL.DMASK.ext w)).setFld BIST_CTL.KIND
     (BIST_CTL.KIND.ext w)) ∧
  (∀ (s : State) (l : Bool) (w : Word), BIST_CTL.GO.ext w = 0 → BIST_CTL.ABORT.ext w = 1 → BIST_CTL.KEY.ext w = 0x4B →
     s.bistRuns = true → s.bistCtl l w = (((s.setFld BIST_CTL.DMASK (BIST_CTL.DMASK.ext w)).setFld BIST_CTL.KIND
     (BIST_CTL.KIND.ext w)).setFld BIST_STAT.QUEUE 0).raise BIST_FLAG.ABORTED) ∧
  (∀ (s : State) (l : Bool) (w : Word) (y d : Nat), BIST_CTL.GO.ext w = 1 → (s.bistWhy (BIST_CTL.KEY.ext w)
  (BIST_CTL.KIND.ext w) (BIST_CTL.DMASK.ext w)) = some (y, d) → BIST_CTL.ABORT.ext w = 1 → BIST_CTL.KEY.ext w =
  0x4B → s.bistRuns = true → s.bistCtl l w = ((
     let u := s.raise BIST_FLAG.REJ;
     if s.on BIST_FLAG.REJ then u else (u.setFld BIST_REJINFO.DOMAIN d).setFld BIST_REJINFO.WHY y).setFld
       BIST_STAT.QUEUE 0).raise BIST_FLAG.ABORTED) ∧
  (∀ (s : State) (x k m : Nat), (x ≠ 0x4B ∨ k = 0 → s.bistWhy x k m = some (1, 0)) ∧ (0 < k → s.bistRuns = true ∨ s.fld
     BIST_STAT.QUEUE ≠ 0 ∨ s.bist.spot ≠ [] → s.bistWhy 0x4B k m = some (2, 0)) ∧ (0 < k → s.bistRuns = false → s.fld
     BIST_STAT.QUEUE = 0 → s.bist.spot = [] → s.bistWhy 0x4B k 0 = some (3, 0))) ∧
  (∀ (s : State) (k : Nat) (d : Fin 10) (y : Nat), 0 < k → 4 ≤ d.val → s.bistRuns = false → s.fld BIST_STAT.QUEUE = 0 →
     s.bist.spot = [] → s.pdBusy = false → y = (if s.pdState d ≠ 2 then 4 else if (domainBlocks d).any (fun b =>
     !s.blkHeld b || s.blkPend b) then 5 else if !s.pdCond d || (d.val == 7 && s.fld DRAM_STAT.STATE == 5) then 6 else
     0) → s.bistWhy 0x4B k (2 ^ d.val) = if y = 0 then none else some (y, d.val)) ∧
  (∀ (s : State) (g : Word) (m : Option MemFail), s.awake = true → 
     let t := s.bistDone g m;
     exec (.bistDomainDone g m) s = .next (s.close (if t.cfg.waitBist && !t.bistRuns then (t.cfgUpd fun c =>
       { c with waitBist := false }).loadStart else t))) ∧
  (∀ (s : State) (g : Word) (m : Option MemFail), s.fld BIST_STAT.STATE < 2 → s.bistDone g m = s) ∧
  (∀ (s : State) (g : Word) (m : Option MemFail), 2 ≤ s.fld BIST_STAT.STATE → s.fld BIST_STAT.SRC < 2 → s.fld
  BIST_STAT.DOM ∉ [4, 8] → s.bistDone g m = 
     let d := s.fld BIST_STAT.DOM;
     let r := s.bistResult d s.bistKind g m;
     let u := ((r.1.setFld BIST_STAT.STATE 0).setFld BIST_STAT.PROG 0).bistLeave d r.2;
     (if u.fld BIST_STAT.QUEUE = 0 then u.raise BIST_FLAG.DONE else u).bistNext) ∧
  (∀ (s : State) (d : Nat) (p : Bool), s.bistLeave d p = if p = true ∨ d < 4 then s.bistReset d else (
     let u := s.bistReset d;
     (u.setFld SYS_PDCTL.REQ (if (u.fld SYS_PDCTL.REQ).testBit (d - 4) then u.fld SYS_PDCTL.REQ - 2 ^ (d - 4) else
       u.fld SYS_PDCTL.REQ)).pdSwitch d false)) ∧
  (∀ (s : State) (d : Fin 10) (k : Nat) (g : Word) (m : Option MemFail), 1 ≤ k → k ≤ 3 → (s.bistResult d k g m).2 =
     decide ((k = 2 ∨ g = bistSig d) ∧ (k = 1 ∨ m = none)) ∧ (s.bistResult d k g m).1.fld BIST_RES.LRUN d = k % 2 ∧
     (s.bistResult d k g m).1.fld BIST_RES.MRUN d = k / 2 ∧ (s.bistResult d k g m).1.fld BIST_RES.LPASS d = bit (k != 2
     && g == bistSig d) ∧ (s.bistResult d k g m).1.fld BIST_RES.MPASS d = bit (k != 1 && m == none) ∧ (s.bistResult d k
     g m).1.fld BIST_RES.NRUN d = min 65535 (s.fld BIST_RES.NRUN d + 1) ∧ ((s.bistResult d k g m).2 = false →
     (s.bistResult d k g m).1.on BIST_FLAG.FAIL = true)) ∧
  (∀ (s : State), s.clocked = true → s.hstate = 0 → s.fld SYS_HPCFG.END = 2 → 
     let u := (((s.setFld SYS_HPSTAT.REQ 1).raise SYS_HPFLAG.REQ).hpLog 2).hpGo 1;
     exec .hpReq s = .next (s.close (u.setFld SYS_JOBQ_CTL.ENABLE 0))) ∧
  (∀ (s : State), s.clocked = true → s.hstate = 0 → s.fld SYS_HPCFG.END = 1 → 
     let u := (((s.setFld SYS_HPSTAT.REQ 1).raise SYS_HPFLAG.REQ).hpLog 2).hpGo 1;
     exec .hpReq s = .next (s.close (if u.openPage = none then u.hpFlush.hpPrintEnd else u))) ∧
  (∀ (s : State), s.clocked = true → s.hstate = 0 → s.fld SYS_HPCFG.END ≠ 1 → s.fld SYS_HPCFG.END ≠ 2 → 
     let u := (((s.setFld SYS_HPSTAT.REQ 1).raise SYS_HPFLAG.REQ).hpLog 2).hpGo 1;
     exec .hpReq s = .next (s.close (u.hpFlush.hpPrintEnd))) ∧
  (∀ (s : State), (s.clocked = false ∨ s.hstate ≠ 0) → exec .hpReq s = .next (s.close (s.setFld SYS_HPSTAT.REQ 1))) ∧
  (∀ (s : State) (k : Nat), s.hpLog k = 
     let n := s.fld SYS_HPLOGWR.NEXT;
     let u := (s.setFld SYS_HPLOG.KIND k n).setFld SYS_HPLOG.HOLD (s.reg SYS_HOLD).toNat n;
     (u.setFld SYS_HPLOGWR.NEXT (n + 1)).setFld SYS_HPLOGWR.COUNT (min 65535 (s.fld SYS_HPLOGWR.COUNT + 1))) ∧
  (∀ (s : State) (v : Nat), v < 8 → (s.hpGo v).hstate = v ∧ (s.hpGo v).hpGates = (v == 5 || v == 6)) ∧
  (∀ (s : State), s.awake = true → s.hstate = 1 → s.jobRuns = false → exec .hpPrintEnd s = .next (s.close ((if s.fld
     SYS_HPCFG.END = 1 then s.hpFlush else s).hpPrintEnd))) ∧
  (∀ (s : State), (s.hstate ≠ 1 ∨ s.jobRuns = true) → exec .hpPrintEnd s = .next (s.close (s))) ∧
  (∀ (s : State), s.hpPrintEnd = (forTo 8 (fun n t => t.motHalt n) s).setFld SYS_HPSTAT.HSTATE 2) ∧
  (∀ (s : State), s.awake = true → s.hstate = 1 → exec .hpEndTmo s = .next (s.close (((s.raise
     SYS_HPFLAG.END_TMO).hpFlush).hpPrintEnd))) ∧
  (∀ (s : State), s.hstate ≠ 1 → exec .hpEndTmo s = .next (s.close (s))) ∧
  (∀ (s : State) (o : Sender), s.reaches o SYS_HPCTL = true → s.hstate = 2 → s.parkedOk = true → exec (.parked o) s =
     .next (s.close (s.hpDisable))) ∧
  (∀ (s : State) (o : Sender), s.reaches o SYS_HPCTL = true → (s.hstate ≠ 2 ∨ s.parkedOk = false) → exec (.parked o) s
     = .next (s.close (s))) ∧
  (∀ (s : State), s.parkedOk = true → ∀ n, n < 8 → (s.fld SYS_HPCFG.PARK_AXES).testBit n = true → s.astate n = 1 ∧
     (s.axis n).queue = []) ∧
  (∀ (s : State), s.awake = true → s.hstate = 2 → exec .hpParkTmo s = .next (s.close ((s.raise
     SYS_HPFLAG.PARK_TMO).hpDisable))) ∧
  (∀ (s : State), s.hstate ≠ 2 → exec .hpParkTmo s = .next (s.close (s))) ∧
  (∀ (s : State), s.hpDisable = 
     let u := forTo 8 (fun n t => (t.motCmdStop n).axisEnable n false) (s.hpGo 3);
     let v := (forTo 16 (fun c t => (t.setFld LITE_CH.MODE 0 c).liteStop c 0) u).hpGo 4;
     if v.bstate = 3 then v.barLeave else v.hpSafe) ∧
  (∀ (s : State), s.hpSafe = ((s.hpGo 5).raise SYS_HPFLAG.SAFE).hpLog 3) ∧
  (∀ (s : State), s.awake = true → s.hstate = 4 → exec .hpBarLeaveTimeout s = .next (s.close (s.hpSafe))) ∧
  (∀ (s : State), s.hstate ≠ 4 → exec .hpBarLeaveTimeout s = .next (s.close (s))) ∧
  (∀ (s : State), s.clocked = true → 1 ≤ s.hstate → s.hstate ≤ 4 → exec .hpCancel s = .next (s.close (((s.setFld
     SYS_HPSTAT.REQ 0).raise SYS_HPFLAG.CANCEL).hpLog 4))) ∧
  (∀ (s : State), (s.clocked = false ∨ s.hstate = 0 ∨ 5 ≤ s.hstate) → exec .hpCancel s = .next (s.close (s.setFld
     SYS_HPSTAT.REQ 0))) ∧
  (∀ (s : State), s.awake = true → s.hstate = 6 → s.on SYS_HPSTAT.REQ = false → exec .hpInsert s = .next (s.close
     (((s.raise SYS_HPFLAG.INSERT).hpLog 6).hpGo 0))) ∧
  (∀ (s : State), (s.hstate ≠ 6 ∨ s.on SYS_HPSTAT.REQ = true) → exec .hpInsert s = .next (s.close (s))) ∧
  (∀ (s : State) (o : Sender), s.reaches o SYS_HPCTL = true → s.hstate = 5 → s.on SYS_HPSTAT.REQ = false → exec
     (.resume o) s = .next (s.close ((s.hpLog 5).hpGo 0))) ∧
  (∀ (s : State) (o : Sender), s.reaches o SYS_HPCTL = true → (s.hstate ≠ 5 ∨ s.on SYS_HPSTAT.REQ = true) → exec
     (.resume o) s = .next (s.close (s))) ∧
  (∀ (s : State) (a b : List Bool), s.tapOn = true → 
     let u := ({ s with tap := { s.tap with ir := 0 } } : State).emit (.extest (bsrDriven s.tap.bsr));
     let v := u.bsrScan a b;
     exec (.extest a b) s = .next (s.close (v.emit (.extest (bsrDriven v.tap.bsr))))) ∧
  (∀ (s : State) (a b : List Bool), s.tapOn = true → exec (.samplePreload a b) s = .next (s.close (({ s with tap := { s.tap with ir := 1 } }
     : State).bsrScan a b))) ∧
  (∀ (s : State) (a b : List Bool), a.length = bsrDrives.length → s.bsrScan a b = (
     let u := s.emit (.tdo ((a ++ b).take b.length));
     { u with tap := { u.tap with bsr := (a ++ b).drop b.length } })) ∧
  (∀ (s : State), s.tapOn = true → exec .idcode s = .next (s.close (({ s with tap := { s.tap with ir := 2 } } :
     State).emit (.tdo ((List.range 32).map fun i => (0x148006D7 : Nat).testBit i))))) ∧
  (∀ (s : State) (c : BitVec 8) (b : List Bool), s.tapOn = true → exec (.bypass c b) s = .next (s.close (({ s with tap := { s.tap with ir := c.toNat } }
     : State).emit (.tdo ((false :: b).take b.length))))) ∧
  (∀ (s : State) (l : List (BitVec 24 × Option Word)), s.tapOn = true → s.awake = true → exec (.debugPort l) s = .next
     (s.close (forIn' l (fun e t => t.debugAccess (e.1.toNat, e.2)) { s with tap := { s.tap with ir := 16 } }))) ∧
  (∀ (s : State) (l : List (BitVec 24 × Option Word)), s.tapOn = true → s.awake = false → exec (.debugPort l) s = .next
     (s.close ({ s with tap := { s.tap with ir := 16 } }))) ∧
  (∀ (s : State) (a b : List Bool) (c : BitVec 8) (l : List (BitVec 24 × Option Word)), s.tapOn = false → exec (.extest
     a b) s = .next (s.close s) ∧ exec (.samplePreload a b) s = .next (s.close s) ∧ exec .idcode s = .next (s.close s)
     ∧ exec (.bypass c b) s = .next (s.close s) ∧ exec (.debugPort l) s = .next (s.close s)) ∧
  (∀ (s : State) (a : Nat) (w : Word), s.debugAccess (a, some w) = (s.busWrite .host a w).1 ∧ s.debugAccess (a, none) =
     (s.busRead .host a).1.emit (.regData (s.busRead .host a).2.1.code (s.busRead .host a).2.2)) ∧
  (∀ (p q : Nat) (g h : KerfSig), p < 48 → q < 48 → kerfBall p g = kerfBall q h → p = q ∧ g = h)

/-- R393: BIST_CTL written with ABORT and its KEY in a run leaves the domain under test to its test and every BIST_RES
as it is, drops the domains queued and sets ABORTED; with none queued the end of the domain under test ends the run,
and the results of the other domains stay as they are. -/
def Obligations.BistAbortEndsTheRunAfterItsDomain : Prop :=
  (∀ (s : State) (o : Sender), s.reaches o BIST_CTL = true → s.bistRuns = true → BIST_CTL.GO.ext (s.reg BIST_CTL) = 0 →
     ∃ t, exec (.bistAbort o 0x4B) s = .next (s.close t) ∧ t.fld BIST_STAT.QUEUE = 0 ∧ t.on BIST_FLAG.ABORTED = true ∧
     t.fld BIST_STAT.STATE = s.fld BIST_STAT.STATE ∧ t.fld BIST_STAT.DOM = s.fld BIST_STAT.DOM ∧ ∀ d, d < 10 → t.reg
     BIST_RES d = s.reg BIST_RES d) ∧
  (∀ (s : State) (g : Word) (m : Option MemFail), 2 ≤ s.fld BIST_STAT.STATE → s.fld BIST_STAT.QUEUE = 0 → s.bist.spot =
     [] → (s.bistDone g m).bistRuns = false ∧ ∀ d, d < 10 → d ≠ s.fld BIST_STAT.DOM → (s.bistDone g m).reg BIST_RES d =
     s.reg BIST_RES d)

/-- R431: GDMA_GO with valid segments starts the channel at its first unit, otherwise REJ with why and which segment.
GDMA_UNIT of the channel whose turn it is reads the next unit (DRAM, the Landing, or the fill pattern four times)
and writes it; a poisoned read ends the channel with POISON, a refused request with LOST. GDMA_DONE after the last
unit is DONE. R432: GDMA_ABORT ends a running channel with ABORTED, GDMA_DISABLE every one. R433: a unit copied
reads at the destination as at the source. A running channel's segments are not written (REJ). Out of turn, or
before its last unit, nothing happens. The model's choices and readings in these clauses, no rules of the spec: a
command out of its state changes nothing (log entry 6); memory without a stated content reads 0 (log entry 12); DRAM
without a stated content reads a free value (log entry 13); EN first, then the lowest reason (log entry 90); SEG and
UNITS advance at the next unit (log entry 91); DRAM without PD7 gives LOST (log entry 92); a unit's own bursts meet
the queue (log entry 207). -/
def Obligations.CopyEngineMovesItsUnits : Prop :=
  (∀ (s : State) (o : Sender) (c : Fin 16) (w : Word), s.reaches o GDMA_CHCTL c = true → s.gdmaWhy c
     (GDMA_CHCTL.NSEG.ext (putFields w [(GDMA_CHCTL.GO, 1)])) (GDMA_CHCTL.ABORT.ext (putFields w [(GDMA_CHCTL.GO, 1)])
     == 1) (reservedSet [GDMA_CHCTL.GO, GDMA_CHCTL.ABORT, GDMA_CHCTL.NSEG] (putFields w [(GDMA_CHCTL.GO, 1)])) = none →
     exec (.gdmaGo o c w) s = .next (s.close ((((s.setFld GDMA_CHCTL.NSEG (GDMA_CHCTL.NSEG.ext (putFields w
     [(GDMA_CHCTL.GO, 1)])) c).setFld GDMA_CHSTAT.SEG 0 c).setFld GDMA_CHSTAT.UNITS 0 c).gdmaState c 1))) ∧
  (∀ (s : State) (o : Sender) (c : Fin 16) (w : Word) (y k : Nat), s.reaches o GDMA_CHCTL c = true → s.gdmaWhy c
     (GDMA_CHCTL.NSEG.ext (putFields w [(GDMA_CHCTL.GO, 1)])) (GDMA_CHCTL.ABORT.ext (putFields w [(GDMA_CHCTL.GO, 1)])
     == 1) (reservedSet [GDMA_CHCTL.GO, GDMA_CHCTL.ABORT, GDMA_CHCTL.NSEG] (putFields w [(GDMA_CHCTL.GO, 1)])) = some
     (y, k) → exec (.gdmaGo o c w) s = .next (s.close (s.gdmaRej c k y))) ∧
  (∀ (s : State) (c n : Nat) (a b : Bool), (s.on GDMA_CTL.EN = false → s.gdmaWhy c n a b = some (1, 0)) ∧ (s.on
     GDMA_CTL.EN = true → s.gdmaBusy c = true → s.gdmaWhy c n a b = some (2, 0)) ∧ (s.on GDMA_CTL.EN = true →
     s.gdmaBusy c = false → n = 0 ∨ 16 < n → s.gdmaWhy c n a b = some (3, 0))) ∧
  (∀ (s : State) (c n : Nat) (a b : Bool) (k y : Nat), s.on GDMA_CTL.EN = true → s.gdmaBusy c = false → 1 ≤ n → n ≤ 16
     → s.gdmaWhy c n a b = some (y, k) → y ≠ 6 → k < n ∧ (y = 3 ∧ s.segUnits c k = 0 ∨ y = 4 ∧ s.segBeyond c k = true ∨
     y = 5 ∧ s.segOverlap c k = true)) ∧
  (∀ (s : State) (c k y : Nat), s.gdmaRej c k y = 
     let u := s.raise GDMA_FLAG.REJ;
     if s.on GDMA_FLAG.REJ ∨ s.on GDMA_FLAG.ERR then u else ((u.setFld GDMA_ERRINFO.CHAN c).setFld GDMA_ERRINFO.SEG
       k).setFld GDMA_ERRINFO.WHY y) ∧
  (∀ (s : State) (o : Sender) (c : Fin 16), s.reaches o GDMA_CHCTL c = true → (s.gdmaRuns c = false ∨ s.fld
     GDMA_CHCTL.NSEG c = 0) → exec (.gdmaAbort o c) s = .next (s.close ((s.setFld GDMA_CHCTL.NSEG 0 c).gdmaStop c))) ∧
  (∀ (s : State) (o : Sender) (c : Fin 16), s.reaches o GDMA_CHCTL c = true → s.gdmaRuns c = true → s.fld
     GDMA_CHCTL.NSEG c ≠ 0 → exec (.gdmaAbort o c) s = .next (s.close ((s.gdmaRej c 0 2).gdmaStop c))) ∧
  (∀ (s : State) (c : Nat), s.gdmaRuns c = true → s.gdmaStop c = (s.raise GDMA_CHFLAG.ABORTED c).gdmaOver c 3) ∧
  (∀ (s : State) (c : Nat), s.gdmaRuns c = false → s.gdmaStop c = s) ∧
  (∀ (s : State) (c v : Nat), s.gdmaOver c v = (
     let u := s.gdmaState c v;
     { u with gdma := { u.gdma with ended := SMap.set 0 u.gdma.ended c (s.cycle + 1) } })) ∧
  (∀ (s : State) (c : Fin 16) (v : Nat), v < 4 → (s.gdmaState c v).fld GDMA_CHSTAT.CSTATE c = v ∧ ((s.gdmaState c
     v).fld GDMA_STAT.BUSY).testBit c = (v == 1)) ∧
  (∀ (s : State) (o : Sender), s.reaches o GDMA_CTL = true → exec (.gdmaDisable o) s = .next (s.close (forTo 16 (fun c
     t => t.gdmaStop c) (s.setFld GDMA_CTL.EN 0)))) ∧
  (∀ (s : State) (r : Reg) (c k : Nat) (w : Word), s.gdmaRuns c = true → s.segWrite r c k w = s.gdmaRej c k 2) ∧
  (∀ (s : State) (c : Fin 16) (e : Bool) (k u : Nat) (bs : List Byte), s.awake = true → s.gdmaTurn = some c →
  s.gdmaNext c = some (k, u) → (((({ s with gdma := { s.gdma with last := c } } : State).setFld GDMA_CHSTAT.SEG k
  c).setFld GDMA_CHSTAT.UNITS u c).unitRead c k u e).2 = .bytes bs →
  ((((({ s with gdma := { s.gdma with last := c } } : State).setFld GDMA_CHSTAT.SEG k c).setFld GDMA_CHSTAT.UNITS u
  c).unitRead c k u e).1.unitWrite c k u bs).2 = true → 
     let r := ((({ s with gdma := { s.gdma with last := c } } : State).setFld GDMA_CHSTAT.SEG k c).setFld
       GDMA_CHSTAT.UNITS u c).unitRead c k u e;
     exec (.gdmaUnit c e) s = .next (s.close ((r.1.unitWrite c k u bs).1.setFld GDMA_CHSTAT.UNITS (u + 1) c))) ∧
  (∀ (s : State) (c : Fin 16) (e : Bool) (k u : Nat) (bs : List Byte), s.awake = true → s.gdmaTurn = some c →
  s.gdmaNext c = some (k, u) → (((({ s with gdma := { s.gdma with last := c } } : State).setFld GDMA_CHSTAT.SEG k
  c).setFld GDMA_CHSTAT.UNITS u c).unitRead c k u e).2 = .bytes bs →
  ((((({ s with gdma := { s.gdma with last := c } } : State).setFld GDMA_CHSTAT.SEG k c).setFld GDMA_CHSTAT.UNITS u
  c).unitRead c k u e).1.unitWrite c k u bs).2 = false → 
     let r := ((({ s with gdma := { s.gdma with last := c } } : State).setFld GDMA_CHSTAT.SEG k c).setFld
       GDMA_CHSTAT.UNITS u c).unitRead c k u e;
     exec (.gdmaUnit c e) s = .next (s.close ((r.1.unitWrite c k u bs).1.gdmaEnd c GDMA_CHFLAG.LOST 9))) ∧
  (∀ (s : State) (c : Fin 16) (e : Bool) (k u : Nat), s.awake = true → s.gdmaTurn = some c → s.gdmaNext c = some (k,
  u) → (((({ s with gdma := { s.gdma with last := c } } : State).setFld GDMA_CHSTAT.SEG k c).setFld
  GDMA_CHSTAT.UNITS u c).unitRead c k u e).2 = .poison → 
     let r := ((({ s with gdma := { s.gdma with last := c } } : State).setFld GDMA_CHSTAT.SEG k c).setFld
       GDMA_CHSTAT.UNITS u c).unitRead c k u e;
     exec (.gdmaUnit c e) s = .next (s.close (r.1.gdmaEnd c GDMA_CHFLAG.POISON 8))) ∧
  (∀ (s : State) (c : Fin 16) (e : Bool) (k u : Nat), s.awake = true → s.gdmaTurn = some c → s.gdmaNext c = some (k,
  u) → (((({ s with gdma := { s.gdma with last := c } } : State).setFld GDMA_CHSTAT.SEG k c).setFld
  GDMA_CHSTAT.UNITS u c).unitRead c k u e).2 = .lost → 
     let r := ((({ s with gdma := { s.gdma with last := c } } : State).setFld GDMA_CHSTAT.SEG k c).setFld
       GDMA_CHSTAT.UNITS u c).unitRead c k u e;
     exec (.gdmaUnit c e) s = .next (s.close (r.1.gdmaEnd c GDMA_CHFLAG.LOST 9))) ∧
  (∀ (s : State) (c : Nat) (f : Fld) (y : Nat), 0 < y → s.gdmaEnd c f y = ((if s.on GDMA_FLAG.REJ ∨ s.on GDMA_FLAG.ERR
     then s.raise GDMA_FLAG.ERR else (((s.raise GDMA_FLAG.ERR).setFld GDMA_ERRINFO.CHAN c).setFld GDMA_ERRINFO.SEG
     (s.fld GDMA_CHSTAT.SEG c)).setFld GDMA_ERRINFO.WHY y).raise f c).gdmaOver c 3) ∧
  (∀ (s : State) (c : Fin 16) (e : Bool), s.gdmaTurn ≠ some c.val → exec (.gdmaUnit c e) s = .next (s.close (s))) ∧
  (∀ (s : State) (c : Nat), s.gdmaTurn = some c → c < 16 ∧ s.gdmaRuns c = true ∧ s.gdmaNext c ≠ none) ∧
  (∀ (s : State) (c : Nat), s.gdmaNext c = if s.fld GDMA_CHSTAT.UNITS c < s.fld GDMA_SLEN.UNITS c (s.fld
     GDMA_CHSTAT.SEG c) then some (s.fld GDMA_CHSTAT.SEG c, s.fld GDMA_CHSTAT.UNITS c) else if s.fld GDMA_CHSTAT.SEG c
     + 1 < s.fld GDMA_CHCTL.NSEG c then some (s.fld GDMA_CHSTAT.SEG c + 1, 0) else none) ∧
  (∀ (s : State) (c : Fin 16), s.awake = true → s.gdmaRuns c = true → s.gdmaNext c = none → exec (.gdmaDone c) s =
     .next (s.close ((s.raise GDMA_CHFLAG.DONE c).gdmaOver c 2))) ∧
  (∀ (s : State) (c : Fin 16), (s.gdmaRuns c = false ∨ s.gdmaNext c ≠ none) → exec (.gdmaDone c) s = .next (s.close
     (s))) ∧
  (∀ (s : State) (c k u : Nat) (e : Bool), s.on GDMA_SSRC.FILL c k = true → (s.unitRead c k u e) = (s, .bytes
     ((List.replicate 4 (bytesBE 4 (s.fld GDMA_SFILL.PATTERN c k))).flatten))) ∧
  (∀ (s : State) (c k u : Nat), s.on GDMA_SSRC.FILL c k = false → s.on GDMA_SSRC.SPACE c k = true → s.unitRead c k u
     true = (s, .poison) ∧ s.unitRead c k u false = (s, .bytes (s.landingBytes ((s.fld GDMA_SSRC.ADDR c k + u) * 16)
     16))) ∧
  (∀ (s : State) (c k u : Nat) (e : Bool), s.on GDMA_SSRC.FILL c k = false → s.on GDMA_SSRC.SPACE c k = false → (
     let a := (s.fld GDMA_SSRC.ADDR c k + u) * 16;
     s.unitRead c k u e = ((s.dramRead 8 a 16).1, if s.dramGate a 16 ≠ .go ∧ s.dramGate a 16 ≠ .range then .lost
       else match (s.dramRead 8 a 16).2 with
     | some bs => .bytes bs
     | none => .poison))) ∧
  (∀ (s : State) (c k u : Nat) (bs : List Byte), s.on GDMA_SDST.SPACE c k = true → s.unitWrite c k u bs = (s.setLanding
     ((s.fld GDMA_SDST.ADDR c k + u) * 16) bs, true)) ∧
  (∀ (s : State) (c k u : Nat) (bs : List Byte), s.on GDMA_SDST.SPACE c k = false → s.unitWrite c k u bs = s.dramWrite
     8 ((s.fld GDMA_SDST.ADDR c k + u) * 16) bs) ∧
  (∀ (s : State) (c k u : Nat) (bs : List Byte), s.on GDMA_SDST.SPACE c k = false → s.dramGate ((s.fld GDMA_SDST.ADDR c
     k + u) * 16) bs.length = .go → (s.unitWrite c k u bs).2 = true ∧ ∀ i, i < bs.length → (s.unitWrite c k u
     bs).1.dramByte ((s.fld GDMA_SDST.ADDR c k + u) * 16 + i) = bs.getD i 0)
end

