-- ==== Sys2Proof/Laws/SMap.lean ====
section
/-! SUPPORT. The laws of the sparse tables: what a read gives after each operation, and that every operation keeps the
canonical form. -/

namespace Sys2Proof.Machine

variable {α : Type}

/-! ### Reads -/

@[simp] theorem SMap.get_nil (d : α) (a : Nat) : SMap.get d [] a = d := rfl

theorem SMap.get_cons (d : α) (k : Nat) (v : α) (t : SMap α) (a : Nat) :
    SMap.get d ((k, v) :: t) a = if k = a then v else SMap.get d t a := rfl

theorem SMap.get_erase_same (d : α) (m : SMap α) (a : Nat) : SMap.get d (SMap.erase m a) a = d := by
  induction m with
  | nil => rfl
  | cons e t ih =>
    obtain ⟨k, v⟩ := e
    by_cases h : k = a <;> simp [SMap.erase, SMap.get, h, ih]

theorem SMap.get_erase_other (d : α) (m : SMap α) {a b : Nat} (h : b ≠ a) :
    SMap.get d (SMap.erase m a) b = SMap.get d m b := by
  induction m with
  | nil => rfl
  | cons e t ih =>
    obtain ⟨k, v⟩ := e
    by_cases hk : k = a
    · simp [SMap.erase, SMap.get, hk, ih, Ne.symm h]
    · simp [SMap.erase, SMap.get, hk, ih]

theorem SMap.get_insert_same (d : α) (m : SMap α) (a : Nat) (v : α) : SMap.get d (SMap.insert m a v) a = v := by
  induction m with
  | nil => simp [SMap.insert, SMap.get]
  | cons e t ih =>
    obtain ⟨k, w⟩ := e
    by_cases h : a < k
    · simp [SMap.insert, SMap.get, h]
    · by_cases hk : k = a
      · simp [SMap.insert, SMap.get, hk]
      · simp [SMap.insert, SMap.get, h, hk, ih]

theorem SMap.get_insert_other (d : α) (m : SMap α) {a b : Nat} (v : α) (h : b ≠ a) :
    SMap.get d (SMap.insert m a v) b = SMap.get d m b := by
  induction m with
  | nil => simp [SMap.insert, SMap.get, Ne.symm h]
  | cons e t ih =>
    obtain ⟨k, w⟩ := e
    by_cases h1 : a < k
    · simp [SMap.insert, SMap.get, h1, Ne.symm h]
    · by_cases hk : k = a
      · simp [SMap.insert, SMap.get, hk, Ne.symm h]
      · simp [SMap.insert, SMap.get, h1, hk, ih]

/-- Read after write, same key. -/
@[simp] theorem SMap.get_set_same [DecidableEq α] (d : α) (m : SMap α) (a : Nat) (v : α) :
    SMap.get d (SMap.set d m a v) a = v := by
  unfold SMap.set
  split
  · next h => rw [SMap.get_erase_same, h]
  · exact SMap.get_insert_same d m a v

/-- Read after write, another key. -/
theorem SMap.get_set_other [DecidableEq α] (d d' : α) (m : SMap α) {a b : Nat} (v : α) (h : b ≠ a) :
    SMap.get d (SMap.set d' m a v) b = SMap.get d m b := by
  unfold SMap.set
  split
  · exact SMap.get_erase_other d m h
  · exact SMap.get_insert_other d m v h

theorem SMap.get_filter (d : α) (p : Nat → Bool) (m : SMap α) (a : Nat) :
    SMap.get d (m.filter fun e => p e.1) a = if p a then SMap.get d m a else d := by
  induction m with
  | nil => simp
  | cons e t ih =>
    obtain ⟨k, v⟩ := e
    by_cases hp : p k = true <;> by_cases hk : k = a
    · subst hk; simp [hp, SMap.get]
    · simp [hp, SMap.get, hk, ih]
    · subst hk; simp [hp, ih]
    · simp [hp, SMap.get, hk, ih]

/-- A read after a range is erased. -/
theorem SMap.get_eraseRange (d : α) (m : SMap α) (lo n a : Nat) :
    SMap.get d (SMap.eraseRange m lo n) a = if lo ≤ a ∧ a < lo + n then d else SMap.get d m a := by
  unfold SMap.eraseRange
  rw [SMap.get_filter d (fun k => decide (k < lo) || decide (lo + n ≤ k))]
  by_cases h : lo ≤ a ∧ a < lo + n
  · rw [if_pos h, if_neg]; simp; omega
  · rw [if_neg h, if_pos]; simp; omega

theorem SMap.get_append (d : α) (m n : SMap α) (a : Nat) (h : ∀ v, (a, v) ∉ m) :
    SMap.get d (m ++ n) a = SMap.get d n a := by
  induction m with
  | nil => rfl
  | cons e t ih =>
    obtain ⟨k, v⟩ := e
    have hk : k ≠ a := by
      intro hk
      exact h v (by simp [hk])
    simp only [List.cons_append, SMap.get, hk, if_false]
    exact ih fun w hw => h w (by simp [hw])

theorem SMap.get_append_left (d : α) (m n : SMap α) (a : Nat) (h : ∀ v, (a, v) ∉ n) :
    SMap.get d (m ++ n) a = SMap.get d m a := by
  induction m with
  | nil =>
    induction n with
    | nil => rfl
    | cons e t ih =>
      obtain ⟨k, v⟩ := e
      have hk : k ≠ a := fun hk => h v (by simp [hk])
      have := ih fun w hw => h w (by simp [hw])
      simpa [SMap.get, hk] using this
  | cons e t ih =>
    obtain ⟨k, v⟩ := e
    simp only [List.cons_append, SMap.get]
    split <;> simp_all

theorem SMap.mem_entries [DecidableEq α] (d : α) (vs : List α) :
    ∀ (lo k : Nat) (v : α), (k, v) ∈ SMap.entries d lo vs → lo ≤ k ∧ k < lo + vs.length ∧ v ≠ d := by
  induction vs with
  | nil => intro lo k v h; simp [SMap.entries] at h
  | cons w t ih =>
    intro lo k v h
    unfold SMap.entries at h
    split at h
    · have := ih _ _ _ h
      simp only [List.length_cons]; exact ⟨by omega, by omega, this.2.2⟩
    · next hw =>
      rcases List.mem_cons.1 h with h | h
      · cases h; simp; exact hw
      · have := ih _ _ _ h
        simp only [List.length_cons]; exact ⟨by omega, by omega, this.2.2⟩

theorem SMap.get_entries [DecidableEq α] (d : α) (vs : List α) :
    ∀ (lo a : Nat), SMap.get d (SMap.entries d lo vs) a = if lo ≤ a then vs.getD (a - lo) d else d := by
  induction vs with
  | nil => intro lo a; simp [SMap.entries]
  | cons w t ih =>
    intro lo a
    unfold SMap.entries
    by_cases ha : lo = a
    · subst ha
      split
      · next hw => rw [ih]; simp [hw]
      · simp [SMap.get]
    · have step : (if lo + 1 ≤ a then t.getD (a - (lo + 1)) d else d) = if lo ≤ a then (w :: t).getD (a - lo) d else d := by
        by_cases h : lo ≤ a
        · have h1 : lo + 1 ≤ a := by omega
          have h2 : a - lo = (a - (lo + 1)) + 1 := by omega
          rw [if_pos h, if_pos h1, h2, List.getD_cons_succ]
        · rw [if_neg h, if_neg (by omega)]
      split
      · rw [ih]; exact step
      · rw [SMap.get_cons, if_neg ha, ih]; exact step

/-- A read after a run of values is written. -/
theorem SMap.get_setRange [DecidableEq α] (d : α) (m : SMap α) (lo a : Nat) (vs : List α) :
    SMap.get d (SMap.setRange d m lo vs) a =
      if lo ≤ a ∧ a < lo + vs.length then vs.getD (a - lo) d else SMap.get d m a := by
  unfold SMap.setRange
  by_cases h1 : a < lo
  · rw [SMap.get_append_left, SMap.get_append_left, SMap.get_filter d (fun k => decide (k < lo))]
    · have hc : ¬(lo ≤ a ∧ a < lo + vs.length) := by omega
      rw [if_neg hc, if_pos (by simpa using h1)]
    · intro v hv; have := SMap.mem_entries d vs _ _ _ hv; omega
    · intro v hv; have := (List.mem_filter.1 hv).2; simp at this; omega
  · by_cases h2 : a < lo + vs.length
    · rw [SMap.get_append_left, SMap.get_append, SMap.get_entries]
      · rw [if_pos (by omega), if_pos (by omega)]
      · intro v hv; have := (List.mem_filter.1 hv).2; simp at this; omega
      · intro v hv; have := (List.mem_filter.1 hv).2; simp at this; omega
    · rw [SMap.get_append, SMap.get_filter d (fun k => decide (lo + vs.length ≤ k))]
      · have : lo + vs.length ≤ a := by omega
        have hc : ¬(lo ≤ a ∧ a < lo + vs.length) := by omega
        rw [if_neg hc, if_pos (by simpa using this)]
      · intro v hv
        rcases List.mem_append.1 hv with hv | hv
        · have := (List.mem_filter.1 hv).2; simp at this; omega
        · have := SMap.mem_entries d vs _ _ _ hv; omega

/-- A run read byte by byte. -/
theorem SMap.range_eq (d : α) (m : SMap α) (lo n : Nat) :
    SMap.range d m lo n = (List.range' lo n).map (SMap.get d m) := by
  unfold SMap.range
  apply List.map_congr_left
  intro a ha
  have h := List.mem_range'.1 ha
  rw [SMap.get_filter d (fun k => decide (lo ≤ k) && decide (k < lo + n))]
  obtain ⟨i, hi, rfl⟩ := h
  simp; omega

/-! ### The canonical form -/

/-- The canonical form as a property: keys rise from a lower bound on, no entry is its key's default. -/
def SMap.Rises (d : Nat → α) : Option Nat → SMap α → Prop
  | _, [] => True
  | lo, (k, v) :: t => (∀ l, lo = some l → l < k) ∧ v ≠ d k ∧ SMap.Rises d (some k) t

theorem SMap.wfFrom_iff [DecidableEq α] (d : Nat → α) (m : SMap α) :
    ∀ lo, SMap.wfFrom d lo m = true ↔ SMap.Rises d lo m := by
  induction m with
  | nil => intro lo; cases lo <;> simp [SMap.wfFrom, SMap.Rises]
  | cons e t ih =>
    obtain ⟨k, v⟩ := e
    intro lo
    cases lo <;> simp [SMap.wfFrom, SMap.Rises, ih, and_assoc]

theorem SMap.Rises.weaken {d : Nat → α} {m : SMap α} {a : Nat} {lo : Option Nat} (h : SMap.Rises d (some a) m)
    (hl : ∀ l, lo = some l → l ≤ a) : SMap.Rises d lo m := by
  cases m with
  | nil => trivial
  | cons e t =>
    obtain ⟨k, v⟩ := e
    refine ⟨fun l hlo => ?_, h.2.1, h.2.2⟩
    have := h.1 a rfl
    have := hl l hlo
    omega

theorem SMap.Rises.erase {d : Nat → α} {m : SMap α} (a : Nat) :
    ∀ {lo}, SMap.Rises d lo m → SMap.Rises d lo (SMap.erase m a) := by
  induction m with
  | nil => intro lo h; exact h
  | cons e t ih =>
    obtain ⟨k, v⟩ := e
    intro lo h
    unfold SMap.erase
    split
    · exact ih (h.2.2.weaken fun l hl => Nat.le_of_lt (h.1 l hl))
    · exact ⟨h.1, h.2.1, ih h.2.2⟩

theorem SMap.Rises.insert {d : Nat → α} {m : SMap α} {a : Nat} {v : α} (hv : v ≠ d a) :
    ∀ {lo}, SMap.Rises d lo m → (∀ l, lo = some l → l < a) → SMap.Rises d lo (SMap.insert m a v) := by
  induction m with
  | nil => intro lo _ hl; exact ⟨hl, hv, trivial⟩
  | cons e t ih =>
    obtain ⟨k, w⟩ := e
    intro lo h hl
    unfold SMap.insert
    split
    · next hk => exact ⟨hl, hv, ⟨fun l hlo => (by cases hlo; exact hk), h.2.1, h.2.2⟩⟩
    · next hk =>
      split
      · next he => subst he; exact ⟨h.1, hv, h.2.2⟩
      · next he =>
        refine ⟨h.1, h.2.1, ih h.2.2 fun l hlo => ?_⟩
        cases hlo; omega

theorem SMap.Rises.filter {d : Nat → α} {m : SMap α} (p : Nat × α → Bool) :
    ∀ {lo}, SMap.Rises d lo m → SMap.Rises d lo (m.filter p) := by
  induction m with
  | nil => intro lo h; exact h
  | cons e t ih =>
    obtain ⟨k, v⟩ := e
    intro lo h
    rw [List.filter_cons]
    split
    · exact ⟨h.1, h.2.1, ih h.2.2⟩
    · exact ih (h.2.2.weaken fun l hl => Nat.le_of_lt (h.1 l hl))

theorem SMap.Rises.append {d : Nat → α} {m n : SMap α} {b : Nat} (hn : ∀ k v, (k, v) ∈ m → k < b)
    (h2 : ∀ lo, (∀ l, lo = some l → l < b) → SMap.Rises d lo n) :
    ∀ {lo}, SMap.Rises d lo m → (∀ l, lo = some l → l < b) → SMap.Rises d lo (m ++ n) := by
  induction m with
  | nil => intro lo _ hl; exact h2 lo hl
  | cons e t ih =>
    obtain ⟨k, v⟩ := e
    intro lo h hl
    refine ⟨h.1, h.2.1, ih (fun k' v' hm => hn k' v' (by simp [hm])) h.2.2 fun l hlo => ?_⟩
    cases hlo
    exact hn k v (by simp)

/-- Writing a value keeps the canonical form. -/
theorem SMap.wfBy_set [DecidableEq α] (d : Nat → α) (m : SMap α) (a : Nat) (v : α) (h : SMap.wfBy d m = true) :
    SMap.wfBy d (SMap.set (d a) m a v) = true := by
  have h := (SMap.wfFrom_iff d m none).1 h
  apply (SMap.wfFrom_iff d _ none).2
  unfold SMap.set
  split
  · exact h.erase a
  · next hv => exact h.insert hv fun l hl => by cases hl

/-- Writing a value keeps the canonical form of a table with one default. -/
theorem SMap.wf_set [DecidableEq α] (d : α) (m : SMap α) (a : Nat) (v : α) (h : SMap.wf d m = true) :
    SMap.wf d (SMap.set d m a v) = true := SMap.wfBy_set (fun _ => d) m a v h

/-- Erasing a range keeps the canonical form. -/
theorem SMap.wfBy_eraseRange [DecidableEq α] (d : Nat → α) (m : SMap α) (lo n : Nat) (h : SMap.wfBy d m = true) :
    SMap.wfBy d (SMap.eraseRange m lo n) = true :=
  (SMap.wfFrom_iff d _ none).2 (((SMap.wfFrom_iff d m none).1 h).filter _)

theorem SMap.Rises.bound {d : Nat → α} {m : SMap α} {k : Nat} {v : α} :
    ∀ {lo l}, SMap.Rises d lo m → lo = some l → (k, v) ∈ m → l < k := by
  induction m with
  | nil => intro lo l _ _ h; simp at h
  | cons e t ih =>
    obtain ⟨k', v'⟩ := e
    intro lo l h hlo hm
    have h1 := h.1 l hlo
    rcases List.mem_cons.1 hm with hm | hm
    · cases hm; exact h1
    · have := ih h.2.2 rfl hm; omega

theorem SMap.Rises.lower {d : Nat → α} {m : SMap α} {b : Nat} (hb : ∀ k v, (k, v) ∈ m → b ≤ k) {lo' : Option Nat}
    (h : SMap.Rises d lo' m) : ∀ lo, (∀ l, lo = some l → l < b) → SMap.Rises d lo m := by
  intro lo hl
  cases m with
  | nil => trivial
  | cons e t =>
    obtain ⟨k, v⟩ := e
    refine ⟨fun l hlo => ?_, h.2.1, h.2.2⟩
    have := hb k v (by simp)
    have := hl l hlo
    omega

theorem SMap.rises_entries [DecidableEq α] (d : α) (vs : List α) :
    ∀ (b : Nat) (lo : Option Nat), (∀ l, lo = some l → l < b) → SMap.Rises (fun _ => d) lo (SMap.entries d b vs) := by
  induction vs with
  | nil => intro b lo _; trivial
  | cons w t ih =>
    intro b lo hl
    unfold SMap.entries
    split
    · exact ih (b + 1) lo fun l h => by have := hl l h; omega
    · next hw => exact ⟨hl, hw, ih (b + 1) (some b) fun l h => by cases h; omega⟩

/-- Writing a run of values keeps the canonical form. -/
theorem SMap.wf_setRange [DecidableEq α] (d : α) (m : SMap α) (lo : Nat) (vs : List α) (h : SMap.wf d m = true) :
    SMap.wf d (SMap.setRange d m lo vs) = true := by
  have h := (SMap.wfFrom_iff (fun _ => d) m none).1 h
  apply (SMap.wfFrom_iff (fun _ => d) _ none).2
  unfold SMap.setRange
  rw [List.append_assoc]
  refine SMap.Rises.append (b := lo) ?_ ?_ (h.filter _) (fun l hl => by cases hl)
  · intro k v hm; have := (List.mem_filter.1 hm).2; simpa using this
  · intro l hl
    refine SMap.Rises.append (b := lo + vs.length) ?_ ?_ (SMap.rises_entries d vs lo l hl) ?_
    · intro k v hm; exact (SMap.mem_entries d vs _ _ _ hm).2.1
    · refine SMap.Rises.lower ?_ (h.filter _)
      intro k v hm; have := (List.mem_filter.1 hm).2; simpa using this
    · intro x hx; have := hl x hx; omega

/-- Erasing a key below every key of the table changes nothing. -/
theorem SMap.erase_of_lt {d : Nat → α} {m : SMap α} {a : Nat} :
    ∀ {lo l}, SMap.Rises d lo m → lo = some l → a ≤ l → SMap.erase m a = m := by
  induction m with
  | nil => intros; rfl
  | cons e t ih =>
    obtain ⟨k, v⟩ := e
    intro lo l h hlo hal
    have hk := h.1 l hlo
    unfold SMap.erase
    rw [if_neg (by omega), ih h.2.2 rfl (by omega)]

end Sys2Proof.Machine
end

