-- ==== Sys2Proof/Laws/State.lean ====
section
/-! SUPPORT. One lemma per field and update of State: an update of one field leaves the others as they are. Each is true
by unfolding; with them no proof unfolds a record update. -/

namespace Sys2Proof.Machine

/-! ### setReg -/

section
variable (s : State) (r : Reg) (w : Word) (i j : Nat)
@[simp] theorem State.setReg_pending : (s.setReg r w i j).pending = s.pending := rfl
@[simp] theorem State.setReg_out : (s.setReg r w i j).out = s.out := rfl
@[simp] theorem State.setReg_freeCtr : (s.setReg r w i j).freeCtr = s.freeCtr := rfl
@[simp] theorem State.setReg_cycle : (s.setReg r w i j).cycle = s.cycle := rfl
@[simp] theorem State.setReg_holdAcc : (s.setReg r w i j).holdAcc = s.holdAcc := rfl
@[simp] theorem State.setReg_pos : (s.setReg r w i j).pos = s.pos := rfl
@[simp] theorem State.setReg_jq : (s.setReg r w i j).jq = s.jq := rfl
@[simp] theorem State.setReg_skid : (s.setReg r w i j).skid = s.skid := rfl
@[simp] theorem State.setReg_codec : (s.setReg r w i j).codec = s.codec := rfl
@[simp] theorem State.setReg_fire : (s.setReg r w i j).fire = s.fire := rfl
@[simp] theorem State.setReg_scan : (s.setReg r w i j).scan = s.scan := rfl
@[simp] theorem State.setReg_cal : (s.setReg r w i j).cal = s.cal := rfl
@[simp] theorem State.setReg_txn : (s.setReg r w i j).txn = s.txn := rfl
@[simp] theorem State.setReg_hlnk : (s.setReg r w i j).hlnk = s.hlnk := rfl
@[simp] theorem State.setReg_dram : (s.setReg r w i j).dram = s.dram := rfl
@[simp] theorem State.setReg_disp : (s.setReg r w i j).disp = s.disp := rfl
@[simp] theorem State.setReg_bar : (s.setReg r w i j).bar = s.bar := rfl
@[simp] theorem State.setReg_net : (s.setReg r w i j).net = s.net := rfl
@[simp] theorem State.setReg_scaler : (s.setReg r w i j).scaler = s.scaler := rfl
@[simp] theorem State.setReg_landing : (s.setReg r w i j).landing = s.landing := rfl
@[simp] theorem State.setReg_aonHold : (s.setReg r w i j).aonHold = s.aonHold := rfl
@[simp] theorem State.setReg_mot : (s.setReg r w i j).mot = s.mot := rfl
@[simp] theorem State.setReg_lite : (s.setReg r w i j).lite = s.lite := rfl
@[simp] theorem State.setReg_vis : (s.setReg r w i j).vis = s.vis := rfl
@[simp] theorem State.setReg_sys : (s.setReg r w i j).sys = s.sys := rfl
@[simp] theorem State.setReg_cfg : (s.setReg r w i j).cfg = s.cfg := rfl
@[simp] theorem State.setReg_stump : (s.setReg r w i j).stump = s.stump := rfl
@[simp] theorem State.setReg_stumpBad : (s.setReg r w i j).stumpBad = s.stumpBad := rfl
@[simp] theorem State.setReg_ward : (s.setReg r w i j).ward = s.ward := rfl
@[simp] theorem State.setReg_bist : (s.setReg r w i j).bist = s.bist := rfl
@[simp] theorem State.setReg_gdma : (s.setReg r w i j).gdma = s.gdma := rfl
@[simp] theorem State.setReg_tap : (s.setReg r w i j).tap = s.tap := rfl
@[simp] theorem State.setReg_evt : (s.setReg r w i j).evt = s.evt := rfl
@[simp] theorem State.setReg_clrNow : (s.setReg r w i j).clrNow = s.clrNow := rfl
@[simp] theorem State.setReg_eventN : (s.setReg r w i j).eventN = s.eventN := rfl
end

/-! ### setFld -/

section
variable (s : State) (f : Fld) (v i j : Nat)
@[simp] theorem State.setFld_pending : (s.setFld f v i j).pending = s.pending := rfl
@[simp] theorem State.setFld_out : (s.setFld f v i j).out = s.out := rfl
@[simp] theorem State.setFld_freeCtr : (s.setFld f v i j).freeCtr = s.freeCtr := rfl
@[simp] theorem State.setFld_cycle : (s.setFld f v i j).cycle = s.cycle := rfl
@[simp] theorem State.setFld_holdAcc : (s.setFld f v i j).holdAcc = s.holdAcc := rfl
@[simp] theorem State.setFld_pos : (s.setFld f v i j).pos = s.pos := rfl
@[simp] theorem State.setFld_jq : (s.setFld f v i j).jq = s.jq := rfl
@[simp] theorem State.setFld_skid : (s.setFld f v i j).skid = s.skid := rfl
@[simp] theorem State.setFld_codec : (s.setFld f v i j).codec = s.codec := rfl
@[simp] theorem State.setFld_fire : (s.setFld f v i j).fire = s.fire := rfl
@[simp] theorem State.setFld_scan : (s.setFld f v i j).scan = s.scan := rfl
@[simp] theorem State.setFld_cal : (s.setFld f v i j).cal = s.cal := rfl
@[simp] theorem State.setFld_txn : (s.setFld f v i j).txn = s.txn := rfl
@[simp] theorem State.setFld_hlnk : (s.setFld f v i j).hlnk = s.hlnk := rfl
@[simp] theorem State.setFld_dram : (s.setFld f v i j).dram = s.dram := rfl
@[simp] theorem State.setFld_disp : (s.setFld f v i j).disp = s.disp := rfl
@[simp] theorem State.setFld_bar : (s.setFld f v i j).bar = s.bar := rfl
@[simp] theorem State.setFld_net : (s.setFld f v i j).net = s.net := rfl
@[simp] theorem State.setFld_scaler : (s.setFld f v i j).scaler = s.scaler := rfl
@[simp] theorem State.setFld_landing : (s.setFld f v i j).landing = s.landing := rfl
@[simp] theorem State.setFld_aonHold : (s.setFld f v i j).aonHold = s.aonHold := rfl
@[simp] theorem State.setFld_mot : (s.setFld f v i j).mot = s.mot := rfl
@[simp] theorem State.setFld_lite : (s.setFld f v i j).lite = s.lite := rfl
@[simp] theorem State.setFld_vis : (s.setFld f v i j).vis = s.vis := rfl
@[simp] theorem State.setFld_sys : (s.setFld f v i j).sys = s.sys := rfl
@[simp] theorem State.setFld_cfg : (s.setFld f v i j).cfg = s.cfg := rfl
@[simp] theorem State.setFld_stump : (s.setFld f v i j).stump = s.stump := rfl
@[simp] theorem State.setFld_stumpBad : (s.setFld f v i j).stumpBad = s.stumpBad := rfl
@[simp] theorem State.setFld_ward : (s.setFld f v i j).ward = s.ward := rfl
@[simp] theorem State.setFld_bist : (s.setFld f v i j).bist = s.bist := rfl
@[simp] theorem State.setFld_gdma : (s.setFld f v i j).gdma = s.gdma := rfl
@[simp] theorem State.setFld_tap : (s.setFld f v i j).tap = s.tap := rfl
@[simp] theorem State.setFld_evt : (s.setFld f v i j).evt = s.evt := rfl
@[simp] theorem State.setFld_clrNow : (s.setFld f v i j).clrNow = s.clrNow := rfl
@[simp] theorem State.setFld_eventN : (s.setFld f v i j).eventN = s.eventN := rfl
end

/-! ### setWord -/

section
variable (s : State) (a : Nat) (w : Word)
@[simp] theorem State.setWord_pending : (s.setWord a w).pending = s.pending := rfl
@[simp] theorem State.setWord_out : (s.setWord a w).out = s.out := rfl
@[simp] theorem State.setWord_freeCtr : (s.setWord a w).freeCtr = s.freeCtr := rfl
@[simp] theorem State.setWord_cycle : (s.setWord a w).cycle = s.cycle := rfl
@[simp] theorem State.setWord_holdAcc : (s.setWord a w).holdAcc = s.holdAcc := rfl
@[simp] theorem State.setWord_pos : (s.setWord a w).pos = s.pos := rfl
@[simp] theorem State.setWord_jq : (s.setWord a w).jq = s.jq := rfl
@[simp] theorem State.setWord_skid : (s.setWord a w).skid = s.skid := rfl
@[simp] theorem State.setWord_codec : (s.setWord a w).codec = s.codec := rfl
@[simp] theorem State.setWord_fire : (s.setWord a w).fire = s.fire := rfl
@[simp] theorem State.setWord_scan : (s.setWord a w).scan = s.scan := rfl
@[simp] theorem State.setWord_cal : (s.setWord a w).cal = s.cal := rfl
@[simp] theorem State.setWord_txn : (s.setWord a w).txn = s.txn := rfl
@[simp] theorem State.setWord_hlnk : (s.setWord a w).hlnk = s.hlnk := rfl
@[simp] theorem State.setWord_dram : (s.setWord a w).dram = s.dram := rfl
@[simp] theorem State.setWord_disp : (s.setWord a w).disp = s.disp := rfl
@[simp] theorem State.setWord_bar : (s.setWord a w).bar = s.bar := rfl
@[simp] theorem State.setWord_net : (s.setWord a w).net = s.net := rfl
@[simp] theorem State.setWord_scaler : (s.setWord a w).scaler = s.scaler := rfl
@[simp] theorem State.setWord_landing : (s.setWord a w).landing = s.landing := rfl
@[simp] theorem State.setWord_aonHold : (s.setWord a w).aonHold = s.aonHold := rfl
@[simp] theorem State.setWord_mot : (s.setWord a w).mot = s.mot := rfl
@[simp] theorem State.setWord_lite : (s.setWord a w).lite = s.lite := rfl
@[simp] theorem State.setWord_vis : (s.setWord a w).vis = s.vis := rfl
@[simp] theorem State.setWord_sys : (s.setWord a w).sys = s.sys := rfl
@[simp] theorem State.setWord_cfg : (s.setWord a w).cfg = s.cfg := rfl
@[simp] theorem State.setWord_stump : (s.setWord a w).stump = s.stump := rfl
@[simp] theorem State.setWord_stumpBad : (s.setWord a w).stumpBad = s.stumpBad := rfl
@[simp] theorem State.setWord_ward : (s.setWord a w).ward = s.ward := rfl
@[simp] theorem State.setWord_bist : (s.setWord a w).bist = s.bist := rfl
@[simp] theorem State.setWord_gdma : (s.setWord a w).gdma = s.gdma := rfl
@[simp] theorem State.setWord_tap : (s.setWord a w).tap = s.tap := rfl
@[simp] theorem State.setWord_evt : (s.setWord a w).evt = s.evt := rfl
@[simp] theorem State.setWord_clrNow : (s.setWord a w).clrNow = s.clrNow := rfl
@[simp] theorem State.setWord_eventN : (s.setWord a w).eventN = s.eventN := rfl
end

/-! ### resetFld -/

section
variable (s : State) (f : Fld) (i j : Nat)
@[simp] theorem State.resetFld_pending : (s.resetFld f i j).pending = s.pending := rfl
@[simp] theorem State.resetFld_out : (s.resetFld f i j).out = s.out := rfl
@[simp] theorem State.resetFld_freeCtr : (s.resetFld f i j).freeCtr = s.freeCtr := rfl
@[simp] theorem State.resetFld_cycle : (s.resetFld f i j).cycle = s.cycle := rfl
@[simp] theorem State.resetFld_holdAcc : (s.resetFld f i j).holdAcc = s.holdAcc := rfl
@[simp] theorem State.resetFld_pos : (s.resetFld f i j).pos = s.pos := rfl
@[simp] theorem State.resetFld_jq : (s.resetFld f i j).jq = s.jq := rfl
@[simp] theorem State.resetFld_skid : (s.resetFld f i j).skid = s.skid := rfl
@[simp] theorem State.resetFld_codec : (s.resetFld f i j).codec = s.codec := rfl
@[simp] theorem State.resetFld_fire : (s.resetFld f i j).fire = s.fire := rfl
@[simp] theorem State.resetFld_scan : (s.resetFld f i j).scan = s.scan := rfl
@[simp] theorem State.resetFld_cal : (s.resetFld f i j).cal = s.cal := rfl
@[simp] theorem State.resetFld_txn : (s.resetFld f i j).txn = s.txn := rfl
@[simp] theorem State.resetFld_hlnk : (s.resetFld f i j).hlnk = s.hlnk := rfl
@[simp] theorem State.resetFld_dram : (s.resetFld f i j).dram = s.dram := rfl
@[simp] theorem State.resetFld_disp : (s.resetFld f i j).disp = s.disp := rfl
@[simp] theorem State.resetFld_bar : (s.resetFld f i j).bar = s.bar := rfl
@[simp] theorem State.resetFld_net : (s.resetFld f i j).net = s.net := rfl
@[simp] theorem State.resetFld_scaler : (s.resetFld f i j).scaler = s.scaler := rfl
@[simp] theorem State.resetFld_landing : (s.resetFld f i j).landing = s.landing := rfl
@[simp] theorem State.resetFld_aonHold : (s.resetFld f i j).aonHold = s.aonHold := rfl
@[simp] theorem State.resetFld_mot : (s.resetFld f i j).mot = s.mot := rfl
@[simp] theorem State.resetFld_lite : (s.resetFld f i j).lite = s.lite := rfl
@[simp] theorem State.resetFld_vis : (s.resetFld f i j).vis = s.vis := rfl
@[simp] theorem State.resetFld_sys : (s.resetFld f i j).sys = s.sys := rfl
@[simp] theorem State.resetFld_cfg : (s.resetFld f i j).cfg = s.cfg := rfl
@[simp] theorem State.resetFld_stump : (s.resetFld f i j).stump = s.stump := rfl
@[simp] theorem State.resetFld_stumpBad : (s.resetFld f i j).stumpBad = s.stumpBad := rfl
@[simp] theorem State.resetFld_ward : (s.resetFld f i j).ward = s.ward := rfl
@[simp] theorem State.resetFld_bist : (s.resetFld f i j).bist = s.bist := rfl
@[simp] theorem State.resetFld_gdma : (s.resetFld f i j).gdma = s.gdma := rfl
@[simp] theorem State.resetFld_tap : (s.resetFld f i j).tap = s.tap := rfl
@[simp] theorem State.resetFld_evt : (s.resetFld f i j).evt = s.evt := rfl
@[simp] theorem State.resetFld_clrNow : (s.resetFld f i j).clrNow = s.clrNow := rfl
@[simp] theorem State.resetFld_eventN : (s.resetFld f i j).eventN = s.eventN := rfl
end

/-! ### setBlkBit -/

section
variable (s : State) (r0 r1 : Reg) (b : Nat) (v : Bool)
@[simp] theorem State.setBlkBit_pending : (s.setBlkBit r0 r1 b v).pending = s.pending := rfl
@[simp] theorem State.setBlkBit_out : (s.setBlkBit r0 r1 b v).out = s.out := rfl
@[simp] theorem State.setBlkBit_freeCtr : (s.setBlkBit r0 r1 b v).freeCtr = s.freeCtr := rfl
@[simp] theorem State.setBlkBit_cycle : (s.setBlkBit r0 r1 b v).cycle = s.cycle := rfl
@[simp] theorem State.setBlkBit_holdAcc : (s.setBlkBit r0 r1 b v).holdAcc = s.holdAcc := rfl
@[simp] theorem State.setBlkBit_pos : (s.setBlkBit r0 r1 b v).pos = s.pos := rfl
@[simp] theorem State.setBlkBit_jq : (s.setBlkBit r0 r1 b v).jq = s.jq := rfl
@[simp] theorem State.setBlkBit_skid : (s.setBlkBit r0 r1 b v).skid = s.skid := rfl
@[simp] theorem State.setBlkBit_codec : (s.setBlkBit r0 r1 b v).codec = s.codec := rfl
@[simp] theorem State.setBlkBit_fire : (s.setBlkBit r0 r1 b v).fire = s.fire := rfl
@[simp] theorem State.setBlkBit_scan : (s.setBlkBit r0 r1 b v).scan = s.scan := rfl
@[simp] theorem State.setBlkBit_cal : (s.setBlkBit r0 r1 b v).cal = s.cal := rfl
@[simp] theorem State.setBlkBit_txn : (s.setBlkBit r0 r1 b v).txn = s.txn := rfl
@[simp] theorem State.setBlkBit_hlnk : (s.setBlkBit r0 r1 b v).hlnk = s.hlnk := rfl
@[simp] theorem State.setBlkBit_dram : (s.setBlkBit r0 r1 b v).dram = s.dram := rfl
@[simp] theorem State.setBlkBit_disp : (s.setBlkBit r0 r1 b v).disp = s.disp := rfl
@[simp] theorem State.setBlkBit_bar : (s.setBlkBit r0 r1 b v).bar = s.bar := rfl
@[simp] theorem State.setBlkBit_net : (s.setBlkBit r0 r1 b v).net = s.net := rfl
@[simp] theorem State.setBlkBit_scaler : (s.setBlkBit r0 r1 b v).scaler = s.scaler := rfl
@[simp] theorem State.setBlkBit_landing : (s.setBlkBit r0 r1 b v).landing = s.landing := rfl
@[simp] theorem State.setBlkBit_aonHold : (s.setBlkBit r0 r1 b v).aonHold = s.aonHold := rfl
@[simp] theorem State.setBlkBit_mot : (s.setBlkBit r0 r1 b v).mot = s.mot := rfl
@[simp] theorem State.setBlkBit_lite : (s.setBlkBit r0 r1 b v).lite = s.lite := rfl
@[simp] theorem State.setBlkBit_vis : (s.setBlkBit r0 r1 b v).vis = s.vis := rfl
@[simp] theorem State.setBlkBit_sys : (s.setBlkBit r0 r1 b v).sys = s.sys := rfl
@[simp] theorem State.setBlkBit_cfg : (s.setBlkBit r0 r1 b v).cfg = s.cfg := rfl
@[simp] theorem State.setBlkBit_stump : (s.setBlkBit r0 r1 b v).stump = s.stump := rfl
@[simp] theorem State.setBlkBit_stumpBad : (s.setBlkBit r0 r1 b v).stumpBad = s.stumpBad := rfl
@[simp] theorem State.setBlkBit_ward : (s.setBlkBit r0 r1 b v).ward = s.ward := rfl
@[simp] theorem State.setBlkBit_bist : (s.setBlkBit r0 r1 b v).bist = s.bist := rfl
@[simp] theorem State.setBlkBit_gdma : (s.setBlkBit r0 r1 b v).gdma = s.gdma := rfl
@[simp] theorem State.setBlkBit_tap : (s.setBlkBit r0 r1 b v).tap = s.tap := rfl
@[simp] theorem State.setBlkBit_evt : (s.setBlkBit r0 r1 b v).evt = s.evt := rfl
@[simp] theorem State.setBlkBit_clrNow : (s.setBlkBit r0 r1 b v).clrNow = s.clrNow := rfl
@[simp] theorem State.setBlkBit_eventN : (s.setBlkBit r0 r1 b v).eventN = s.eventN := rfl
end

/-! ### markFlag -/

section
variable (s : State) (r : FlagRow) (b i : Nat)
@[simp] theorem State.markFlag_pending : (s.markFlag r b i).pending = s.pending := rfl
@[simp] theorem State.markFlag_out : (s.markFlag r b i).out = s.out := rfl
@[simp] theorem State.markFlag_freeCtr : (s.markFlag r b i).freeCtr = s.freeCtr := rfl
@[simp] theorem State.markFlag_cycle : (s.markFlag r b i).cycle = s.cycle := rfl
@[simp] theorem State.markFlag_holdAcc : (s.markFlag r b i).holdAcc = s.holdAcc := rfl
@[simp] theorem State.markFlag_pos : (s.markFlag r b i).pos = s.pos := rfl
@[simp] theorem State.markFlag_jq : (s.markFlag r b i).jq = s.jq := rfl
@[simp] theorem State.markFlag_skid : (s.markFlag r b i).skid = s.skid := rfl
@[simp] theorem State.markFlag_codec : (s.markFlag r b i).codec = s.codec := rfl
@[simp] theorem State.markFlag_fire : (s.markFlag r b i).fire = s.fire := rfl
@[simp] theorem State.markFlag_scan : (s.markFlag r b i).scan = s.scan := rfl
@[simp] theorem State.markFlag_cal : (s.markFlag r b i).cal = s.cal := rfl
@[simp] theorem State.markFlag_txn : (s.markFlag r b i).txn = s.txn := rfl
@[simp] theorem State.markFlag_hlnk : (s.markFlag r b i).hlnk = s.hlnk := rfl
@[simp] theorem State.markFlag_dram : (s.markFlag r b i).dram = s.dram := rfl
@[simp] theorem State.markFlag_disp : (s.markFlag r b i).disp = s.disp := rfl
@[simp] theorem State.markFlag_bar : (s.markFlag r b i).bar = s.bar := rfl
@[simp] theorem State.markFlag_net : (s.markFlag r b i).net = s.net := rfl
@[simp] theorem State.markFlag_scaler : (s.markFlag r b i).scaler = s.scaler := rfl
@[simp] theorem State.markFlag_landing : (s.markFlag r b i).landing = s.landing := rfl
@[simp] theorem State.markFlag_aonHold : (s.markFlag r b i).aonHold = s.aonHold := rfl
@[simp] theorem State.markFlag_mot : (s.markFlag r b i).mot = s.mot := rfl
@[simp] theorem State.markFlag_lite : (s.markFlag r b i).lite = s.lite := rfl
@[simp] theorem State.markFlag_vis : (s.markFlag r b i).vis = s.vis := rfl
@[simp] theorem State.markFlag_sys : (s.markFlag r b i).sys = s.sys := rfl
@[simp] theorem State.markFlag_cfg : (s.markFlag r b i).cfg = s.cfg := rfl
@[simp] theorem State.markFlag_stump : (s.markFlag r b i).stump = s.stump := rfl
@[simp] theorem State.markFlag_stumpBad : (s.markFlag r b i).stumpBad = s.stumpBad := rfl
@[simp] theorem State.markFlag_ward : (s.markFlag r b i).ward = s.ward := rfl
@[simp] theorem State.markFlag_bist : (s.markFlag r b i).bist = s.bist := rfl
@[simp] theorem State.markFlag_gdma : (s.markFlag r b i).gdma = s.gdma := rfl
@[simp] theorem State.markFlag_tap : (s.markFlag r b i).tap = s.tap := rfl
@[simp] theorem State.markFlag_evt : (s.markFlag r b i).evt = s.evt := rfl
@[simp] theorem State.markFlag_clrNow : (s.markFlag r b i).clrNow = s.clrNow := rfl
@[simp] theorem State.markFlag_eventN : (s.markFlag r b i).eventN = s.eventN := rfl
end

/-! ### emit -/

section
variable (s : State) (o : Out)
@[simp] theorem State.emit_pending : (s.emit o).pending = s.pending := rfl
@[simp] theorem State.emit_regs : (s.emit o).regs = s.regs := rfl
@[simp] theorem State.emit_freeCtr : (s.emit o).freeCtr = s.freeCtr := rfl
@[simp] theorem State.emit_cycle : (s.emit o).cycle = s.cycle := rfl
@[simp] theorem State.emit_holdAcc : (s.emit o).holdAcc = s.holdAcc := rfl
@[simp] theorem State.emit_pos : (s.emit o).pos = s.pos := rfl
@[simp] theorem State.emit_jq : (s.emit o).jq = s.jq := rfl
@[simp] theorem State.emit_skid : (s.emit o).skid = s.skid := rfl
@[simp] theorem State.emit_codec : (s.emit o).codec = s.codec := rfl
@[simp] theorem State.emit_fire : (s.emit o).fire = s.fire := rfl
@[simp] theorem State.emit_scan : (s.emit o).scan = s.scan := rfl
@[simp] theorem State.emit_cal : (s.emit o).cal = s.cal := rfl
@[simp] theorem State.emit_txn : (s.emit o).txn = s.txn := rfl
@[simp] theorem State.emit_hlnk : (s.emit o).hlnk = s.hlnk := rfl
@[simp] theorem State.emit_dram : (s.emit o).dram = s.dram := rfl
@[simp] theorem State.emit_disp : (s.emit o).disp = s.disp := rfl
@[simp] theorem State.emit_bar : (s.emit o).bar = s.bar := rfl
@[simp] theorem State.emit_net : (s.emit o).net = s.net := rfl
@[simp] theorem State.emit_scaler : (s.emit o).scaler = s.scaler := rfl
@[simp] theorem State.emit_landing : (s.emit o).landing = s.landing := rfl
@[simp] theorem State.emit_aonHold : (s.emit o).aonHold = s.aonHold := rfl
@[simp] theorem State.emit_mot : (s.emit o).mot = s.mot := rfl
@[simp] theorem State.emit_lite : (s.emit o).lite = s.lite := rfl
@[simp] theorem State.emit_vis : (s.emit o).vis = s.vis := rfl
@[simp] theorem State.emit_sys : (s.emit o).sys = s.sys := rfl
@[simp] theorem State.emit_cfg : (s.emit o).cfg = s.cfg := rfl
@[simp] theorem State.emit_stump : (s.emit o).stump = s.stump := rfl
@[simp] theorem State.emit_stumpBad : (s.emit o).stumpBad = s.stumpBad := rfl
@[simp] theorem State.emit_ward : (s.emit o).ward = s.ward := rfl
@[simp] theorem State.emit_bist : (s.emit o).bist = s.bist := rfl
@[simp] theorem State.emit_gdma : (s.emit o).gdma = s.gdma := rfl
@[simp] theorem State.emit_tap : (s.emit o).tap = s.tap := rfl
@[simp] theorem State.emit_evt : (s.emit o).evt = s.evt := rfl
@[simp] theorem State.emit_clrNow : (s.emit o).clrNow = s.clrNow := rfl
@[simp] theorem State.emit_eventN : (s.emit o).eventN = s.eventN := rfl
@[simp] theorem State.emit_reg (q : Reg) (i1 i2 : Nat) : (s.emit o).reg q i1 i2 = s.reg q i1 i2 := rfl
@[simp] theorem State.emit_fld (q : Fld) (i1 i2 : Nat) : (s.emit o).fld q i1 i2 = s.fld q i1 i2 := rfl
@[simp] theorem State.emit_on (q : Fld) (i1 i2 : Nat) : (s.emit o).on q i1 i2 = s.on q i1 i2 := rfl
end

/-! ### keepEvt -/

section
variable (s : State) (t : Nat) (st : Option Word) (w : Word)
@[simp] theorem State.keepEvt_pending : (s.keepEvt t st w).pending = s.pending := rfl
@[simp] theorem State.keepEvt_out : (s.keepEvt t st w).out = s.out := rfl
@[simp] theorem State.keepEvt_regs : (s.keepEvt t st w).regs = s.regs := rfl
@[simp] theorem State.keepEvt_freeCtr : (s.keepEvt t st w).freeCtr = s.freeCtr := rfl
@[simp] theorem State.keepEvt_cycle : (s.keepEvt t st w).cycle = s.cycle := rfl
@[simp] theorem State.keepEvt_holdAcc : (s.keepEvt t st w).holdAcc = s.holdAcc := rfl
@[simp] theorem State.keepEvt_pos : (s.keepEvt t st w).pos = s.pos := rfl
@[simp] theorem State.keepEvt_jq : (s.keepEvt t st w).jq = s.jq := rfl
@[simp] theorem State.keepEvt_skid : (s.keepEvt t st w).skid = s.skid := rfl
@[simp] theorem State.keepEvt_codec : (s.keepEvt t st w).codec = s.codec := rfl
@[simp] theorem State.keepEvt_fire : (s.keepEvt t st w).fire = s.fire := rfl
@[simp] theorem State.keepEvt_scan : (s.keepEvt t st w).scan = s.scan := rfl
@[simp] theorem State.keepEvt_cal : (s.keepEvt t st w).cal = s.cal := rfl
@[simp] theorem State.keepEvt_txn : (s.keepEvt t st w).txn = s.txn := rfl
@[simp] theorem State.keepEvt_hlnk : (s.keepEvt t st w).hlnk = s.hlnk := rfl
@[simp] theorem State.keepEvt_dram : (s.keepEvt t st w).dram = s.dram := rfl
@[simp] theorem State.keepEvt_disp : (s.keepEvt t st w).disp = s.disp := rfl
@[simp] theorem State.keepEvt_bar : (s.keepEvt t st w).bar = s.bar := rfl
@[simp] theorem State.keepEvt_net : (s.keepEvt t st w).net = s.net := rfl
@[simp] theorem State.keepEvt_scaler : (s.keepEvt t st w).scaler = s.scaler := rfl
@[simp] theorem State.keepEvt_landing : (s.keepEvt t st w).landing = s.landing := rfl
@[simp] theorem State.keepEvt_aonHold : (s.keepEvt t st w).aonHold = s.aonHold := rfl
@[simp] theorem State.keepEvt_mot : (s.keepEvt t st w).mot = s.mot := rfl
@[simp] theorem State.keepEvt_lite : (s.keepEvt t st w).lite = s.lite := rfl
@[simp] theorem State.keepEvt_vis : (s.keepEvt t st w).vis = s.vis := rfl
@[simp] theorem State.keepEvt_sys : (s.keepEvt t st w).sys = s.sys := rfl
@[simp] theorem State.keepEvt_cfg : (s.keepEvt t st w).cfg = s.cfg := rfl
@[simp] theorem State.keepEvt_stump : (s.keepEvt t st w).stump = s.stump := rfl
@[simp] theorem State.keepEvt_stumpBad : (s.keepEvt t st w).stumpBad = s.stumpBad := rfl
@[simp] theorem State.keepEvt_ward : (s.keepEvt t st w).ward = s.ward := rfl
@[simp] theorem State.keepEvt_bist : (s.keepEvt t st w).bist = s.bist := rfl
@[simp] theorem State.keepEvt_gdma : (s.keepEvt t st w).gdma = s.gdma := rfl
@[simp] theorem State.keepEvt_tap : (s.keepEvt t st w).tap = s.tap := rfl
@[simp] theorem State.keepEvt_clrNow : (s.keepEvt t st w).clrNow = s.clrNow := rfl
@[simp] theorem State.keepEvt_eventN : (s.keepEvt t st w).eventN = s.eventN := rfl
@[simp] theorem State.keepEvt_reg (q : Reg) (i1 i2 : Nat) : (s.keepEvt t st w).reg q i1 i2 = s.reg q i1 i2 := rfl
@[simp] theorem State.keepEvt_fld (q : Fld) (i1 i2 : Nat) : (s.keepEvt t st w).fld q i1 i2 = s.fld q i1 i2 := rfl
@[simp] theorem State.keepEvt_on (q : Fld) (i1 i2 : Nat) : (s.keepEvt t st w).on q i1 i2 = s.on q i1 i2 := rfl
end

/-! ### posUpd -/

section
variable (s : State) (f : PosSt → PosSt)
@[simp] theorem State.posUpd_pending : (s.posUpd f).pending = s.pending := rfl
@[simp] theorem State.posUpd_out : (s.posUpd f).out = s.out := rfl
@[simp] theorem State.posUpd_regs : (s.posUpd f).regs = s.regs := rfl
@[simp] theorem State.posUpd_freeCtr : (s.posUpd f).freeCtr = s.freeCtr := rfl
@[simp] theorem State.posUpd_cycle : (s.posUpd f).cycle = s.cycle := rfl
@[simp] theorem State.posUpd_holdAcc : (s.posUpd f).holdAcc = s.holdAcc := rfl
@[simp] theorem State.posUpd_jq : (s.posUpd f).jq = s.jq := rfl
@[simp] theorem State.posUpd_skid : (s.posUpd f).skid = s.skid := rfl
@[simp] theorem State.posUpd_codec : (s.posUpd f).codec = s.codec := rfl
@[simp] theorem State.posUpd_fire : (s.posUpd f).fire = s.fire := rfl
@[simp] theorem State.posUpd_scan : (s.posUpd f).scan = s.scan := rfl
@[simp] theorem State.posUpd_cal : (s.posUpd f).cal = s.cal := rfl
@[simp] theorem State.posUpd_txn : (s.posUpd f).txn = s.txn := rfl
@[simp] theorem State.posUpd_hlnk : (s.posUpd f).hlnk = s.hlnk := rfl
@[simp] theorem State.posUpd_dram : (s.posUpd f).dram = s.dram := rfl
@[simp] theorem State.posUpd_disp : (s.posUpd f).disp = s.disp := rfl
@[simp] theorem State.posUpd_bar : (s.posUpd f).bar = s.bar := rfl
@[simp] theorem State.posUpd_net : (s.posUpd f).net = s.net := rfl
@[simp] theorem State.posUpd_scaler : (s.posUpd f).scaler = s.scaler := rfl
@[simp] theorem State.posUpd_landing : (s.posUpd f).landing = s.landing := rfl
@[simp] theorem State.posUpd_aonHold : (s.posUpd f).aonHold = s.aonHold := rfl
@[simp] theorem State.posUpd_mot : (s.posUpd f).mot = s.mot := rfl
@[simp] theorem State.posUpd_lite : (s.posUpd f).lite = s.lite := rfl
@[simp] theorem State.posUpd_vis : (s.posUpd f).vis = s.vis := rfl
@[simp] theorem State.posUpd_sys : (s.posUpd f).sys = s.sys := rfl
@[simp] theorem State.posUpd_cfg : (s.posUpd f).cfg = s.cfg := rfl
@[simp] theorem State.posUpd_stump : (s.posUpd f).stump = s.stump := rfl
@[simp] theorem State.posUpd_stumpBad : (s.posUpd f).stumpBad = s.stumpBad := rfl
@[simp] theorem State.posUpd_ward : (s.posUpd f).ward = s.ward := rfl
@[simp] theorem State.posUpd_bist : (s.posUpd f).bist = s.bist := rfl
@[simp] theorem State.posUpd_gdma : (s.posUpd f).gdma = s.gdma := rfl
@[simp] theorem State.posUpd_tap : (s.posUpd f).tap = s.tap := rfl
@[simp] theorem State.posUpd_evt : (s.posUpd f).evt = s.evt := rfl
@[simp] theorem State.posUpd_clrNow : (s.posUpd f).clrNow = s.clrNow := rfl
@[simp] theorem State.posUpd_eventN : (s.posUpd f).eventN = s.eventN := rfl
@[simp] theorem State.posUpd_reg (q : Reg) (i1 i2 : Nat) : (s.posUpd f).reg q i1 i2 = s.reg q i1 i2 := rfl
@[simp] theorem State.posUpd_fld (q : Fld) (i1 i2 : Nat) : (s.posUpd f).fld q i1 i2 = s.fld q i1 i2 := rfl
@[simp] theorem State.posUpd_on (q : Fld) (i1 i2 : Nat) : (s.posUpd f).on q i1 i2 = s.on q i1 i2 := rfl
end

/-! ### jqUpd -/

section
variable (s : State) (f : JobQSt → JobQSt)
@[simp] theorem State.jqUpd_pending : (s.jqUpd f).pending = s.pending := rfl
@[simp] theorem State.jqUpd_out : (s.jqUpd f).out = s.out := rfl
@[simp] theorem State.jqUpd_regs : (s.jqUpd f).regs = s.regs := rfl
@[simp] theorem State.jqUpd_freeCtr : (s.jqUpd f).freeCtr = s.freeCtr := rfl
@[simp] theorem State.jqUpd_cycle : (s.jqUpd f).cycle = s.cycle := rfl
@[simp] theorem State.jqUpd_holdAcc : (s.jqUpd f).holdAcc = s.holdAcc := rfl
@[simp] theorem State.jqUpd_pos : (s.jqUpd f).pos = s.pos := rfl
@[simp] theorem State.jqUpd_skid : (s.jqUpd f).skid = s.skid := rfl
@[simp] theorem State.jqUpd_codec : (s.jqUpd f).codec = s.codec := rfl
@[simp] theorem State.jqUpd_fire : (s.jqUpd f).fire = s.fire := rfl
@[simp] theorem State.jqUpd_scan : (s.jqUpd f).scan = s.scan := rfl
@[simp] theorem State.jqUpd_cal : (s.jqUpd f).cal = s.cal := rfl
@[simp] theorem State.jqUpd_txn : (s.jqUpd f).txn = s.txn := rfl
@[simp] theorem State.jqUpd_hlnk : (s.jqUpd f).hlnk = s.hlnk := rfl
@[simp] theorem State.jqUpd_dram : (s.jqUpd f).dram = s.dram := rfl
@[simp] theorem State.jqUpd_disp : (s.jqUpd f).disp = s.disp := rfl
@[simp] theorem State.jqUpd_bar : (s.jqUpd f).bar = s.bar := rfl
@[simp] theorem State.jqUpd_net : (s.jqUpd f).net = s.net := rfl
@[simp] theorem State.jqUpd_scaler : (s.jqUpd f).scaler = s.scaler := rfl
@[simp] theorem State.jqUpd_landing : (s.jqUpd f).landing = s.landing := rfl
@[simp] theorem State.jqUpd_aonHold : (s.jqUpd f).aonHold = s.aonHold := rfl
@[simp] theorem State.jqUpd_mot : (s.jqUpd f).mot = s.mot := rfl
@[simp] theorem State.jqUpd_lite : (s.jqUpd f).lite = s.lite := rfl
@[simp] theorem State.jqUpd_vis : (s.jqUpd f).vis = s.vis := rfl
@[simp] theorem State.jqUpd_sys : (s.jqUpd f).sys = s.sys := rfl
@[simp] theorem State.jqUpd_cfg : (s.jqUpd f).cfg = s.cfg := rfl
@[simp] theorem State.jqUpd_stump : (s.jqUpd f).stump = s.stump := rfl
@[simp] theorem State.jqUpd_stumpBad : (s.jqUpd f).stumpBad = s.stumpBad := rfl
@[simp] theorem State.jqUpd_ward : (s.jqUpd f).ward = s.ward := rfl
@[simp] theorem State.jqUpd_bist : (s.jqUpd f).bist = s.bist := rfl
@[simp] theorem State.jqUpd_gdma : (s.jqUpd f).gdma = s.gdma := rfl
@[simp] theorem State.jqUpd_tap : (s.jqUpd f).tap = s.tap := rfl
@[simp] theorem State.jqUpd_evt : (s.jqUpd f).evt = s.evt := rfl
@[simp] theorem State.jqUpd_clrNow : (s.jqUpd f).clrNow = s.clrNow := rfl
@[simp] theorem State.jqUpd_eventN : (s.jqUpd f).eventN = s.eventN := rfl
@[simp] theorem State.jqUpd_reg (q : Reg) (i1 i2 : Nat) : (s.jqUpd f).reg q i1 i2 = s.reg q i1 i2 := rfl
@[simp] theorem State.jqUpd_fld (q : Fld) (i1 i2 : Nat) : (s.jqUpd f).fld q i1 i2 = s.fld q i1 i2 := rfl
@[simp] theorem State.jqUpd_on (q : Fld) (i1 i2 : Nat) : (s.jqUpd f).on q i1 i2 = s.on q i1 i2 := rfl
end

/-! ### hlUpd -/

section
variable (s : State) (f : HlnkSt → HlnkSt)
@[simp] theorem State.hlUpd_pending : (s.hlUpd f).pending = s.pending := rfl
@[simp] theorem State.hlUpd_out : (s.hlUpd f).out = s.out := rfl
@[simp] theorem State.hlUpd_regs : (s.hlUpd f).regs = s.regs := rfl
@[simp] theorem State.hlUpd_freeCtr : (s.hlUpd f).freeCtr = s.freeCtr := rfl
@[simp] theorem State.hlUpd_cycle : (s.hlUpd f).cycle = s.cycle := rfl
@[simp] theorem State.hlUpd_holdAcc : (s.hlUpd f).holdAcc = s.holdAcc := rfl
@[simp] theorem State.hlUpd_pos : (s.hlUpd f).pos = s.pos := rfl
@[simp] theorem State.hlUpd_jq : (s.hlUpd f).jq = s.jq := rfl
@[simp] theorem State.hlUpd_skid : (s.hlUpd f).skid = s.skid := rfl
@[simp] theorem State.hlUpd_codec : (s.hlUpd f).codec = s.codec := rfl
@[simp] theorem State.hlUpd_fire : (s.hlUpd f).fire = s.fire := rfl
@[simp] theorem State.hlUpd_scan : (s.hlUpd f).scan = s.scan := rfl
@[simp] theorem State.hlUpd_cal : (s.hlUpd f).cal = s.cal := rfl
@[simp] theorem State.hlUpd_txn : (s.hlUpd f).txn = s.txn := rfl
@[simp] theorem State.hlUpd_dram : (s.hlUpd f).dram = s.dram := rfl
@[simp] theorem State.hlUpd_disp : (s.hlUpd f).disp = s.disp := rfl
@[simp] theorem State.hlUpd_bar : (s.hlUpd f).bar = s.bar := rfl
@[simp] theorem State.hlUpd_net : (s.hlUpd f).net = s.net := rfl
@[simp] theorem State.hlUpd_scaler : (s.hlUpd f).scaler = s.scaler := rfl
@[simp] theorem State.hlUpd_landing : (s.hlUpd f).landing = s.landing := rfl
@[simp] theorem State.hlUpd_aonHold : (s.hlUpd f).aonHold = s.aonHold := rfl
@[simp] theorem State.hlUpd_mot : (s.hlUpd f).mot = s.mot := rfl
@[simp] theorem State.hlUpd_lite : (s.hlUpd f).lite = s.lite := rfl
@[simp] theorem State.hlUpd_vis : (s.hlUpd f).vis = s.vis := rfl
@[simp] theorem State.hlUpd_sys : (s.hlUpd f).sys = s.sys := rfl
@[simp] theorem State.hlUpd_cfg : (s.hlUpd f).cfg = s.cfg := rfl
@[simp] theorem State.hlUpd_stump : (s.hlUpd f).stump = s.stump := rfl
@[simp] theorem State.hlUpd_stumpBad : (s.hlUpd f).stumpBad = s.stumpBad := rfl
@[simp] theorem State.hlUpd_ward : (s.hlUpd f).ward = s.ward := rfl
@[simp] theorem State.hlUpd_bist : (s.hlUpd f).bist = s.bist := rfl
@[simp] theorem State.hlUpd_gdma : (s.hlUpd f).gdma = s.gdma := rfl
@[simp] theorem State.hlUpd_tap : (s.hlUpd f).tap = s.tap := rfl
@[simp] theorem State.hlUpd_evt : (s.hlUpd f).evt = s.evt := rfl
@[simp] theorem State.hlUpd_clrNow : (s.hlUpd f).clrNow = s.clrNow := rfl
@[simp] theorem State.hlUpd_eventN : (s.hlUpd f).eventN = s.eventN := rfl
@[simp] theorem State.hlUpd_reg (q : Reg) (i1 i2 : Nat) : (s.hlUpd f).reg q i1 i2 = s.reg q i1 i2 := rfl
@[simp] theorem State.hlUpd_fld (q : Fld) (i1 i2 : Nat) : (s.hlUpd f).fld q i1 i2 = s.fld q i1 i2 := rfl
@[simp] theorem State.hlUpd_on (q : Fld) (i1 i2 : Nat) : (s.hlUpd f).on q i1 i2 = s.on q i1 i2 := rfl
end

/-! ### updBar -/

section
variable (s : State) (f : BarSt → BarSt)
@[simp] theorem State.updBar_pending : (s.updBar f).pending = s.pending := rfl
@[simp] theorem State.updBar_out : (s.updBar f).out = s.out := rfl
@[simp] theorem State.updBar_regs : (s.updBar f).regs = s.regs := rfl
@[simp] theorem State.updBar_freeCtr : (s.updBar f).freeCtr = s.freeCtr := rfl
@[simp] theorem State.updBar_cycle : (s.updBar f).cycle = s.cycle := rfl
@[simp] theorem State.updBar_holdAcc : (s.updBar f).holdAcc = s.holdAcc := rfl
@[simp] theorem State.updBar_pos : (s.updBar f).pos = s.pos := rfl
@[simp] theorem State.updBar_jq : (s.updBar f).jq = s.jq := rfl
@[simp] theorem State.updBar_skid : (s.updBar f).skid = s.skid := rfl
@[simp] theorem State.updBar_codec : (s.updBar f).codec = s.codec := rfl
@[simp] theorem State.updBar_fire : (s.updBar f).fire = s.fire := rfl
@[simp] theorem State.updBar_scan : (s.updBar f).scan = s.scan := rfl
@[simp] theorem State.updBar_cal : (s.updBar f).cal = s.cal := rfl
@[simp] theorem State.updBar_txn : (s.updBar f).txn = s.txn := rfl
@[simp] theorem State.updBar_hlnk : (s.updBar f).hlnk = s.hlnk := rfl
@[simp] theorem State.updBar_dram : (s.updBar f).dram = s.dram := rfl
@[simp] theorem State.updBar_disp : (s.updBar f).disp = s.disp := rfl
@[simp] theorem State.updBar_net : (s.updBar f).net = s.net := rfl
@[simp] theorem State.updBar_scaler : (s.updBar f).scaler = s.scaler := rfl
@[simp] theorem State.updBar_landing : (s.updBar f).landing = s.landing := rfl
@[simp] theorem State.updBar_aonHold : (s.updBar f).aonHold = s.aonHold := rfl
@[simp] theorem State.updBar_mot : (s.updBar f).mot = s.mot := rfl
@[simp] theorem State.updBar_lite : (s.updBar f).lite = s.lite := rfl
@[simp] theorem State.updBar_vis : (s.updBar f).vis = s.vis := rfl
@[simp] theorem State.updBar_sys : (s.updBar f).sys = s.sys := rfl
@[simp] theorem State.updBar_cfg : (s.updBar f).cfg = s.cfg := rfl
@[simp] theorem State.updBar_stump : (s.updBar f).stump = s.stump := rfl
@[simp] theorem State.updBar_stumpBad : (s.updBar f).stumpBad = s.stumpBad := rfl
@[simp] theorem State.updBar_ward : (s.updBar f).ward = s.ward := rfl
@[simp] theorem State.updBar_bist : (s.updBar f).bist = s.bist := rfl
@[simp] theorem State.updBar_gdma : (s.updBar f).gdma = s.gdma := rfl
@[simp] theorem State.updBar_tap : (s.updBar f).tap = s.tap := rfl
@[simp] theorem State.updBar_evt : (s.updBar f).evt = s.evt := rfl
@[simp] theorem State.updBar_clrNow : (s.updBar f).clrNow = s.clrNow := rfl
@[simp] theorem State.updBar_eventN : (s.updBar f).eventN = s.eventN := rfl
@[simp] theorem State.updBar_reg (q : Reg) (i1 i2 : Nat) : (s.updBar f).reg q i1 i2 = s.reg q i1 i2 := rfl
@[simp] theorem State.updBar_fld (q : Fld) (i1 i2 : Nat) : (s.updBar f).fld q i1 i2 = s.fld q i1 i2 := rfl
@[simp] theorem State.updBar_on (q : Fld) (i1 i2 : Nat) : (s.updBar f).on q i1 i2 = s.on q i1 i2 := rfl
end

/-! ### txnUpd -/

section
variable (s : State) (f : TxnSt → TxnSt)
@[simp] theorem State.txnUpd_pending : (s.txnUpd f).pending = s.pending := rfl
@[simp] theorem State.txnUpd_out : (s.txnUpd f).out = s.out := rfl
@[simp] theorem State.txnUpd_regs : (s.txnUpd f).regs = s.regs := rfl
@[simp] theorem State.txnUpd_freeCtr : (s.txnUpd f).freeCtr = s.freeCtr := rfl
@[simp] theorem State.txnUpd_cycle : (s.txnUpd f).cycle = s.cycle := rfl
@[simp] theorem State.txnUpd_holdAcc : (s.txnUpd f).holdAcc = s.holdAcc := rfl
@[simp] theorem State.txnUpd_pos : (s.txnUpd f).pos = s.pos := rfl
@[simp] theorem State.txnUpd_jq : (s.txnUpd f).jq = s.jq := rfl
@[simp] theorem State.txnUpd_skid : (s.txnUpd f).skid = s.skid := rfl
@[simp] theorem State.txnUpd_codec : (s.txnUpd f).codec = s.codec := rfl
@[simp] theorem State.txnUpd_fire : (s.txnUpd f).fire = s.fire := rfl
@[simp] theorem State.txnUpd_scan : (s.txnUpd f).scan = s.scan := rfl
@[simp] theorem State.txnUpd_cal : (s.txnUpd f).cal = s.cal := rfl
@[simp] theorem State.txnUpd_hlnk : (s.txnUpd f).hlnk = s.hlnk := rfl
@[simp] theorem State.txnUpd_dram : (s.txnUpd f).dram = s.dram := rfl
@[simp] theorem State.txnUpd_disp : (s.txnUpd f).disp = s.disp := rfl
@[simp] theorem State.txnUpd_bar : (s.txnUpd f).bar = s.bar := rfl
@[simp] theorem State.txnUpd_net : (s.txnUpd f).net = s.net := rfl
@[simp] theorem State.txnUpd_scaler : (s.txnUpd f).scaler = s.scaler := rfl
@[simp] theorem State.txnUpd_landing : (s.txnUpd f).landing = s.landing := rfl
@[simp] theorem State.txnUpd_aonHold : (s.txnUpd f).aonHold = s.aonHold := rfl
@[simp] theorem State.txnUpd_mot : (s.txnUpd f).mot = s.mot := rfl
@[simp] theorem State.txnUpd_lite : (s.txnUpd f).lite = s.lite := rfl
@[simp] theorem State.txnUpd_vis : (s.txnUpd f).vis = s.vis := rfl
@[simp] theorem State.txnUpd_sys : (s.txnUpd f).sys = s.sys := rfl
@[simp] theorem State.txnUpd_cfg : (s.txnUpd f).cfg = s.cfg := rfl
@[simp] theorem State.txnUpd_stump : (s.txnUpd f).stump = s.stump := rfl
@[simp] theorem State.txnUpd_stumpBad : (s.txnUpd f).stumpBad = s.stumpBad := rfl
@[simp] theorem State.txnUpd_ward : (s.txnUpd f).ward = s.ward := rfl
@[simp] theorem State.txnUpd_bist : (s.txnUpd f).bist = s.bist := rfl
@[simp] theorem State.txnUpd_gdma : (s.txnUpd f).gdma = s.gdma := rfl
@[simp] theorem State.txnUpd_tap : (s.txnUpd f).tap = s.tap := rfl
@[simp] theorem State.txnUpd_evt : (s.txnUpd f).evt = s.evt := rfl
@[simp] theorem State.txnUpd_clrNow : (s.txnUpd f).clrNow = s.clrNow := rfl
@[simp] theorem State.txnUpd_eventN : (s.txnUpd f).eventN = s.eventN := rfl
@[simp] theorem State.txnUpd_reg (q : Reg) (i1 i2 : Nat) : (s.txnUpd f).reg q i1 i2 = s.reg q i1 i2 := rfl
@[simp] theorem State.txnUpd_fld (q : Fld) (i1 i2 : Nat) : (s.txnUpd f).fld q i1 i2 = s.fld q i1 i2 := rfl
@[simp] theorem State.txnUpd_on (q : Fld) (i1 i2 : Nat) : (s.txnUpd f).on q i1 i2 = s.on q i1 i2 := rfl
end

/-! ### cfgUpd -/

section
variable (s : State) (f : CfgSt → CfgSt)
@[simp] theorem State.cfgUpd_pending : (s.cfgUpd f).pending = s.pending := rfl
@[simp] theorem State.cfgUpd_out : (s.cfgUpd f).out = s.out := rfl
@[simp] theorem State.cfgUpd_regs : (s.cfgUpd f).regs = s.regs := rfl
@[simp] theorem State.cfgUpd_freeCtr : (s.cfgUpd f).freeCtr = s.freeCtr := rfl
@[simp] theorem State.cfgUpd_cycle : (s.cfgUpd f).cycle = s.cycle := rfl
@[simp] theorem State.cfgUpd_holdAcc : (s.cfgUpd f).holdAcc = s.holdAcc := rfl
@[simp] theorem State.cfgUpd_pos : (s.cfgUpd f).pos = s.pos := rfl
@[simp] theorem State.cfgUpd_jq : (s.cfgUpd f).jq = s.jq := rfl
@[simp] theorem State.cfgUpd_skid : (s.cfgUpd f).skid = s.skid := rfl
@[simp] theorem State.cfgUpd_codec : (s.cfgUpd f).codec = s.codec := rfl
@[simp] theorem State.cfgUpd_fire : (s.cfgUpd f).fire = s.fire := rfl
@[simp] theorem State.cfgUpd_scan : (s.cfgUpd f).scan = s.scan := rfl
@[simp] theorem State.cfgUpd_cal : (s.cfgUpd f).cal = s.cal := rfl
@[simp] theorem State.cfgUpd_txn : (s.cfgUpd f).txn = s.txn := rfl
@[simp] theorem State.cfgUpd_hlnk : (s.cfgUpd f).hlnk = s.hlnk := rfl
@[simp] theorem State.cfgUpd_dram : (s.cfgUpd f).dram = s.dram := rfl
@[simp] theorem State.cfgUpd_disp : (s.cfgUpd f).disp = s.disp := rfl
@[simp] theorem State.cfgUpd_bar : (s.cfgUpd f).bar = s.bar := rfl
@[simp] theorem State.cfgUpd_net : (s.cfgUpd f).net = s.net := rfl
@[simp] theorem State.cfgUpd_scaler : (s.cfgUpd f).scaler = s.scaler := rfl
@[simp] theorem State.cfgUpd_landing : (s.cfgUpd f).landing = s.landing := rfl
@[simp] theorem State.cfgUpd_aonHold : (s.cfgUpd f).aonHold = s.aonHold := rfl
@[simp] theorem State.cfgUpd_mot : (s.cfgUpd f).mot = s.mot := rfl
@[simp] theorem State.cfgUpd_lite : (s.cfgUpd f).lite = s.lite := rfl
@[simp] theorem State.cfgUpd_vis : (s.cfgUpd f).vis = s.vis := rfl
@[simp] theorem State.cfgUpd_sys : (s.cfgUpd f).sys = s.sys := rfl
@[simp] theorem State.cfgUpd_stump : (s.cfgUpd f).stump = s.stump := rfl
@[simp] theorem State.cfgUpd_stumpBad : (s.cfgUpd f).stumpBad = s.stumpBad := rfl
@[simp] theorem State.cfgUpd_ward : (s.cfgUpd f).ward = s.ward := rfl
@[simp] theorem State.cfgUpd_bist : (s.cfgUpd f).bist = s.bist := rfl
@[simp] theorem State.cfgUpd_gdma : (s.cfgUpd f).gdma = s.gdma := rfl
@[simp] theorem State.cfgUpd_tap : (s.cfgUpd f).tap = s.tap := rfl
@[simp] theorem State.cfgUpd_evt : (s.cfgUpd f).evt = s.evt := rfl
@[simp] theorem State.cfgUpd_clrNow : (s.cfgUpd f).clrNow = s.clrNow := rfl
@[simp] theorem State.cfgUpd_eventN : (s.cfgUpd f).eventN = s.eventN := rfl
@[simp] theorem State.cfgUpd_reg (q : Reg) (i1 i2 : Nat) : (s.cfgUpd f).reg q i1 i2 = s.reg q i1 i2 := rfl
@[simp] theorem State.cfgUpd_fld (q : Fld) (i1 i2 : Nat) : (s.cfgUpd f).fld q i1 i2 = s.fld q i1 i2 := rfl
@[simp] theorem State.cfgUpd_on (q : Fld) (i1 i2 : Nat) : (s.cfgUpd f).on q i1 i2 = s.on q i1 i2 := rfl
end

/-! ### liteUpd -/

section
variable (s : State) (f : LiteSt → LiteSt)
@[simp] theorem State.liteUpd_pending : (s.liteUpd f).pending = s.pending := rfl
@[simp] theorem State.liteUpd_out : (s.liteUpd f).out = s.out := rfl
@[simp] theorem State.liteUpd_regs : (s.liteUpd f).regs = s.regs := rfl
@[simp] theorem State.liteUpd_freeCtr : (s.liteUpd f).freeCtr = s.freeCtr := rfl
@[simp] theorem State.liteUpd_cycle : (s.liteUpd f).cycle = s.cycle := rfl
@[simp] theorem State.liteUpd_holdAcc : (s.liteUpd f).holdAcc = s.holdAcc := rfl
@[simp] theorem State.liteUpd_pos : (s.liteUpd f).pos = s.pos := rfl
@[simp] theorem State.liteUpd_jq : (s.liteUpd f).jq = s.jq := rfl
@[simp] theorem State.liteUpd_skid : (s.liteUpd f).skid = s.skid := rfl
@[simp] theorem State.liteUpd_codec : (s.liteUpd f).codec = s.codec := rfl
@[simp] theorem State.liteUpd_fire : (s.liteUpd f).fire = s.fire := rfl
@[simp] theorem State.liteUpd_scan : (s.liteUpd f).scan = s.scan := rfl
@[simp] theorem State.liteUpd_cal : (s.liteUpd f).cal = s.cal := rfl
@[simp] theorem State.liteUpd_txn : (s.liteUpd f).txn = s.txn := rfl
@[simp] theorem State.liteUpd_hlnk : (s.liteUpd f).hlnk = s.hlnk := rfl
@[simp] theorem State.liteUpd_dram : (s.liteUpd f).dram = s.dram := rfl
@[simp] theorem State.liteUpd_disp : (s.liteUpd f).disp = s.disp := rfl
@[simp] theorem State.liteUpd_bar : (s.liteUpd f).bar = s.bar := rfl
@[simp] theorem State.liteUpd_net : (s.liteUpd f).net = s.net := rfl
@[simp] theorem State.liteUpd_scaler : (s.liteUpd f).scaler = s.scaler := rfl
@[simp] theorem State.liteUpd_landing : (s.liteUpd f).landing = s.landing := rfl
@[simp] theorem State.liteUpd_aonHold : (s.liteUpd f).aonHold = s.aonHold := rfl
@[simp] theorem State.liteUpd_mot : (s.liteUpd f).mot = s.mot := rfl
@[simp] theorem State.liteUpd_vis : (s.liteUpd f).vis = s.vis := rfl
@[simp] theorem State.liteUpd_sys : (s.liteUpd f).sys = s.sys := rfl
@[simp] theorem State.liteUpd_cfg : (s.liteUpd f).cfg = s.cfg := rfl
@[simp] theorem State.liteUpd_stump : (s.liteUpd f).stump = s.stump := rfl
@[simp] theorem State.liteUpd_stumpBad : (s.liteUpd f).stumpBad = s.stumpBad := rfl
@[simp] theorem State.liteUpd_ward : (s.liteUpd f).ward = s.ward := rfl
@[simp] theorem State.liteUpd_bist : (s.liteUpd f).bist = s.bist := rfl
@[simp] theorem State.liteUpd_gdma : (s.liteUpd f).gdma = s.gdma := rfl
@[simp] theorem State.liteUpd_tap : (s.liteUpd f).tap = s.tap := rfl
@[simp] theorem State.liteUpd_evt : (s.liteUpd f).evt = s.evt := rfl
@[simp] theorem State.liteUpd_clrNow : (s.liteUpd f).clrNow = s.clrNow := rfl
@[simp] theorem State.liteUpd_eventN : (s.liteUpd f).eventN = s.eventN := rfl
@[simp] theorem State.liteUpd_reg (q : Reg) (i1 i2 : Nat) : (s.liteUpd f).reg q i1 i2 = s.reg q i1 i2 := rfl
@[simp] theorem State.liteUpd_fld (q : Fld) (i1 i2 : Nat) : (s.liteUpd f).fld q i1 i2 = s.fld q i1 i2 := rfl
@[simp] theorem State.liteUpd_on (q : Fld) (i1 i2 : Nat) : (s.liteUpd f).on q i1 i2 = s.on q i1 i2 := rfl
end

/-! ### wardUpd -/

section
variable (s : State) (f : WardSt → WardSt)
@[simp] theorem State.wardUpd_pending : (s.wardUpd f).pending = s.pending := rfl
@[simp] theorem State.wardUpd_out : (s.wardUpd f).out = s.out := rfl
@[simp] theorem State.wardUpd_regs : (s.wardUpd f).regs = s.regs := rfl
@[simp] theorem State.wardUpd_freeCtr : (s.wardUpd f).freeCtr = s.freeCtr := rfl
@[simp] theorem State.wardUpd_cycle : (s.wardUpd f).cycle = s.cycle := rfl
@[simp] theorem State.wardUpd_holdAcc : (s.wardUpd f).holdAcc = s.holdAcc := rfl
@[simp] theorem State.wardUpd_pos : (s.wardUpd f).pos = s.pos := rfl
@[simp] theorem State.wardUpd_jq : (s.wardUpd f).jq = s.jq := rfl
@[simp] theorem State.wardUpd_skid : (s.wardUpd f).skid = s.skid := rfl
@[simp] theorem State.wardUpd_codec : (s.wardUpd f).codec = s.codec := rfl
@[simp] theorem State.wardUpd_fire : (s.wardUpd f).fire = s.fire := rfl
@[simp] theorem State.wardUpd_scan : (s.wardUpd f).scan = s.scan := rfl
@[simp] theorem State.wardUpd_cal : (s.wardUpd f).cal = s.cal := rfl
@[simp] theorem State.wardUpd_txn : (s.wardUpd f).txn = s.txn := rfl
@[simp] theorem State.wardUpd_hlnk : (s.wardUpd f).hlnk = s.hlnk := rfl
@[simp] theorem State.wardUpd_dram : (s.wardUpd f).dram = s.dram := rfl
@[simp] theorem State.wardUpd_disp : (s.wardUpd f).disp = s.disp := rfl
@[simp] theorem State.wardUpd_bar : (s.wardUpd f).bar = s.bar := rfl
@[simp] theorem State.wardUpd_net : (s.wardUpd f).net = s.net := rfl
@[simp] theorem State.wardUpd_scaler : (s.wardUpd f).scaler = s.scaler := rfl
@[simp] theorem State.wardUpd_landing : (s.wardUpd f).landing = s.landing := rfl
@[simp] theorem State.wardUpd_aonHold : (s.wardUpd f).aonHold = s.aonHold := rfl
@[simp] theorem State.wardUpd_mot : (s.wardUpd f).mot = s.mot := rfl
@[simp] theorem State.wardUpd_lite : (s.wardUpd f).lite = s.lite := rfl
@[simp] theorem State.wardUpd_vis : (s.wardUpd f).vis = s.vis := rfl
@[simp] theorem State.wardUpd_sys : (s.wardUpd f).sys = s.sys := rfl
@[simp] theorem State.wardUpd_cfg : (s.wardUpd f).cfg = s.cfg := rfl
@[simp] theorem State.wardUpd_stump : (s.wardUpd f).stump = s.stump := rfl
@[simp] theorem State.wardUpd_stumpBad : (s.wardUpd f).stumpBad = s.stumpBad := rfl
@[simp] theorem State.wardUpd_bist : (s.wardUpd f).bist = s.bist := rfl
@[simp] theorem State.wardUpd_gdma : (s.wardUpd f).gdma = s.gdma := rfl
@[simp] theorem State.wardUpd_tap : (s.wardUpd f).tap = s.tap := rfl
@[simp] theorem State.wardUpd_evt : (s.wardUpd f).evt = s.evt := rfl
@[simp] theorem State.wardUpd_clrNow : (s.wardUpd f).clrNow = s.clrNow := rfl
@[simp] theorem State.wardUpd_eventN : (s.wardUpd f).eventN = s.eventN := rfl
@[simp] theorem State.wardUpd_reg (q : Reg) (i1 i2 : Nat) : (s.wardUpd f).reg q i1 i2 = s.reg q i1 i2 := rfl
@[simp] theorem State.wardUpd_fld (q : Fld) (i1 i2 : Nat) : (s.wardUpd f).fld q i1 i2 = s.fld q i1 i2 := rfl
@[simp] theorem State.wardUpd_on (q : Fld) (i1 i2 : Nat) : (s.wardUpd f).on q i1 i2 = s.on q i1 i2 := rfl
end

/-! ### updPort -/

section
variable (s : State) (p : Nat) (f : Port → Port)
@[simp] theorem State.updPort_pending : (s.updPort p f).pending = s.pending := rfl
@[simp] theorem State.updPort_out : (s.updPort p f).out = s.out := rfl
@[simp] theorem State.updPort_regs : (s.updPort p f).regs = s.regs := rfl
@[simp] theorem State.updPort_freeCtr : (s.updPort p f).freeCtr = s.freeCtr := rfl
@[simp] theorem State.updPort_cycle : (s.updPort p f).cycle = s.cycle := rfl
@[simp] theorem State.updPort_holdAcc : (s.updPort p f).holdAcc = s.holdAcc := rfl
@[simp] theorem State.updPort_pos : (s.updPort p f).pos = s.pos := rfl
@[simp] theorem State.updPort_jq : (s.updPort p f).jq = s.jq := rfl
@[simp] theorem State.updPort_skid : (s.updPort p f).skid = s.skid := rfl
@[simp] theorem State.updPort_codec : (s.updPort p f).codec = s.codec := rfl
@[simp] theorem State.updPort_scan : (s.updPort p f).scan = s.scan := rfl
@[simp] theorem State.updPort_cal : (s.updPort p f).cal = s.cal := rfl
@[simp] theorem State.updPort_txn : (s.updPort p f).txn = s.txn := rfl
@[simp] theorem State.updPort_hlnk : (s.updPort p f).hlnk = s.hlnk := rfl
@[simp] theorem State.updPort_dram : (s.updPort p f).dram = s.dram := rfl
@[simp] theorem State.updPort_disp : (s.updPort p f).disp = s.disp := rfl
@[simp] theorem State.updPort_bar : (s.updPort p f).bar = s.bar := rfl
@[simp] theorem State.updPort_net : (s.updPort p f).net = s.net := rfl
@[simp] theorem State.updPort_scaler : (s.updPort p f).scaler = s.scaler := rfl
@[simp] theorem State.updPort_landing : (s.updPort p f).landing = s.landing := rfl
@[simp] theorem State.updPort_aonHold : (s.updPort p f).aonHold = s.aonHold := rfl
@[simp] theorem State.updPort_mot : (s.updPort p f).mot = s.mot := rfl
@[simp] theorem State.updPort_lite : (s.updPort p f).lite = s.lite := rfl
@[simp] theorem State.updPort_vis : (s.updPort p f).vis = s.vis := rfl
@[simp] theorem State.updPort_sys : (s.updPort p f).sys = s.sys := rfl
@[simp] theorem State.updPort_cfg : (s.updPort p f).cfg = s.cfg := rfl
@[simp] theorem State.updPort_stump : (s.updPort p f).stump = s.stump := rfl
@[simp] theorem State.updPort_stumpBad : (s.updPort p f).stumpBad = s.stumpBad := rfl
@[simp] theorem State.updPort_ward : (s.updPort p f).ward = s.ward := rfl
@[simp] theorem State.updPort_bist : (s.updPort p f).bist = s.bist := rfl
@[simp] theorem State.updPort_gdma : (s.updPort p f).gdma = s.gdma := rfl
@[simp] theorem State.updPort_tap : (s.updPort p f).tap = s.tap := rfl
@[simp] theorem State.updPort_evt : (s.updPort p f).evt = s.evt := rfl
@[simp] theorem State.updPort_clrNow : (s.updPort p f).clrNow = s.clrNow := rfl
@[simp] theorem State.updPort_eventN : (s.updPort p f).eventN = s.eventN := rfl
@[simp] theorem State.updPort_reg (q : Reg) (i1 i2 : Nat) : (s.updPort p f).reg q i1 i2 = s.reg q i1 i2 := rfl
@[simp] theorem State.updPort_fld (q : Fld) (i1 i2 : Nat) : (s.updPort p f).fld q i1 i2 = s.fld q i1 i2 := rfl
@[simp] theorem State.updPort_on (q : Fld) (i1 i2 : Nat) : (s.updPort p f).on q i1 i2 = s.on q i1 i2 := rfl
end

end Sys2Proof.Machine
end

