-- ==== Sys2Proof/Laws/Regs.lean ====
section
/-! SUPPORT. The laws of registers and fields: what a read gives after a write of the same field, of another field of
the register, of another register. -/

namespace Sys2Proof.Machine

/-! ### Bits of a field -/

/-- The bits of a field's mask. -/
theorem Fld.getLsbD_mask (f : Fld) (hb : f.hi < 40) (hl : f.lo ≤ f.hi) (k : Nat) :
    f.mask.getLsbD k = (decide (f.lo ≤ k) && decide (k ≤ f.hi)) := by
  unfold Fld.mask Fld.width
  simp only [BitVec.getLsbD_shiftLeft, BitVec.getLsbD_ushiftRight, BitVec.getLsbD_allOnes]
  by_cases h1 : f.lo ≤ k <;> by_cases h2 : k ≤ f.hi <;> simp [h1, h2] <;> omega

/-- The bits of a field as a number. -/
theorem Fld.testBit_ext (f : Fld) (w : Word) (k : Nat) :
    (f.ext w).testBit k = (decide (k < f.width) && w.getLsbD (f.lo + k)) := by
  unfold Fld.ext
  rw [Nat.testBit_mod_two_pow, Nat.testBit_shiftRight]
  rfl

/-- The bits of a word with a field replaced. -/
theorem Fld.getLsbD_ins (f : Fld) (hb : f.hi < 40) (hl : f.lo ≤ f.hi) (w : Word) (v k : Nat) (hk : k < 40) :
    (f.ins w v).getLsbD k =
      if f.lo ≤ k ∧ k ≤ f.hi then v.testBit (k - f.lo) else w.getLsbD k := by
  unfold Fld.ins
  rw [BitVec.getLsbD_or, BitVec.getLsbD_and, BitVec.getLsbD_and, BitVec.getLsbD_not, Fld.getLsbD_mask f hb hl]
  by_cases h : f.lo ≤ k ∧ k ≤ f.hi
  · rw [if_pos h]
    simp only [h.1, h.2, decide_true, Bool.and_true, Bool.not_true, Bool.and_false, Bool.false_or,
      BitVec.getLsbD_shiftLeft, Word.of]
    simp only [hk, decide_true, Bool.true_and, BitVec.getLsbD_ofNat]
    have h1 : ¬ k < f.lo := by omega
    have h2 : k - f.lo < 40 := by omega
    simp [h1, h2]
  · rw [if_neg h]
    have : (decide (f.lo ≤ k) && decide (k ≤ f.hi)) = false := by simpa using h
    simp [this, hk]

/-- A field reads as the value written to it, modulo its width. -/
theorem Fld.ext_ins_same (f : Fld) (w : Word) (v : Nat) (hb : f.hi < 40) (hl : f.lo ≤ f.hi) :
    f.ext (f.ins w v) = v % 2 ^ f.width := by
  apply Nat.eq_of_testBit_eq
  intro k
  rw [Fld.testBit_ext, Nat.testBit_mod_two_pow]
  by_cases hk : k < f.width
  · have h40 : f.lo + k ≤ f.hi := by unfold Fld.width at hk; omega
    rw [Fld.getLsbD_ins f hb hl _ _ _ (by omega), if_pos ⟨by omega, h40⟩]
    simp
  · simp [hk]

/-- A write of one field leaves a field beside it as it is. -/
theorem Fld.ext_ins_other (f g : Fld) (w : Word) (v : Nat) (hf : f.hi < 40) (hl : f.lo ≤ f.hi) (hg : g.hi < 40)
    (h : f.hi < g.lo ∨ g.hi < f.lo) : g.ext (f.ins w v) = g.ext w := by
  apply Nat.eq_of_testBit_eq
  intro k
  rw [Fld.testBit_ext, Fld.testBit_ext]
  by_cases hk : k < g.width
  · have h40 : g.lo + k ≤ g.hi := by unfold Fld.width at hk; omega
    rw [Fld.getLsbD_ins f hf hl _ _ _ (by omega), if_neg (by omega)]
  · simp [hk]

/-- A field is below two to its width. -/
theorem Fld.ext_lt (f : Fld) (w : Word) : f.ext w < 2 ^ f.width := Nat.mod_lt _ (Nat.two_pow_pos _)

/-! ### Registers -/

/-- A register reads as the word written to it. -/
@[simp] theorem State.reg_setReg_same (s : State) (r : Reg) (w : Word) (i j : Nat) :
    (s.setReg r w i j).reg r i j = w := by
  unfold State.setReg State.reg
  exact SMap.get_set_same _ _ _ _

/-- A write of one register leaves a register at another address as it is. -/
theorem State.reg_setReg_other (s : State) (r q : Reg) (w : Word) (i j k l : Nat) (h : q.at k l ≠ r.at i j) :
    (s.setReg r w i j).reg q k l = s.reg q k l := by
  unfold State.setReg State.reg
  exact SMap.get_set_other _ _ _ _ h

/-- The word at an address after a write of a register. -/
theorem State.word_setReg_other (s : State) (r : Reg) (w : Word) (i j a : Nat) (h : a ≠ r.at i j) :
    (s.setReg r w i j).word a = s.word a := by
  unfold State.setReg State.word
  exact SMap.get_set_other _ _ _ _ h

/-- A word reads as it was written. -/
@[simp] theorem State.word_setWord_same (s : State) (a : Nat) (w : Word) : (s.setWord a w).word a = w := by
  unfold State.setWord State.word
  exact SMap.get_set_same _ _ _ _

/-- A write of one address leaves another as it is. -/
theorem State.word_setWord_other (s : State) (a b : Nat) (w : Word) (h : b ≠ a) : (s.setWord a w).word b = s.word b := by
  unfold State.setWord State.word
  exact SMap.get_set_other _ _ _ _ h

/-! ### Fields -/

/-- A field reads as the value set, modulo its width. -/
theorem State.fld_setFld_same (s : State) (f : Fld) (v i j : Nat) (hb : f.hi < 40) (hl : f.lo ≤ f.hi) :
    (s.setFld f v i j).fld f i j = v % 2 ^ f.width := by
  unfold State.setFld State.fld
  rw [State.reg_setReg_same]
  exact Fld.ext_ins_same f _ v hb hl

/-- Setting a field leaves a field of another register element as it is. -/
theorem State.fld_setFld_other (s : State) (f g : Fld) (v i j k l : Nat) (h : g.reg.at k l ≠ f.reg.at i j) :
    (s.setFld f v i j).fld g k l = s.fld g k l := by
  unfold State.setFld State.fld
  rw [State.reg_setReg_other _ _ _ _ _ _ _ _ h]

/-- Setting a field leaves another field of the same register as it is. -/
theorem State.fld_setFld_beside (s : State) (f g : Fld) (v i j : Nat) (hr : g.reg = f.reg) (hf : f.hi < 40)
    (hl : f.lo ≤ f.hi) (hg : g.hi < 40) (h : f.hi < g.lo ∨ g.hi < f.lo) :
    (s.setFld f v i j).fld g i j = s.fld g i j := by
  unfold State.setFld State.fld
  rw [hr, State.reg_setReg_same]
  exact Fld.ext_ins_other f g _ v hf hl hg h

/-- A register at another address after a field is set. -/
theorem State.reg_setFld_other (s : State) (f : Fld) (q : Reg) (v i j k l : Nat) (h : q.at k l ≠ f.reg.at i j) :
    (s.setFld f v i j).reg q k l = s.reg q k l := State.reg_setReg_other _ _ _ _ _ _ _ _ h

/-- The word at another address after a field is set. -/
theorem State.word_setFld_other (s : State) (f : Fld) (v i j a : Nat) (h : a ≠ f.reg.at i j) :
    (s.setFld f v i j).word a = s.word a := State.word_setReg_other _ _ _ _ _ _ h

end Sys2Proof.Machine
end

