-- ==== Sys2Proof/Laws/Bus.lean ====
section
/-! SUPPORT. The laws of register accesses: what a sender's write comes to where no field is guarded, and where none
reaches the bus. -/

namespace Sys2Proof.Machine

/-- The address names element `i`, `j` of a register, none of whose fields is RWS or RWL and which is not banked. -/
def plainAt (r : Reg) (i j : Nat) : Bool :=
  match regRow? (r.at i j) with
  | some (row, i', j') =>
    row.reg == r && i' == i && j' == j && row.reg.s1 != 2 ^ 24 &&
      row.fields.all fun f => f.acc != .rws && f.acc != .rwl
  | none => false

/-- Putting back the fields of an access code that no field has changes nothing. -/
theorem keepFields_none (acc : Access) (fields : List Fld) (old : Word) (h : ∀ f ∈ fields, f.acc ≠ acc) :
    ∀ w, keepFields acc fields old w = w := by
  unfold keepFields
  induction fields with
  | nil => intro w; rfl
  | cons f t ih =>
    intro w
    rw [List.foldl_cons, if_neg (h f (by simp))]
    exact ih (fun g hg => h g (by simp [hg])) w

/-- The fields that a register has at an address are fields of its row. -/
theorem RegRow.fieldsOf_sub (row : RegRow) (a : Nat) (f : Fld) (h : f ∈ row.fieldsOf a) : f ∈ row.fields := by
  unfold RegRow.fieldsOf at h
  split at h
  · exact List.mem_of_mem_filter h
  · exact h

/-- A direct write to a register without guarded fields is delivered as it is. -/
theorem State.directStore_plain (s : State) (o : Origin) (row : RegRow) (i j a : Nat) (w : Word)
    (h : row.fields.all (fun f => f.acc != .rws && f.acc != .rwl) = true) :
    s.directStore o row i j a w = s.deliver o row.reg i j w := by
  have h1 : ∀ f ∈ row.fieldsOf a, f.acc ≠ .rws := fun f hf hx => by
    have := List.all_eq_true.1 h f (RegRow.fieldsOf_sub row _ f hf)
    simp [hx] at this
  have h2 : ∀ f ∈ row.fieldsOf a, f.acc ≠ .rwl := fun f hf hx => by
    have := List.all_eq_true.1 h f (RegRow.fieldsOf_sub row _ f hf)
    simp [hx] at this
  unfold State.directStore
  simp only [keepFields_none _ _ _ h1, keepFields_none _ _ _ h2]
  simp [State.when]

/-- A write to a register without guarded fields is delivered, where the register is not isolated. -/
theorem State.busWrite_plain (s : State) (o : Origin) (r : Reg) (i j : Nat) (w : Word) (hp : plainAt r i j = true)
    (hi : s.regIso (r.at i j) = false) : s.busWrite o (r.at i j) w = (s.deliver o r i j w, .ok) := by
  unfold plainAt at hp
  unfold State.busWrite State.busWriteP
  split at hp
  · next row i' j' hr =>
    simp only [Bool.and_eq_true, beq_iff_eq, bne_iff_ne, ne_eq] at hp
    obtain ⟨⟨⟨⟨h1, h2⟩, h3⟩, h4⟩, h5⟩ := hp
    subst h2 h3
    rw [hr]
    have h6 : row.fields.any (fun f => f.acc == .rws) = false := by
      rw [List.any_eq_false]
      intro f hf hx
      have := List.all_eq_true.1 h5 f hf
      simp_all
    subst h1
    have h7 : noBank o row = false := by
      unfold noBank
      rw [beq_eq_false_iff_ne.2 h4, Bool.false_and]
    dsimp only
    rw [if_neg (by simp [hi]), if_neg (by simp [h7]), if_neg (by simp [h6]), if_neg h4,
      State.directStore_plain _ _ _ _ _ _ _ h5]
  · cases hp

/-- A write that meets no guard is delivered: no transaction of the origin is open, RWS fields are written as they are,
and so are RWL fields unless they may be written. -/
theorem State.busWrite_free (s : State) (o : Origin) (r : Reg) (i j : Nat) (w : Word) (hp : namedAt r i j = true)
    (hi : s.regIso (r.at i j) = false) (ht : s.txnOpen o = false)
    (hs : keepFields .rws (fieldsAt (r.at i j)) (s.word (r.at i j)) w = w)
    (hl : s.rwlOpen (r.at i j % 2 ^ 24) = true ∨ keepFields .rwl (fieldsAt (r.at i j)) (s.word (r.at i j)) w = w) :
    s.busWrite o (r.at i j) w = (s.deliver o r i j w, .ok) := by
  unfold namedAt at hp
  unfold fieldsAt at hs hl
  unfold State.busWrite State.busWriteP
  split at hp
  · next row i' j' hr =>
    simp only [Bool.and_eq_true, beq_iff_eq, bne_iff_ne, ne_eq] at hp
    obtain ⟨⟨⟨h1, h2⟩, h3⟩, h4⟩ := hp
    subst h2 h3
    rw [hr] at hs hl ⊢
    subst h1
    have h7 : noBank o row = false := by
      unfold noBank
      rw [beq_eq_false_iff_ne.2 h4, Bool.false_and]
    dsimp only at hs hl ⊢
    rw [if_neg (by simp [hi]), if_neg (by simp [h7]), if_neg (by simp [ht]), if_neg h4]
    unfold State.directStore
    simp only [Nat.reducePow] at hl
    rcases hl with hl | hl
    · cases o <;> simp [hs, hl, State.when]
    · cases o <;> simp [hs, hl, State.when]
  · cases hp

/-- A sender that may send makes its access. -/
theorem State.sends_may (s : State) (o : Sender) (f : State → State) (h : s.clocked = true)
    (hw : o = .warden → s.ward.coreUp = true) : s.sends o f = f s := by
  unfold State.sends
  rw [if_pos]
  cases o <;> simp_all

/-- A sender's write to a register without guarded fields. -/
theorem State.regCmd_plain (s : State) (o : Sender) (r : Reg) (i j : Nat) (w : Word) (h : s.clocked = true)
    (hw : o = .warden → s.ward.coreUp = true) (hp : plainAt r i j = true) (hi : s.regIso (r.at i j) = false) :
    s.regCmd o r i j w = s.deliver o.origin r i j w := by
  unfold State.regCmd
  rw [s.sends_may o _ h hw, s.busWrite_plain _ r i j w hp hi]

/-- In a system reset no access of a sender reaches the bus (R303). -/
theorem State.sends_held (s : State) (o : Sender) (f : State → State) (h : s.sys.held = true) : s.sends o f = s := by
  simp [State.sends, State.clocked, h]

/-- In a system reset the block takes no event (R303). -/
theorem State.live_held (s : State) (f : State → State) (h : s.sys.held = true) : s.live f = s := by
  simp [State.live, State.clocked, h]

/-- Out of system reset, with its clocks running, the block takes an event. -/
theorem State.live_awake (s : State) (f : State → State) (h : s.clocked = true) : s.live f = f s := by
  simp [State.live, h]

end Sys2Proof.Machine
end

