-- ==== Sys2Proof/Laws/Flags.lean ====
section
/-! SUPPORT. The laws of flags: everything that setting a flag can do (R8 to R10, R261, R262). -/

namespace Sys2Proof.Machine

/-! ### What setting a flag leaves alone -/

/-- Marking a flag changes the register file alone. -/
theorem State.markFlag_eq (s : State) (r : FlagRow) (b i : Nat) :
    s.markFlag r b i = { s with regs := (s.markFlag r b i).regs } := rfl

/-- Queueing an event changes the registers, the kept stamps and the link's queue alone. -/
theorem State.queueEvent_eq (s : State) (e : EvtPkt) :
    s.queueEvent e = { s with regs := (s.queueEvent e).regs, evt := (s.queueEvent e).evt,
                              hlnk := (s.queueEvent e).hlnk } := by
  unfold State.queueEvent State.keepEvt State.markFlag State.setReg
  simp only
  split
  · rfl
  · split <;> split <;> rfl

/-- Setting a flag changes the registers, the kept stamps and the link's event queue alone. -/
theorem State.raiseAt_eq (s : State) (f : Fld) (i k : Nat) (st : Option Word) (w : Word) :
    s.raiseAt f i k st w = { s with regs := (s.raiseAt f i k st w).regs, evt := (s.raiseAt f i k st w).evt,
                                    hlnk := (s.raiseAt f i k st w).hlnk } := by
  unfold State.raiseAt
  cases flagRow? f.reg with
  | none => rfl
  | some r =>
    simp only
    split <;> split
    · rw [State.queueEvent_eq]; rfl
    · rfl
    · rw [State.queueEvent_eq]; rfl
    · rfl

section
variable (s : State) (f : Fld) (i k : Nat) (st : Option Word) (w : Word)
@[simp] theorem State.raiseAt_pending : (s.raiseAt f i k st w).pending = s.pending := by rw [State.raiseAt_eq]
@[simp] theorem State.raiseAt_out : (s.raiseAt f i k st w).out = s.out := by rw [State.raiseAt_eq]
@[simp] theorem State.raiseAt_freeCtr : (s.raiseAt f i k st w).freeCtr = s.freeCtr := by rw [State.raiseAt_eq]
@[simp] theorem State.raiseAt_cycle : (s.raiseAt f i k st w).cycle = s.cycle := by rw [State.raiseAt_eq]
@[simp] theorem State.raiseAt_holdAcc : (s.raiseAt f i k st w).holdAcc = s.holdAcc := by rw [State.raiseAt_eq]
@[simp] theorem State.raiseAt_pos : (s.raiseAt f i k st w).pos = s.pos := by rw [State.raiseAt_eq]
@[simp] theorem State.raiseAt_jq : (s.raiseAt f i k st w).jq = s.jq := by rw [State.raiseAt_eq]
@[simp] theorem State.raiseAt_skid : (s.raiseAt f i k st w).skid = s.skid := by rw [State.raiseAt_eq]
@[simp] theorem State.raiseAt_codec : (s.raiseAt f i k st w).codec = s.codec := by rw [State.raiseAt_eq]
@[simp] theorem State.raiseAt_fire : (s.raiseAt f i k st w).fire = s.fire := by rw [State.raiseAt_eq]
@[simp] theorem State.raiseAt_scan : (s.raiseAt f i k st w).scan = s.scan := by rw [State.raiseAt_eq]
@[simp] theorem State.raiseAt_cal : (s.raiseAt f i k st w).cal = s.cal := by rw [State.raiseAt_eq]
@[simp] theorem State.raiseAt_txn : (s.raiseAt f i k st w).txn = s.txn := by rw [State.raiseAt_eq]
@[simp] theorem State.raiseAt_dram : (s.raiseAt f i k st w).dram = s.dram := by rw [State.raiseAt_eq]
@[simp] theorem State.raiseAt_disp : (s.raiseAt f i k st w).disp = s.disp := by rw [State.raiseAt_eq]
@[simp] theorem State.raiseAt_bar : (s.raiseAt f i k st w).bar = s.bar := by rw [State.raiseAt_eq]
@[simp] theorem State.raiseAt_net : (s.raiseAt f i k st w).net = s.net := by rw [State.raiseAt_eq]
@[simp] theorem State.raiseAt_scaler : (s.raiseAt f i k st w).scaler = s.scaler := by rw [State.raiseAt_eq]
@[simp] theorem State.raiseAt_landing : (s.raiseAt f i k st w).landing = s.landing := by rw [State.raiseAt_eq]
@[simp] theorem State.raiseAt_aonHold : (s.raiseAt f i k st w).aonHold = s.aonHold := by rw [State.raiseAt_eq]
@[simp] theorem State.raiseAt_mot : (s.raiseAt f i k st w).mot = s.mot := by rw [State.raiseAt_eq]
@[simp] theorem State.raiseAt_lite : (s.raiseAt f i k st w).lite = s.lite := by rw [State.raiseAt_eq]
@[simp] theorem State.raiseAt_vis : (s.raiseAt f i k st w).vis = s.vis := by rw [State.raiseAt_eq]
@[simp] theorem State.raiseAt_sys : (s.raiseAt f i k st w).sys = s.sys := by rw [State.raiseAt_eq]
@[simp] theorem State.raiseAt_cfg : (s.raiseAt f i k st w).cfg = s.cfg := by rw [State.raiseAt_eq]
@[simp] theorem State.raiseAt_stump : (s.raiseAt f i k st w).stump = s.stump := by rw [State.raiseAt_eq]
@[simp] theorem State.raiseAt_stumpBad : (s.raiseAt f i k st w).stumpBad = s.stumpBad := by rw [State.raiseAt_eq]
@[simp] theorem State.raiseAt_ward : (s.raiseAt f i k st w).ward = s.ward := by rw [State.raiseAt_eq]
@[simp] theorem State.raiseAt_bist : (s.raiseAt f i k st w).bist = s.bist := by rw [State.raiseAt_eq]
@[simp] theorem State.raiseAt_gdma : (s.raiseAt f i k st w).gdma = s.gdma := by rw [State.raiseAt_eq]
@[simp] theorem State.raiseAt_tap : (s.raiseAt f i k st w).tap = s.tap := by rw [State.raiseAt_eq]
@[simp] theorem State.raiseAt_clrNow : (s.raiseAt f i k st w).clrNow = s.clrNow := by rw [State.raiseAt_eq]
@[simp] theorem State.raiseAt_eventN : (s.raiseAt f i k st w).eventN = s.eventN := by rw [State.raiseAt_eq]
end

section
variable (s : State) (f : Fld) (i : Nat)
@[simp] theorem State.raise_pending : (s.raise f i).pending = s.pending := s.raiseAt_pending f i 0 none 0
@[simp] theorem State.raise_out : (s.raise f i).out = s.out := s.raiseAt_out f i 0 none 0
@[simp] theorem State.raise_freeCtr : (s.raise f i).freeCtr = s.freeCtr := s.raiseAt_freeCtr f i 0 none 0
@[simp] theorem State.raise_cycle : (s.raise f i).cycle = s.cycle := s.raiseAt_cycle f i 0 none 0
@[simp] theorem State.raise_holdAcc : (s.raise f i).holdAcc = s.holdAcc := s.raiseAt_holdAcc f i 0 none 0
@[simp] theorem State.raise_pos : (s.raise f i).pos = s.pos := s.raiseAt_pos f i 0 none 0
@[simp] theorem State.raise_jq : (s.raise f i).jq = s.jq := s.raiseAt_jq f i 0 none 0
@[simp] theorem State.raise_skid : (s.raise f i).skid = s.skid := s.raiseAt_skid f i 0 none 0
@[simp] theorem State.raise_codec : (s.raise f i).codec = s.codec := s.raiseAt_codec f i 0 none 0
@[simp] theorem State.raise_fire : (s.raise f i).fire = s.fire := s.raiseAt_fire f i 0 none 0
@[simp] theorem State.raise_scan : (s.raise f i).scan = s.scan := s.raiseAt_scan f i 0 none 0
@[simp] theorem State.raise_cal : (s.raise f i).cal = s.cal := s.raiseAt_cal f i 0 none 0
@[simp] theorem State.raise_txn : (s.raise f i).txn = s.txn := s.raiseAt_txn f i 0 none 0
@[simp] theorem State.raise_dram : (s.raise f i).dram = s.dram := s.raiseAt_dram f i 0 none 0
@[simp] theorem State.raise_disp : (s.raise f i).disp = s.disp := s.raiseAt_disp f i 0 none 0
@[simp] theorem State.raise_bar : (s.raise f i).bar = s.bar := s.raiseAt_bar f i 0 none 0
@[simp] theorem State.raise_net : (s.raise f i).net = s.net := s.raiseAt_net f i 0 none 0
@[simp] theorem State.raise_scaler : (s.raise f i).scaler = s.scaler := s.raiseAt_scaler f i 0 none 0
@[simp] theorem State.raise_landing : (s.raise f i).landing = s.landing := s.raiseAt_landing f i 0 none 0
@[simp] theorem State.raise_aonHold : (s.raise f i).aonHold = s.aonHold := s.raiseAt_aonHold f i 0 none 0
@[simp] theorem State.raise_mot : (s.raise f i).mot = s.mot := s.raiseAt_mot f i 0 none 0
@[simp] theorem State.raise_lite : (s.raise f i).lite = s.lite := s.raiseAt_lite f i 0 none 0
@[simp] theorem State.raise_vis : (s.raise f i).vis = s.vis := s.raiseAt_vis f i 0 none 0
@[simp] theorem State.raise_sys : (s.raise f i).sys = s.sys := s.raiseAt_sys f i 0 none 0
@[simp] theorem State.raise_cfg : (s.raise f i).cfg = s.cfg := s.raiseAt_cfg f i 0 none 0
@[simp] theorem State.raise_stump : (s.raise f i).stump = s.stump := s.raiseAt_stump f i 0 none 0
@[simp] theorem State.raise_stumpBad : (s.raise f i).stumpBad = s.stumpBad := s.raiseAt_stumpBad f i 0 none 0
@[simp] theorem State.raise_ward : (s.raise f i).ward = s.ward := s.raiseAt_ward f i 0 none 0
@[simp] theorem State.raise_bist : (s.raise f i).bist = s.bist := s.raiseAt_bist f i 0 none 0
@[simp] theorem State.raise_gdma : (s.raise f i).gdma = s.gdma := s.raiseAt_gdma f i 0 none 0
@[simp] theorem State.raise_tap : (s.raise f i).tap = s.tap := s.raiseAt_tap f i 0 none 0
@[simp] theorem State.raise_clrNow : (s.raise f i).clrNow = s.clrNow := s.raiseAt_clrNow f i 0 none 0
@[simp] theorem State.raise_eventN : (s.raise f i).eventN = s.eventN := s.raiseAt_eventN f i 0 none 0
end

/-! ### The flag and its counter -/

/-- Setting a flag of a known register, with room in the event queue. -/
theorem State.raiseAt_room (s : State) (f : Fld) (i k : Nat) (st : Option Word) (w : Word) (r : FlagRow)
    (hr : flagRow? f.reg = some r) (hq : s.hlnk.evq.length < 511) :
    (s.raiseAt f i k st w).regs = (s.markFlag r (f.lo + k) i).regs := by
  unfold State.raiseAt
  rw [hr]
  simp only
  split <;> split
  · unfold State.queueEvent
    rw [if_pos (Or.inl (by simpa using hq))]
  · rfl
  · unfold State.queueEvent
    rw [if_pos (Or.inl (by simpa using hq))]; rfl
  · rfl

/-- The flag's register after marking. -/
theorem State.reg_markFlag (s : State) (r : FlagRow) (b i : Nat)
    (h : r.flag.at i ≠ TALLY_CNT.at (r.base + i * r.stride + b)) :
    (s.markFlag r b i).reg r.flag i = setBit (s.reg r.flag i) b := by
  unfold State.markFlag
  rw [State.reg_setReg_same, State.reg_setReg_other _ _ _ _ _ _ _ _ h]

/-- The flag's counter after marking. -/
theorem State.tally_markFlag (s : State) (r : FlagRow) (b i : Nat)
    (h : r.flag.at i ≠ TALLY_CNT.at (r.base + i * r.stride + b)) :
    (s.markFlag r b i).reg TALLY_CNT (r.base + i * r.stride + b) =
      s.reg TALLY_CNT (r.base + i * r.stride + b) + 1 := by
  unfold State.markFlag
  rw [State.reg_setReg_other _ _ _ _ _ _ _ _ (Ne.symm h), State.reg_setReg_same]

/-- Any other register after marking. -/
theorem State.word_markFlag_other (s : State) (r : FlagRow) (b i a : Nat) (h1 : a ≠ r.flag.at i)
    (h2 : a ≠ TALLY_CNT.at (r.base + i * r.stride + b)) : (s.markFlag r b i).word a = s.word a := by
  unfold State.markFlag
  rw [State.word_setReg_other _ _ _ _ _ _ h1, State.word_setReg_other _ _ _ _ _ _ h2]

/-- A set bit of a word reads as one. -/
theorem getLsbD_setBit (w : Word) (b : Nat) (h : b < 40) : (setBit w b).getLsbD b = true := by
  simp [setBit, h]

/-- A flag's row is in the table, under its own register. -/
theorem flagRow?_mem {f : Reg} {r : FlagRow} (h : flagRow? f = some r) : r ∈ flagRows ∧ r.flag = f := by
  unfold flagRow? at h
  exact ⟨List.mem_of_find?_eq_some h, by simpa using List.find?_some h⟩

/-- No flag register shares addresses with the Tally, its own enable register, or the registers that pos_out reads. -/
theorem flagRows_apart : ∀ r ∈ flagRows,
    (r.flag.base + 63 * r.flag.s1 < TALLY_CNT.base ∨ TALLY_CNT.base + 4000 < r.flag.base) ∧
    (r.en.base + 63 * r.en.s1 < TALLY_CNT.base ∨ TALLY_CNT.base + 4000 < r.en.base) ∧
    r.flag.n1 ≤ 48 ∧ r.base + 48 * r.stride < 3900 ∧ r.flag.s1 = r.en.s1 ∧ r.flag.base ≠ r.en.base ∧
    (r.flag.base + 63 * r.flag.s1 < POS_CTL.base ∨ POS_CTL.base < r.flag.base) ∧
    (r.flag.base + 63 * r.flag.s1 < POS_LATCOMP.base ∨ POS_LATCOMP.base < r.flag.base) := by decide

/-- A flag register is no counter of the Tally. -/
theorem flag_ne_tally {r : FlagRow} (h : r ∈ flagRows) {i b : Nat} (hi : i < max r.flag.n1 1) (hb : b < 40) :
    r.flag.at i ≠ TALLY_CNT.at (r.base + i * r.stride + b) := by
  obtain ⟨h1, _, h2, h3, _⟩ := flagRows_apart r h
  have e1 : i * r.flag.s1 ≤ 63 * r.flag.s1 := Nat.mul_le_mul_right _ (by omega)
  have e2 : i * r.stride ≤ 48 * r.stride := Nat.mul_le_mul_right _ (by omega)
  unfold Reg.at
  have : TALLY_CNT.s1 = 1 := rfl
  rw [this]
  omega

/-- An enable register is no counter of the Tally. -/
theorem en_ne_tally {r : FlagRow} (h : r ∈ flagRows) {i b : Nat} (hi : i < max r.flag.n1 1) (hb : b < 40) :
    r.en.at i ≠ TALLY_CNT.at (r.base + i * r.stride + b) := by
  obtain ⟨_, h1, h2, h3, _⟩ := flagRows_apart r h
  have e1 : i * r.en.s1 ≤ 63 * r.en.s1 := Nat.mul_le_mul_right _ (by omega)
  have e2 : i * r.stride ≤ 48 * r.stride := Nat.mul_le_mul_right _ (by omega)
  unfold Reg.at
  have : TALLY_CNT.s1 = 1 := rfl
  rw [this]
  omega

/-- An enable register is not the flag register it serves. -/
theorem en_ne_flag {r : FlagRow} (h : r ∈ flagRows) (i : Nat) : r.en.at i ≠ r.flag.at i := by
  obtain ⟨_, _, _, _, h1, h2, _⟩ := flagRows_apart r h
  unfold Reg.at
  rw [h1]
  omega

/-! ### With the event queue full too -/

/-- The counter of EVQ_OVF. -/
def ovfTally : Nat := TALLY_CNT.at (hlnkFlagRow.base + HLNK_FLAG.EVQ_OVF.lo)

/-- The words that queueing an event leaves alone: all but EVQ_OVF's register and counter. -/
theorem State.queueEvent_word (s : State) (e : EvtPkt) (a : Nat) (h1 : a ≠ HLNK_FLAG.at 0) (h2 : a ≠ ovfTally) :
    (s.queueEvent e).word a = s.word a := by
  have hm : ∀ u : State, u.regs = (s.markFlag hlnkFlagRow HLNK_FLAG.EVQ_OVF.lo 0).regs → u.word a = s.word a := by
    intro u hu
    unfold State.word
    rw [hu]
    exact State.word_markFlag_other s hlnkFlagRow _ 0 a h1 h2
  unfold State.queueEvent
  simp only
  split
  · rfl
  · split <;> split <;> exact hm _ rfl

/-- The words that setting a flag leaves alone: all but its register and counter, and EVQ_OVF's. -/
theorem State.raiseAt_word (s : State) (f : Fld) (i k : Nat) (st : Option Word) (w : Word) (r : FlagRow)
    (hr : flagRow? f.reg = some r) (a : Nat) (h1 : a ≠ r.flag.at i)
    (h2 : a ≠ TALLY_CNT.at (r.base + i * r.stride + (f.lo + k))) (h3 : a ≠ HLNK_FLAG.at 0) (h4 : a ≠ ovfTally) :
    (s.raiseAt f i k st w).word a = s.word a := by
  have hm := State.word_markFlag_other s r (f.lo + k) i a h1 h2
  unfold State.raiseAt
  rw [hr]
  simp only
  split <;> split
  · rw [State.queueEvent_word _ _ _ h3 h4]; exact hm
  · exact hm
  · rw [State.queueEvent_word _ _ _ h3 h4]; exact hm
  · exact hm

/-- A bit that is set stays set when an event is queued. -/
theorem State.queueEvent_bit (s : State) (e : EvtPkt) (q : Reg) (i b : Nat) (hq : q.at i ≠ ovfTally)
    (h : (s.reg q i).getLsbD b = true) : ((s.queueEvent e).reg q i).getLsbD b = true := by
  have hm : ∀ u : State, u.regs = (s.markFlag hlnkFlagRow HLNK_FLAG.EVQ_OVF.lo 0).regs →
      (u.reg q i).getLsbD b = true := by
    intro u hu
    unfold State.reg
    rw [hu]
    show ((s.markFlag hlnkFlagRow HLNK_FLAG.EVQ_OVF.lo 0).reg q i).getLsbD b = true
    unfold State.reg at h ⊢
    by_cases ha : q.at i = HLNK_FLAG.at 0
    · have e1 := State.reg_markFlag s hlnkFlagRow HLNK_FLAG.EVQ_OVF.lo 0 (by decide)
      unfold State.reg at e1
      rw [ha] at h ⊢
      have e2 : hlnkFlagRow.flag.at 0 = HLNK_FLAG.at 0 := rfl
      rw [e2] at e1
      rw [e1]
      unfold setBit
      rw [BitVec.getLsbD_or, h, Bool.true_or]
    · have e1 := State.word_markFlag_other s hlnkFlagRow HLNK_FLAG.EVQ_OVF.lo 0 (q.at i) ha hq
      unfold State.word at e1
      rw [e1]
      exact h
  unfold State.queueEvent
  simp only
  split
  · exact h
  · split <;> split <;> exact hm _ rfl

/-- A flag that an occurrence of its condition sets reads 1. -/
theorem State.raiseAt_bit (s : State) (f : Fld) (i k : Nat) (st : Option Word) (w : Word) (r : FlagRow)
    (hr : flagRow? f.reg = some r) (hi : i < max r.flag.n1 1) (hb : f.lo + k < 40) :
    ((s.raiseAt f i k st w).reg f.reg i).getLsbD (f.lo + k) = true := by
  obtain ⟨hm, hf⟩ := flagRow?_mem hr
  have hne := flag_ne_tally hm hi hb
  have hset : ∀ u : State, u.regs = (s.markFlag r (f.lo + k) i).regs →
      (u.reg f.reg i).getLsbD (f.lo + k) = true := by
    intro u hu
    unfold State.reg
    rw [hu, ← hf]
    show ((s.markFlag r (f.lo + k) i).reg r.flag i).getLsbD (f.lo + k) = true
    rw [State.reg_markFlag _ _ _ _ hne]
    exact getLsbD_setBit _ _ hb
  have hov : f.reg.at i ≠ ovfTally := by
    rw [← hf]
    have := flagRows_apart r hm
    have e1 : i * r.flag.s1 ≤ 63 * r.flag.s1 := Nat.mul_le_mul_right _ (by omega)
    have e2 : ovfTally = TALLY_CNT.base + 240 + HLNK_FLAG.EVQ_OVF.lo := by decide
    have e3 : HLNK_FLAG.EVQ_OVF.lo < 40 := by decide
    unfold Reg.at
    omega
  unfold State.raiseAt
  rw [hr]
  simp only
  split <;> split
  · exact State.queueEvent_bit _ _ _ _ _ hov (hset _ rfl)
  · exact hset _ rfl
  · exact State.queueEvent_bit _ _ _ _ _ hov (hset _ rfl)
  · exact hset _ rfl

end Sys2Proof.Machine
end

