-- ==== Sys2Proof/Laws/Close.lean ====
section
/-! SUPPORT. The end of a command: it answers a next state, keeps the queue, and where nothing is due by itself changes
nothing but EVENT_N and DRAM_GEOM.SIZE. -/

namespace Sys2Proof.Machine

/-- EVENT_N's condition depends on the registers alone. -/
theorem State.eventNLow_congr {s t : State} (h : s.regs = t.regs) : s.eventNLow = t.eventNLow := by
  unfold State.eventNLow State.fld State.reg
  rw [h]

/-- The end of a command keeps the queue. -/
@[simp] theorem State.close_pending (s t : State) : (s.close t).pending = s.pending := rfl

/-- After a command EVENT_N follows the flags. -/
theorem State.close_eventInv (s t : State) : (s.close t).eventInv := rfl

theorem State.hpSettle_calm (s was : State) (h1 : s.hstate ≠ 1) (h2 : s.hstate ≠ 2) (h4 : s.hstate ≠ 4) :
    s.hpSettle was = s := by
  unfold State.hpSettle
  simp [h1, h2, h4]

theorem State.barSettle_calm (s : State) (h : s.bar.wait = []) : s.barSettle = s := by
  unfold State.barSettle
  simp [h]

theorem State.settleReleases_calm (s : State) (h0 : s.reg SYS_RSTPEND0 = 0) (h1 : s.reg SYS_RSTPEND1 = 0) :
    s.settleReleases = s := by
  unfold State.settleReleases
  simp [h0, h1]

theorem State.bistKick_calm (s : State) (h : s.bist.spot = []) : s.bistKick = s := by
  unfold State.bistKick
  simp [h]

theorem State.qiSettle_calm (s : State) (h : (s.moves && s.qiOver) = false) : s.qiSettle = s := by
  simp [State.qiSettle, State.when, h]

theorem State.launchFrames_calm (s : State) (h : s.net.txq = []) : s.launchFrames = s := by
  simp [State.launchFrames, h]

theorem State.armAssemble_calm (s : State) (h : s.scan.asmDue = false) : s.armAssemble = s := by
  simp [State.armAssemble, h]

theorem State.loadSettle_calm (s : State) (h : s.applying = false) : s.loadSettle = s := by
  simp [State.loadSettle, h]

theorem State.repairSettle_calm (s : State) (h : (s.scaler.repairs.all fun r => r.line.isNone) = true) :
    s.repairSettle = s := by
  simp [State.repairSettle, h]

/-- What settles when nothing is due by itself. -/
theorem State.settle_calm (t s : State) (h : t.calm = true) :
    t.settle s = if t.clocked then t.geomSync else t := by
  unfold State.calm at h
  simp only [Bool.and_eq_true, bne_iff_ne, ne_eq, beq_iff_eq, Bool.not_eq_true'] at h
  obtain ⟨⟨⟨⟨⟨⟨⟨⟨⟨⟨⟨h1, h2⟩, h4⟩, hb⟩, hl⟩, hr0⟩, hr1⟩, hs⟩, hq⟩, hn⟩, ha⟩, hp⟩ := h
  unfold State.settle
  rw [State.hpSettle_calm t s h1 h2 h4, State.barSettle_calm t hb, State.loadSettle_calm t hl, State.settleReleases_calm t hr0 hr1,
    State.bistKick_calm t hs, State.qiSettle_calm t hq, State.launchFrames_calm t hn, State.armAssemble_calm t ha,
    State.repairSettle_calm t hp]

end Sys2Proof.Machine
end

