-- ==== Sys2Proof/Laws/Dram.lean ====
section
/-! SUPPORT. The laws of the memory: a read after a write, and that every memory operation keeps the canonical form. -/

namespace Sys2Proof.Machine

/-! ### Folds -/

/-- What every turn of a fold keeps, the fold keeps. -/
theorem forIn'_keeps {α : Type} (P : State → Prop) (f : α → State → State) (h : ∀ a s, P s → P (f a s)) (l : List α) :
    ∀ s, P s → P (forIn' l f s) := by
  unfold forIn'
  induction l with
  | nil => intro s hs; exact hs
  | cons a t ih => intro s hs; exact ih _ (h a s hs)

/-- What every turn of a counted fold keeps, the fold keeps. -/
theorem forTo_keeps (P : State → Prop) (f : Nat → State → State) (h : ∀ i s, P s → P (f i s)) (n : Nat) (s : State)
    (hs : P s) : P (forTo n f s) := forIn'_keeps P f h (List.range n) s hs

/-- What a conditional effect keeps. -/
theorem State.when_keeps (P : State → Prop) (f : State → State) (c : Bool) (s : State) (h : ∀ s, P s → P (f s))
    (hs : P s) : P (s.when c f) := by
  unfold State.when
  split
  · exact h s hs
  · exact hs

/-! ### The contents under the operations that only look -/

@[simp] theorem State.setDamage_mem (s : State) (cw n : Nat) : (s.setDamage cw n).dram.mem = s.dram.mem := rfl

@[simp] theorem State.learn_mem (s : State) (cw v : Nat) : (s.learn cw v).dram.mem = s.dram.mem := by
  unfold State.learn
  split <;> rfl

@[simp] theorem State.setBank_mem (s : State) (k : Nat) (b : DBank) : (s.setBank k b).dram.mem = s.dram.mem := rfl

@[simp] theorem State.touch_mem (s : State) (a : Nat) : (s.touch a).dram.mem = s.dram.mem := rfl

@[simp] theorem State.setWq_mem (s : State) (q : Nat) (l : List DWr) : (s.setWq q l).dram.mem = s.dram.mem := rfl

@[simp] theorem State.when_mem (s : State) (c : Bool) (f : State → State) (h : ∀ s, (f s).dram.mem = s.dram.mem) :
    (s.when c f).dram.mem = s.dram.mem := by
  unfold State.when
  split
  · exact h s
  · rfl

/-- A fold whose every turn leaves the contents leaves them. -/
theorem forIn'_mem {α : Type} (l : List α) (f : α → State → State) (h : ∀ a s, (f a s).dram.mem = s.dram.mem) (s : State) :
    (forIn' l f s).dram.mem = s.dram.mem :=
  forIn'_keeps (fun t => t.dram.mem = s.dram.mem) f (fun a t ht => by rw [h]; exact ht) l s rfl

/-- A counted fold whose every turn leaves the contents leaves them. -/
theorem forTo_mem (n : Nat) (f : Nat → State → State) (h : ∀ i s, (f i s).dram.mem = s.dram.mem) (s : State) :
    (forTo n f s).dram.mem = s.dram.mem := forIn'_mem (List.range n) f h s

@[simp] theorem State.noteCw_mem (s : State) (c cw n : Nat) : (s.noteCw c cw n).dram.mem = s.dram.mem := by
  unfold State.noteCw
  simp only
  split
  · rfl
  · split
    · simp
    · simp only [State.when]
      split <;> simp

@[simp] theorem State.putErr_mem (s : State) (cw n : Nat) : (s.putErr cw n).dram.mem = s.dram.mem := by
  simp [State.putErr]

@[simp] theorem State.healCw_mem (s : State) (cw n : Nat) : (s.healCw cw n).dram.mem = s.dram.mem := by
  simp [State.healCw]

@[simp] theorem State.issueWrite_mem (w : DWr) (s : State) : (State.issueWrite w s).dram.mem = s.dram.mem := by
  unfold State.issueWrite
  simp only
  rw [State.touch_mem, forIn'_mem _ _ (fun e s => by simp), State.when_mem _ _ _ (fun s => by simp)]
  rfl

@[simp] theorem State.issueWrites_mem (s : State) (q n : Nat) : (s.issueWrites q n).dram.mem = s.dram.mem :=
  forIn'_mem _ _ (fun w s => by simp) s

@[simp] theorem State.wqDrain_mem (s : State) (q : Nat) : (s.wqDrain q).dram.mem = s.dram.mem := by
  unfold State.wqDrain
  simp only
  split <;> simp

@[simp] theorem State.drainFor_mem (s : State) (b ser : Nat) : (s.drainFor b ser).dram.mem = s.dram.mem := by
  simp [State.drainFor]

@[simp] theorem State.serial_mem (s : State) : s.serial.1.dram.mem = s.dram.mem := rfl

@[simp] theorem State.spend_mem (c : Nat) (s : State) : (State.spend c s).dram.mem = s.dram.mem := rfl

@[simp] theorem State.setDout_mem (s : State) (o : Nat) (d : DOut) : (s.setDout o d).dram.mem = s.dram.mem := rfl

@[simp] theorem State.isoCount_mem (s : State) (b n : Nat) : (s.isoCount b n).dram.mem = s.dram.mem := by
  unfold State.isoCount
  exact forTo_keeps (fun t => t.dram.mem = s.dram.mem) _ (fun i t h => by simpa using h) n _ (by simp)

@[simp] theorem State.gateFlag_mem (s : State) (g : DGate) : (s.gateFlag g).dram.mem = s.dram.mem := by
  cases g <;> simp [State.gateFlag]

@[simp] theorem State.decodeCw_mem (s : State) (c cw : Nat) : (s.decodeCw c cw).1.dram.mem = s.dram.mem := by
  simp [State.decodeCw]

@[simp] theorem State.decodeBurst_mem (s : State) (c b : Nat) : (s.decodeBurst c b).1.dram.mem = s.dram.mem := by
  unfold State.decodeBurst
  suffices h : ∀ (l : List Nat) (p : State × Bool), (l.foldl (fun (p : State × Bool) i =>
      let r := p.1.decodeCw c (b * 8 + i)
      (r.1, p.2 && r.2)) p).1.dram.mem = p.1.dram.mem from h _ _
  intro l
  induction l with
  | nil => intro p; rfl
  | cons i t ih => intro p; rw [List.foldl_cons, ih]; simp

@[simp] theorem State.watchRange_mem (c a n o : Nat) (s : State) :
    (s.watchRange c a n o).dram.mem = s.dram.mem := by
  unfold State.watchRange
  simp only
  split
  · rfl
  · simp only [State.when]
    split <;> simp

/-- A burst read at once changes no byte of the memory. -/
@[simp] theorem State.readBurst_mem (s : State) (c b : Nat) : (s.readBurst c b).1.dram.mem = s.dram.mem := by
  simp [State.readBurst]

/-! ### The read queues -/

@[simp] theorem State.updRead_mem (s : State) (i : Nat) (f : DRead → DRead) : (s.updRead i f).dram.mem = s.dram.mem := rfl

@[simp] theorem State.ageReads_mem (cw : Nat) (s : State) : (State.ageReads cw s).dram.mem = s.dram.mem := rfl

@[simp] theorem State.poisonLine_mem (a n o y : Nat) (s : State) : (State.poisonLine a n o y s).dram.mem = s.dram.mem := by
  unfold State.poisonLine
  simp only
  rw [State.when_mem _ _ _ (fun s => by simp)]
  simp

@[simp] theorem State.dispPoison_mem (a n : Nat) (s : State) : (State.dispPoison a n s).dram.mem = s.dram.mem := by
  unfold State.dispPoison
  simp only
  split <;> simp

@[simp] theorem State.answerPoison_mem (s : State) (c a n : Nat) : (s.answerPoison c a n).dram.mem = s.dram.mem := by
  simp [State.answerPoison]

@[simp] theorem State.enterRead_mem (i : Nat) (s : State) : (State.enterRead i s).dram.mem = s.dram.mem := by
  unfold State.enterRead
  split
  · rfl
  · split
    · rfl
    · split <;> simp

@[simp] theorem State.enterReads_mem (s : State) : s.enterReads.dram.mem = s.dram.mem :=
  forTo_mem _ _ (fun i s => by simp) s

@[simp] theorem State.askReads_mem (s : State) (l : List DRead) : (s.askReads l).dram.mem = s.dram.mem := by
  unfold State.askReads
  rw [State.enterReads_mem]
  exact forIn'_mem l State.pushRead (fun d s => rfl) s

@[simp] theorem State.turnTaken_mem (s : State) (q i : Nat) : (s.turnTaken q i).dram.mem = s.dram.mem := by
  unfold State.turnTaken
  simp only
  have h (l : List Nat) : (forIn' l (fun j s => s.updRead j fun d => { d with passed := d.passed + 1 }) s).dram.mem =
      s.dram.mem := forIn'_mem _ _ (fun j s => State.updRead_mem s j _) s
  split <;> exact h _

/-- Serving the code words of a burst leaves the contents. -/
theorem State.serveCws_mem (d : DRead) (errs : List (Nat × Nat)) (l : List Nat) :
    ∀ p : State × List (Nat × Nat), (l.foldl (State.serveCw d errs) p).1.dram.mem = p.1.dram.mem := by
  induction l with
  | nil => intro p; rfl
  | cons j t ih =>
    intro p
    rw [List.foldl_cons, ih]
    simp [State.serveCw]

@[simp] theorem State.deliverOne_mem (c : Nat) (s : State) : (State.deliverOne c s).dram.mem = s.dram.mem := by
  unfold State.deliverOne
  split
  · rfl
  · split
    · simp only
      have h (u : State) (l : List (Nat × Nat)) : (forIn' l (fun m s => s.noteCw c m.1 m.2) u).dram.mem = u.dram.mem :=
        forIn'_mem _ _ (fun m s => by simp) u
      split
      · exact h _ _
      · split
        · simp [State.scrubEnd, h]
        · split <;> simp [h]
    · rfl

@[simp] theorem State.deliverReads_mem (s : State) (c : Nat) : (s.deliverReads c).dram.mem = s.dram.mem :=
  forTo_mem _ _ (fun i s => by simp) s

@[simp] theorem State.closeBank_mem (s : State) (k : Nat) : (s.closeBank k).dram.mem = s.dram.mem := by
  unfold State.closeBank
  simp only
  split <;> simp

@[simp] theorem State.refreshOnce_mem (q r : Nat) (s : State) : (State.refreshOnce q r s).dram.mem = s.dram.mem := by
  unfold State.refreshOnce
  simp only [State.emit_dram]
  exact forTo_mem _ _ (fun g s => by simp) s

@[simp] theorem State.makeUp_mem (q r : Nat) (s : State) : (State.makeUp q r s).dram.mem = s.dram.mem := by
  unfold State.makeUp
  refine forTo_mem _ _ (fun i s => ?_) s
  split
  · rw [State.refreshOnce_mem]; rfl
  · rfl

@[simp] theorem State.drainAgain_mem (s : State) (b : Nat) : (s.drainAgain b).dram.mem = s.dram.mem :=
  forIn'_mem _ _ (fun d s => by simp) s

/-- Serving a read changes no byte of the memory. -/
@[simp] theorem State.serveRead_mem (s : State) (q i : Nat) (errs : List (Nat × Nat)) :
    (s.serveRead q i errs).dram.mem = s.dram.mem := by
  unfold State.serveRead
  split
  · rfl
  · simp only
    rw [forTo_mem _ _ (fun r s => by simp), State.enterReads_mem, State.deliverReads_mem, State.wqDrain_mem,
      State.when_mem _ _ _ (fun s => by simp), State.touch_mem, State.drainAgain_mem, State.updRead_mem,
      State.serveCws_mem, State.turnTaken_mem]

@[simp] theorem State.serveNext_mem (s : State) (q : Nat) (busy : List Nat) (errs : List (Nat × Nat)) :
    (s.serveNext q busy errs).dram.mem = s.dram.mem := by
  unfold State.serveNext
  split <;> simp

@[simp] theorem State.runReads_mem (c : Nat) (s : State) : (State.runReads c s).dram.mem = s.dram.mem := by
  unfold State.runReads
  refine forTo_mem _ _ (fun i s => ?_) s
  split <;> simp

/-- A client read changes no byte of the memory. -/
theorem State.dramRead_mem (s : State) (c a n : Nat) : (s.dramRead c a n).1.dram.mem = s.dram.mem := by
  unfold State.dramRead
  split
  · split
    · simp only
      suffices h : ∀ (l : List Nat) (p : State × Bool), (l.foldl (fun (p : State × Bool) b =>
          let d := p.1.readBurst c b
          (d.1, p.2 && d.2)) p).1.dram.mem = p.1.dram.mem from h _ _
      intro l
      induction l with
      | nil => intro p; rfl
      | cons i t ih => intro p; rw [List.foldl_cons, ih]; simp
    · simp
  · simp

/-! ### Writes -/

@[simp] theorem State.renewCw_mem (cw : Nat) (s : State) : (State.renewCw cw s).dram.mem = s.dram.mem := by
  simp [State.renewCw]

/-- The contents after a write in whole code words. -/
theorem State.putDram_mem (s : State) (a : Nat) (bs : List Byte) :
    (s.putDram a bs).dram.mem = SMap.setRange 0 s.dram.mem (s.wholeCws a bs).1 (s.wholeCws a bs).2 := by
  unfold State.putDram
  simp only
  have h : ∀ t, (forIn' (cwsOf a bs.length) State.renewCw t).dram.mem = t.dram.mem := by
    intro t
    exact forIn'_keeps (fun u => u.dram.mem = t.dram.mem) _ (fun cw u h => by simpa using h) _ t rfl
  rw [h]

/-- In defined contents a write is its own bytes. -/
theorem State.wholeCws_defined (s : State) (a : Nat) (bs : List Byte) (h : s.dram.undef = none) :
    s.wholeCws a bs = (a, bs) := by
  unfold State.wholeCws
  rw [h]

/-- Taking a run of bytes keeps the canonical form. -/
theorem State.putDram_wf (s : State) (a : Nat) (bs : List Byte) (h : Memory.wf s.dram.mem = true) :
    Memory.wf (s.putDram a bs).dram.mem = true := by
  rw [State.putDram_mem]
  exact SMap.wf_setRange 0 _ _ _ h

/-- The read part of a write leaves the contents. -/
theorem State.rmwWords_mem (a n b : Nat) (s : State) : (State.rmwWords a n b s).1.dram.mem = s.dram.mem := by
  unfold State.rmwWords
  split
  · rfl
  · exact forIn'_mem _ _ (fun cw s => by simp) s

@[simp] theorem State.makeRoom_mem (q : Nat) (s : State) : (State.makeRoom q s).dram.mem = s.dram.mem := by
  unfold State.makeRoom
  refine forTo_mem _ _ (fun i s => ?_) s
  split <;> simp

/-- A burst committed leaves the contents. -/
theorem State.writeBurst_mem (c a n b : Nat) (s : State) : (State.writeBurst c a n b s).dram.mem = s.dram.mem := by
  simp [State.writeBurst, State.rmwWords_mem]

/-- The bursts of a write before its bytes are put leave the contents. -/
theorem State.writeBursts_mem (c a n : Nat) (l : List Nat) (s : State) :
    (forIn' l (State.writeBurst c a n) s).dram.mem = s.dram.mem :=
  forIn'_keeps (fun u => u.dram.mem = s.dram.mem) _ (fun b u h => by rw [State.writeBurst_mem]; exact h) _ s rfl

/-- A client write keeps the canonical form, committed or discarded. -/
theorem State.dramWrite_wf (s : State) (c a : Nat) (bs : List Byte) (h : Memory.wf s.dram.mem = true) :
    Memory.wf (s.dramWrite c a bs).1.dram.mem = true := by
  unfold State.dramWrite
  split
  · simp only [State.watchRange_mem]
    refine State.putDram_wf _ _ _ ?_
    rw [State.writeBursts_mem]
    exact h
  · simpa using h

/-- A client read keeps the canonical form. -/
theorem State.dramRead_wf (s : State) (c a n : Nat) (h : Memory.wf s.dram.mem = true) :
    Memory.wf (s.dramRead c a n).1.dram.mem = true := by
  rw [State.dramRead_mem]
  exact h

/-- Losing the contents keeps the canonical form. -/
theorem State.dramLose_wf (s : State) : Memory.wf s.dramLose.dram.mem = true := rfl

/-- The memory after reset is in canonical form. -/
theorem State.reset_memory_wf : Memory.wf State.reset.dram.mem = true := rfl

end Sys2Proof.Machine
end

