-- ==== Sys2Proof/Laws/PerInstr.lean ====
section
/-! SUPPORT. Statements made per command, as syntax. The family Sendable: no row of the table is empty, since a command
of each constructor is well formed. -/

namespace Sys2Proof.Laws

/-- Some well-formed command is made by the same constructor. -/
def Sendable.Statement (i : Instr) : Prop := ∃ j : Instr, j.ctorIdx = i.ctorIdx ∧ j.wf = true

theorem Sendable.registerWrite (o : Sender) (a : BitVec 24) (w : Word) :
    Sendable.Statement (.registerWrite o a w) := ⟨.registerWrite o a w, rfl, rfl⟩
theorem Sendable.jobdesc (seq : BitVec 8) (words : List Word) (f : PktFault) :
    Sendable.Statement (.jobdesc seq words f) := ⟨.jobdesc 0 [0] .none, rfl, by decide⟩
theorem Sendable.jobqRelease (o : Sender) (w : Word) :
    Sendable.Statement (.jobqRelease o w) := ⟨.jobqRelease o w, rfl, rfl⟩
theorem Sendable.jobqFlush (o : Sender) (w : Word) : Sendable.Statement (.jobqFlush o w) := ⟨.jobqFlush o w, rfl, rfl⟩
theorem Sendable.jobqEnable (o : Sender) (w : Word) :
    Sendable.Statement (.jobqEnable o w) := ⟨.jobqEnable o w, rfl, rfl⟩
theorem Sendable.lineDecision (dt : Nat) (f : LineFaults) :
    Sendable.Statement (.lineDecision dt f) := ⟨.lineDecision 0 ⟨none, false, false, false⟩, rfl, by decide⟩
theorem Sendable.portGo (p : Fin 48) : Sendable.Statement (.portGo p) := ⟨.portGo p, rfl, rfl⟩
theorem Sendable.strobeIssue (p : Fin 48) : Sendable.Statement (.strobeIssue p) := ⟨.strobeIssue p, rfl, rfl⟩
theorem Sendable.kerfAck (p : Fin 48) (kind : BitVec 8) (ref : BitVec 24) (status : BitVec 8) :
    Sendable.Statement (.kerfAck p kind ref status) := ⟨.kerfAck p kind ref status, rfl, rfl⟩
theorem Sendable.tempPacket (p : Fin 48) (t0 t1 : BitVec 16) (ready supply hot : Bool) (wvalid : BitVec 8) :
    Sendable.Statement (.tempPacket p t0 t1 ready supply hot wvalid) := ⟨.tempPacket p t0 t1 ready supply hot wvalid, rfl, rfl⟩
theorem Sendable.testPacket (p : Fin 48) (seg : Fin 8) (bytes : List Byte) :
    Sendable.Statement (.testPacket p seg bytes) := ⟨.testPacket 0 0 (List.replicate 63 0), rfl, by decide⟩
theorem Sendable.telCrc (p : Fin 48) : Sendable.Statement (.telCrc p) := ⟨.telCrc p, rfl, rfl⟩
theorem Sendable.tableAckTimeout (p : Fin 48) (code : BitVec 8) :
    Sendable.Statement (.tableAckTimeout p code) := ⟨.tableAckTimeout p code, rfl, rfl⟩
theorem Sendable.waveAckTimeout (p : Fin 48) : Sendable.Statement (.waveAckTimeout p) := ⟨.waveAckTimeout p, rfl, rfl⟩
theorem Sendable.testTimeout (p : Fin 48) : Sendable.Statement (.testTimeout p) := ⟨.testTimeout p, rfl, rfl⟩
theorem Sendable.telLost (p : Fin 48) : Sendable.Statement (.telLost p) := ⟨.telLost p, rfl, rfl⟩
theorem Sendable.wloadGo (o : Sender) (p : Fin 48) (w : Word) :
    Sendable.Statement (.wloadGo o p w) := ⟨.wloadGo o p w, rfl, rfl⟩
theorem Sendable.fireTestGo (o : Sender) (p : Fin 48) :
    Sendable.Statement (.fireTestGo o p) := ⟨.fireTestGo o p, rfl, rfl⟩
theorem Sendable.linkEn (o : Sender) (p : Fin 48) (w : Word) :
    Sendable.Statement (.linkEn o p w) := ⟨.linkEn o p w, rfl, rfl⟩
theorem Sendable.kerfRun (o : Sender) (p : Fin 48) (w : Word) :
    Sendable.Statement (.kerfRun o p w) := ⟨.kerfRun o p w, rfl, rfl⟩
theorem Sendable.hen (o : Sender) (p : Fin 48) (w : Word) : Sendable.Statement (.hen o p w) := ⟨.hen o p w, rfl, rfl⟩
theorem Sendable.kerfRunEnter (p : Fin 48) : Sendable.Statement (.kerfRunEnter p) := ⟨.kerfRunEnter p, rfl, rfl⟩
theorem Sendable.trainFail (p : Fin 48) : Sendable.Statement (.trainFail p) := ⟨.trainFail p, rfl, rfl⟩
theorem Sendable.linkDown (p : Fin 48) : Sendable.Statement (.linkDown p) := ⟨.linkDown p, rfl, rfl⟩
theorem Sendable.dlyWrite (o : Sender) (p : Fin 48) (w : Word) :
    Sendable.Statement (.dlyWrite o p w) := ⟨.dlyWrite o p w, rfl, rfl⟩
theorem Sendable.encoderEdge (n : Fin 2) (a b : Bool) (dt : Nat) :
    Sendable.Statement (.encoderEdge n a b dt) := ⟨.encoderEdge n a b dt, rfl, rfl⟩
theorem Sendable.indexEvent (n : Fin 2) : Sendable.Statement (.indexEvent n) := ⟨.indexEvent n, rfl, rfl⟩
theorem Sendable.wireDisagreement (n : Fin 2) (pair : Fin 3) :
    Sendable.Statement (.wireDisagreement n pair) := ⟨.wireDisagreement n pair, rfl, rfl⟩
theorem Sendable.posEnable (o : Sender) (w : Word) : Sendable.Statement (.posEnable o w) := ⟨.posEnable o w, rfl, rfl⟩
theorem Sendable.rearm (o : Sender) (w : Word) : Sendable.Statement (.rearm o w) := ⟨.rearm o w, rfl, rfl⟩
theorem Sendable.probeEdge (p : Fin 4) (falling : Bool) :
    Sendable.Statement (.probeEdge p falling) := ⟨.probeEdge p falling, rfl, rfl⟩
theorem Sendable.probeFifoPop (o : Sender) (p : Fin 4) :
    Sendable.Statement (.probeFifoPop o p) := ⟨.probeFifoPop o p, rfl, rfl⟩
theorem Sendable.blockRelease (st : Fin 56) : Sendable.Statement (.blockRelease st) := ⟨.blockRelease st, rfl, rfl⟩
theorem Sendable.blockDecode (st : Fin 56) (f : DecFaults) :
    Sendable.Statement (.blockDecode st f) := ⟨.blockDecode st f, rfl, rfl⟩
theorem Sendable.ctxXferGo (o : Sender) (w : Word) : Sendable.Statement (.ctxXferGo o w) := ⟨.ctxXferGo o w, rfl, rfl⟩
theorem Sendable.encCfgWrite (o : Sender) (e : Fin 8) (w : Word) :
    Sendable.Statement (.encCfgWrite o e w) := ⟨.encCfgWrite o e w, rfl, rfl⟩
theorem Sendable.bandNext (o : Sender) (e : Fin 8) (w : Word) :
    Sendable.Statement (.bandNext o e w) := ⟨.bandNext o e w, rfl, rfl⟩
theorem Sendable.encBlock (e : Fin 8) : Sendable.Statement (.encBlock e) := ⟨.encBlock e, rfl, rfl⟩
theorem Sendable.descriptorRead (st : Fin 56) :
    Sendable.Statement (.descriptorRead st) := ⟨.descriptorRead st, rfl, rfl⟩
theorem Sendable.descriptorPoll (st : Fin 56) :
    Sendable.Statement (.descriptorPoll st) := ⟨.descriptorPoll st, rfl, rfl⟩
theorem Sendable.fetchDeadline (st : Fin 56) : Sendable.Statement (.fetchDeadline st) := ⟨.fetchDeadline st, rfl, rfl⟩
theorem Sendable.slotFetchDone (st : Fin 56) : Sendable.Statement (.slotFetchDone st) := ⟨.slotFetchDone st, rfl, rfl⟩
theorem Sendable.late (st : Fin 56) : Sendable.Statement (.late st) := ⟨.late st, rfl, rfl⟩
theorem Sendable.descWriteback (st : Fin 56) : Sendable.Statement (.descWriteback st) := ⟨.descWriteback st, rfl, rfl⟩
theorem Sendable.rmapWrite (o : Sender) (w : Word) : Sendable.Statement (.rmapWrite o w) := ⟨.rmapWrite o w, rfl, rfl⟩
theorem Sendable.calBankWrite (o : Sender) (w : Word) :
    Sendable.Statement (.calBankWrite o w) := ⟨.calBankWrite o w, rfl, rfl⟩
theorem Sendable.logRej (o : Sender) (cfg : Bool) (w : Word) :
    Sendable.Statement (.logRej o cfg w) := ⟨.logRej o cfg w, rfl, rfl⟩
theorem Sendable.txnBegin (o : Sender) : Sendable.Statement (.txnBegin o) := ⟨.txnBegin o, rfl, rfl⟩
theorem Sendable.txnRollback (o : Sender) : Sendable.Statement (.txnRollback o) := ⟨.txnRollback o, rfl, rfl⟩
theorem Sendable.txnStageWrite (o : Sender) (a : BitVec 24) (w : Word) (parity : Bool) :
    Sendable.Statement (.txnStageWrite o a w parity) := ⟨.txnStageWrite o a w parity, rfl, rfl⟩
theorem Sendable.txnArm (o : Sender) (w : Word) (parity : Bool) :
    Sendable.Statement (.txnArm o w parity) := ⟨.txnArm o w parity, rfl, rfl⟩
theorem Sendable.txnSlotCancel (o : Sender) (k : Fin 16) :
    Sendable.Statement (.txnSlotCancel o k) := ⟨.txnSlotCancel o k, rfl, rfl⟩
theorem Sendable.txnTimeTrigger (k : Fin 16) : Sendable.Statement (.txnTimeTrigger k) := ⟨.txnTimeTrigger k, rfl, rfl⟩
theorem Sendable.rlogRej (o : Sender) (cfg : Bool) (w : Word) :
    Sendable.Statement (.rlogRej o cfg w) := ⟨.rlogRej o cfg w, rfl, rfl⟩
theorem Sendable.tallySnapshot (o : Sender) : Sendable.Statement (.tallySnapshot o) := ⟨.tallySnapshot o, rfl, rfl⟩
theorem Sendable.snapdataRead (o : Sender) : Sendable.Statement (.snapdataRead o) := ⟨.snapdataRead o, rfl, rfl⟩
theorem Sendable.frameStart (n : Fin 8) (vc : Fin 4) (hdr : Fin 3) :
    Sendable.Statement (.frameStart n vc hdr) := ⟨.frameStart n vc hdr, rfl, rfl⟩
theorem Sendable.linePacket (n : Fin 8) (vc : Fin 4) (dt : BitVec 6) (hdr : Fin 3) (crcOk : Bool) (pixels : List (BitVec 14)) :
    Sendable.Statement (.linePacket n vc dt hdr crcOk pixels) := ⟨.linePacket 0 0 0x2A 0 true [], rfl, by decide⟩
theorem Sendable.frameEnd (n : Fin 8) (vc : Fin 4) (hdr : Fin 3) :
    Sendable.Statement (.frameEnd n vc hdr) := ⟨.frameEnd n vc hdr, rfl, rfl⟩
theorem Sendable.laneErr (n : Fin 8) : Sendable.Statement (.laneErr n) := ⟨.laneErr n, rfl, rfl⟩
theorem Sendable.triggerCross (n : Fin 8) (cycles : Nat) :
    Sendable.Statement (.triggerCross n cycles) := ⟨.triggerCross n cycles, rfl, rfl⟩
theorem Sendable.triggerPulseEnd (n : Fin 8) :
    Sendable.Statement (.triggerPulseEnd n) := ⟨.triggerPulseEnd n, rfl, rfl⟩
theorem Sendable.pipeLine (k : Fin 4) (err : Fin 3) :
    Sendable.Statement (.pipeLine k err) := ⟨.pipeLine k err, rfl, rfl⟩
theorem Sendable.published (n : Fin 8) (ecc : List Nat) (lost : List (Nat × Nat)) :
    Sendable.Statement (.published n ecc lost) := ⟨.published 0 [] [], rfl, by decide⟩
theorem Sendable.portEnable (o : Sender) (n : Fin 8) (w : Word) :
    Sendable.Statement (.portEnable o n w) := ⟨.portEnable o n w, rfl, rfl⟩
theorem Sendable.pipeCfgWrite (o : Sender) (k : Fin 4) (w : Word) :
    Sendable.Statement (.pipeCfgWrite o k w) := ⟨.pipeCfgWrite o k w, rfl, rfl⟩
theorem Sendable.ffWrite (o : Sender) (n : Fin 8) (w : Word) :
    Sendable.Statement (.ffWrite o n w) := ⟨.ffWrite o n w, rfl, rfl⟩
theorem Sendable.cciCmd (o : Sender) (b : Fin 4) (w : Word) :
    Sendable.Statement (.cciCmd o b w) := ⟨.cciCmd o b w, rfl, rfl⟩
theorem Sendable.cciTransferDone (b : Fin 4) (ack : Bool) (data : BitVec 16) :
    Sendable.Statement (.cciTransferDone b ack data) := ⟨.cciTransferDone b ack data, rfl, rfl⟩
theorem Sendable.refRowWrite (row : Nat) : Sendable.Statement (.refRowWrite row) := ⟨.refRowWrite 0, rfl, by decide⟩
theorem Sendable.scalerEnable (o : Sender) (w : Word) :
    Sendable.Statement (.scalerEnable o w) := ⟨.scalerEnable o w, rfl, rfl⟩
theorem Sendable.hmWrite (o : Sender) (w : Word) : Sendable.Statement (.hmWrite o w) := ⟨.hmWrite o w, rfl, rfl⟩
theorem Sendable.hmFifoPop (o : Sender) : Sendable.Statement (.hmFifoPop o) := ⟨.hmFifoPop o, rfl, rfl⟩
theorem Sendable.beacon (e : Fin 2) (hseq : BitVec 8) (orig hop : Fin 16) (w0 w1 w2 : Word) (delay : Nat) :
    Sendable.Statement (.beacon e hseq orig hop w0 w1 w2 delay) := ⟨.beacon e hseq orig hop w0 w1 w2 delay, rfl, rfl⟩
theorem Sendable.pmark (e : Fin 2) (hseq : BitVec 8) (orig hop : Fin 16) (t : Word) :
    Sendable.Statement (.pmark e hseq orig hop t) := ⟨.pmark e hseq orig hop t, rfl, rfl⟩
theorem Sendable.writes (e : Fin 2) (hseq : BitVec 8) (orig hop : Fin 16) (ws : List Word) :
    Sendable.Statement (.writes e hseq orig hop ws) := ⟨.writes 0 0 0 0 [], rfl, by decide⟩
theorem Sendable.prep (e : Fin 2) (hseq : BitVec 8) (orig hop : Fin 16) (w0 w1 w2 : Word) :
    Sendable.Statement (.prep e hseq orig hop w0 w1 w2) := ⟨.prep e hseq orig hop w0 w1 w2, rfl, rfl⟩
theorem Sendable.vote (e : Fin 2) (hseq : BitVec 8) (orig hop : Fin 16) (w : Word) :
    Sendable.Statement (.vote e hseq orig hop w) := ⟨.vote e hseq orig hop w, rfl, rfl⟩
theorem Sendable.trig (e : Fin 2) (hseq : BitVec 8) (orig hop : Fin 16) (w : Word) :
    Sendable.Statement (.trig e hseq orig hop w) := ⟨.trig e hseq orig hop w, rfl, rfl⟩
theorem Sendable.arrive (e : Fin 2) (hseq : BitVec 8) (orig hop : Fin 16) (jobId pageNo : BitVec 16) :
    Sendable.Statement (.arrive e hseq orig hop jobId pageNo) := ⟨.arrive e hseq orig hop jobId pageNo, rfl, rfl⟩
theorem Sendable.gop (e : Fin 2) (hseq : BitVec 8) (orig hop : Fin 16) (op : BitVec 2) (l : BitVec 24) :
    Sendable.Statement (.gop e hseq orig hop op l) := ⟨.gop e hseq orig hop op l, rfl, rfl⟩
theorem Sendable.map (e : Fin 2) (hseq : BitVec 8) (orig hop : Fin 16) (ids : BitVec 16) (gen : BitVec 8) :
    Sendable.Statement (.map e hseq orig hop ids gen) := ⟨.map e hseq orig hop ids gen, rfl, rfl⟩
theorem Sendable.join (e : Fin 2) (hseq : BitVec 8) (orig hop : Fin 16) :
    Sendable.Statement (.join e hseq orig hop) := ⟨.join e hseq orig hop, rfl, rfl⟩
theorem Sendable.leave (e : Fin 2) (hseq : BitVec 8) (orig hop : Fin 16) :
    Sendable.Statement (.leave e hseq orig hop) := ⟨.leave e hseq orig hop, rfl, rfl⟩
theorem Sendable.breakMsg (e : Fin 2) (hseq : BitVec 8) (orig hop : Fin 16) (west : Bool) :
    Sendable.Statement (.breakMsg e hseq orig hop west) := ⟨.breakMsg e hseq orig hop west, rfl, rfl⟩
theorem Sendable.time (e : Fin 2) (hseq : BitVec 8) (orig hop : Fin 16) (w0 w1 w2 : Word) (delay : Nat) :
    Sendable.Statement (.time e hseq orig hop w0 w1 w2 delay) := ⟨.time e hseq orig hop w0 w1 w2 delay, rfl, rfl⟩
theorem Sendable.barAck (e : Fin 2) (hseq : BitVec 8) :
    Sendable.Statement (.barAck e hseq) := ⟨.barAck e hseq, rfl, rfl⟩
theorem Sendable.msgCrc (e : Fin 2) (hdr : Word) (body : List Word) :
    Sendable.Statement (.msgCrc e hdr body) := ⟨.msgCrc e hdr body, rfl, rfl⟩
theorem Sendable.hopRetry (e : Fin 2) : Sendable.Statement (.hopRetry e) := ⟨.hopRetry e, rfl, rfl⟩
theorem Sendable.barPortAlign (e : Fin 2) (skew0 skew1 : Nat) (echoes : List (Nat × Nat)) (nbr : Fin 16) :
    Sendable.Statement (.barPortAlign e skew0 skew1 echoes nbr) := ⟨.barPortAlign e skew0 skew1 echoes nbr, rfl, rfl⟩
theorem Sendable.beaconSend (age : Nat) : Sendable.Statement (.beaconSend age) := ⟨.beaconSend age, rfl, rfl⟩
theorem Sendable.beaconKeepalive (age : Nat) :
    Sendable.Statement (.beaconKeepalive age) := ⟨.beaconKeepalive age, rfl, rfl⟩
theorem Sendable.barEn (o : Sender) (w : Word) : Sendable.Statement (.barEn o w) := ⟨.barEn o w, rfl, rfl⟩
theorem Sendable.barLeave (o : Sender) (w : Word) : Sendable.Statement (.barLeave o w) := ⟨.barLeave o w, rfl, rfl⟩
theorem Sendable.rejoin (o : Sender) (w : Word) : Sendable.Statement (.rejoin o w) := ⟨.rejoin o w, rfl, rfl⟩
theorem Sendable.snapshotAtLine (o : Sender) : Sendable.Statement (.snapshotAtLine o) := ⟨.snapshotAtLine o, rfl, rfl⟩
theorem Sendable.snapshotNow (o : Sender) : Sendable.Statement (.snapshotNow o) := ⟨.snapshotNow o, rfl, rfl⟩
theorem Sendable.barReset (o : Sender) : Sendable.Statement (.barReset o) := ⟨.barReset o, rfl, rfl⟩
theorem Sendable.timeSend (age : Nat) : Sendable.Statement (.timeSend age) := ⟨.timeSend age, rfl, rfl⟩
theorem Sendable.timeSRead (o : Sender) : Sendable.Statement (.timeSRead o) := ⟨.timeSRead o, rfl, rfl⟩
theorem Sendable.timeSWrite (o : Sender) (w : Word) :
    Sendable.Statement (.timeSWrite o w) := ⟨.timeSWrite o w, rfl, rfl⟩
theorem Sendable.timeNsWrite (o : Sender) (w : Word) :
    Sendable.Statement (.timeNsWrite o w) := ⟨.timeNsWrite o w, rfl, rfl⟩
theorem Sendable.timeStep (o : Sender) (w : Word) : Sendable.Statement (.timeStep o w) := ⟨.timeStep o w, rfl, rfl⟩
theorem Sendable.scheduledLaunch (sec : BitVec 48) (ns : BitVec 32) (frame : List Byte) :
    Sendable.Statement (.scheduledLaunch sec ns frame) := ⟨.scheduledLaunch 0 0 (List.replicate 14 0), rfl, by decide⟩
theorem Sendable.oneStepInsert (frame : List Byte) :
    Sendable.Statement (.oneStepInsert frame) := ⟨.oneStepInsert (List.replicate 14 0), rfl, by decide⟩
theorem Sendable.blockLock (l : Fin 12) : Sendable.Statement (.blockLock l) := ⟨.blockLock l, rfl, rfl⟩
theorem Sendable.lockLostLane (l : Fin 12) (errs : Nat) (lost : Bool) :
    Sendable.Statement (.lockLostLane l errs lost) := ⟨.lockLostLane l errs lost, rfl, rfl⟩
theorem Sendable.stuffErr (l : Fin 12) : Sendable.Statement (.stuffErr l) := ⟨.stuffErr l, rfl, rfl⟩
theorem Sendable.train (remote : BitVec 8) (conf : Bool) (width : Fin 4) (srst : Bool) (skews : List Nat) :
    Sendable.Statement (.train remote conf width srst skews) := ⟨.train 0 true 0 false (List.replicate 8 0), rfl, by decide⟩
theorem Sendable.filler (g : Fin 3) (level : Fin 33) (fseq skews : List Nat) :
    Sendable.Statement (.filler g level fseq skews) := ⟨.filler 0 0 (List.replicate 8 0) (List.replicate 8 0), rfl, by decide⟩
theorem Sendable.ebErr (g : Fin 3) : Sendable.Statement (.ebErr g) := ⟨.ebErr g, rfl, rfl⟩
theorem Sendable.ack (seq : BitVec 8) : Sendable.Statement (.ack seq) := ⟨.ack seq, rfl, rfl⟩
theorem Sendable.nak (seq : BitVec 8) : Sendable.Statement (.nak seq) := ⟨.nak seq, rfl, rfl⟩
theorem Sendable.credit (cls : Fin 4) (limit : BitVec 30) :
    Sendable.Statement (.credit cls limit) := ⟨.credit cls limit, rfl, rfl⟩
theorem Sendable.regWr (seq : BitVec 8) (words : List Word) (f : PktFault) :
    Sendable.Statement (.regWr seq words f) := ⟨.regWr 0 [0] .none, rfl, by decide⟩
theorem Sendable.regRd (seq : BitVec 8) (words : List Word) (f : PktFault) :
    Sendable.Statement (.regRd seq words f) := ⟨.regRd 0 [0] .none, rfl, by decide⟩
theorem Sendable.raster (seq : BitVec 8) (words : List Word) (f : PktFault) :
    Sendable.Statement (.raster seq words f) := ⟨.raster 0 [0] .none, rfl, by decide⟩
theorem Sendable.hlnkEn (o : Sender) (w : Word) : Sendable.Statement (.hlnkEn o w) := ⟨.hlnkEn o w, rfl, rfl⟩
theorem Sendable.retrain (o : Sender) (w : Word) : Sendable.Statement (.retrain o w) := ⟨.retrain o w, rfl, rfl⟩
theorem Sendable.prbsCtl (o : Sender) (l : Fin 12) (w : Word) :
    Sendable.Statement (.prbsCtl o l w) := ⟨.prbsCtl o l w, rfl, rfl⟩
theorem Sendable.errInj (o : Sender) (l : Fin 12) (w : Word) :
    Sendable.Statement (.errInj o l w) := ⟨.errInj o l w, rfl, rfl⟩
theorem Sendable.dramWriteRequest (client : Fin 12) (addr : BitVec 40) (bytes : List Byte) :
    Sendable.Statement (.dramWriteRequest client addr bytes) := ⟨.dramWriteRequest 0 0 [0], rfl, by decide⟩
theorem Sendable.dramReadRequest (client : Fin 12) (addr : BitVec 40) (n : Nat) :
    Sendable.Statement (.dramReadRequest client addr n) := ⟨.dramReadRequest 0 0 1, rfl, by decide⟩
theorem Sendable.dramReadComplete (q : Fin 4) (busy : List Nat) (errs : List (Nat × Nat)) :
    Sendable.Statement (.dramReadComplete q busy errs) := ⟨.dramReadComplete q busy errs, rfl, rfl⟩
theorem Sendable.scrub (errs : List (Nat × Nat)) : Sendable.Statement (.scrub errs) := ⟨.scrub errs, rfl, rfl⟩
theorem Sendable.refresh (q : Fin 4) (rank : Fin 2) (draining : Bool) :
    Sendable.Statement (.refresh q rank draining) := ⟨.refresh q rank draining, rfl, rfl⟩
theorem Sendable.mr4Poll (rr0 rr1 rr2 rr3 : Fin 8) (above1x hot : Bool) :
    Sendable.Statement (.mr4Poll rr0 rr1 rr2 rr3 above1x hot) := ⟨.mr4Poll rr0 rr1 rr2 rr3 above1x hot, rfl, rfl⟩
theorem Sendable.pageIdleClose (q : Fin 4) (rank : Fin 2) (group : Fin 8) (bank : Fin 4) :
    Sendable.Statement (.pageIdleClose q rank group bank) := ⟨.pageIdleClose q rank group bank, rfl, rfl⟩
theorem Sendable.dramInit (o : Sender) (w : Word) : Sendable.Statement (.dramInit o w) := ⟨.dramInit o w, rfl, rfl⟩
theorem Sendable.dramCheckDone (failq : BitVec 4) :
    Sendable.Statement (.dramCheckDone failq) := ⟨.dramCheckDone failq, rfl, rfl⟩
theorem Sendable.pass1Done (e : LoadEv) : Sendable.Statement (.pass1Done e) := ⟨.pass1Done e, rfl, rfl⟩
theorem Sendable.regset (varmask : BitVec 8) (l : List (BitVec 24 × Word)) :
    Sendable.Statement (.regset varmask l) := ⟨.regset varmask l, rfl, rfl⟩
theorem Sendable.trainRecord (varmask : BitVec 8) (ws : List Word) :
    Sendable.Statement (.trainRecord varmask ws) := ⟨.trainRecord 0 (List.replicate 44 0), rfl, by decide⟩
theorem Sendable.eq (varmask : BitVec 8) (ws : List Word) :
    Sendable.Statement (.eq varmask ws) := ⟨.eq 0 (List.replicate 12 0), rfl, by decide⟩
theorem Sendable.remap (varmask : BitVec 8) (first : Nat) (ws : List Word) :
    Sendable.Statement (.remap varmask first ws) := ⟨.remap 0 0 [0, 0], rfl, by decide⟩
theorem Sendable.delay (varmask : BitVec 8) (p : Fin 48) (first : Nat) (ws : List Word) :
    Sendable.Statement (.delay varmask p first ws) := ⟨.delay 0 0 0 [0], rfl, by decide⟩
theorem Sendable.calbank (varmask : BitVec 8) (p : Fin 48) (table : Fin 4) (first : Nat) (ws : List Word) :
    Sendable.Statement (.calbank varmask p table first ws) := ⟨.calbank 0 0 0 0 [0], rfl, by decide⟩
theorem Sendable.dramdata (varmask : BitVec 8) (unit : BitVec 32) (bytes : List Byte) :
    Sendable.Statement (.dramdata varmask unit bytes) := ⟨.dramdata 0 0 [], rfl, by decide⟩
theorem Sendable.fwpatch (varmask : BitVec 8) (id : BitVec 16) (bytes : List Byte) :
    Sendable.Statement (.fwpatch varmask id bytes) := ⟨.fwpatch varmask id bytes, rfl, rfl⟩
theorem Sendable.loadEnd (varmask : BitVec 8) (check : BitVec 32) (patchOk : Bool) :
    Sendable.Statement (.loadEnd varmask check patchOk) := ⟨.loadEnd varmask check patchOk, rfl, rfl⟩
theorem Sendable.reload (o : Sender) (w : Word) : Sendable.Statement (.reload o w) := ⟨.reload o w, rfl, rfl⟩
theorem Sendable.fromB (o : Sender) : Sendable.Statement (.fromB o) := ⟨.fromB o, rfl, rfl⟩
theorem Sendable.flashCmd (o : Sender) (w : Word) : Sendable.Statement (.flashCmd o w) := ⟨.flashCmd o w, rfl, rfl⟩
theorem Sendable.flDone (bytes : List Byte) : Sendable.Statement (.flDone bytes) := ⟨.flDone [], rfl, by decide⟩
theorem Sendable.stumpRead (o : Sender) (a : BitVec 13) (ecc : Fin 3) (raw : BitVec 64) :
    Sendable.Statement (.stumpRead o a ecc raw) := ⟨.stumpRead o a ecc raw, rfl, rfl⟩
theorem Sendable.stumpProgram (o : Sender) (a : BitVec 13) (unlock : BitVec 8) :
    Sendable.Statement (.stumpProgram o a unlock) := ⟨.stumpProgram o a unlock, rfl, rfl⟩
theorem Sendable.stumpErase (o : Sender) (a : BitVec 13) (unlock : BitVec 8) :
    Sendable.Statement (.stumpErase o a unlock) := ⟨.stumpErase o a unlock, rfl, rfl⟩
theorem Sendable.sysResetCmd (o : Sender) (w : Word) :
    Sendable.Statement (.sysResetCmd o w) := ⟨.sysResetCmd o w, rfl, rfl⟩
theorem Sendable.coreResetCmd (o : Sender) (w : Word) :
    Sendable.Statement (.coreResetCmd o w) := ⟨.coreResetCmd o w, rfl, rfl⟩
theorem Sendable.systemResetApply (dly : Nat) :
    Sendable.Statement (.systemResetApply dly) := ⟨.systemResetApply dly, rfl, rfl⟩
theorem Sendable.resetRelease (barId : Fin 16) (var : Fin 8) (bistLow : Bool) :
    Sendable.Statement (.resetRelease barId var bistLow) := ⟨.resetRelease barId var bistLow, rfl, rfl⟩
theorem Sendable.coreResetRelease (dly : Nat) (patchOk : Bool) :
    Sendable.Statement (.coreResetRelease dly patchOk) := ⟨.coreResetRelease dly patchOk, rfl, rfl⟩
theorem Sendable.blockResetAssert (o : Sender) (b : Fin 70) :
    Sendable.Statement (.blockResetAssert o b) := ⟨.blockResetAssert o b, rfl, rfl⟩
theorem Sendable.blockResetDrained (b : Fin 70) (n : Nat) :
    Sendable.Statement (.blockResetDrained b n) := ⟨.blockResetDrained b n, rfl, rfl⟩
theorem Sendable.blockReleaseRequest (o : Sender) (b : Fin 70) :
    Sendable.Statement (.blockReleaseRequest o b) := ⟨.blockReleaseRequest o b, rfl, rfl⟩
theorem Sendable.rstStall (b : Fin 70) : Sendable.Statement (.rstStall b) := ⟨.rstStall b, rfl, rfl⟩
theorem Sendable.lanePllLock (g : Fin 15) : Sendable.Statement (.lanePllLock g) := ⟨.lanePllLock g, rfl, rfl⟩
theorem Sendable.lpllLost (g : Fin 15) : Sendable.Statement (.lpllLost g) := ⟨.lpllLost g, rfl, rfl⟩
theorem Sendable.lrefMeasure (r : Fin 2) (count : BitVec 18) :
    Sendable.Statement (.lrefMeasure r count) := ⟨.lrefMeasure r count, rfl, rfl⟩
theorem Sendable.supLost (r : Fin 8) : Sendable.Statement (.supLost r) := ⟨.supLost r, rfl, rfl⟩
theorem Sendable.railValid (r : Fin 8) : Sendable.Statement (.railValid r) := ⟨.railValid r, rfl, rfl⟩
theorem Sendable.pdSwitchRequest (o : Sender) (w : Word) :
    Sendable.Statement (.pdSwitchRequest o w) := ⟨.pdSwitchRequest o w, rfl, rfl⟩
theorem Sendable.pdRailGood (d : Fin 10) : Sendable.Statement (.pdRailGood d) := ⟨.pdRailGood d, rfl, rfl⟩
theorem Sendable.pdOffDone (d : Fin 10) : Sendable.Statement (.pdOffDone d) := ⟨.pdOffDone d, rfl, rfl⟩
theorem Sendable.pdFail (d : Fin 10) : Sendable.Statement (.pdFail d) := ⟨.pdFail d, rfl, rfl⟩
theorem Sendable.heartbeat (token : BitVec 16) (gap : Nat) :
    Sendable.Statement (.heartbeat token gap) := ⟨.heartbeat token gap, rfl, rfl⟩
theorem Sendable.heartbeatMissed (gap : Nat) :
    Sendable.Statement (.heartbeatMissed gap) := ⟨.heartbeatMissed gap, rfl, rfl⟩
theorem Sendable.coreErr (gap : Nat) : Sendable.Statement (.coreErr gap) := ⟨.coreErr gap, rfl, rfl⟩
theorem Sendable.relStall (gap : Nat) : Sendable.Statement (.relStall gap) := ⟨.relStall gap, rfl, rfl⟩
theorem Sendable.busStall (present : Bool) : Sendable.Statement (.busStall present) := ⟨.busStall present, rfl, rfl⟩
theorem Sendable.takeoverRelease (dly : Nat) (patchOk : Bool) :
    Sendable.Statement (.takeoverRelease dly patchOk) := ⟨.takeoverRelease dly patchOk, rfl, rfl⟩
theorem Sendable.isoDone (ws : List (BitVec 24 × Word)) :
    Sendable.Statement (.isoDone ws) := ⟨.isoDone [], rfl, by decide⟩
theorem Sendable.ckptReady (ecc0 ecc1 : Bool) :
    Sendable.Statement (.ckptReady ecc0 ecc1) := ⟨.ckptReady ecc0 ecc1, rfl, rfl⟩
theorem Sendable.seal (copy : Fin 2) : Sendable.Statement (.seal copy) := ⟨.seal copy, rfl, rfl⟩
theorem Sendable.sealDone (copy : Fin 2) : Sendable.Statement (.sealDone copy) := ⟨.sealDone copy, rfl, rfl⟩
theorem Sendable.swap (key : BitVec 8) : Sendable.Statement (.swap key) := ⟨.swap key, rfl, rfl⟩
theorem Sendable.test (key : BitVec 8) : Sendable.Statement (.test key) := ⟨.test key, rfl, rfl⟩
theorem Sendable.wardRearm (key : BitVec 8) : Sendable.Statement (.wardRearm key) := ⟨.wardRearm key, rfl, rfl⟩
theorem Sendable.selfrst (key : BitVec 8) : Sendable.Statement (.selfrst key) := ⟨.selfrst key, rfl, rfl⟩
theorem Sendable.sbchkResult (r : BitVec 8) : Sendable.Statement (.sbchkResult r) := ⟨.sbchkResult r, rfl, rfl⟩
theorem Sendable.landingRead (o : Sender) : Sendable.Statement (.landingRead o) := ⟨.landingRead o, rfl, rfl⟩
theorem Sendable.movePush (o : Sender) (n : Fin 8) (w : Word) :
    Sendable.Statement (.movePush o n w) := ⟨.movePush o n w, rfl, rfl⟩
theorem Sendable.motGo (o : Sender) (n : Fin 8) : Sendable.Statement (.motGo o n) := ⟨.motGo o n, rfl, rfl⟩
theorem Sendable.halt (o : Sender) (n : Fin 8) : Sendable.Statement (.halt o n) := ⟨.halt o n, rfl, rfl⟩
theorem Sendable.stop (o : Sender) (n : Fin 8) : Sendable.Statement (.stop o n) := ⟨.stop o n, rfl, rfl⟩
theorem Sendable.sync (o : Sender) (n : Fin 8) : Sendable.Statement (.sync o n) := ⟨.sync o n, rfl, rfl⟩
theorem Sendable.axisEnable (o : Sender) (n : Fin 8) (w : Word) :
    Sendable.Statement (.axisEnable o n w) := ⟨.axisEnable o n w, rfl, rfl⟩
theorem Sendable.motPosWrite (o : Sender) (n : Fin 8) (w : Word) :
    Sendable.Statement (.motPosWrite o n w) := ⟨.motPosWrite o n w, rfl, rfl⟩
theorem Sendable.step (n : Fin 8) : Sendable.Statement (.step n) := ⟨.step n, rfl, rfl⟩
theorem Sendable.moveDone (n : Fin 8) : Sendable.Statement (.moveDone n) := ⟨.moveDone n, rfl, rfl⟩
theorem Sendable.swathResume (o : Sender) : Sendable.Statement (.swathResume o) := ⟨.swathResume o, rfl, rfl⟩
theorem Sendable.passWrite (o : Sender) (w : Word) : Sendable.Statement (.passWrite o w) := ⟨.passWrite o w, rfl, rfl⟩
theorem Sendable.maskWrite (o : Sender) (w : Word) : Sendable.Statement (.maskWrite o w) := ⟨.maskWrite o w, rfl, rfl⟩
theorem Sendable.ovspFifoPop (o : Sender) : Sendable.Statement (.ovspFifoPop o) := ⟨.ovspFifoPop o, rfl, rfl⟩
theorem Sendable.currentReduce (n : Fin 8) : Sendable.Statement (.currentReduce n) := ⟨.currentReduce n, rfl, rfl⟩
theorem Sendable.stall (n : Fin 8) : Sendable.Statement (.stall n) := ⟨.stall n, rfl, rfl⟩
theorem Sendable.overcur (n : Fin 8) : Sendable.Statement (.overcur n) := ⟨.overcur n, rfl, rfl⟩
theorem Sendable.bridgeFlt (n : Fin 8) (low : Bool) :
    Sendable.Statement (.bridgeFlt n low) := ⟨.bridgeFlt n low, rfl, rfl⟩
theorem Sendable.openMotor (n : Fin 8) : Sendable.Statement (.openMotor n) := ⟨.openMotor n, rfl, rfl⟩
theorem Sendable.limit (n : Fin 8) (high : Bool) : Sendable.Statement (.limit n high) := ⟨.limit n high, rfl, rfl⟩
theorem Sendable.liteTargetCross (c : Fin 16) :
    Sendable.Statement (.liteTargetCross c) := ⟨.liteTargetCross c, rfl, rfl⟩
theorem Sendable.strobeDelayEnd (c : Fin 16) : Sendable.Statement (.strobeDelayEnd c) := ⟨.strobeDelayEnd c, rfl, rfl⟩
theorem Sendable.strobeWidthEnd (c : Fin 16) (code : BitVec 10) :
    Sendable.Statement (.strobeWidthEnd c code) := ⟨.strobeWidthEnd c code, rfl, rfl⟩
theorem Sendable.recoverEnd (c : Fin 16) : Sendable.Statement (.recoverEnd c) := ⟨.recoverEnd c, rfl, rfl⟩
theorem Sendable.contCheck (c : Fin 16) (code : BitVec 10) :
    Sendable.Statement (.contCheck c code) := ⟨.contCheck c code, rfl, rfl⟩
theorem Sendable.tempSample (g : Fin 4) (code : BitVec 10) :
    Sendable.Statement (.tempSample g code) := ⟨.tempSample g code, rfl, rfl⟩
theorem Sendable.liteChWrite (o : Sender) (c : Fin 16) (w : Word) :
    Sendable.Statement (.liteChWrite o c w) := ⟨.liteChWrite o c w, rfl, rfl⟩
theorem Sendable.matrixSwap (o : Sender) (w : Word) :
    Sendable.Statement (.matrixSwap o w) := ⟨.matrixSwap o w, rfl, rfl⟩
theorem Sendable.dispFrameStart (d : Fin 2) : Sendable.Statement (.dispFrameStart d) := ⟨.dispFrameStart d, rfl, rfl⟩
theorem Sendable.dispEnable (o : Sender) (d : Fin 2) (w : Word) :
    Sendable.Statement (.dispEnable o d w) := ⟨.dispEnable o d w, rfl, rfl⟩
theorem Sendable.layerBaseWrite (o : Sender) (d : Fin 2) (l : Fin 4) (w : Word) :
    Sendable.Statement (.layerBaseWrite o d l w) := ⟨.layerBaseWrite o d l w, rfl, rfl⟩
theorem Sendable.crcMism (d : Fin 2) (k : Fin 4) : Sendable.Statement (.crcMism d k) := ⟨.crcMism d k, rfl, rfl⟩
theorem Sendable.dispUnderrun (d : Fin 2) (y x : BitVec 16) :
    Sendable.Statement (.dispUnderrun d y x) := ⟨.dispUnderrun d y x, rfl, rfl⟩
theorem Sendable.bistStart (o : Sender) (w : Word) : Sendable.Statement (.bistStart o w) := ⟨.bistStart o w, rfl, rfl⟩
theorem Sendable.bistAbort (o : Sender) (key : BitVec 8) :
    Sendable.Statement (.bistAbort o key) := ⟨.bistAbort o key, rfl, rfl⟩
theorem Sendable.bistDomainDone (sig : Word) (mf : Option MemFail) :
    Sendable.Statement (.bistDomainDone sig mf) := ⟨.bistDomainDone sig mf, rfl, rfl⟩
theorem Sendable.parked (o : Sender) : Sendable.Statement (.parked o) := ⟨.parked o, rfl, rfl⟩
theorem Sendable.resume (o : Sender) : Sendable.Statement (.resume o) := ⟨.resume o, rfl, rfl⟩
theorem Sendable.gdmaGo (o : Sender) (c : Fin 16) (w : Word) :
    Sendable.Statement (.gdmaGo o c w) := ⟨.gdmaGo o c w, rfl, rfl⟩
theorem Sendable.gdmaAbort (o : Sender) (c : Fin 16) :
    Sendable.Statement (.gdmaAbort o c) := ⟨.gdmaAbort o c, rfl, rfl⟩
theorem Sendable.gdmaDisable (o : Sender) : Sendable.Statement (.gdmaDisable o) := ⟨.gdmaDisable o, rfl, rfl⟩
theorem Sendable.gdmaUnit (c : Fin 16) (ecc : Bool) :
    Sendable.Statement (.gdmaUnit c ecc) := ⟨.gdmaUnit c ecc, rfl, rfl⟩
theorem Sendable.gdmaDone (c : Fin 16) : Sendable.Statement (.gdmaDone c) := ⟨.gdmaDone c, rfl, rfl⟩
theorem Sendable.extest (sampled shifted : List Bool) :
    Sendable.Statement (.extest sampled shifted) := ⟨.extest [true] [false], rfl, by decide⟩
theorem Sendable.samplePreload (sampled shifted : List Bool) :
    Sendable.Statement (.samplePreload sampled shifted) := ⟨.samplePreload [true] [false], rfl, by decide⟩
theorem Sendable.debugPort (l : List (BitVec 24 × Option Word)) :
    Sendable.Statement (.debugPort l) := ⟨.debugPort l, rfl, rfl⟩
theorem Sendable.bypass (code : BitVec 8) (bits : List Bool) :
    Sendable.Statement (.bypass code bits) := ⟨.bypass 0xFF [], rfl, by decide⟩
theorem Sendable.linkChg (up : Bool) : Sendable.Statement (.linkChg up) := ⟨.linkChg up, rfl, rfl⟩
theorem Sendable.reservedTypePacket (type : BitVec 4) (seq : BitVec 8) (words : List Word) (f : PktFault) :
    Sendable.Statement (.reservedTypePacket type seq words f) := ⟨.reservedTypePacket type seq words f, rfl, rfl⟩
theorem Sendable.motEncoderEdge (n : Fin 8) (a b : Bool) :
    Sendable.Statement (.motEncoderEdge n a b) := ⟨.motEncoderEdge n a b, rfl, rfl⟩
theorem Sendable.chopperThreshold (n : Fin 8) (phase : Fin 2) (upper : Bool) (t : Nat) :
    Sendable.Statement (.chopperThreshold n phase upper t) := ⟨.chopperThreshold n phase upper t, rfl, rfl⟩
theorem Sendable.wireDisagreementEnd (n : Fin 2) (pair : Fin 3) (level : Bool) :
    Sendable.Statement (.wireDisagreementEnd n pair level) := ⟨.wireDisagreementEnd n pair level, rfl, rfl⟩
theorem Sendable.prbsLock (l : Fin 12) (bits errs : Nat) :
    Sendable.Statement (.prbsLock l bits errs) := ⟨.prbsLock l bits errs, rfl, rfl⟩
theorem Sendable.prbsLockLoss (l : Fin 12) (bits errs : Nat) :
    Sendable.Statement (.prbsLockLoss l bits errs) := ⟨.prbsLockLoss l bits errs, rfl, rfl⟩
theorem Sendable.underrun : Sendable.Statement (.underrun) := ⟨.underrun, rfl, rfl⟩
theorem Sendable.loopUpdate : Sendable.Statement (.loopUpdate) := ⟨.loopUpdate, rfl, rfl⟩
theorem Sendable.pmMissing : Sendable.Statement (.pmMissing) := ⟨.pmMissing, rfl, rfl⟩
theorem Sendable.ctxXferDone : Sendable.Statement (.ctxXferDone) := ⟨.ctxXferDone, rfl, rfl⟩
theorem Sendable.rowClear : Sendable.Statement (.rowClear) := ⟨.rowClear, rfl, rfl⟩
theorem Sendable.substLogWrite : Sendable.Statement (.substLogWrite) := ⟨.substLogWrite, rfl, rfl⟩
theorem Sendable.commitRecordWrite : Sendable.Statement (.commitRecordWrite) := ⟨.commitRecordWrite, rfl, rfl⟩
theorem Sendable.beaconLost : Sendable.Statement (.beaconLost) := ⟨.beaconLost, rfl, rfl⟩
theorem Sendable.dxTimeout : Sendable.Statement (.dxTimeout) := ⟨.dxTimeout, rfl, rfl⟩
theorem Sendable.barResetApply : Sendable.Statement (.barResetApply) := ⟨.barResetApply, rfl, rfl⟩
theorem Sendable.ctlBad : Sendable.Statement (.ctlBad) := ⟨.ctlBad, rfl, rfl⟩
theorem Sendable.hdrCrc : Sendable.Statement (.hdrCrc) := ⟨.hdrCrc, rfl, rfl⟩
theorem Sendable.replay : Sendable.Statement (.replay) := ⟨.replay, rfl, rfl⟩
theorem Sendable.eventSend : Sendable.Statement (.eventSend) := ⟨.eventSend, rfl, rfl⟩
theorem Sendable.hlnkTrainTimeout : Sendable.Statement (.hlnkTrainTimeout) := ⟨.hlnkTrainTimeout, rfl, rfl⟩
theorem Sendable.zqCal : Sendable.Statement (.zqCal) := ⟨.zqCal, rfl, rfl⟩
theorem Sendable.dramZqDone : Sendable.Statement (.dramZqDone) := ⟨.dramZqDone, rfl, rfl⟩
theorem Sendable.dramZeroDone : Sendable.Statement (.dramZeroDone) := ⟨.dramZeroDone, rfl, rfl⟩
theorem Sendable.wipTimeout : Sendable.Statement (.wipTimeout) := ⟨.wipTimeout, rfl, rfl⟩
theorem Sendable.dramSkip : Sendable.Statement (.dramSkip) := ⟨.dramSkip, rfl, rfl⟩
theorem Sendable.stDone : Sendable.Statement (.stDone) := ⟨.stDone, rfl, rfl⟩
theorem Sendable.powerOnReset : Sendable.Statement (.powerOnReset) := ⟨.powerOnReset, rfl, rfl⟩
theorem Sendable.aonPorRelease : Sendable.Statement (.aonPorRelease) := ⟨.aonPorRelease, rfl, rfl⟩
theorem Sendable.rstN (low : Bool) : Sendable.Statement (.rstN low) := ⟨.rstN low, rfl, rfl⟩
theorem Sendable.rootPllLock : Sendable.Statement (.rootPllLock) := ⟨.rootPllLock, rfl, rfl⟩
theorem Sendable.clockGood : Sendable.Statement (.clockGood) := ⟨.clockGood, rfl, rfl⟩
theorem Sendable.rootPllLoss : Sendable.Statement (.rootPllLoss) := ⟨.rootPllLoss, rfl, rfl⟩
theorem Sendable.oscOk : Sendable.Statement (.oscOk) := ⟨.oscOk, rfl, rfl⟩
theorem Sendable.oscFail : Sendable.Statement (.oscFail) := ⟨.oscFail, rfl, rfl⟩
theorem Sendable.hbLate : Sendable.Statement (.hbLate) := ⟨.hbLate, rfl, rfl⟩
theorem Sendable.handover : Sendable.Statement (.handover) := ⟨.handover, rfl, rfl⟩
theorem Sendable.handoverTimeout : Sendable.Statement (.handoverTimeout) := ⟨.handoverTimeout, rfl, rfl⟩
theorem Sendable.sbchkTimeout : Sendable.Statement (.sbchkTimeout) := ⟨.sbchkTimeout, rfl, rfl⟩
theorem Sendable.faultLogWrite : Sendable.Statement (.faultLogWrite) := ⟨.faultLogWrite, rfl, rfl⟩
theorem Sendable.rowSlot : Sendable.Statement (.rowSlot) := ⟨.rowSlot, rfl, rfl⟩
theorem Sendable.hpReq : Sendable.Statement (.hpReq) := ⟨.hpReq, rfl, rfl⟩
theorem Sendable.hpPrintEnd : Sendable.Statement (.hpPrintEnd) := ⟨.hpPrintEnd, rfl, rfl⟩
theorem Sendable.hpEndTmo : Sendable.Statement (.hpEndTmo) := ⟨.hpEndTmo, rfl, rfl⟩
theorem Sendable.hpParkTmo : Sendable.Statement (.hpParkTmo) := ⟨.hpParkTmo, rfl, rfl⟩
theorem Sendable.hpBarLeaveTimeout : Sendable.Statement (.hpBarLeaveTimeout) := ⟨.hpBarLeaveTimeout, rfl, rfl⟩
theorem Sendable.hpCancel : Sendable.Statement (.hpCancel) := ⟨.hpCancel, rfl, rfl⟩
theorem Sendable.hpInsert : Sendable.Statement (.hpInsert) := ⟨.hpInsert, rfl, rfl⟩
theorem Sendable.idcode : Sendable.Statement (.idcode) := ⟨.idcode, rfl, rfl⟩
theorem Sendable.idDup : Sendable.Statement (.idDup) := ⟨.idDup, rfl, rfl⟩

end Sys2Proof.Laws
end

