-- ==== Sys2Proof/Tests/Slice0.lean ====
section
/-! SUPPORT. Tests: worked examples of the spec, ill-formed commands, and for every statement with hypotheses a state and
operands that meet them. -/

set_option linter.unusedVariables false

open Sys2Proof Sys2Proof.Machine

/-- Out of reset, the root clock locked, every domain on, no block held. -/
def up : State :=
  let s : State := { State.reset with sys := { State.reset.sys with held := false }, ward := { State.reset.ward with coreUp := true } }
  ((((s.setFld SYS_SUPSTAT.RAIL_OK 255).setFld SYS_PDSTAT.STATE 0xAAAAA).setReg SYS_BLKRST0 0).setReg SYS_BLKRST1 0).setFld SYS_CLKSTAT.ROOT_LOCK 1

/-- The host link UP. -/
def upLink : State := (up.setFld HLNK_STAT.LSTATE 3).hlUpd fun h => { h with granted := [(0, 64), (1, 128)] }
def wDesc : JobDesc := ⟨1, 0, false, 0, 0, 32⟩
def wJob : Job := { ser := 1, d := wDesc, lastSeen := false, ports := [8] }
def wPage : JPage :=
  { ser := 1, jobSer := 1, job := wDesc, d := ⟨1, 5, false, false, 0, 0, 8, 0, 0⟩, ph := .waiting, start := some 100, known := 0, rev := false, y := 0, entry := 0, cspan := 0 }
/-- A job with a page placed. -/
def upJob : State := (up.setJobState 1).jqUpd fun q => { q with job := some wJob, pages := [wPage], jobSer := 1, pageSer := 2 }
/-- A scan-mode job. -/
def upScan : State := (upJob.setFld POS_STAT.STATE 2).jqUpd fun q => { q with job := some { wJob with d := { wDesc with scan := true } } }
def wMark : JPage := { wPage with d := ⟨1, 5, false, false, 2, 0, 8, 0, 0⟩, start := none }
/-- A job whose page waits for its mark. -/
def upMark : State := (upJob.setFld POS_PM.WIN 5).jqUpd fun q => { q with pages := [wMark], prevLast := some 7 }
def wBank : BankLoad := { due := some 7, bank := 0, phase := [], trim := [], left := [(16, 1)], late := false, quiet := false, held := false }
/-- The memory running, 8 GiB. -/
def upDram : State := ((up.setFld DRAM_STAT.STATE 4).setFld DRAM_GEOM.SIZE 35)
def wBlk : Blk := { page := 1, blk := 0, addr := 64, slot := [27, 0, 0, 0, 0, 0, 0, 24, 127, 254, 63], spill := [], poison := false }
def wSk : SkDesc := { didx := 0, w0 := 0, barrier := false, first := true, last := true, evt := true, tag := 0, slot := 0, nblk := 1, blk := 0, done := 1, page := 1, dring := 0 }
/-- A job whose stream 8 has RATIO 3. -/
def upStream : State :=
  { upJob with skid := { upJob.skid with copy := [(SKID_RING.at 8, putFields 0 [(SKID_RING.RATIO, 3)]), (SKID_PORTCFG.at 8, putFields 0 [(SKID_PORTCFG.EN, 1)])] } }
def wCls : Classes := { copy := ⟨1603, 2⟩, rep := ⟨4, 1⟩, lit := ⟨4, 1⟩ }
def wSlot : Slot :=
  { seq := 0, mode := 1, gen := false, dist := false, origin := 0, writes := [], target := 0, targetNs := 0, line := some 900, nextSwath := false, prep := false,
    early := true, byEmpty := false, deferred := false, units := 0, logs := 0, issuer := true, voting := false, init := 0, iseq := 0, places := [], armDec := 0 }
def wFrame : VFrame :=
  { fseq := 0, idx := 0, stamp := 5, untrig := false, liteFault := false, sec := 0, ns := 0, gen := 0, pgen := 0, unsure := false, set := FrameSet.reset, rx := 0, ended := false,
    staged := [], done := 0, crc := BitVec.allOnes 32, hist := [], zones := [], cells := [] }
/-- Camera port 7 enabled, RAW8, 4 columns and one line, in view of pipeline 3. -/
def upCam : State :=
  ((up.setReg VIS_PORTCFG (putFields 0 [(VIS_PORTCFG.EN, 1), (VIS_PORTCFG.VC, 3), (VIS_PORTCFG.DT, 0x2A), (VIS_PORTCFG.WIDTH, 4), (VIS_PORTCFG.HEIGHT, 1)]) 7).setReg
    VIS_PIPECFG (putFields 0 [(VIS_PIPECFG.EN, 1), (VIS_PIPECFG.SRC_A, 7)]) 3).setFld VIS_FRSLOT.SIZE 1 7
/-- A frame of port 7 being received. -/
def upRx : State := (upCam.setFld VIS_PORTSTAT.PSTATE 2 7).updVport 7 fun x => { x with frames := [wFrame] }
/-- A follower whose two bar ports are up. -/
def upBar : State := (((up.setFld BAR_CTL.EN 1).setFld BAR_PORTSTAT.LSTATE 3 0).setFld BAR_PORTSTAT.LSTATE 3 1).setFld BAR_STAT.BSTATE 3
/-- A load in APPLY. -/
def upApply : State := up.setFld CFG_STAT.STATE 3
/-- A load in SFDP. -/
def upSfdp : State := (up.setFld CFG_STAT.STATE 0).cfgUpd fun c => { c with waitBist := false }
/-- A load done. -/
def upLoaded : State := up.setFld CFG_STAT.STATE 4
/-- An image of an empty REGSET and END. -/
def wImg : List Byte :=
  let b : List Byte := [0x55, 0x48, 0x4C, 0x43, 0, 1, 0, 0, 0, 0, 0, 52, 0, 0, 0, 5, 0, 0, 0, 6] ++ List.replicate 12 0 ++ [1, 0, 0, 0, 0, 0, 0, 0] ++ [15, 0, 0, 0, 0, 0, 0, 0]
  b ++ (bytesBE 4 (crc32 b)).reverse
/-- Display output 1 with a timing that EN accepts. -/
def upDisp : State :=
  (((((((((up.setFld DISP_CTL.DIV 4 1).setFld DISP_HTIM.HACT 16 1).setFld DISP_HTIM.HFP 1 1).setFld DISP_HTIM.HSYNC 1 1).setFld DISP_HTIM.HBP 1 1).setFld
    DISP_VTIM.VACT 1 1).setFld DISP_VTIM.VFP 1 1).setFld DISP_VTIM.VSYNC 1 1).setFld DISP_VTIM.VBP 1 1)
/-- The web moving. -/
def upMove : State := up.setFld POS_STAT.STATE 2
/-- A channel whose open run is taken at its first reading. -/
def upSense : State := (((up.setFld LITE_CH.OPEN_THR 5 15).setFld LITE_CH.OPEN_ACT 1 15).setFld LITE_CH.FCNT 1 15).setFld LITE_CH.SHORT_THR 0 15

/-! ### The spec's worked examples -/

/-- Worked example under R43: BW = 200 Hz gives kp = 26,678,740,000 and ki = 1,264,335. -/
theorem test_loop_gains : loopKp 200 = 26678740000 ∧ loopKi 200 = 1264335 := by decide

/-- Worked example under R130: RATE = 100,000 gives I_min = 11,999 cycles. -/
theorem test_minimum_interval : (up.setFld FIRE_MAXRATE.RATE 100000).iMin = 11999 := by decide

/-- Worked example under R429: the counter of FIRE_PORTFLAG[17].TEL_LOST is at 0x03_0283, that of DISP_FLAG[1].CRC_MISM at
0x03_072D. -/
theorem test_tally_addresses :
    ((up.raise FIRE_PORTFLAG.TEL_LOST 17).word 0x030283 = 1) ∧ ((up.raise DISP_FLAG.CRC_MISM 1).word 0x03072D = 1) := by decide

/-- Worked example under R429: FIRE_TEMP[17], DISP_RCRC[1][2] and VIS_SENSWR[3][5] lie at 0x08_440B, 0x30_014B and
0x18_01E5. -/
theorem test_register_addresses :
    FIRE_TEMP.at 17 = 0x08440B ∧ DISP_RCRC.at 1 2 = 0x30014B ∧ VIS_SENSWR.at 3 5 = 0x1801E5 := by decide

/-- Worked example under R267: x8 16 Gbit devices in two ranks put the slot at 0x0301_A120 in row 48 of bank group 6,
bank 2, on subchannel 0. -/
theorem test_dram_mapping :
    let s := (up.setFld DRAM_GEOM.WIDTH 0).setFld DRAM_GEOM.RANKS 1
    subch 0x0301A120 = 0 ∧ s.dRank 0x0301A120 = 0 ∧ s.dRow 0x0301A120 = 48 ∧ s.dGroup 0x0301A120 = 6 ∧ s.dBank 0x0301A120 = 2 := by
  decide

/-- Table 03-6: COPY of 10 in the first class state is 11001; COPY of 797 is twelve ones and 011_0001_1100. -/
theorem test_run_codes :
    riceEnc ⟨4, 1⟩ 9 = [true, true, false, false, true] ∧
    riceEnc ⟨13, 2⟩ 796 =
      List.replicate 12 true ++ [false, true, true, false, false, false, true, true, true, false, false] := by decide

/-- Table 03-6: the class states after the coded runs. -/
theorem test_run_classes :
    RunCls.step ⟨4, 1⟩ 9 = ⟨13, 2⟩ ∧ RunCls.step ⟨13, 2⟩ 796 = ⟨809, 3⟩ ∧ RunCls.step ⟨809, 3⟩ 198 = ⟨1007, 4⟩ := by decide

/-- Worked example under R57: CBITS = 19,500 on a 1/4 ring leaves 3,628 bits for 29 spill units. -/
theorem test_spill_units : cap0 3 = 15936 ∧ cap1 3 = 15872 ∧ spillUnits 3 19500 = 29 := by decide

/-- Worked example under R322: a reference measured 156,297 is 47 counts off and sets LREF_BAD. -/
theorem test_lane_reference :
    (match exec (.lrefMeasure 1 156297) up with | .next t => t.fld SYS_PWRFLAG.LREF_BAD != 0 | _ => false) = true := by decide

/-! ### One step -/

/-- R38: one count forward moves POS_ENCCNT by one. -/
theorem test_encoder_counts :
    (match exec (.encoderEdge 0 true false 100) (up.setFld POS_ENCCFG.MODE 1 0) with
      | .next t => t.reg POS_ENCCNT 0 == 1 || t.reg POS_ENCCNT 0 == BitVec.allOnes 40 | _ => false) = true := by decide

/-- R10: a flag set while it is enabled takes EVENT_N low, the load done (Table 15-6). -/
theorem test_event_pin :
    (match exec (.telCrc 5) ((upLoaded.setFld FIRE_PORTFLAGEN.TEL_CRC 1 5).setFld FIRE_PORTSTAT.LSTATE 1 5) with | .next t => !t.eventN | _ => false) = true := by decide

/-- R3, R155: an address that names no register is UNMAPPED and sets ADDR_ERR. -/
theorem test_unmapped :
    (match exec (.registerWrite .host 0x3C0000 1) up with | .next t => t.on TXN_FLAG.ADDR_ERR | _ => false) = true := by decide

/-- A step takes the front command and leaves the rest. -/
theorem test_step_front :
    (match step { (up.setFld FIRE_PORTSTAT.LSTATE 1 5) with pending := [.telCrc 5, .hpReq] } with
      | .next t => t.pending == [.hpReq] && t.on FIRE_PORTFLAG.TEL_CRC 5 | _ => false) = true := by decide

/-! ### Ill-formed commands -/

/-- A packet without words, or longer than LEN can say, is no packet. -/
theorem test_wf_packets :
    (Instr.wf (.jobdesc 0 [] .none) || Instr.wf (.regWr 0 [] .none) || Instr.wf (.regRd 0 [] .none) || Instr.wf (.raster 0 [] .none) ||
      Instr.wf (.writes 0 0 0 0 [0]) || Instr.wf (.scheduledLaunch 0 0 [0]) || Instr.wf (.oneStepInsert [])) = false := by decide

/-- Faults of an assembly, a self-test segment and training words have their sizes. -/
theorem test_wf_sizes :
    (Instr.wf (.lineDecision 0 ⟨some (48, 0), false, false, false⟩) || Instr.wf (.testPacket 0 0 []) ||
      Instr.wf (.train 0 true 0 false []) || Instr.wf (.filler 0 0 [] (List.replicate 8 0)) ||
      Instr.wf (.filler 0 0 (List.replicate 8 0) []) || Instr.wf (.isoDone (List.replicate 17 0)) ||
      Instr.wf (.refRowWrite 16777216) || Instr.wf (.published 0 [48000] [])) = false := by decide

/-- Records of an image have the sizes of Table 14-3. -/
theorem test_wf_records :
    (Instr.wf (.trainRecord 0 []) || Instr.wf (.eq 0 []) || Instr.wf (.remap 0 0 [0]) || Instr.wf (.remap 0 192000 [0, 0]) ||
      Instr.wf (.delay 0 0 1334 [0]) || Instr.wf (.calbank 0 0 0 1024 [0]) || Instr.wf (.dramdata 0 0 [0])) = false := by decide

/-- Memory requests ask for bytes; scan vectors have one length; BYPASS is no other code. -/
theorem test_wf_requests :
    (Instr.wf (.dramWriteRequest 0 0 []) || Instr.wf (.dramReadRequest 0 0 0) || Instr.wf (.extest [true] []) || Instr.wf (.samplePreload [] [true]) || Instr.wf (.bypass 2 [])) = false := by decide

/-- A flash answer has no more bytes than the buffer. -/
theorem test_wf_flash (l : List Byte) (h : 260 < l.length) : Instr.wf (.flDone l) = false := by
  simp [Instr.wf]; omega

/-- A camera line has no more than 65,535 pixels. -/
theorem test_wf_line (l : List (BitVec 14)) (h : 65535 < l.length) : Instr.wf (.linePacket 0 0 0 0 true l) = false := by
  simp [Instr.wf]; omega

/-- A command that no sender can form still ends in a next state: no command is a fault. -/
theorem test_ill_formed_completes :
    (match exec (.dramdata 0 0 [0]) up with | .next t => t.pending == [] | _ => false) = true := by decide

/-! ### The witnesses of the statements -/

/-- Meets the hypotheses of IdleCycleAdvancesWhatTimeDrives, clauses with hypotheses 1 to 6. -/
theorem witness_IdleCycleAdvancesWhatTimeDrives_1 :
  (∃ (s : State),
    (s.on SYS_CLKSTAT.ROOT_LOCK = false)) ∧
  (∃ (s : State),
    (s.on SYS_CLKSTAT.OSC_OK = true) ∧ (s.on SYS_AONCTL.OSC_EN = true)) ∧
  (∃ (s : State),
    (s.on SYS_CLKSTAT.OSC_OK = false)) ∧
  (∃ (s : State),
    (s.on SYS_CLKSTAT.ROOT_LOCK = true)) ∧
  (∃ (s : State),
    (s.on SYS_CLKSTAT.ROOT_LOCK = true) ∧ (s.pos.k < 63) ∧ (s.posState ≠ 0)) ∧
  (∃ (s : State),
    ((s.dout 0).scanning = false) ∧ ((s.dout 0).driven = false) ∧ ((s.dout 1).scanning = false) ∧ ((s.dout 1).driven =
      false)) :=
  ⟨⟨State.reset, by decide⟩,
  ⟨(up.setFld SYS_CLKSTAT.OSC_OK 1).setFld SYS_AONCTL.OSC_EN 1, by decide⟩,
  ⟨up.setFld SYS_CLKSTAT.OSC_OK 0, by decide⟩,
  ⟨up, by decide⟩,
  ⟨up.setFld POS_STAT.STATE 2, by decide⟩,
  ⟨up, by decide⟩⟩

/-- Meets the hypotheses of IdleCycleAdvancesWhatTimeDrives, clauses with hypotheses 7 to 11. -/
theorem witness_IdleCycleAdvancesWhatTimeDrives_2 :
  (∃ (s : State) (o : Fin 2),
    ((s.dout o).scanning = false)) ∧
  (∃ (s : State) (o : Fin 2) (d : DOut),
    (s.dout o = d) ∧ (d.scanning = true) ∧ (s.pixTicks o * s.htot o * s.vtot o ≤ d.tick + 1)) ∧
  (∃ (s : State) (o : Fin 2) (d : DOut) (t : State),
    (s.dout o = d) ∧ (d.scanning = true) ∧ (d.tick + 1 < s.pixTicks o * s.htot o * s.vtot o) ∧ (t = s.setDout o { d with tick := d.tick + 1 })) ∧
  (∃ (s : State),
    (s.macRuns = true)) ∧
  (∃ (s : State),
    (s.macRuns = false)) :=
  ⟨⟨upDisp, 1, by decide⟩,
  ⟨(upDisp.setDout 1 { DOut.reset with scanning := true, tick := 1216 }), 1, { DOut.reset with scanning := true, tick := 1216 },
    by decide⟩,
  ⟨(upDisp.setDout 1 { DOut.reset with scanning := true, tick := 303 }), 1, { DOut.reset with scanning := true, tick := 303 },
    (upDisp.setDout 1 { DOut.reset with scanning := true, tick := 304 }), by decide +kernel⟩,
  ⟨up.setFld ETH_CTL.EN 1, by decide⟩,
  ⟨up, by decide⟩⟩

/-- Meets the hypotheses of RaisingAFlagMarksItAndItsCounter. -/
theorem witness_RaisingAFlagMarksItAndItsCounter :
  (∃ (s : State) (f : Fld) (i k : Nat) (st : Option Word) (info : Word) (r : FlagRow),
    (flagRow? f.reg = some r) ∧ (i < max r.flag.n1 1) ∧ (f.lo + k < 40) ∧ ((s.hlnk.evq.length < 511 ∨ (s.reg r.en
      i).getLsbD (f.lo + k) = false ∨ (s.reg f.reg i).getLsbD (f.lo + k) = true))) ∧
  (∃ (s : State) (f : Fld) (i k : Nat) (st : Option Word) (info : Word) (r : FlagRow) (t : Nat),
    (flagRow? f.reg = some r) ∧ (i < max r.flag.n1 1) ∧ (f.lo + k < 40) ∧ (t = r.base + i * r.stride + (f.lo + k)) ∧ (t
      ≠ evqOvfIdx) ∧ (511 ≤ s.hlnk.evq.length) ∧ ((s.reg r.en i).getLsbD (f.lo + k) = true) ∧ ((s.reg f.reg i).getLsbD
      (f.lo + k) = false) ∧ (s.clearing t = false)) ∧
  (∃ (s : State) (e : EvtPkt) (t : State),
    (s.hlnk.evq.length = 512) ∧ (e.idx ≠ evqOvfIdx) ∧ (t = s.queueEvent e)) :=
  ⟨⟨up, POS_FLAG.REVERSE, 0, 0, none, 0, ⟨POS_FLAG, POS_FLAGEN, 96, 0⟩, by decide⟩,
  ⟨((up.setReg POS_FLAGEN 0xFFFFFFFFFF).setFld HLNK_FLAGEN.EVQ_OVF 1).hlUpd (fun h => { h with evq := List.replicate 511 ⟨0, false, 0, 0, 0⟩ }),
    POS_FLAG.REVERSE, 0, 0, none, 0, ⟨POS_FLAG, POS_FLAGEN, 96, 0⟩, 96 + POS_FLAG.REVERSE.lo, by decide +kernel⟩,
  ⟨up.hlUpd (fun h => { h with evq := List.replicate 512 ⟨0, false, 0, 0, 0⟩ }), ⟨0, false, 0, 0, 0⟩, (up.hlUpd (fun h
    => { h with evq := List.replicate 512 ⟨0, false, 0, 0, 0⟩ })).queueEvent ⟨0, false, 0, 0, 0⟩, by decide +kernel⟩⟩

/-- Meets the hypotheses of StoreObeysTheAccessCodes. -/
theorem witness_StoreObeysTheAccessCodes :
  (∃ (s : State) (r : Reg) (i j : Nat) (w : Word),
    (regAt r i j = true)) :=
  ⟨up, BAR_TXCHIP, 1, 0, 0xFFFFFFFFFF, by decide⟩

/-- Meets the hypotheses of RegisterWriteActsOnEachField, clauses with hypotheses 1 to 6. -/
theorem witness_RegisterWriteActsOnEachField_1 :
  (∃ (s : State) (o : Sender) (a : BitVec 24) (w : Word),
    (s.maySend o = true) ∧ (regRow? a.toNat = none)) ∧
  (∃ (s : State) (o : Sender) (a : BitVec 24) (w : Word) (b : Nat),
    (s.maySend o = true) ∧ (regRow? a.toNat ≠ none) ∧ (s.regIso a.toNat = true) ∧ (regBlk a.toNat = some b)) ∧
  (∃ (s : State) (o : Sender) (a : BitVec 24) (w : Word),
    (s.maySend o = true) ∧ (regRow? a.toNat ≠ none) ∧ (s.regIso a.toNat = true) ∧ (regBlk a.toNat = none)) ∧
  (∃ (s : State) (o : Sender) (a : BitVec 24) (w : Word) (row : RegRow) (i j : Nat),
    (s.maySend o = true) ∧ (regRow? a.toNat = some (row, i, j)) ∧ (s.regIso a.toNat = false) ∧ (s.txnOpen o.origin =
      true) ∧ (row.fields.any (fun f => f.acc == .rws) = true)) ∧
  (∃ (s : State) (o : Sender) (a : BitVec 24) (w : Word) (row : RegRow) (i j : Nat),
    (s.maySend o = true) ∧ (regRow? a.toNat = some (row, i, j)) ∧ (s.regIso a.toNat = false) ∧ ((s.txnOpen o.origin &&
      row.fields.any (fun f => f.acc == .rws)) = false)) ∧
  (∃ (s : State) (o : Origin) (r : Reg) (i j : Nat) (w : Word),
    (ordinaryReg r = true)) :=
  ⟨⟨up, .host, 0xFFFFFF, 0, by decide⟩,
  ⟨up.setFld SYS_PDSTAT.STATE 0, .host, 0x300000, 0, 58, by decide⟩,
  ⟨up.setFld SYS_PDSTAT.STATE 0, .host, BitVec.ofNat 24 (FIRE_GCTL.at 0), 0, by decide⟩,
  ⟨{ up with txn := { up.txn with ctx := [(1, { StageCtx.reset with isOpen := true })] } }, .warden, BitVec.ofNat 24
    (SKID_PORTCFG.at 47), 0xFFFFFFFFFF, ((regRow? (SKID_PORTCFG.at 47)).getD (⟨POS_CTL, [], 0⟩, 0, 0)).1, 47, 0, by decide⟩,
  ⟨up, .host, BitVec.ofNat 24 (DRAM_GEOM.at 0), 0x8000000000, ((regRow? (DRAM_GEOM.at 0)).getD (⟨POS_CTL, [], 0⟩, 0,
    0)).1, 0, 0, by decide⟩,
  ⟨up, .warden, FIRE_TRIM, 47, 0, 0xFFFFFFFFFF, by decide⟩⟩

/-- Meets the hypotheses of RegisterWriteActsOnEachField, clauses with hypotheses 7 to 9. -/
theorem witness_RegisterWriteActsOnEachField_2 :
  (∃ (s : State) (o : Origin) (r : Reg) (i j : Nat) (w : Word) (f : FlagRow),
    (flagOfEn? r = some f)) ∧
  (∃ (s : State) (o : Origin) (r : Reg) (i j : Nat) (w : Word) (f : FlagRow) (t : State),
    (flagRow? r = some f) ∧ (t = s.store r i j w)) ∧
  (∃ (s : State) (f : FlagRow) (i : Nat) (gone : Word) (l : List Nat),
    (l = (((List.range 16).filter fun b => gone.getLsbD b).map fun b => f.base + i * f.stride + b)) ∧ (l ≠ [])) :=
  ⟨⟨up, .host, POS_FLAGEN, 0, 0, 0xFFFFFFFFFF, ⟨POS_FLAG, POS_FLAGEN, 96, 0⟩, by decide⟩,
  ⟨(up.setReg POS_FLAG 0xFFFFFFFFFF), .host, POS_FLAG, 0, 0, 1, ⟨POS_FLAG, POS_FLAGEN, 96, 0⟩, (up.setReg POS_FLAG
    0xFFFFFFFFFF).store POS_FLAG 0 0 1, by decide +kernel⟩,
  ⟨up, ⟨POS_FLAG, POS_FLAGEN, 96, 0⟩, 0, 5, [96, 98], by decide⟩⟩

/-- Meets the hypotheses of JobDescriptorIsQueuedAndReleased, clauses with hypotheses 1 to 6. -/
theorem witness_JobDescriptorIsQueuedAndReleased_1 :
  (∃ (s : State) (seq : BitVec 8) (words : List Word),
    (s.awake = true) ∧ (s.hlState = 3) ∧ (words.length = 4) ∧ (seq.toNat = s.fld HLNK_SEQ.RX_NEXT) ∧ ((s.countIn 1
      6).overCredit 1 0 = false)) ∧
  (∃ (s : State) (w0 w1 w2 w3 : Word) (d : JobDesc),
    (s.jq.q.length < 64) ∧ (parseDesc w0 w1 w2 w3 = .job d) ∧ (s.jobDescOk d w0 w1 w2 w3 = true)) ∧
  (∃ (s : State) (w0 w1 w2 w3 : Word) (d : PageDesc),
    (s.jq.q.length < 64) ∧ (parseDesc w0 w1 w2 w3 = .page d) ∧ (s.pageDescOk d w3 = true)) ∧
  (∃ (s : State) (w0 w1 w2 w3 : Word),
    (64 ≤ s.jq.q.length)) ∧
  (∃ (s : State) (w0 w1 w2 w3 : Word),
    (s.jq.q.length < 64) ∧ (parseDesc w0 w1 w2 w3 = .bad)) ∧
  (∃ (s : State) (w0 w1 w2 w3 : Word) (d : JobDesc),
    (s.jq.q.length < 64) ∧ (parseDesc w0 w1 w2 w3 = .job d) ∧ (s.jobDescOk d w0 w1 w2 w3 = false)) :=
  ⟨⟨upLink, 0, [0x1000000000, 0, 32, 0], by decide⟩,
  ⟨upLink, 0x1000000000, 0, 32, 0, ⟨0, 0, false, 0, 0, 32⟩, by decide⟩,
  ⟨upJob, 0x2000100050, 0, 0x80000, 0, ⟨1, 5, false, false, 0, 0, 8, 0, 0⟩, by decide⟩,
  ⟨upLink.jqUpd (fun q => { q with q := List.replicate 64 (.job 0 ⟨0, 0, false, 0, 0, 32⟩ false) }), 0, 0, 0, 0, by decide⟩,
  ⟨upJob, 0, 0, 0, 0, by decide⟩,
  ⟨upLink, 0x1000000000, 0, 31, 0, ⟨0, 0, false, 0, 0, 31⟩, by decide⟩⟩

/-- Meets the hypotheses of JobDescriptorIsQueuedAndReleased, clauses with hypotheses 7 to 12. -/
theorem witness_JobDescriptorIsQueuedAndReleased_2 :
  (∃ (s : State) (w0 w1 w2 w3 : Word) (d : PageDesc),
    (s.jq.q.length < 64) ∧ (parseDesc w0 w1 w2 w3 = .page d) ∧ (s.pageDescOk d w3 = false)) ∧
  (∃ (s : State) (o : Sender) (w : Word) (e : QEnt),
    (s.reaches o SYS_JOBQ_REL = true) ∧ (e ∈ s.jq.q) ∧ (e.isJob = true) ∧ ((e.idx + 1) % 128 = SYS_JOBQ_REL.REL_IDX.ext
      w)) ∧
  (∃ (s : State) (o : Sender) (w : Word),
    (s.reaches o SYS_JOBQ_REL = true) ∧ (s.jq.q.all (fun e => !e.isJob || (e.idx + 1) % 128 != SYS_JOBQ_REL.REL_IDX.ext
      w) = true)) ∧
  (∃ (s : State) (o : Sender) (w : Word),
    (s.reaches o SYS_JOBQ_CTL = true) ∧ (s.jobRuns = true)) ∧
  (∃ (s : State) (o : Sender) (w : Word),
    (s.reaches o SYS_JOBQ_CTL = true) ∧ (s.jq.job = none) ∧ (s.jobRuns = false)) ∧
  (∃ (s : State) (o : Sender) (w : Word),
    (s.reaches o SYS_JOBQ_CTL = true) ∧ (SYS_JOBQ_CTL.FLUSH.ext w = 0)) :=
  ⟨⟨upJob, 0x2000100050, 0, 0x70000, 0, ⟨1, 5, false, false, 0, 0, 7, 0, 0⟩, by decide⟩,
  ⟨up.jqUpd (fun q => { q with q := [.job 127 ⟨0, 0, false, 0, 0, 32⟩ false] }), .host, 0, .job 127 ⟨0, 0, false, 0,
    0, 32⟩ false, by decide⟩,
  ⟨up.jqUpd (fun q => { q with q := [.job 127 ⟨0, 0, false, 0, 0, 32⟩ false] }), .host, 1, by decide⟩,
  ⟨upJob, .host, 1, by decide⟩,
  ⟨up.setJobState 4, .host, 1, by decide⟩,
  ⟨up, .warden, 1, by decide⟩⟩

/-- Meets the hypotheses of JobEventsFailAndClear. -/
theorem witness_JobEventsFailAndClear :
  (∃ (s : State) (j : Job) (p : JPage),
    (s.awake = true) ∧ (s.jq.job = some j) ∧ (s.currentPage = some p) ∧ (j.lastSeen = false) ∧ (p.start.isSome = true) ∧
      (s.swathLeft = false)) ∧
  (∃ (s : State) (w : JPage),
    (s.awake = true) ∧ (w ∈ s.planPages.jobPages) ∧ (w.ph = .waiting) ∧ (w.d.mark = 2) ∧ (w.start = none) ∧
      (s.planPages.nextToOpen w = true) ∧ ((s.planPages.prevEnd w).any (·.isSome) = true) ∧ (s.planPages.on POS_PM.WIN =
      true) ∧ (s.planPages.jq.pmMissed = false)) ∧
  (∃ (s : State) (x : RowClr),
    (s.awake = true) ∧ (firstClr s.jq.clears = some x)) ∧
  (∃ (l : List RowClr) (x y : RowClr),
    (firstClr l = some x) ∧ (l.length = 2) ∧ (y ∈ l)) ∧
  (∃ (s : State) (j : Job) (cause n : Nat),
    (s.jq.job = some j)) ∧
  (∃ (s : State) (cause jobId pageNo : Nat) (stamp : Word),
    (s.on SYS_JOBQ_FLAG.JOB_FAILED = false)) :=
  ⟨⟨upJob, wJob, wPage, by decide⟩,
  ⟨upMark, wMark, by decide⟩,
  ⟨up.jqUpd (fun q => { q with clears := [⟨1, 9, 0⟩, ⟨2, 7, 0⟩] }), ⟨2, 7, 0⟩, by decide⟩,
  ⟨[⟨1, 9, 0⟩, ⟨2, 7, 0⟩], ⟨2, 7, 0⟩, ⟨1, 9, 0⟩, by decide⟩,
  ⟨upJob, wJob, 7, 5, by decide⟩,
  ⟨up, 7, 1, 2, 3, by decide⟩⟩

/-- Meets the hypotheses of RegisterReadsAnswerAndTheSnapshotHolds, clauses with hypotheses 1 to 6. -/
theorem witness_RegisterReadsAnswerAndTheSnapshotHolds_1 :
  (∃ (s : State) (o : Origin) (a : Nat),
    (regRow? a = none)) ∧
  (∃ (s : State) (o : Origin) (a b : Nat),
    (regRow? a ≠ none) ∧ (s.regIso a = true) ∧ (regBlk a = some b)) ∧
  (∃ (s : State) (o : Origin) (a : Nat),
    (regRow? a ≠ none) ∧ (s.regIso a = true) ∧ (regBlk a = none)) ∧
  (∃ (s : State) (o : Origin) (r : Reg) (i j : Nat),
    (namedAt r i j = true) ∧ (s.regIso (r.at i j) = false) ∧ (s.readSpecial r i = none)) ∧
  (∃ (s : State) (o : Sender) (a : Nat) (row : RegRow) (i j : Nat),
    (regRow? a = some (row, i, j)) ∧ (row.reg.s1 = 2 ^ 24) ∧ (s.regIso a = false)) ∧
  (∃ (r : Reg) (i j b : Nat),
    (regAt r i j = true) ∧ ((∀ f ∈ fieldsAt (r.at i j), f.acc ≠ .wo → f.mask.getLsbD b = false))) :=
  ⟨⟨up, .host, 0xFFFFFF, by decide⟩,
  ⟨up.setFld SYS_PDSTAT.STATE 0, .host, 0x300000, 58, by decide⟩,
  ⟨up.setFld SYS_PDSTAT.STATE 0, .warden, FIRE_GCTL.at 0, by decide⟩,
  ⟨up, .host, FIRE_TRIM, 47, 0, by decide⟩,
  ⟨up, .warden, BAR_TXCHIP.at 0, ((regRow? (BAR_TXCHIP.at 0)).getD (⟨POS_CTL, [], 0⟩, 0, 0)).1, 0, 0, by decide⟩,
  ⟨TXN_CMD, 0, 0, 39, by decide⟩⟩

/-- Meets the hypotheses of RegisterReadsAnswerAndTheSnapshotHolds, clauses with hypotheses 7 to 12. -/
theorem witness_RegisterReadsAnswerAndTheSnapshotHolds_2 :
  (∃ (s : State) (o : Sender),
    (s.regIso (POS_NOW.at 0) = false)) ∧
  (∃ (s : State) (o : Sender) (p : Fin 2) (w : Word) (e : Bool) (l : List (Word × Bool)),
    (s.regIso (POS_PROBEFIFO.at p) = false) ∧ (s.probeFifo p = (w, e) :: l)) ∧
  (∃ (s : State) (o : Sender),
    (s.regIso (ETH_TIME_S.at 0) = false)) ∧
  (∃ (s : State) (o : Sender),
    (s.reaches o TALLY_SNAPCTL = true)) ∧
  (∃ (s : State) (o : Sender),
    (s.reaches o TALLY_SNAPDATA = true) ∧ (s.on TALLY_SNAPIDX.AUTOINC = true)) ∧
  (∃ (s : State) (o : Sender),
    (s.reaches o TALLY_SNAPDATA = true) ∧ (s.on TALLY_SNAPIDX.AUTOINC = false)) :=
  ⟨⟨up, .host, by decide⟩,
  ⟨up.setProbeFifo 1 [(5, false), (6, true)], .host, 1, 5, false, [(6, true)], by decide⟩,
  ⟨up, .host, by decide⟩,
  ⟨up, .warden, by decide⟩,
  ⟨up.setReg TALLY_SNAPIDX 0xFFFFFFFFFF, .host, by decide⟩,
  ⟨up, .host, by decide⟩⟩

/-- Meets the hypotheses of LineDecisionRunsTheStepsOfTheTable. -/
theorem witness_LineDecisionRunsTheStepsOfTheTable :
  (∃ (s : State) (dt : Nat) (f : LineFaults),
    (s.awake = true) ∧ (s.pdOn 4 = true) ∧ (s.moves = true) ∧ (s.inScan = false)) ∧
  (∃ (s : State) (dt : Nat) (f : LineFaults),
    (s.awake = true) ∧ (s.pdOn 4 = true) ∧ (s.moves = true) ∧ (s.inScan = true) ∧ (s.fld FIRE_SCANSTAT.SSTATE ≠ 1) ∧
      (s.fld FIRE_SCANSTAT.SSTATE ≠ 2)) ∧
  (∃ (s : State) (dt : Nat) (f : LineFaults),
    (s.awake = true) ∧ (s.pdOn 4 = true) ∧ (s.moves = true) ∧ (s.inScan = true) ∧ ((s.fld FIRE_SCANSTAT.SSTATE = 1 ∨
      s.fld FIRE_SCANSTAT.SSTATE = 2))) ∧
  (∃ (s : State) (dt : Nat) (f : LineFaults),
    (s.awake = true) ∧ (s.moves = false)) :=
  ⟨⟨upJob.setFld POS_STAT.STATE 2, 5, ⟨none, false, true, false⟩, by decide⟩,
  ⟨(upScan.setFld FIRE_SCANSTAT.SSTATE 3), 5, ⟨none, false, true, false⟩, by decide⟩,
  ⟨(upScan.setFld FIRE_SCANSTAT.SSTATE 2), 5, ⟨none, false, false, true⟩, by decide⟩,
  ⟨upJob.setFld POS_STAT.STATE 3, 5, ⟨none, false, true, false⟩, by decide⟩⟩

/-- Meets the hypotheses of LineChecksFollowTheTable. -/
theorem witness_LineChecksFollowTheTable :
  (∃ (s : State) (n : Nat),
    (s.check1 n = false)) ∧
  (∃ (s : State) (n c : Nat),
    (s.check1 n = true) ∧ (s.fire.asmFail = some (n, c))) ∧
  (∃ (s : State) (n p : Nat),
    (s.check1 n = true) ∧ (s.fire.asmFail.all (fun e => e.1 != n) = true) ∧ ((s.linePorts n).find? (fun p => !s.portRuns
      p) = some p)) ∧
  (∃ (s : State) (n p : Nat),
    (s.check1 n = true) ∧ (s.fire.asmFail.all (fun e => e.1 != n) = true) ∧ ((s.linePorts n).all s.portRuns = true) ∧
      ((s.linePorts n).find? (fun p => !s.acked p n || !s.wsetOk p) = some p)) ∧
  (∃ (s : State) (n : Nat),
    (s.check1 n = true) ∧ (s.fire.asmFail.all (fun e => e.1 != n) = true) ∧ ((s.linePorts n).all (fun p => s.portRuns p
      && s.acked p n && s.wsetOk p) = true) ∧ (s.fire.sinceLaunch.any (fun c => decide (c < s.iMin)) = true)) ∧
  (∃ (s : State) (n : Nat),
    (s.check1 n = true) ∧ (s.fire.asmFail.all (fun e => e.1 != n) = true) ∧ ((s.linePorts n).all (fun p => s.portRuns p
      && s.acked p n && s.wsetOk p) = true) ∧ (s.fire.sinceLaunch.any (fun c => decide (c < s.iMin)) = false)) :=
  ⟨⟨up, 7, by decide⟩,
  ⟨{ upJob.setJobState 2 with fire := { upJob.fire with asmFail := some (100, 1) } }, 100, 1, by decide⟩,
  ⟨upJob.setJobState 2, 100, 8, by decide⟩,
  ⟨((upJob.setJobState 2).setReg FIRE_PORTSTAT (putFields 0 [(FIRE_PORTSTAT.LSTATE, 3), (FIRE_PORTSTAT.HEN_OUT, 1)])
    8).setFld FIRE_PORTCTL.RUN 1 8, 100, 8, by decide⟩,
  ⟨{ upJob.setJobState 3 with fire := { upJob.fire with sinceLaunch := some 0 }, jq := { upJob.jq with job := some { wJob with ports := [] } } },
    100, by decide⟩,
  ⟨{ upJob.setJobState 3 with jq := { upJob.jq with job := some { wJob with ports := [] } } }, 100, by decide⟩⟩

/-- Meets the hypotheses of PortSendsGoAndStrobes. -/
theorem witness_PortSendsGoAndStrobes :
  (∃ (s : State) (p : Fin 48) (g : GoDue) (rest : List GoDue),
    (s.awake = true) ∧ (s.sendsGo p = true) ∧ ((s.port p).goDue = g :: rest)) ∧
  (∃ (s : State) (p : Fin 48) (g : GoDue) (rest : List GoDue),
    (s.awake = true) ∧ (s.sendsGo p = false) ∧ ((s.port p).goDue = g :: rest)) ∧
  (∃ (s : State) (p : Fin 48) (n k : Nat) (rest : List (Nat × Nat)),
    (s.awake = true) ∧ (s.lstate p = 3) ∧ ((s.port p).strobes = (n, k) :: rest)) ∧
  (∃ (s : State) (p : Fin 48) (n k : Nat) (rest : List (Nat × Nat)),
    (s.awake = true) ∧ (s.lstate p ≠ 3) ∧ ((s.port p).strobes = (n, k) :: rest)) ∧
  (∃ (s : State) (p : Nat),
    (s.lstate p = 3) ∧ (s.on FIRE_PORTCTL.RUN p = false) ∧ ((s.port p).strobes = [])) ∧
  (∃ (s : State) (p : Nat),
    ((s.on FIRE_PORTCTL.RUN p = true ∨ (s.port p).strobes ≠ []))) :=
  ⟨⟨((up.setFld FIRE_PORTSTAT.LSTATE 3 47).setFld FIRE_PORTCTL.RUN 1 47).updPort 47 (fun x => { x with goDue := [⟨7, true, true, 2⟩] }),
    47, ⟨7, true, true, 2⟩, [], by decide⟩,
  ⟨(up.setFld FIRE_PORTSTAT.LSTATE 2 47).updPort 47 (fun x => { x with goDue := [⟨7, true, true, 2⟩] }), 47, ⟨7, true,
    true, 2⟩, [], by decide⟩,
  ⟨(up.setFld FIRE_PORTSTAT.LSTATE 3 47).updPort 47 (fun x => { x with strobes := [(7, 15)] }), 47, 7, 15, [], by decide⟩,
  ⟨(up.setFld FIRE_PORTSTAT.LSTATE 2 47).updPort 47 (fun x => { x with strobes := [(7, 14)] }), 47, 7, 14, [], by decide⟩,
  ⟨up.setFld FIRE_PORTSTAT.LSTATE 3 47, 47, by decide⟩,
  ⟨up.updPort 47 (fun x => { x with strobes := [(7, 14)] }), 47, by decide⟩⟩

/-- Meets the hypotheses of HeadAcknowledgementsAreTaken, clauses with hypotheses 1 to 6. -/
theorem witness_HeadAcknowledgementsAreTaken_1 :
  (∃ (s : State) (p : Fin 48) (ref : BitVec 24),
    (s.awake = true) ∧ (2 ≤ s.lstate p)) ∧
  (∃ (s : State) (p : Fin 48) (ref : BitVec 24) (st : BitVec 8),
    (s.awake = true) ∧ (2 ≤ s.lstate p) ∧ (st ≠ 0)) ∧
  (∃ (s : State) (p : Fin 48) (ref : BitVec 24) (st : BitVec 8),
    (s.awake = true) ∧ (2 ≤ s.lstate p)) ∧
  (∃ (s : State) (p : Fin 48) (ref : BitVec 24),
    (s.awake = true) ∧ (2 ≤ s.lstate p)) ∧
  (∃ (s : State) (p : Fin 48) (ref : BitVec 24) (st : BitVec 8),
    (s.awake = true) ∧ (2 ≤ s.lstate p) ∧ (st ≠ 0)) ∧
  (∃ (s : State) (p : Fin 48) (ref : BitVec 24) (st : BitVec 8),
    (s.awake = true) ∧ (2 ≤ s.lstate p)) :=
  ⟨⟨up.setFld FIRE_PORTSTAT.LSTATE 2 0, 0, 5, by decide⟩,
  ⟨up.setFld FIRE_PORTSTAT.LSTATE 2 0, 0, 5, 1, by decide⟩,
  ⟨up.setFld FIRE_PORTSTAT.LSTATE 3 0, 0, 5, 0, by decide⟩,
  ⟨up.setFld FIRE_PORTSTAT.LSTATE 2 0, 0, 5, by decide⟩,
  ⟨up.setFld FIRE_PORTSTAT.LSTATE 2 0, 0, 5, 1, by decide⟩,
  ⟨up.setFld FIRE_PORTSTAT.LSTATE 2 0, 0, 5, 1, by decide⟩⟩

/-- Meets the hypotheses of HeadAcknowledgementsAreTaken, clauses with hypotheses 7 to 9. -/
theorem witness_HeadAcknowledgementsAreTaken_2 :
  (∃ (s : State) (p : Fin 48) (code : BitVec 8) (b : BankLoad) (k : Nat),
    (s.awake = true) ∧ ((s.port p).bank = some b) ∧ (b.left.find? (fun e => e.1 == code.toNat) = some (code.toNat, k)) ∧
      (k < 2)) ∧
  (∃ (s : State) (p : Fin 48) (code : BitVec 8) (b : BankLoad) (k : Nat),
    (s.awake = true) ∧ ((s.port p).bank = some b) ∧ (b.left.find? (fun e => e.1 == code.toNat) = some (code.toNat, k)) ∧
      (2 ≤ k)) ∧
  (∃ (s : State) (p : Fin 48),
    (s.awake = true) ∧ ((s.port p).wload.isSome = true)) :=
  ⟨⟨up.updPort 0 (fun x => { x with bank := some wBank }), 0, 16, wBank, 1, by decide⟩,
  ⟨up.updPort 0 (fun x => { x with bank := some { wBank with left := [(16, 2)] } }), 0, 16, { wBank with left := [(16, 2)] },
    2, by decide⟩,
  ⟨up.updPort 47 (fun x => { x with wload := some ⟨1, [(0, 0)], []⟩ }), 47, by decide⟩⟩

/-- Meets the hypotheses of HeadTelemetryIsRecorded. -/
theorem witness_HeadTelemetryIsRecorded :
  (∃ (s : State) (p : Fin 48) (t0 t1 : BitVec 16) (ready sup hot : Bool) (wv : BitVec 8),
    (s.awake = true) ∧ (2 ≤ s.lstate p) ∧ ((sup || hot) = false)) ∧
  (∃ (s : State) (p : Fin 48) (t0 t1 : BitVec 16) (ready sup hot : Bool) (wv : BitVec 8),
    (s.awake = true) ∧ (2 ≤ s.lstate p) ∧ ((sup || hot) = true)) ∧
  (∃ (s : State) (p : Fin 48) (t0 t1 : BitVec 16) (ready sup hot : Bool) (wv : BitVec 8),
    (s.awake = true) ∧ (s.lstate p = 1)) ∧
  (∃ (s : State) (p : Fin 48),
    (s.awake = true) ∧ (s.lstate p ≠ 0)) ∧
  (∃ (s : State) (p : Fin 48),
    (s.awake = true) ∧ (s.portUp p = true) ∧ ((s.port p).lost = false)) :=
  ⟨⟨(up.setFld FIRE_PORTSTAT.LSTATE 3 47).setFld FIRE_THCFG.HI 2047 47, 47, 0x8000, 0x7FF, true, false, false, 255, by decide⟩,
  ⟨(up.setFld FIRE_PORTSTAT.LSTATE 3 47).setFld FIRE_THCFG.HI 2047 47, 47, 0x800, 0x7FE, true, false, true, 255, by decide⟩,
  ⟨(up.setFld FIRE_PORTSTAT.LSTATE 1 47).setFld FIRE_THCFG.HI 2047 47, 47, 0x800, 0x7FE, true, false, true, 255, by decide⟩,
  ⟨up.setFld FIRE_PORTSTAT.LSTATE 1 47, 47, by decide⟩,
  ⟨(up.setFld FIRE_PORTSTAT.LSTATE 2 47).setFld FIRE_PORTCTL.TEL_ACT 1 47, 47, by decide⟩⟩

/-- Meets the hypotheses of HeadSelfTestIsRun. -/
theorem witness_HeadSelfTestIsRun :
  (∃ (s : State) (o : Sender) (p : Fin 48),
    (s.reaches o FIRE_TEST p = true) ∧ (s.lstate p = 2)) ∧
  (∃ (s : State) (o : Sender) (p : Fin 48),
    (s.reaches o FIRE_TEST p = true) ∧ (s.lstate p ≠ 2)) ∧
  (∃ (s : State) (p : Fin 48) (seg : Fin 8) (bytes : List Byte) (got : List Nat),
    (s.awake = true) ∧ ((s.port p).testSegs = some got) ∧ ((seg.val :: got).eraseDups.length < 8)) ∧
  (∃ (s : State) (p : Fin 48) (seg : Fin 8) (bytes : List Byte) (got : List Nat),
    (s.awake = true) ∧ ((s.port p).testSegs = some got) ∧ (8 ≤ (seg.val :: got).eraseDups.length)) ∧
  (∃ (s : State) (p : Fin 48) (seg : Fin 8) (bytes : List Byte),
    (s.awake = true) ∧ ((s.port p).testSegs = none)) ∧
  (∃ (s : State) (p : Fin 48),
    (s.awake = true) ∧ ((s.port p).testSegs.isSome = true)) :=
  ⟨⟨up.setFld FIRE_PORTSTAT.LSTATE 2 47, .host, 47, by decide⟩,
  ⟨up.setFld FIRE_PORTSTAT.LSTATE 3 47, .host, 47, by decide⟩,
  ⟨upDram.updPort 47 (fun x => { x with testSegs := some [] }), 47, 7, List.replicate 63 1, [], by decide⟩,
  ⟨upDram.updPort 47 (fun x => { x with testSegs := some [0, 1, 2, 3, 4, 5, 6] }), 47, 7, List.replicate 63 1, [0, 1,
    2, 3, 4, 5, 6], by decide⟩,
  ⟨upDram, 47, 7, List.replicate 63 1, by decide⟩,
  ⟨up.updPort 47 (fun x => { x with testSegs := some [1] }), 47, by decide⟩⟩

/-- Meets the hypotheses of PortControlDrivesTheLinkState, clauses with hypotheses 1 to 6. -/
theorem witness_PortControlDrivesTheLinkState_1 :
  (∃ (s : State) (o : Sender) (p : Fin 48) (w : Word),
    (s.reaches o FIRE_PORTCTL p = true) ∧ (FIRE_PORTCTL.LINK_EN.ext w = 1) ∧ (s.fld FIRE_PORTCTL.LINK_EN p = 0) ∧
      (s.lstate p = 0) ∧ (s.blkHeld p = false) ∧ (s.pdOn 8 = true)) ∧
  (∃ (s : State) (o : Sender) (p : Fin 48) (w : Word),
    (s.reaches o FIRE_PORTCTL p = true) ∧ (FIRE_PORTCTL.LINK_EN.ext w = 1) ∧ (s.fld FIRE_PORTCTL.LINK_EN p = 0) ∧
      ((s.lstate p ≠ 0 ∨ s.blkHeld p = true ∨ s.pdOn 8 = false))) ∧
  (∃ (s : State) (o : Sender) (p : Fin 48) (w : Word),
    (s.reaches o FIRE_PORTCTL p = true) ∧ (FIRE_PORTCTL.LINK_EN.ext w = 0) ∧ (s.fld FIRE_PORTCTL.LINK_EN p = 1)) ∧
  (∃ (s : State) (o : Sender) (p : Fin 48) (w : Word),
    (s.reaches o FIRE_PORTCTL p = true) ∧ (FIRE_PORTCTL.LINK_EN.ext w = s.fld FIRE_PORTCTL.LINK_EN p)) ∧
  (∃ (s : State) (o : Sender) (p : Fin 48) (w : Word),
    (s.reaches o FIRE_PORTCTL p = true) ∧ (FIRE_PORTCTL.LINK_EN.ext w = s.fld FIRE_PORTCTL.LINK_EN p)) ∧
  (∃ (s : State) (o : Sender) (p : Fin 48) (w : Word),
    (s.reaches o FIRE_PORTCTL p = true) ∧ (FIRE_PORTCTL.LINK_EN.ext w = s.fld FIRE_PORTCTL.LINK_EN p)) :=
  ⟨⟨up, .host, 47, 0xFFFFFFFFFF, by decide⟩,
  ⟨up.setReg SYS_BLKRST1 0x80, .host, 47, 0xFFFFFFFFFF, by decide⟩,
  ⟨up.setFld FIRE_PORTCTL.LINK_EN 1 47, .host, 47, 0, by decide⟩,
  ⟨up.setFld FIRE_PORTSTAT.LSTATE 3 47, .host, 47, 0, by decide⟩,
  ⟨up.setFld FIRE_PORTSTAT.LSTATE 3 47, .host, 47, 0, by decide⟩,
  ⟨up.setReg FIRE_PORTCTL 0xFFFFFFFFFF 47, .host, 47, 0xFFFFFFFFFF, by decide⟩⟩

/-- Meets the hypotheses of PortControlDrivesTheLinkState, clauses with hypotheses 7 to 11. -/
theorem witness_PortControlDrivesTheLinkState_2 :
  (∃ (s : State) (p : Nat),
    (s.lstate p = 3)) ∧
  (∃ (s : State) (p : Nat) (run : Bool),
    ((run = true ∨ s.lstate p ≠ 3))) ∧
  (∃ (s : State) (p : Fin 48),
    (s.awake = true) ∧ (s.lstate p = 2) ∧ (s.on FIRE_PORTCTL.RUN p = true) ∧ (s.on FIRE_PORTSTAT.HEN_OUT p = true) ∧
      (s.on FIRE_PORTSTAT.READY p = true) ∧ (s.on FIRE_PORTSTAT.BANK_PEND p = false)) ∧
  (∃ (s : State) (p : Fin 48),
    (s.awake = true) ∧ (s.lstate p = 1)) ∧
  (∃ (s : State) (p : Fin 48),
    (s.awake = true) ∧ (s.portUp p = true)) :=
  ⟨⟨up.setFld FIRE_PORTSTAT.LSTATE 3 47, 47, by decide⟩,
  ⟨up, 47, false, by decide⟩,
  ⟨((((up.setFld FIRE_PORTSTAT.LSTATE 2 47).setFld FIRE_PORTCTL.RUN 1 47).setFld FIRE_PORTSTAT.HEN_OUT 1 47).setFld
    FIRE_PORTSTAT.READY 1 47), 47, by decide⟩,
  ⟨up.setFld FIRE_PORTSTAT.LSTATE 1 0, 0, by decide⟩,
  ⟨up.setFld FIRE_PORTSTAT.LSTATE 3 47, 47, by decide⟩⟩

/-- Meets the hypotheses of HeadTablesAndFifoAreAccessed, clauses with hypotheses 1 to 6. -/
theorem witness_HeadTablesAndFifoAreAccessed_1 :
  (∃ (s : State) (o : Sender) (p : Fin 48) (w : Word),
    (s.reaches o FIRE_DLYDATA p = true) ∧ (s.fld FIRE_DLYIDX.WORD p ≤ 1333) ∧ (s.betweenJobs = true)) ∧
  (∃ (s : State) (p ch v : Nat),
    (ch < 4000)) ∧
  (∃ (s : State) (p ch v : Nat),
    (4000 ≤ ch)) ∧
  (∃ (s : State) (o : Sender) (p : Fin 48) (w : Word),
    (s.reaches o FIRE_DLYDATA p = true) ∧ (s.fld FIRE_DLYIDX.WORD p ≤ 1333) ∧ (s.betweenJobs = false)) ∧
  (∃ (s : State) (o : Sender) (p : Fin 48) (w : Word),
    (s.reaches o FIRE_DLYDATA p = true) ∧ (1333 < s.fld FIRE_DLYIDX.WORD p)) ∧
  (∃ (s : State) (o : Sender) (p : Fin 48) (w : Word),
    (s.reaches o FIRE_WLOAD p = true) ∧ ((FIRE_WLOAD.NSEG.ext w == 0 || decide (64 < FIRE_WLOAD.NSEG.ext w) || !s.portUp
      p || (s.port p).wload.isSome || s.fld FIRE_WAVE.SET p == FIRE_WLOAD.TARGET.ext w || s.fld FIRE_WAVE.COOL p ==
      FIRE_WLOAD.TARGET.ext w || s.waveStaged p (FIRE_WLOAD.TARGET.ext w)) = true)) :=
  ⟨⟨(up.setFld FIRE_DLYIDX.WORD 1333 47).setFld FIRE_DLYIDX.AUTOINC 1 47, .host, 47, 0xFFFFFFFFFF, by decide⟩,
  ⟨up, 47, 3999, 7, by decide⟩,
  ⟨up, 47, 4000, 7, by decide⟩,
  ⟨upJob, .host, 47, 0xFFFFFFFFFF, by decide⟩,
  ⟨up.setFld FIRE_DLYIDX.WORD 1334 47, .host, 47, 0, by decide⟩,
  ⟨up, .host, 47, 0, by decide⟩⟩

/-- Meets the hypotheses of HeadTablesAndFifoAreAccessed, clauses with hypotheses 7 to 10. -/
theorem witness_HeadTablesAndFifoAreAccessed_2 :
  (∃ (s : State) (o : Sender) (p : Fin 48) (w : Word) (bs : List Byte),
    (s.reaches o FIRE_WLOAD p = true) ∧ ((FIRE_WLOAD.NSEG.ext w == 0 || decide (64 < FIRE_WLOAD.NSEG.ext w) || !s.portUp
      p || (s.port p).wload.isSome || s.fld FIRE_WAVE.SET p == FIRE_WLOAD.TARGET.ext w || s.fld FIRE_WAVE.COOL p ==
      FIRE_WLOAD.TARGET.ext w || s.waveStaged p (FIRE_WLOAD.TARGET.ext w)) = false) ∧ ((((s.setFld FIRE_WLOAD.TARGET
      (FIRE_WLOAD.TARGET.ext w) p).setFld FIRE_WLOAD.NSEG (FIRE_WLOAD.NSEG.ext w) p).dramRead 6 (s.fld FIRE_WADDR.ADDR p
      * 16) (256 * FIRE_WLOAD.NSEG.ext w)).2 = some bs)) ∧
  (∃ (s : State) (o : Sender) (p : Fin 48) (w : Word),
    (s.reaches o FIRE_WLOAD p = true) ∧ ((FIRE_WLOAD.NSEG.ext w == 0 || decide (64 < FIRE_WLOAD.NSEG.ext w) || !s.portUp
      p || (s.port p).wload.isSome || s.fld FIRE_WAVE.SET p == FIRE_WLOAD.TARGET.ext w || s.fld FIRE_WAVE.COOL p ==
      FIRE_WLOAD.TARGET.ext w || s.waveStaged p (FIRE_WLOAD.TARGET.ext w)) = false) ∧ ((((s.setFld FIRE_WLOAD.TARGET
      (FIRE_WLOAD.TARGET.ext w) p).setFld FIRE_WLOAD.NSEG (FIRE_WLOAD.NSEG.ext w) p).dramRead 6 (s.fld FIRE_WADDR.ADDR p
      * 16) (256 * FIRE_WLOAD.NSEG.ext w)).2 = none)) ∧
  (∃ (s : State) (o : Sender) (t : Word) (rest : List Word),
    (s.reaches o FIRE_OVSP_FIFO = true) ∧ (s.fire.ovspFifo = t :: rest)) ∧
  (∃ (s : State) (o : Sender),
    (s.reaches o FIRE_OVSP_FIFO = true) ∧ (s.fire.ovspFifo = [])) :=
  ⟨⟨(upDram.setFld FIRE_PORTSTAT.LSTATE 2 0), .host, 0, putFields 0 [(FIRE_WLOAD.TARGET, 3), (FIRE_WLOAD.NSEG, 1)],
    List.replicate 256 0, by decide +kernel⟩,
  ⟨(up.setFld FIRE_PORTSTAT.LSTATE 2 0), .host, 0, putFields 0 [(FIRE_WLOAD.TARGET, 3), (FIRE_WLOAD.NSEG, 1)], by decide +kernel⟩,
  ⟨{ up with fire := { up.fire with ovspFifo := [9] } }, .host, 9, [], by decide⟩,
  ⟨up, .warden, by decide⟩⟩

/-- Meets the hypotheses of EncoderEdgesAreCounted, clauses with hypotheses 1 to 6. -/
theorem witness_EncoderEdgesAreCounted_1 :
  (∃ (s : State) (n : Fin 2) (a b : Bool) (dt : Nat),
    (s.awake = true) ∧ (s.pdOn 4 = true) ∧ (s.fld POS_ENCCFG.MODE n = 1) ∧ ((((s.enc n).lvlA == (if (s.enc n).wireA ||
      !s.railOk 1 then (s.enc n).lvlA else a)) != ((s.enc n).lvlB == (if (s.enc n).wireB || !s.railOk 1 then (s.enc
      n).lvlB else b))) = true)) ∧
  (∃ (s : State) (n : Fin 2) (a b : Bool) (dt : Nat),
    (s.awake = true) ∧ (s.pdOn 4 = true) ∧ (s.fld POS_ENCCFG.MODE n = 1) ∧ ((s.enc n).lvlA ≠ (if (s.enc n).wireA ||
      !s.railOk 1 then (s.enc n).lvlA else a)) ∧ ((s.enc n).lvlB ≠ (if (s.enc n).wireB || !s.railOk 1 then (s.enc
      n).lvlB else b))) ∧
  (∃ (s : State) (n : Fin 2) (a b : Bool) (dt : Nat),
    (s.awake = true) ∧ (s.pdOn 4 = true) ∧ (s.fld POS_ENCCFG.MODE n = 1) ∧ ((s.enc n).lvlA = (if (s.enc n).wireA ||
      !s.railOk 1 then (s.enc n).lvlA else a)) ∧ ((s.enc n).lvlB = (if (s.enc n).wireB || !s.railOk 1 then (s.enc
      n).lvlB else b))) ∧
  (∃ (s : State) (n : Fin 2) (a b : Bool) (dt : Nat),
    (s.awake = true) ∧ (s.pdOn 4 = true) ∧ (s.fld POS_ENCCFG.MODE n = 2) ∧ ((s.enc n).lvlA = false) ∧ ((if (s.enc
      n).wireA || !s.railOk 1 then (s.enc n).lvlA else a) = true)) ∧
  (∃ (s : State) (n : Fin 2) (a b : Bool) (dt : Nat),
    (s.awake = true) ∧ (s.pdOn 4 = true) ∧ (s.fld POS_ENCCFG.MODE n ≠ 1) ∧ ((s.fld POS_ENCCFG.MODE n ≠ 2 ∨ (s.enc
      n).lvlA = true ∨ (if (s.enc n).wireA || !s.railOk 1 then (s.enc n).lvlA else a) = false))) ∧
  (∃ (s : State) (n : Nat) (b : Bool),
    ((s.enc n).lastRev ≠ some (s.toothRev n b))) :=
  ⟨⟨up.setFld POS_ENCCFG.MODE 1 1, 1, true, false, 100, by decide⟩,
  ⟨up.setFld POS_ENCCFG.MODE 1 1, 1, true, true, 100, by decide⟩,
  ⟨up.setFld POS_ENCCFG.MODE 1 1, 1, false, false, 100, by decide⟩,
  ⟨up.setFld POS_ENCCFG.MODE 2 1, 1, true, false, 100, by decide⟩,
  ⟨up, 1, true, false, 100, by decide⟩,
  ⟨up, 1, true, by decide⟩⟩

/-- Meets the hypotheses of EncoderEdgesAreCounted, clauses with hypotheses 7 to 12. -/
theorem witness_EncoderEdgesAreCounted_2 :
  (∃ (s : State) (n : Nat) (b : Bool),
    ((s.enc n).lastRev = some (s.toothRev n b)) ∧ ((s.enc n).lastP ≠ 0) ∧ ((s.enc n).lastP * s.fld POS_TOOTH.GAP_NUM n <
      (s.enc n).acc * 8)) ∧
  (∃ (s : State) (n : Nat) (b : Bool),
    ((s.enc n).lastRev = some (s.toothRev n b)) ∧ ((s.enc n).lastP ≠ 0) ∧ ((s.enc n).acc * 8 ≤ (s.enc n).lastP * s.fld
      POS_TOOTH.GAP_NUM n) ∧ (s.fld POS_TOOTH.MISS n = 0) ∧ ((s.enc n).acc * 8 < (s.enc n).lastP * s.fld
      POS_TOOTH.EXTRA_NUM n)) ∧
  (∃ (s : State) (n : Nat) (b : Bool),
    ((s.enc n).lastRev = some (s.toothRev n b)) ∧ (((s.enc n).lastP = 0 ∨ ((s.enc n).acc * 8 ≤ (s.enc n).lastP * s.fld
      POS_TOOTH.GAP_NUM n ∧ (s.fld POS_TOOTH.MISS n ≠ 0 ∨ (s.enc n).lastP * s.fld POS_TOOTH.EXTRA_NUM n ≤ (s.enc n).acc
      * 8))))) ∧
  (∃ (s : State) (n : Fin 2),
    (s.awake = true) ∧ (s.pdOn 4 = true) ∧ (s.fld POS_ENCCFG.MODE n = 1) ∧ (s.on POS_ENCCFG.Z_EN n = true) ∧ ((s.enc
      n).wireZ = false) ∧ (s.railOk 1 = true)) ∧
  (∃ (s : State) (n : Fin 2),
    (s.awake = true) ∧ (s.pdOn 4 = true) ∧ ((s.fld POS_ENCCFG.MODE n ≠ 1 ∨ s.on POS_ENCCFG.Z_EN n = false ∨ (s.enc
      n).wireZ = true ∨ s.railOk 1 = false))) ∧
  (∃ (s : State) (n : Nat),
    ((s.enc n).idxRef = false)) :=
  ⟨⟨up.setEnc 1 { EncCh.reset with lastRev := some false, lastP := 8, acc := 1000 }, 1, true, by decide⟩,
  ⟨((up.setFld POS_TOOTH.MISS 0 1).setFld POS_TOOTH.EXTRA_NUM 4 1).setEnc 1 { EncCh.reset with lastRev := some false, lastP := 8, acc := 1 },
    1, true, by decide⟩,
  ⟨up.setEnc 1 { EncCh.reset with lastRev := some false, acc := 1 }, 1, true, by decide⟩,
  ⟨(up.setFld POS_ENCCFG.MODE 1 1).setFld POS_ENCCFG.Z_EN 1 1, 1, by decide⟩,
  ⟨up, 1, by decide⟩,
  ⟨up, 1, by decide⟩⟩

/-- Meets the hypotheses of EncoderEdgesAreCounted, clauses with hypotheses 13 to 18. -/
theorem witness_EncoderEdgesAreCounted_3 :
  (∃ (s : State) (n : Nat),
    ((s.enc n).idxRef = true) ∧ ((s.enc n).since = ((if s.fld POS_ENCCFG.MODE n = 2 then s.fld POS_TOOTH.TEETH n else
      s.fld POS_IDXCFG.PERIOD n) : Nat))) ∧
  (∃ (s : State) (n : Nat),
    ((s.enc n).idxRef = true) ∧ ((s.enc n).since ≠ ((if s.fld POS_ENCCFG.MODE n = 2 then s.fld POS_TOOTH.TEETH n else
      s.fld POS_IDXCFG.PERIOD n) : Nat))) ∧
  (∃ (s : State) (n : Fin 2),
    (s.awake = true) ∧ (s.pdOn 4 = true)) ∧
  (∃ (s : State) (n : Fin 2),
    (s.awake = true) ∧ (s.pdOn 4 = true)) ∧
  (∃ (s : State) (n : Fin 2),
    (s.awake = true) ∧ (s.pdOn 4 = true)) ∧
  (∃ (s : State) (n : Fin 2) (l : Bool),
    (s.awake = true) ∧ (s.pdOn 4 = true) ∧ (s.railOk 1 = true)) :=
  ⟨⟨(up.setEnc 1 { EncCh.reset with idxRef := true, since := up.fld POS_IDXCFG.PERIOD 1 }), 1, by decide⟩,
  ⟨(up.setEnc 1 { EncCh.reset with idxRef := true, since := -1 }), 1, by decide⟩,
  ⟨up.setFld POS_POLICY.WIRE_ACT 1, 0, by decide⟩,
  ⟨up.setFld POS_POLICY.WIRE_ACT 1, 0, by decide⟩,
  ⟨up, 0, by decide⟩,
  ⟨up, 0, true, by decide⟩⟩

/-- Meets the hypotheses of EncoderEdgesAreCounted, clauses with hypotheses 19 to 21. -/
theorem witness_EncoderEdgesAreCounted_4 :
  (∃ (s : State) (n : Fin 2) (l : Bool),
    (s.awake = true) ∧ (s.pdOn 4 = true) ∧ (s.railOk 1 = true)) ∧
  (∃ (s : State) (n : Fin 2) (l : Bool),
    (s.awake = true) ∧ (s.pdOn 4 = true) ∧ (s.railOk 1 = true)) ∧
  (∃ (s : State) (n : Fin 2) (k : Fin 3) (l : Bool),
    (s.railOk 1 = false)) :=
  ⟨⟨up, 0, true, by decide⟩,
  ⟨up, 0, true, by decide⟩,
  ⟨up.setFld SYS_SUPSTAT.RAIL_OK 0xFD, 0, 2, true, by decide⟩⟩

/-- Meets the hypotheses of LoopUpdateFollowsTheEncoder. -/
theorem witness_LoopUpdateFollowsTheEncoder :
  (∃ (s : State),
    (s.awake = true) ∧ (s.pdOn 4 = true) ∧ (s.posState = 0)) ∧
  (∃ (s : State),
    (s.awake = true) ∧ (s.pdOn 4 = true) ∧ (s.posState = 3)) ∧
  (∃ (s : State),
    (s.awake = true) ∧ (s.pdOn 4 = true) ∧ (s.posState ≠ 0) ∧ (s.posState ≠ 3) ∧ (s.follows = false)) ∧
  (∃ (s : State),
    (s.awake = true) ∧ (s.pdOn 4 = true) ∧ (s.posState ≠ 0) ∧ (s.posState ≠ 3) ∧ (s.follows = true)) :=
  ⟨⟨up, by decide⟩,
  ⟨up.setFld POS_STAT.STATE 3, by decide⟩,
  ⟨up.setFld POS_STAT.STATE 2, by decide⟩,
  ⟨(up.setFld POS_STAT.STATE 2).setFld POS_CTL.SRC 2, by decide⟩⟩

/-- Meets the hypotheses of PositionUnitIsEnabledAndRearmed, clauses with hypotheses 1 to 6. -/
theorem witness_PositionUnitIsEnabledAndRearmed_1 :
  (∃ (s : State) (o : Sender) (w : Word),
    (s.reaches o POS_CTL = true) ∧ (s.unguarded o POS_CTL 0 w = true) ∧ (POS_CTL.REARM.ext w = 0)) ∧
  (∃ (s : State) (o : Sender) (w : Word),
    (s.reaches o POS_CTL = true) ∧ (s.unguarded o POS_CTL 0 (putFields w [(POS_CTL.REARM, 1)]) = true)) ∧
  (∃ (s : State),
    (s.posState = 0)) ∧
  (∃ (s : State),
    (s.posState ≠ 0)) ∧
  (∃ (s : State),
    (s.posState ≠ 0) ∧ (s.jobRuns = false)) ∧
  (∃ (s : State),
    (s.follows = false) ∧ (s.jq.job = none)) :=
  ⟨⟨up, .host, 1, by decide⟩,
  ⟨up.setFld POS_STAT.STATE 3, .host, 1, by decide⟩,
  ⟨up, by decide⟩,
  ⟨up.setFld POS_STAT.STATE 3, by decide⟩,
  ⟨up.setFld POS_STAT.STATE 3, by decide⟩,
  ⟨up, by decide⟩⟩

/-- Meets the hypotheses of PositionUnitIsEnabledAndRearmed, clauses with hypotheses 7 to 8. -/
theorem witness_PositionUnitIsEnabledAndRearmed_2 :
  (∃ (s : State),
    (s.posState = 3) ∧ (s.wireHeld = false) ∧ (s.follows = false)) ∧
  (∃ (s : State) (o : Sender) (w : Word),
    (s.reaches o POS_CTL = true) ∧ (s.unguarded o POS_CTL 0 w = true) ∧ (POS_CTL.ENABLE.ext w = 0) ∧ (s.posState ≠ 0) ∧
      (s.fld SYS_JOBQ_STAT.STATE ∈ [1, 2, 3])) :=
  ⟨⟨up.setFld POS_STAT.STATE 3, by decide⟩,
  ⟨upJob.setFld POS_STAT.STATE 2, .host, putFields 0 [(POS_CTL.REARM, 1)], by decide⟩⟩

/-- Meets the hypotheses of ProbeEdgesAreStamped, clauses with hypotheses 1 to 6. -/
theorem witness_ProbeEdgesAreStamped_1 :
  (∃ (s : State) (p : Fin 4) (f : Bool),
    ((s.probeTakes p f = false ∨ s.railOk 1 = false))) ∧
  (∃ (s : State) (p : Fin 4) (f : Bool),
    (s.awake = true) ∧ (s.pdOn 4 = true) ∧ (s.railOk 1 = true) ∧ (s.probeTakes p f = true) ∧ (s.fld POS_PM.PROBE ≠
      p.val)) ∧
  (∃ (s : State) (p : Fin 4) (f : Bool),
    (s.awake = true) ∧ (s.pdOn 4 = true) ∧ (s.railOk 1 = true) ∧ (s.probeTakes p f = true) ∧ (s.fld POS_PM.PROBE =
      p.val)) ∧
  (∃ (s : State) (t : Word),
    (8 ≤ s.pos.marks.length)) ∧
  (∃ (s : State) (t : Word),
    (s.pos.marks.length < 8)) ∧
  (∃ (s : State) (o : Sender) (p : Fin 4) (t : Word) (f : Bool) (rest : List (Word × Bool)),
    (s.reaches o POS_PROBEFIFO p = true) ∧ (s.probeFifo p = (t, f) :: rest)) :=
  ⟨⟨up, 3, true, by decide⟩,
  ⟨up.setFld POS_PROBECFG.EDGE 3 3, 3, true, by decide⟩,
  ⟨up.setFld POS_PROBECFG.EDGE 3 0, 0, true, by decide⟩,
  ⟨{ up with pos := { up.pos with marks := List.replicate 8 3 } }, 7, by decide⟩,
  ⟨up, 7, by decide⟩,
  ⟨up.setProbeFifo 3 [(5, true)], .host, 3, 5, true, [], by decide⟩⟩

/-- Meets the hypotheses of ProbeEdgesAreStamped, clauses with hypotheses 7 to 7. -/
theorem witness_ProbeEdgesAreStamped_2 :
  (∃ (s : State) (o : Sender) (p : Fin 4),
    (s.reaches o POS_PROBEFIFO p = true) ∧ (s.probeFifo p = [])) :=
  ⟨up, .host, 3, by decide⟩

/-- Meets the hypotheses of BlocksAreReleasedAndDecoded, clauses with hypotheses 1 to 6. -/
theorem witness_BlocksAreReleasedAndDecoded_1 :
  (∃ (s : State) (st : Fin 56) (b : Blk) (rest : List Blk) (pg : JPage),
    (s.awake = true) ∧ (s.blkHeld 49 = false) ∧ ((s.stream st).prefetched = b :: rest) ∧ (s.page? b.page = some pg) ∧
      ((s.updStream st fun x => { x with prefetched := rest }).ringRatio st pg ≠ 0)) ∧
  (∃ (s : State) (st : Fin 56) (b : Blk) (rest : List Blk) (pg : JPage),
    (s.awake = true) ∧ (s.blkHeld 49 = false) ∧ ((s.stream st).prefetched = b :: rest) ∧ (s.page? b.page = some pg) ∧
      ((s.updStream st fun x => { x with prefetched := rest }).ringRatio st pg = 0)) ∧
  (∃ (s : State) (st : Fin 56),
    (s.awake = true) ∧ (s.blkHeld 49 = true) ∧ ((s.stream st).prefetched ≠ [])) ∧
  (∃ (s : State) (st : Fin 56) (b : Blk) (rest : List Blk),
    (s.awake = true) ∧ (s.blkHeld 49 = false) ∧ ((s.stream st).prefetched = b :: rest) ∧ (s.page? b.page = none)) ∧
  (∃ (s : State) (st : Fin 56) (b : Blk) (rest : List Blk) (pg : JPage) (f : DecFaults),
    (s.awake = true) ∧ (s.codecUp = true) ∧ (s.on CODEC_CTL.ENABLE = true) ∧ ((s.stream st).released = b :: rest) ∧
      ((s.updStream st fun x => { x with released := rest }).page? b.page = some pg)) ∧
  (∃ (s : State) (st : Fin 56) (b : Blk) (rest : List Blk) (f : DecFaults),
    (s.awake = true) ∧ (s.codecUp = true) ∧ (s.on CODEC_CTL.ENABLE = true) ∧ ((s.stream st).released = b :: rest) ∧
      ((s.updStream st fun x => { x with released := rest }).page? b.page = none)) :=
  ⟨⟨upStream.updStream 8 (fun x => { x with prefetched := [wBlk] }), 8, wBlk, [], wPage, by decide⟩,
  ⟨{ upJob with skid := { (upJob.updStream 8 (fun x => { x with prefetched := [wBlk] })).skid with copy := [(SKID_RING.at 8, 0)] } },
    8, wBlk, [], wPage, by decide⟩,
  ⟨(up.updStream 8 (fun x => { x with prefetched := [wBlk] })).setReg SYS_BLKRST1 0xFFFFFFFFFF, 8, by decide⟩,
  ⟨up.updStream 8 (fun x => { x with prefetched := [wBlk] }), 8, wBlk, [], by decide⟩,
  ⟨(upStream.setFld CODEC_CTL.ENABLE 1).updStream 8 (fun x => { x with released := [wBlk] }), 8, wBlk, [], wPage,
    ⟨false, false, false, true⟩, by decide +kernel⟩,
  ⟨(up.setFld CODEC_CTL.ENABLE 1).updStream 8 (fun x => { x with released := [wBlk] }), 8, wBlk, [], ⟨false, false,
    false, true⟩, by decide⟩⟩

/-- Meets the hypotheses of BlocksAreReleasedAndDecoded, clauses with hypotheses 7 to 7. -/
theorem witness_BlocksAreReleasedAndDecoded_2 :
  (∃ (s : State) (st : Fin 56) (f : DecFaults),
    (s.awake = true) ∧ (((s.stream st).released = [] ∨ (s.codecUp && s.on CODEC_CTL.ENABLE) = false))) :=
  ⟨up, 55, ⟨true, true, true, true⟩, by decide⟩

/-- Meets the hypotheses of ContextTransfersRun, clauses with hypotheses 1 to 6. -/
theorem witness_ContextTransfersRun_1 :
  (∃ (s : State) (o : Sender) (w : Word),
    (s.reaches o CODEC_CTXXFER = true) ∧ (s.blkHeld 49 = false) ∧ ((s.codec.xfer.isSome || (CODEC_CTXXFER.DIR.ext w == 1
      && s.streamBusy (CODEC_CTXXFER.STREAM.ext w)) || (s.on CODEC_CTXADDR.SPACE && decide (262144 - 1088 < s.fld
      CODEC_CTXADDR.ADDR * 16))) = true)) ∧
  (∃ (s : State) (o : Sender) (w : Word),
    (s.reaches o CODEC_CTXXFER = true) ∧ (s.blkHeld 49 = false) ∧ ((s.codec.xfer.isSome || (CODEC_CTXXFER.DIR.ext w == 1
      && s.streamBusy (CODEC_CTXXFER.STREAM.ext w)) || (s.on CODEC_CTXADDR.SPACE && decide (262144 - 1088 < s.fld
      CODEC_CTXADDR.ADDR * 16))) = false)) ∧
  (∃ (s : State) (o : Sender) (w : Word),
    (s.reaches o CODEC_CTXXFER = true) ∧ (s.blkHeld 49 = true)) ∧
  (∃ (s : State) (x : Xfer),
    (s.awake = true) ∧ (s.codec.xfer = some x) ∧ (x.load = true) ∧ (x.landing = true)) ∧
  (∃ (s : State) (x : Xfer),
    (s.awake = true) ∧ (s.codec.xfer = some x) ∧ (x.load = true) ∧ (x.landing = false)) ∧
  (∃ (s : State) (x : Xfer),
    (s.awake = true) ∧ (s.codec.xfer = some x) ∧ (x.load = false) ∧ (x.landing = true)) :=
  ⟨⟨up.codecUpd (fun k => { k with xfer := some ⟨true, 0, true, 0, []⟩ }), .host, 0, by decide⟩,
  ⟨up, .host, putFields 0 [(CODEC_CTXXFER.STREAM, 55)], by decide⟩,
  ⟨up.setReg SYS_BLKRST1 0x200, .host, 0, by decide⟩,
  ⟨up.codecUpd (fun k => { k with xfer := some ⟨true, 63, true, 0, []⟩ }), ⟨true, 63, true, 0, []⟩, by decide⟩,
  ⟨up.codecUpd (fun k => { k with xfer := some ⟨true, 63, false, 0, []⟩ }), ⟨true, 63, false, 0, []⟩, by decide⟩,
  ⟨up.codecUpd (fun k => { k with xfer := some ⟨false, 63, true, 0, [1]⟩ }), ⟨false, 63, true, 0, [1]⟩, by decide⟩⟩

/-- Meets the hypotheses of ContextTransfersRun, clauses with hypotheses 7 to 8. -/
theorem witness_ContextTransfersRun_2 :
  (∃ (s : State) (x : Xfer),
    (s.awake = true) ∧ (s.codec.xfer = some x) ∧ (x.load = false) ∧ (x.landing = false)) ∧
  (∃ (s : State),
    (s.awake = true) ∧ (s.codec.xfer = none)) :=
  ⟨⟨upDram.codecUpd (fun k => { k with xfer := some ⟨false, 63, false, 0, [1]⟩ }), ⟨false, 63, false, 0, [1]⟩, by decide⟩,
  ⟨up, by decide⟩⟩

/-- Meets the hypotheses of EncodeStreamsAreConfiguredAndFilled. -/
theorem witness_EncodeStreamsAreConfiguredAndFilled :
  (∃ (s : State) (o : Sender) (e : Fin 8) (w : Word),
    (s.reaches o CODEC_ENCCFG e = true) ∧ (CODEC_ENCCFG.RATIO.ext w = 0)) ∧
  (∃ (s : State) (o : Sender) (e : Fin 8) (w : Word),
    (s.reaches o CODEC_ENCCFG e = true) ∧ (CODEC_ENCCFG.RATIO.ext w ≠ 0)) ∧
  (∃ (s : State) (o : Sender) (e : Fin 8) (w : Word),
    (s.reaches o CODEC_ENCCFG e = true) ∧ (CODEC_ENCCFG.RATIO.ext w = 0)) ∧
  (∃ (s : State) (o : Sender) (e : Fin 8) (w : Word),
    (s.reaches o CODEC_ENCCFG e = true) ∧ (CODEC_ENCCFG.RATIO.ext w ≠ 0)) ∧
  (∃ (s : State) (e : Fin 8),
    (s.awake = true) ∧ ((!s.codecUp || !s.on CODEC_ENCCFG.ENABLE e || decide ((s.encStream e).lines.length < 8)) = true)) ∧
  (∃ (s : State) (e : Fin 8),
    (s.awake = true) ∧ (s.codecUp = true) ∧ (s.on CODEC_ENCCFG.ENABLE e = true) ∧ (8 ≤ (s.encStream e).lines.length)) :=
  ⟨⟨up, .host, 7, 0, by decide⟩,
  ⟨up, .host, 7, putFields 0 [(CODEC_ENCCFG.RATIO, 3), (CODEC_ENCCFG.ENABLE, 1)], by decide⟩,
  ⟨up, .host, 7, 0, by decide⟩,
  ⟨up, .host, 7, putFields 0 [(CODEC_ENCCFG.RATIO, 3)], by decide⟩,
  ⟨up, 7, by decide⟩,
  ⟨((upDram.setFld CODEC_ENCCFG.RATIO 3 7).setFld CODEC_ENCCFG.ENABLE 1 7).setEncStream 7 { bandNext := true, slot := 0, lines := List.replicate 8 [] },
    7, by decide⟩⟩

/-- Meets the hypotheses of SkidderReadsDescriptors, clauses with hypotheses 1 to 6. -/
theorem witness_SkidderReadsDescriptors_1 :
  (∃ (s : State) (st : Fin 56) (pg : JPage),
    (s.awake = true) ∧ (s.skidUp = true) ∧ (s.on SKID_CTL.ENABLE = true) ∧ ((s.stream st).stopped = false) ∧ (s.descPage
      st = some pg)) ∧
  (∃ (s : State) (st : Fin 56) (pg : JPage),
    (s.awake = true) ∧ (s.skidUp = true) ∧ (s.on SKID_CTL.ENABLE = true) ∧ ((s.stream st).stopped = false) ∧ (s.descPage
      st = some pg)) ∧
  (∃ (s : State) (st : Fin 56),
    (s.awake = true) ∧ (((s.stream st).stopped = true ∨ s.skidUp = false ∨ s.on SKID_CTL.ENABLE = false ∨ s.descPage st
      = none))) ∧
  (∃ (s : State) (st : Fin 56),
    (s.awake = true) ∧ (((s.stream st).stopped = true ∨ s.skidUp = false ∨ s.on SKID_CTL.ENABLE = false ∨ s.descPage st
      = none))) ∧
  (∃ (s : State) (st : Nat) (pg : JPage),
    ((s.dramRead 0 (dringAddr (copyReg (s.copyOf pg) SKID_DRING st) (s.fld SKID_DHEAD.IDX st)) 16).2 = none)) ∧
  (∃ (s : State) (st : Nat) (pg : JPage) (bs : List Byte),
    ((s.dramRead 0 (dringAddr (copyReg (s.copyOf pg) SKID_DRING st) (s.fld SKID_DHEAD.IDX st)) 16).2 = some bs) ∧
      ((ofBytesBE (bs.take 8)).testBit 63 = false)) :=
  ⟨⟨upStream.setFld SKID_CTL.ENABLE 1, 8, wPage, by decide⟩,
  ⟨upStream.setFld SKID_CTL.ENABLE 1, 8, wPage, by decide⟩,
  ⟨up, 55, by decide⟩,
  ⟨up.updStream 55 (fun x => { x with stopped := true }), 55, by decide⟩,
  ⟨upStream, 8, wPage, by decide⟩,
  ⟨{ upDram with jq := upJob.jq }, 8, wPage, List.replicate 16 (0 : Byte), by decide⟩⟩

/-- Meets the hypotheses of SkidderReadsDescriptors, clauses with hypotheses 7 to 11. -/
theorem witness_SkidderReadsDescriptors_2 :
  (∃ (s : State) (st : Nat) (pg : JPage) (bs : List Byte),
    ((s.dramRead 0 (dringAddr (copyReg (s.copyOf pg) SKID_DRING st) (s.fld SKID_DHEAD.IDX st)) 16).2 = some bs) ∧
      ((ofBytesBE (bs.take 8)).testBit 63 = true) ∧ (((s.dramRead 0 (dringAddr (copyReg (s.copyOf pg) SKID_DRING st)
      (s.fld SKID_DHEAD.IDX st)) 16).1.stream st).inPage = false) ∧ (((ofBytesBE (bs.take 8)).testBit 61 && ofBytesBE
      (bs.take 8) / 2 ^ 24 % 2 ^ 32 == pg.d.tag) = false)) ∧
  (∃ (s : State) (st : Nat) (pg : JPage) (bs : List Byte),
    ((s.dramRead 0 (dringAddr (copyReg (s.copyOf pg) SKID_DRING st) (s.fld SKID_DHEAD.IDX st)) 16).2 = some bs) ∧
      ((ofBytesBE (bs.take 8)).testBit 63 = true) ∧ ((((s.dramRead 0 (dringAddr (copyReg (s.copyOf pg) SKID_DRING st)
      (s.fld SKID_DHEAD.IDX st)) 16).1.stream st).inPage || ((ofBytesBE (bs.take 8)).testBit 61 && ofBytesBE (bs.take 8)
      / 2 ^ 24 % 2 ^ 32 == pg.d.tag)) = true) ∧ (descWhy { w0 := ofBytesBE (bs.take 8), w1 := ofBytesBE (bs.drop 8) }
      ((s.dramRead 0 (dringAddr (copyReg (s.copyOf pg) SKID_DRING st) (s.fld SKID_DHEAD.IDX st)) 16).1.stream st) pg
      (SKID_RING.RING_LOG2.ext (copyReg (s.copyOf pg) SKID_RING st)) ≠ 0)) ∧
  (∃ (s : State) (st : Nat) (pg : JPage) (bs : List Byte),
    ((s.dramRead 0 (dringAddr (copyReg (s.copyOf pg) SKID_DRING st) (s.fld SKID_DHEAD.IDX st)) 16).2 = some bs) ∧
      ((ofBytesBE (bs.take 8)).testBit 63 = true) ∧ ((((s.dramRead 0 (dringAddr (copyReg (s.copyOf pg) SKID_DRING st)
      (s.fld SKID_DHEAD.IDX st)) 16).1.stream st).inPage || ((ofBytesBE (bs.take 8)).testBit 61 && ofBytesBE (bs.take 8)
      / 2 ^ 24 % 2 ^ 32 == pg.d.tag)) = true) ∧ (descWhy { w0 := ofBytesBE (bs.take 8), w1 := ofBytesBE (bs.drop 8) }
      ((s.dramRead 0 (dringAddr (copyReg (s.copyOf pg) SKID_DRING st) (s.fld SKID_DHEAD.IDX st)) 16).1.stream st) pg
      (SKID_RING.RING_LOG2.ext (copyReg (s.copyOf pg) SKID_RING st)) = 0)) ∧
  (∃ (s : State) (st : Fin 56) (d : SkDesc),
    (s.awake = true) ∧ ((s.stream st).descs.find? (s.wbReady st) = some d)) ∧
  (∃ (s : State) (st : Fin 56),
    (s.awake = true) ∧ ((s.stream st).descs.all (fun d => !s.wbReady st d) = true)) :=
  ⟨⟨{ upDram with jq := upJob.jq, dram := { upDram.dram with mem := [(0, 0x80)] } }, 8, wPage, 0x80 :: List.replicate
    15 0, by decide⟩,
  ⟨{ upDram with jq := upJob.jq, dram := { upDram.dram with mem := [(0, 0xA0)] } }, 8, wPage, 0xA0 :: List.replicate
    15 0, by decide⟩,
  ⟨{ upDram with jq := upJob.jq, dram := { upDram.dram with mem := [(0, 0xB0), (9, 0x10)] } }, 8, wPage, 0xB0 ::
    List.replicate 8 0 ++ 0x10 :: List.replicate 6 0, by decide⟩,
  ⟨upDram.updStream 55 (fun x => { x with descs := [wSk] }), 55, wSk, by decide⟩,
  ⟨upDram.updStream 55 (fun x => { x with descs := [{ wSk with done := 0 }] }), 55, by decide⟩⟩

/-- Meets the hypotheses of SkidderFetchesByItsDeadlines, clauses with hypotheses 1 to 6. -/
theorem witness_SkidderFetchesByItsDeadlines_1 :
  (∃ (s : State) (st : Fin 56) (pg : JPage) (i l : Nat),
    (s.awake = true) ∧ (s.skidUp = true) ∧ (s.dlBlock st = some (pg, i)) ∧ (s.blockLine pg st i = some l) ∧ ((pg.ph ==
      .waiting && !s.barrierOk pg.d) = true)) ∧
  (∃ (s : State) (st : Fin 56) (pg : JPage) (i l : Nat),
    (s.awake = true) ∧ (s.skidUp = true) ∧ (s.dlBlock st = some (pg, i)) ∧ (s.blockLine pg st i = some l) ∧ ((pg.ph ==
      .waiting && !s.barrierOk pg.d) = false) ∧ (s.on SKID_CTL.ENABLE = false)) ∧
  (∃ (s : State) (st : Fin 56) (pg : JPage) (i l : Nat) (d : SkDesc) (q : JPage),
    (s.awake = true) ∧ (s.skidUp = true) ∧ (s.dlBlock st = some (pg, i)) ∧ (s.blockLine pg st i = some l) ∧ ((pg.ph ==
      .waiting && !s.barrierOk pg.d) = false) ∧ (s.on SKID_CTL.ENABLE = true) ∧ ((State.deadlineRead pg st (pg.blkAt i)
      65536 s).covering st pg (pg.blkAt i) = some d) ∧ ((State.deadlineRead pg st (pg.blkAt i) 65536 s).page? pg.ser =
      some q)) ∧
  (∃ (s : State) (st : Fin 56) (pg : JPage) (i l : Nat) (q : JPage),
    (s.awake = true) ∧ (s.skidUp = true) ∧ (s.dlBlock st = some (pg, i)) ∧ (s.blockLine pg st i = some l) ∧ ((pg.ph ==
      .waiting && !s.barrierOk pg.d) = false) ∧ (s.on SKID_CTL.ENABLE = true) ∧ ((State.deadlineRead pg st (pg.blkAt i)
      65536 s).covering st pg (pg.blkAt i) = none) ∧ ((State.deadlineRead pg st (pg.blkAt i) 65536 s).page? pg.ser =
      some q)) ∧
  (∃ (s : State) (st : Fin 56) (b : Blk) (rest : List Blk),
    (s.awake = true) ∧ (s.blkHeld 48 = true) ∧ ((s.stream st).toFetch = b :: rest)) ∧
  (∃ (s : State) (st : Fin 56) (b : Blk) (rest : List Blk) (pg : JPage),
    (s.awake = true) ∧ (s.blkHeld 48 = false) ∧ ((s.stream st).toFetch = b :: rest) ∧ (s.page? b.page = some pg)) :=
  ⟨⟨upStream.jqUpd (fun q => { q with pages := [{ wPage with d := { wPage.d with barrier := true } }] }), 8, { wPage with d := { wPage.d with barrier := true } },
    0, 100, by decide⟩,
  ⟨upStream, 8, wPage, 0, 100, by decide⟩,
  ⟨(upStream.setFld SKID_CTL.ENABLE 1).updStream 8 (fun x => { x with descs := [wSk] }), 8, wPage, 0, 100, wSk, wPage,
    by decide +kernel⟩,
  ⟨(upStream.setFld SKID_CTL.ENABLE 1).updStream 8 (fun x => { x with stopped := true }), 8, wPage, 0, 100, wPage, by decide +kernel⟩,
  ⟨(up.updStream 8 (fun x => { x with toFetch := [wBlk] })).setReg SYS_BLKRST1 0xFFFFFFFFFF, 8, wBlk, [], by decide⟩,
  ⟨{ upDram with jq := upJob.jq, skid := (upStream.updStream 8 fun x => { x with toFetch := [wBlk] }).skid }, 8, wBlk,
    [], wPage, by decide +kernel⟩⟩

/-- Meets the hypotheses of SkidderFetchesByItsDeadlines, clauses with hypotheses 7 to 7. -/
theorem witness_SkidderFetchesByItsDeadlines_2 :
  (∃ (s : State) (st : Fin 56) (b : Blk) (rest : List Blk) (pg : JPage) (l : Nat),
    (s.awake = true) ∧ ((s.stream st).released ++ (s.stream st).prefetched ++ (s.stream st).toFetch = b :: rest) ∧
      (s.page? b.page = some pg) ∧ (s.blockLine pg st (pg.placeOf b.blk) = some l)) :=
  ⟨upStream.updStream 8 (fun x => { x with toFetch := [wBlk] }), 8, wBlk, [], wPage, 100, by decide⟩

/-- Meets the hypotheses of RemapTableIsWrittenBetweenJobs. -/
theorem witness_RemapTableIsWrittenBetweenJobs :
  (∃ (s : State) (o : Sender) (w : Word),
    (s.reaches o SKID_RMAPDATA = true) ∧ (s.rmapIdxOk = true) ∧ (s.betweenJobs = true) ∧ ((if s.fld SKID_RMAPIDX.WORD =
      0 then rmapOk w (s.rmapWord (s.rmapIdx + 1)) w 0 else rmapOk (s.rmapWord (s.rmapIdx - 1)) w w (s.fld
      SKID_RMAPIDX.WORD)) = true)) ∧
  (∃ (s : State) (o : Sender) (w : Word),
    (s.reaches o SKID_RMAPDATA = true) ∧ (s.rmapIdxOk = true) ∧ (s.betweenJobs = true) ∧ ((if s.fld SKID_RMAPIDX.WORD =
      0 then rmapOk w (s.rmapWord (s.rmapIdx + 1)) w 0 else rmapOk (s.rmapWord (s.rmapIdx - 1)) w w (s.fld
      SKID_RMAPIDX.WORD)) = false)) ∧
  (∃ (s : State) (o : Sender) (w : Word),
    (s.reaches o SKID_RMAPDATA = true) ∧ (s.rmapIdxOk = true) ∧ (s.betweenJobs = false)) ∧
  (∃ (s : State) (o : Sender) (w : Word),
    (s.reaches o SKID_RMAPDATA = true) ∧ (s.rmapIdxOk = false)) :=
  ⟨⟨(up.setFld SKID_RMAPIDX.PORT 47).setFld SKID_RMAPIDX.COL 3999, .host, 0, by decide⟩,
  ⟨((up.setFld SKID_RMAPIDX.PORT 47).setFld SKID_RMAPIDX.COL 3999).setFld SKID_RMAPIDX.WORD 1, .host, 0xFFFFFFFFFF, by decide⟩,
  ⟨upJob, .host, 0, by decide⟩,
  ⟨up.setFld SKID_RMAPIDX.COL 4000, .host, 0, by decide⟩⟩

/-- Meets the hypotheses of TransactionsOpenAndRollBack, clauses with hypotheses 1 to 6. -/
theorem witness_TransactionsOpenAndRollBack_1 :
  (∃ (s : State) (o : Sender),
    (s.reaches o TXN_CMD = true) ∧ ((s.ctx (originNum o.origin)).isOpen = false) ∧ ((s.ctx (originNum o.origin)).arming
      = false)) ∧
  (∃ (s : State) (o : Sender),
    (s.reaches o TXN_CMD = true) ∧ (((s.ctx (originNum o.origin)).isOpen || (s.ctx (originNum o.origin)).arming) = true)) ∧
  (∃ (s : State) (o : Sender),
    (s.reaches o TXN_CMD = true) ∧ ((s.ctx (originNum o.origin)).isOpen = true)) ∧
  (∃ (s : State) (o : Sender),
    (s.reaches o TXN_CMD = true) ∧ ((s.ctx (originNum o.origin)).isOpen = false)) ∧
  (∃ (s : State) (o : Sender) (k : Fin 16) (t : Slot),
    (s.reaches o TXN_SLOTCMD k = true) ∧ (s.slot? k = some t) ∧ (t.voting = false) ∧ (t.prep = false)) ∧
  (∃ (s : State) (o : Sender) (k : Fin 16) (t : Slot),
    (s.reaches o TXN_SLOTCMD k = true) ∧ (s.slot? k = some t) ∧ (t.voting = false) ∧ (t.prep = true)) :=
  ⟨⟨up, .warden, by decide⟩,
  ⟨up.setCtx 1 { StageCtx.reset with isOpen := true }, .warden, by decide⟩,
  ⟨up.setCtx 0 { StageCtx.reset with isOpen := true }, .host, by decide⟩,
  ⟨up, .host, by decide⟩,
  ⟨up.setSlot 15 (some wSlot), .host, 15, wSlot, by decide +kernel⟩,
  ⟨up.setSlot 15 (some { wSlot with prep := true }), .host, 15, { wSlot with prep := true }, by decide +kernel⟩⟩

/-- Meets the hypotheses of TransactionsOpenAndRollBack, clauses with hypotheses 7 to 8. -/
theorem witness_TransactionsOpenAndRollBack_2 :
  (∃ (s : State) (o : Sender) (k : Fin 16) (t : Slot),
    (s.reaches o TXN_SLOTCMD k = true) ∧ (s.slot? k = some t) ∧ (t.voting = true)) ∧
  (∃ (s : State) (o : Sender) (k : Fin 16),
    (s.reaches o TXN_SLOTCMD k = true) ∧ (s.slot? k = none)) :=
  ⟨⟨up.setSlot 15 (some { wSlot with voting := true }), .host, 15, { wSlot with voting := true }, by decide +kernel⟩,
  ⟨up, .host, 15, by decide⟩⟩

/-- Meets the hypotheses of StagedWritesWaitForTheirCommit, clauses with hypotheses 1 to 6. -/
theorem witness_StagedWritesWaitForTheirCommit_1 :
  (∃ (s : State) (o : Sender) (a : BitVec 24) (w : Word) (row : RegRow) (i j : Nat),
    (s.maySend o = true) ∧ (s.regIso a.toNat = false) ∧ (regRow? a.toNat = some (row, i, j)) ∧ (row.fields.any (fun f =>
      f.acc == .rws) = true) ∧ ((s.ctx (originNum o.origin)).isOpen = true) ∧ ((s.ctx (originNum o.origin)).doomed =
      none) ∧ ((s.ctx (originNum o.origin)).has a.toNat = false) ∧ ((s.ctx (originNum o.origin)).writes.length < 1024) ∧
      (s.storeUsed < 4096)) ∧
  (∃ (s : State) (o : Sender) (a : BitVec 24) (w : Word) (row : RegRow) (i j : Nat),
    (s.maySend o = true) ∧ (s.regIso a.toNat = false) ∧ (regRow? a.toNat = some (row, i, j)) ∧ (row.fields.any (fun f =>
      f.acc == .rws) = true) ∧ ((s.ctx (originNum o.origin)).isOpen = true) ∧ ((s.ctx (originNum o.origin)).doomed =
      none) ∧ ((s.ctx (originNum o.origin)).has a.toNat = true)) ∧
  (∃ (s : State) (o : Sender) (a : BitVec 24) (w : Word) (row : RegRow) (i j : Nat),
    (s.maySend o = true) ∧ (s.regIso a.toNat = false) ∧ (regRow? a.toNat = some (row, i, j)) ∧ (row.fields.any (fun f =>
      f.acc == .rws) = true) ∧ ((s.ctx (originNum o.origin)).isOpen = true) ∧ ((s.ctx (originNum o.origin)).doomed =
      none) ∧ ((s.ctx (originNum o.origin)).has a.toNat = false) ∧ (1024 ≤ (s.ctx (originNum o.origin)).writes.length)) ∧
  (∃ (s : State) (o : Sender) (a : BitVec 24) (w : Word) (row : RegRow) (i j : Nat),
    (s.maySend o = true) ∧ (s.regIso a.toNat = false) ∧ (regRow? a.toNat = some (row, i, j)) ∧ (row.fields.any (fun f =>
      f.acc == .rws) = true) ∧ ((s.ctx (originNum o.origin)).isOpen = true) ∧ ((s.ctx (originNum o.origin)).doomed =
      none) ∧ ((s.ctx (originNum o.origin)).has a.toNat = false) ∧ ((s.ctx (originNum o.origin)).writes.length < 1024) ∧
      (4096 ≤ s.storeUsed)) ∧
  (∃ (s : State) (o : Sender) (a : BitVec 24) (w : Word) (row : RegRow) (i j : Nat),
    (s.maySend o = true) ∧ (s.regIso a.toNat = false) ∧ (regRow? a.toNat = some (row, i, j)) ∧ (row.fields.any (fun f =>
      f.acc == .rws) = true) ∧ ((s.ctx (originNum o.origin)).isOpen = true) ∧ ((s.ctx (originNum o.origin)).doomed =
      none)) ∧
  (∃ (s : State) (o : Sender) (a : BitVec 24) (w : Word) (row : RegRow) (i j c : Nat) (e : Bool),
    (s.maySend o = true) ∧ (s.regIso a.toNat = false) ∧ (regRow? a.toNat = some (row, i, j)) ∧ (row.fields.any (fun f =>
      f.acc == .rws) = true) ∧ ((s.ctx (originNum o.origin)).isOpen = true) ∧ ((s.ctx (originNum o.origin)).doomed =
      some c)) :=
  ⟨⟨up.setCtx 0 { StageCtx.reset with isOpen := true }, .host, 0x040000, 4, ⟨POS_CTL, fieldsAt 0x040000, 0⟩, 0, 0, by decide⟩,
  ⟨up.setCtx 0 { StageCtx.reset with isOpen := true, writes := [(0x040000, 0)], chips := [0] }, .host, 0x040000, 4,
    ⟨POS_CTL, fieldsAt 0x040000, 0⟩, 0, 0, by decide⟩,
  ⟨up.setCtx 0 { StageCtx.reset with isOpen := true, writes := List.replicate 1024 (0x040004, 0), chips := [0] },
    .host, 0x040000, 4, ⟨POS_CTL, fieldsAt 0x040000, 0⟩, 0, 0, by decide +kernel⟩,
  ⟨{ up with txn := { up.txn with ctx := [(0, { StageCtx.reset with isOpen := true }), (1, { StageCtx.reset with writes := List.replicate 4096 (0, 0) })] } },
    .host, 0x040000, 4, ⟨POS_CTL, fieldsAt 0x040000, 0⟩, 0, 0, by decide +kernel⟩,
  ⟨up.setCtx 0 { StageCtx.reset with isOpen := true, writes := [(0x040000, 0)], chips := [0] }, .host, 0x040000, 4,
    ⟨POS_CTL, fieldsAt 0x040000, 0⟩, 0, 0, by decide⟩,
  ⟨up.setCtx 0 { StageCtx.reset with isOpen := true, doomed := some 2 }, .host, 0x040000, 4, ⟨POS_CTL, fieldsAt
    0x040000, 0⟩, 0, 0, 2, true, by decide⟩⟩

/-- Meets the hypotheses of StagedWritesWaitForTheirCommit, clauses with hypotheses 7 to 8. -/
theorem witness_StagedWritesWaitForTheirCommit_2 :
  (∃ (s : State) (o : Sender) (a : BitVec 24) (w : Word) (e : Bool),
    ((s.ctx (originNum o.origin)).isOpen = false)) ∧
  (∃ (r : Reg) (i j : Nat) (old w : Word) (f : Fld),
    (namedAt r i j = true) ∧ (f ∈ fieldsAt (r.at i j))) :=
  ⟨⟨up, .host, 0x040000, 4, false, by decide⟩,
  ⟨POS_CTL, 0, 0, 0, 0xFFFFFFFFFF, POS_CTL.SRC, by decide⟩⟩

/-- Meets the hypotheses of ArmingNumbersAndChecksATransaction, clauses with hypotheses 1 to 6. -/
theorem witness_ArmingNumbersAndChecksATransaction_1 :
  (∃ (s : State) (o : Sender) (w : Word) (pe : Bool),
    (s.reaches o TXN_ARM = true) ∧ ((s.ctx (originNum o.origin)).isOpen = true)) ∧
  (∃ (s : State) (o : Sender) (w : Word) (pe : Bool),
    (s.reaches o TXN_ARM = true) ∧ ((s.ctx (originNum o.origin)).isOpen = false)) ∧
  (∃ (s : State) (k : Fin 16) (t : Slot),
    (s.awake = true) ∧ (s.slot? k = some t) ∧ ((t.voting || t.prep || t.line.isSome || t.nextSwath || t.mode != 4 ||
      !s.timeReached t.target.toNat t.targetNs) = false) ∧ (t.dist = false)) ∧
  (∃ (s : State) (k : Fin 16) (t : Slot),
    (s.awake = true) ∧ (s.slot? k = some t) ∧ ((t.voting || t.prep || t.line.isSome || t.nextSwath || t.mode != 4 ||
      !s.timeReached t.target.toNat t.targetNs) = false) ∧ (t.dist = true)) ∧
  (∃ (s : State) (k : Fin 16) (t : Slot),
    (s.awake = true) ∧ (s.slot? k = some t) ∧ ((t.voting || t.prep || t.line.isSome || t.nextSwath || t.mode != 4 ||
      !s.timeReached t.target.toNat t.targetNs) = true)) ∧
  (∃ (s : State) (k : Fin 16),
    (s.awake = true) ∧ (s.slot? k = none)) :=
  ⟨⟨up.setCtx 0 { StageCtx.reset with isOpen := true }, .host, 0, false, by decide⟩,
  ⟨up, .host, 0, true, by decide⟩,
  ⟨up.setSlot 15 (some { wSlot with mode := 4, line := none }), 15, { wSlot with mode := 4, line := none }, by decide +kernel⟩,
  ⟨up.setSlot 15 (some { wSlot with mode := 4, line := none, dist := true }), 15, { wSlot with mode := 4, line := none, dist := true },
    by decide +kernel⟩,
  ⟨up.setSlot 15 (some { wSlot with mode := 4, prep := true }), 15, { wSlot with mode := 4, prep := true }, by decide +kernel⟩,
  ⟨up, 0, by decide⟩⟩

/-- Meets the hypotheses of ArmingNumbersAndChecksATransaction, clauses with hypotheses 7 to 7. -/
theorem witness_ArmingNumbersAndChecksATransaction_2 :
  (∃ (s : State) (k : Nat) (t : Slot),
    (s.quiet = false) ∧ (s.scanInterval = false) ∧ (calChange? t.seq t.writes = none)) :=
  ⟨upJob.setJobState 2, 3, wSlot, by decide⟩

/-- Meets the hypotheses of TransactionAndSubstitutionLogsAreWritten, clauses with hypotheses 1 to 6. -/
theorem witness_TransactionAndSubstitutionLogsAreWritten_1 :
  (∃ (s : State) (r : List (BitVec 64)) (rest : List (List (BitVec 64))),
    (s.awake = true) ∧ (s.txn.records = r :: rest)) ∧
  (∃ (s : State),
    (s.awake = true) ∧ (s.txn.records = [])) ∧
  (∃ (s : State) (r : List (BitVec 64)) (rest : List (List (BitVec 64))),
    (s.awake = true) ∧ (s.txn.logQ = r :: rest)) ∧
  (∃ (s : State),
    (s.awake = true) ∧ (s.txn.logQ = [])) ∧
  (∃ (s : State) (o : Sender) (w : Word),
    (s.reaches o CAL_LOGBASE = true) ∧ ((s.fld CAL_LOGWR.IDX = s.fld CAL_LOGRD.IDX ∧ s.fld CAL_LOGSTAT.RESV = 0))) ∧
  (∃ (s : State) (o : Sender) (w : Word),
    (s.reaches o CAL_LOGCFG = true) ∧ ((s.fld CAL_LOGWR.IDX = s.fld CAL_LOGRD.IDX ∧ s.fld CAL_LOGSTAT.RESV = 0))) :=
  ⟨⟨upDram.txnUpd (fun u => { u with records := [[1, 2]] }), [1, 2], [], by decide⟩,
  ⟨up, by decide⟩,
  ⟨upDram.txnUpd (fun u => { u with logQ := [[1, 2]] }), [1, 2], [], by decide⟩,
  ⟨up, by decide⟩,
  ⟨up, .host, 5, by decide⟩,
  ⟨up, .host, 5, by decide⟩⟩

/-- Meets the hypotheses of TransactionAndSubstitutionLogsAreWritten, clauses with hypotheses 7 to 10. -/
theorem witness_TransactionAndSubstitutionLogsAreWritten_2 :
  (∃ (s : State) (o : Sender) (w : Word) (c : Bool),
    (s.reaches o (if c then CAL_LOGCFG else CAL_LOGBASE) = true) ∧ (¬ (s.fld CAL_LOGWR.IDX = s.fld CAL_LOGRD.IDX ∧ s.fld
      CAL_LOGSTAT.RESV = 0))) ∧
  (∃ (s : State) (o : Sender) (w : Word),
    (s.reaches o TXN_RLOGCFG = true) ∧ ((s.fld TXN_RLOGWR.IDX = s.fld TXN_RLOGRD.IDX ∧ s.fld TXN_RLOGSTAT.RESV = 0))) ∧
  (∃ (s : State) (o : Sender) (w : Word),
    (s.reaches o TXN_RLOGBASE = true) ∧ ((s.fld TXN_RLOGWR.IDX = s.fld TXN_RLOGRD.IDX ∧ s.fld TXN_RLOGSTAT.RESV = 0))) ∧
  (∃ (s : State) (o : Sender) (w : Word) (c : Bool),
    (s.reaches o (if c then TXN_RLOGCFG else TXN_RLOGBASE) = true) ∧ (¬ (s.fld TXN_RLOGWR.IDX = s.fld TXN_RLOGRD.IDX ∧
      s.fld TXN_RLOGSTAT.RESV = 0))) :=
  ⟨⟨up.setFld CAL_LOGWR.IDX 1, .host, 5, true, by decide⟩,
  ⟨up, .host, 5, by decide⟩,
  ⟨up, .host, 5, by decide⟩,
  ⟨up.setFld TXN_RLOGSTAT.RESV 1, .host, 5, false, by decide⟩⟩

/-- Meets the hypotheses of CalibrationBankIsWrittenWhileClosedToUse. -/
theorem witness_CalibrationBankIsWrittenWhileClosedToUse :
  (∃ (s : State) (o : Sender) (w : Word),
    (s.reaches o CAL_BANKDATA = true) ∧ (s.calIdxOk = true) ∧ (s.calClosed (s.fld CAL_BANKIDX.BANK) = false) ∧
      (calDataOk (s.fld CAL_BANKIDX.TABLE) (s.fld CAL_BANKIDX.WORD) w = true)) ∧
  (∃ (s : State) (o : Sender) (w : Word),
    (s.reaches o CAL_BANKDATA = true) ∧ (s.calIdxOk = true) ∧ ((s.calClosed (s.fld CAL_BANKIDX.BANK) || !calDataOk
      (s.fld CAL_BANKIDX.TABLE) (s.fld CAL_BANKIDX.WORD) w) = true)) ∧
  (∃ (s : State) (o : Sender) (w : Word),
    (s.reaches o CAL_BANKDATA = true) ∧ (s.calIdxOk = false)) :=
  ⟨⟨(up.setFld CAL_BANKIDX.PORT 47).setFld CAL_BANKIDX.BANK 1, .host, 0, by decide⟩,
  ⟨up, .host, 0, by decide⟩,
  ⟨up.setFld CAL_BANKIDX.PORT 48, .host, 0, by decide⟩⟩

/-- Meets the hypotheses of CameraFramesAreReceivedAndPublished, clauses with hypotheses 1 to 6. -/
theorem witness_CameraFramesAreReceivedAndPublished_1 :
  (∃ (s : State) (n : Fin 8) (vc : Fin 4) (h : Fin 3) (d : BitVec 6) (b : Bool) (px : List (BitVec 14)),
    (s.camOn n = false)) ∧
  (∃ (s : State) (n : Fin 8) (vc : Fin 4) (d : BitVec 6) (px : List (BitVec 14)) (b : Bool),
    (s.awake = true) ∧ (s.camOn n = true)) ∧
  (∃ (s : State) (n : Fin 8) (vc : Fin 4) (d : BitVec 6) (px : List (BitVec 14)) (b : Bool),
    (s.awake = true) ∧ (s.camOn n = true)) ∧
  (∃ (s : State) (n : Fin 8) (vc : Fin 4),
    (s.awake = true) ∧ (s.camOn n = true) ∧ (vc.val = s.fld VIS_PORTCFG.VC n)) ∧
  (∃ (s : State) (n : Fin 8) (vc : Fin 4),
    (s.awake = true) ∧ (s.camOn n = true) ∧ (vc.val ≠ s.fld VIS_PORTCFG.VC n)) ∧
  (∃ (s : State) (n : Nat) (p : Word) (lf : Bool) (rest : List (Word × Bool)),
    (s.fld VIS_TRIG.MODE n ≠ 2) ∧ ((s.vport n).tfifo = (p, lf) :: rest)) :=
  ⟨⟨up, 7, 3, 0, 0x2A, true, [], by decide⟩,
  ⟨upRx, 7, 3, 0x2A, [], true, by decide⟩,
  ⟨upRx, 7, 3, 0x2A, [1, 2, 3, 4], true, by decide⟩,
  ⟨upRx, 7, 3, by decide⟩,
  ⟨upCam, 7, 2, by decide⟩,
  ⟨up.updVport 7 (fun x => { x with tfifo := [(9, true)] }), 7, 9, true, [], by decide⟩⟩

/-- Meets the hypotheses of CameraFramesAreReceivedAndPublished, clauses with hypotheses 7 to 12. -/
theorem witness_CameraFramesAreReceivedAndPublished_2 :
  (∃ (s : State) (n : Nat),
    (s.fld VIS_TRIG.MODE n ≠ 2) ∧ ((s.vport n).tfifo = [])) ∧
  (∃ (s : State) (n : Nat),
    (s.fld VIS_TRIG.MODE n = 2)) ∧
  (∃ (s : State) (n : Nat) (f : VFrame),
    (s.pipeOf n = none)) ∧
  (∃ (s : State) (n : Nat) (f : VFrame) (k i : Nat),
    (s.pipeOf n = some (k, i)) ∧ (s.ringFull n = true)) ∧
  (∃ (s : State) (n : Nat) (f : VFrame) (k i : Nat),
    (s.pipeOf n = some (k, i)) ∧ (s.ringFull n = false)) ∧
  (∃ (s : State) (n : Fin 8) (vc : Fin 4) (d : BitVec 6) (px : List (BitVec 14)),
    (s.awake = true) ∧ (s.camOn n = true) ∧ (vc.val = s.fld VIS_PORTCFG.VC n) ∧ (d.toNat = s.fld VIS_PORTCFG.DT n) ∧
      (s.rxFrame n = none) ∧ ((s.vport n).check = none)) :=
  ⟨⟨up, 7, by decide⟩,
  ⟨up.setFld VIS_TRIG.MODE 2 7, 7, by decide⟩,
  ⟨up, 7, wFrame, by decide⟩,
  ⟨upCam.setFld VIS_FRWR.IDX 4096 7, 7, wFrame, 3, 1, by decide⟩,
  ⟨upCam, 7, wFrame, 3, 1, by decide⟩,
  ⟨upCam.setFld VIS_PORTSTAT.PSTATE 1 7, 7, 3, 0x2A, [1, 2, 3, 4], by decide⟩⟩

/-- Meets the hypotheses of CameraFramesAreReceivedAndPublished, clauses with hypotheses 13 to 18. -/
theorem witness_CameraFramesAreReceivedAndPublished_3 :
  (∃ (s : State) (n : Fin 8) (vc : Fin 4) (d : BitVec 6) (px : List (BitVec 14)) (k : Nat),
    (s.awake = true) ∧ (s.camOn n = true) ∧ (vc.val = s.fld VIS_PORTCFG.VC n) ∧ (d.toNat = s.fld VIS_PORTCFG.DT n) ∧
      (s.rxFrame n = none) ∧ ((s.vport n).check = some k)) ∧
  (∃ (s : State) (n : Fin 8) (vc : Fin 4) (d : BitVec 6) (px : List (BitVec 14)) (f : VFrame),
    (s.awake = true) ∧ (s.camOn n = true) ∧ (vc.val = s.fld VIS_PORTCFG.VC n) ∧ (d.toNat = s.fld VIS_PORTCFG.DT n) ∧
      (s.rxFrame n = some f) ∧ ((px.length ≠ s.fld VIS_PORTCFG.WIDTH n ∨ s.fld VIS_PORTCFG.HEIGHT n ≤ f.rx))) ∧
  (∃ (s : State) (n : Fin 8) (vc : Fin 4) (d : BitVec 6) (px : List (BitVec 14)) (f : VFrame),
    (s.awake = true) ∧ (s.camOn n = true) ∧ (vc.val = s.fld VIS_PORTCFG.VC n) ∧ (d.toNat = s.fld VIS_PORTCFG.DT n) ∧
      (s.rxFrame n = some f) ∧ (px.length = s.fld VIS_PORTCFG.WIDTH n) ∧ (f.rx < s.fld VIS_PORTCFG.HEIGHT n) ∧ (8 ≤
      (s.vport n).level)) ∧
  (∃ (s : State) (n : Fin 8) (vc : Fin 4) (d : BitVec 6) (px : List (BitVec 14)) (f : VFrame),
    (s.awake = true) ∧ (s.camOn n = true) ∧ (vc.val = s.fld VIS_PORTCFG.VC n) ∧ (d.toNat = s.fld VIS_PORTCFG.DT n) ∧
      (s.rxFrame n = some f) ∧ (px.length = s.fld VIS_PORTCFG.WIDTH n) ∧ (f.rx < s.fld VIS_PORTCFG.HEIGHT n) ∧ ((s.vport
      n).level < 8)) ∧
  (∃ (s : State) (n : Fin 8) (vc : Fin 4) (d : BitVec 6) (px : List (BitVec 14)),
    (s.awake = true) ∧ (s.camOn n = true) ∧ (vc.val = s.fld VIS_PORTCFG.VC n) ∧ (d.toNat = s.fld VIS_PORTCFG.DT n)) ∧
  (∃ (s : State) (n : Fin 8) (vc : Fin 4) (d : BitVec 6) (px : List (BitVec 14)) (ok : Bool),
    (s.awake = true) ∧ (s.camOn n = true) ∧ ((vc.val ≠ s.fld VIS_PORTCFG.VC n ∨ d.toNat ≠ s.fld VIS_PORTCFG.DT n))) :=
  ⟨⟨(upCam.setFld VIS_PORTSTAT.PSTATE 3 7).updVport 7 (fun x => { x with check := some 0 }), 7, 3, 0x2A, [1, 2, 3], 0,
    by decide⟩,
  ⟨upRx, 7, 3, 0x2A, [1, 2, 3], wFrame, by decide⟩,
  ⟨upRx.updVport 7 (fun x => { x with frames := [{ wFrame with staged := List.replicate 8 [] }] }), 7, 3, 0x2A, [1, 2,
    3, 4], { wFrame with staged := List.replicate 8 [] }, by decide⟩,
  ⟨upRx, 7, 3, 0x2A, [1, 2, 3, 4], wFrame, by decide⟩,
  ⟨upRx, 7, 3, 0x2A, [], by decide⟩,
  ⟨upRx, 7, 3, 0x2B, [], true, by decide⟩⟩

/-- Meets the hypotheses of CameraFramesAreReceivedAndPublished, clauses with hypotheses 19 to 24. -/
theorem witness_CameraFramesAreReceivedAndPublished_4 :
  (∃ (s : State) (n : Fin 8) (vc : Fin 4) (f : VFrame),
    (s.awake = true) ∧ (s.camOn n = true) ∧ (vc.val = s.fld VIS_PORTCFG.VC n) ∧ (s.rxFrame n = some f) ∧ (f.rx = s.fld
      VIS_PORTCFG.HEIGHT n)) ∧
  (∃ (s : State) (n : Fin 8) (vc : Fin 4) (f : VFrame),
    (s.awake = true) ∧ (s.camOn n = true) ∧ (vc.val = s.fld VIS_PORTCFG.VC n) ∧ (s.rxFrame n = some f) ∧ (f.rx ≠ s.fld
      VIS_PORTCFG.HEIGHT n)) ∧
  (∃ (s : State) (n : Fin 8) (vc : Fin 4),
    (s.awake = true) ∧ (s.camOn n = true) ∧ (vc.val = s.fld VIS_PORTCFG.VC n) ∧ (s.rxFrame n = none) ∧ (s.pstate n ≠ 3)) ∧
  (∃ (s : State) (n : Fin 8) (vc : Fin 4),
    (s.awake = true) ∧ (s.camOn n = true) ∧ (vc.val = s.fld VIS_PORTCFG.VC n) ∧ (s.pstate n = 3)) ∧
  (∃ (s : State) (n : Fin 8) (vc : Fin 4),
    (s.awake = true) ∧ (s.camOn n = true) ∧ (vc.val ≠ s.fld VIS_PORTCFG.VC n)) ∧
  (∃ (s : State) (n : Fin 8),
    (s.awake = true) ∧ (s.camOn n = true)) :=
  ⟨⟨upRx.updVport 7 (fun x => { x with frames := [{ wFrame with rx := 1 }] }), 7, 3, { wFrame with rx := 1 }, by decide⟩,
  ⟨upRx, 7, 3, wFrame, by decide⟩,
  ⟨upCam, 7, 3, by decide⟩,
  ⟨(upCam.setFld VIS_PORTSTAT.PSTATE 3 7).updVport 7 (fun x => { x with check := some 0 }), 7, 3, by decide⟩,
  ⟨upCam, 7, 2, by decide⟩,
  ⟨upCam, 7, by decide⟩⟩

/-- Meets the hypotheses of CameraFramesAreReceivedAndPublished, clauses with hypotheses 25 to 30. -/
theorem witness_CameraFramesAreReceivedAndPublished_5 :
  (∃ (s : State) (n : Fin 8) (c : Nat),
    (s.awake = true) ∧ (s.pdOn 6 = true) ∧ (s.fld VIS_TRIG.MODE n = 1) ∧ (s.comesTo (s.fld VIS_TRIG.LEAD n) (s.reg
      VIS_TRIGPOS n) = true) ∧ (((s.vport n).sincePulse.map (· + c)).any (fun g => decide (g < (s.fld
      VIS_TRIGTIME.MINGAP n * 1200))) = false) ∧ ((s.vport n).tfifo.length < 4)) ∧
  (∃ (s : State) (n : Fin 8) (c : Nat),
    (s.awake = true) ∧ (s.pdOn 6 = true) ∧ (s.fld VIS_TRIG.MODE n = 1) ∧ (s.comesTo (s.fld VIS_TRIG.LEAD n) (s.reg
      VIS_TRIGPOS n) = true) ∧ ((((s.vport n).sincePulse.map (· + c)).any (fun g => decide (g < (s.fld
      VIS_TRIGTIME.MINGAP n * 1200))) || decide (4 ≤ (s.vport n).tfifo.length)) = true)) ∧
  (∃ (s : State) (n : Fin 8) (c : Nat),
    ((s.pdOn 6 = false ∨ s.fld VIS_TRIG.MODE n ≠ 1 ∨ s.comesTo (s.fld VIS_TRIG.LEAD n) (s.reg VIS_TRIGPOS n) = false))) ∧
  (∃ (s : State) (n : Fin 8),
    (s.awake = true) ∧ ((s.vport n).pulse = true)) ∧
  (∃ (s : State) (n : Fin 8),
    ((s.vport n).pulse = false)) ∧
  (∃ (s : State) (k : Fin 4) (n : Nat) (f : VFrame) (px : List Nat) (rest : List (List Nat)),
    (s.awake = true) ∧ (s.pdOn 6 = true) ∧ (s.blkHeld (50 + k) = false) ∧ (s.on VIS_PIPECFG.EN k = true) ∧ (s.fld
      VIS_PIPESTAT.SERVE k ≠ 0) ∧ (s.inputPort k (s.fld VIS_PIPESTAT.SERVE k) = n) ∧ (s.servable n = some f) ∧ (f.staged
      = px :: rest)) :=
  ⟨⟨((up.setFld VIS_TRIG.MODE 1 7).setFld POS_STAT.STATE 2).setReg VIS_TRIGPOS 0x10000 7, 7, 3, by decide⟩,
  ⟨((((up.setFld VIS_TRIG.MODE 1 7).setFld VIS_TRIGTIME.MINGAP 1 7).setFld POS_STAT.STATE 2).setReg VIS_TRIGPOS
    0x10000 7).updVport 7 (fun x => { x with sincePulse := some 5 }), 7, 1194, by decide⟩,
  ⟨up, 7, 5, by decide⟩,
  ⟨up.updVport 7 (fun x => { x with pulse := true }), 7, by decide⟩,
  ⟨up, 7, by decide⟩,
  ⟨(upRx.setFld VIS_PIPESTAT.SERVE 1 3).updVport 7 (fun x => { x with frames := [{ wFrame with rx := 1, staged := [[1, 2, 3, 4]] }] }),
    3, 7, { wFrame with rx := 1, staged := [[1, 2, 3, 4]] }, [1, 2, 3, 4], [], by decide⟩⟩

/-- Meets the hypotheses of CameraFramesAreReceivedAndPublished, clauses with hypotheses 31 to 35. -/
theorem witness_CameraFramesAreReceivedAndPublished_6 :
  (∃ (s : State) (k : Fin 4) (n : Nat) (f : VFrame) (px : List Nat) (rest : List (List Nat)),
    (s.awake = true) ∧ (s.pdOn 6 = true) ∧ (s.blkHeld (50 + k) = false) ∧ (s.on VIS_PIPECFG.EN k = true) ∧ (s.fld
      VIS_PIPESTAT.SERVE k ≠ 0) ∧ (s.inputPort k (s.fld VIS_PIPESTAT.SERVE k) = n) ∧ (s.servable n = some f) ∧ (f.staged
      = px :: rest)) ∧
  (∃ (s : State) (k : Fin 4) (n : Nat) (f : VFrame) (px : List Nat) (rest : List (List Nat)),
    (s.awake = true) ∧ (s.pdOn 6 = true) ∧ (s.blkHeld (50 + k) = false) ∧ (s.on VIS_PIPECFG.EN k = true) ∧ (s.fld
      VIS_PIPESTAT.SERVE k ≠ 0) ∧ (s.inputPort k (s.fld VIS_PIPESTAT.SERVE k) = n) ∧ (s.servable n = some f) ∧ (f.staged
      = px :: rest)) ∧
  (∃ (s : State) (k : Fin 4) (e : Fin 3),
    ((s.pdOn 6 = false ∨ s.blkHeld (50 + k) = true ∨ s.on VIS_PIPECFG.EN k = false ∨ s.fld VIS_PIPESTAT.SERVE k = 0 ∨
      (s.servable (s.inputPort k (s.fld VIS_PIPESTAT.SERVE k))).all (fun f => f.staged == []) = true))) ∧
  (∃ (s : State) (n : Fin 8) (f : VFrame) (rest : List VFrame) (ecc : List Nat) (lost : List (Nat × Nat)),
    (s.awake = true) ∧ (s.pdOn 6 = true) ∧ ((s.vport n).frames = f :: rest) ∧ (f.ended = true) ∧ (s.fld
      VIS_PORTCFG.HEIGHT n ≤ f.done)) ∧
  (∃ (s : State) (n : Fin 8) (ecc : List Nat) (lost : List (Nat × Nat)),
    ((s.vport n).frames.head?.all (fun f => !f.ended || decide (f.done < s.fld VIS_PORTCFG.HEIGHT n)) = true)) :=
  ⟨⟨(upRx.setFld VIS_PIPESTAT.SERVE 1 3).updVport 7 (fun x => { x with frames := [{ wFrame with rx := 1, staged := [[1, 2, 3, 4]] }] }),
    3, 7, { wFrame with rx := 1, staged := [[1, 2, 3, 4]] }, [1, 2, 3, 4], [], by decide⟩,
  ⟨(upRx.setFld VIS_PIPESTAT.SERVE 1 3).updVport 7 (fun x => { x with frames := [{ wFrame with rx := 1, staged := [[1, 2, 3, 4]] }] }),
    3, 7, { wFrame with rx := 1, staged := [[1, 2, 3, 4]] }, [1, 2, 3, 4], [], by decide⟩,
  ⟨up, 3, 2, by decide⟩,
  ⟨upCam.updVport 7 (fun x => { x with frames := [{ wFrame with rx := 1, done := 1, ended := true }] }), 7, { wFrame with rx := 1, done := 1, ended := true },
    [], [3], [(1, 2)], by decide +kernel⟩,
  ⟨upRx, 7, [3], [], by decide⟩⟩

/-- Meets the hypotheses of InspectionIsConfigured, clauses with hypotheses 1 to 6. -/
theorem witness_InspectionIsConfigured_1 :
  (∃ (s : State) (o : Sender) (n : Fin 8) (w : Word),
    (s.reaches o VIS_PORTCFG n = true) ∧ (s.on VIS_PORTCFG.EN n = false) ∧ (VIS_PORTCFG.EN.ext w = 0)) ∧
  (∃ (s : State) (o : Sender) (n : Fin 8) (w : Word),
    (s.reaches o VIS_PORTCFG n = true) ∧ (s.on VIS_PORTCFG.EN n = false) ∧ (VIS_PORTCFG.EN.ext w = 1) ∧ (s.portCfgOk n w
      = true)) ∧
  (∃ (s : State) (o : Sender) (n : Fin 8) (w : Word),
    (s.reaches o VIS_PORTCFG n = true) ∧ (s.on VIS_PORTCFG.EN n = false) ∧ (VIS_PORTCFG.EN.ext w = 1) ∧ (s.portCfgOk n w
      = false)) ∧
  (∃ (s : State) (o : Sender) (n : Fin 8) (w : Word),
    (s.reaches o VIS_PORTCFG n = true) ∧ (s.on VIS_PORTCFG.EN n = true) ∧ ((w &&& 0x7FFFFFFFFF) ≠ (s.reg VIS_PORTCFG n
      &&& 0x7FFFFFFFFF))) ∧
  (∃ (s : State) (o : Sender) (n : Fin 8) (w : Word),
    (s.reaches o VIS_PORTCFG n = true) ∧ (s.on VIS_PORTCFG.EN n = true) ∧ ((w &&& 0x7FFFFFFFFF) = (s.reg VIS_PORTCFG n
      &&& 0x7FFFFFFFFF)) ∧ (VIS_PORTCFG.EN.ext w = 0)) ∧
  (∃ (s : State) (o : Sender) (n : Fin 8) (w : Word),
    (s.reaches o VIS_PORTCFG n = true) ∧ (s.on VIS_PORTCFG.EN n = true) ∧ ((w &&& 0x7FFFFFFFFF) = (s.reg VIS_PORTCFG n
      &&& 0x7FFFFFFFFF)) ∧ (VIS_PORTCFG.EN.ext w = 1)) :=
  ⟨⟨up, .host, 7, putFields 0 [(VIS_PORTCFG.DT, 0x2A)], by decide⟩,
  ⟨(up.setFld VIS_FRSLOT.SIZE 1 7).setFld VIS_FRING.LOG2 3 7, .host, 7, putFields 0 [(VIS_PORTCFG.EN, 1),
    (VIS_PORTCFG.DT, 0x2A), (VIS_PORTCFG.WIDTH, 4), (VIS_PORTCFG.HEIGHT, 1)], by decide⟩,
  ⟨up, .host, 7, putFields 0 [(VIS_PORTCFG.EN, 1)], by decide⟩,
  ⟨upCam, .host, 7, 0, by decide⟩,
  ⟨upRx, .host, 7, (upRx.reg VIS_PORTCFG 7 &&& 0x7FFFFFFFFF), by decide⟩,
  ⟨upRx, .host, 7, upRx.reg VIS_PORTCFG 7, by decide⟩⟩

/-- Meets the hypotheses of InspectionIsConfigured, clauses with hypotheses 7 to 12. -/
theorem witness_InspectionIsConfigured_2 :
  (∃ (s : State) (o : Sender) (k : Fin 4) (w : Word),
    (s.reaches o VIS_PIPECFG k = true) ∧ (s.on VIS_PIPECFG.EN k = false) ∧ (s.pipeBad k (w &&& 0xFFF8000000) = false)) ∧
  (∃ (s : State) (o : Sender) (k : Fin 4) (w : Word),
    (s.reaches o VIS_PIPECFG k = true) ∧ (s.on VIS_PIPECFG.EN k = true) ∧ (VIS_PIPECFG.EN.ext w = 0) ∧ (s.pipeBad k (w
      &&& 0xFFF8000000) = false)) ∧
  (∃ (s : State) (o : Sender) (k : Fin 4) (w : Word),
    (s.reaches o VIS_PIPECFG k = true) ∧ ((s.pipeBad k (w &&& 0xFFF8000000) = true ∨ (s.on VIS_PIPECFG.EN k = true ∧
      VIS_PIPECFG.EN.ext w = 1)))) ∧
  (∃ (s : State) (o : Sender) (n : Fin 8) (w : Word),
    (s.reaches o VIS_FFDATA n = true) ∧ (s.on VIS_PORTCFG.EN n = false)) ∧
  (∃ (s : State) (o : Sender) (n : Fin 8) (w : Word),
    (s.reaches o VIS_FFDATA n = true) ∧ (s.on VIS_PORTCFG.EN n = true)) ∧
  (∃ (s : State) (o : Sender) (b : Fin 4) (w : Word),
    (s.reaches o VIS_CCICMD b = true) ∧ (s.cciOn b = true) ∧ (s.fld VIS_CCIDATA.STAT b ≠ 1)) :=
  ⟨⟨up, .host, 3, 0xFFFFFFFF, by decide⟩,
  ⟨upRx, .host, 3, 0, by decide⟩,
  ⟨up, .host, 3, putFields 0 [(VIS_PIPECFG.MODE, 1)], by decide⟩,
  ⟨up.setFld VIS_FFIDX.AUTOINC 1 7, .host, 7, 0xFFFFFFFFFF, by decide⟩,
  ⟨upCam.setFld VIS_FFIDX.AUTOINC 0 7, .host, 7, 0, by decide⟩,
  ⟨up.setFld VIS_CCICFG.MODE 1 3, .host, 3, 0xFFFFFFFFFF, by decide⟩⟩

/-- Meets the hypotheses of InspectionIsConfigured, clauses with hypotheses 13 to 18. -/
theorem witness_InspectionIsConfigured_3 :
  (∃ (s : State) (o : Sender) (b : Fin 4) (w : Word),
    (s.reaches o VIS_CCICMD b = true) ∧ ((s.cciOn b = false ∨ s.fld VIS_CCIDATA.STAT b = 1))) ∧
  (∃ (s : State) (b : Fin 4) (t : CciX) (more : List CciX) (late : Bool) (g : Nat) (rest : List CciJob) (ack : Bool) (d : BitVec 16),
    (s.awake = true) ∧ ((s.cci b).busy = true) ∧ ((s.cci b).queue = ⟨none, g, late, t :: more⟩ :: rest)) ∧
  (∃ (s : State) (b : Fin 4) (t : CciX) (more : List CciX) (late : Bool) (g n : Nat) (rest : List CciJob) (ack : Bool) (d : BitVec 16),
    (s.awake = true) ∧ ((s.cci b).busy = true) ∧ ((s.cci b).queue = ⟨some n, g, late, t :: more⟩ :: rest)) ∧
  (∃ (s : State) (b : Fin 4) (ack : Bool) (d : BitVec 16),
    (((s.cci b).busy = false ∨ (s.cci b).queue = []))) ∧
  (∃ (s : State) (row : Nat),
    (s.awake = true) ∧ (s.scalerOn = true) ∧ (SMap.get 0 s.scaler.rows (s.refSlot row) ≠ row + 1) ∧ (s.refWhole row =
      true)) ∧
  (∃ (s : State) (row : Nat),
    ((s.scalerOn = false ∨ SMap.get 0 s.scaler.rows (s.refSlot row) = row + 1 ∨ s.refWhole row = false))) :=
  ⟨⟨(up.setFld VIS_CCICFG.MODE 1 3).setFld VIS_CCIDATA.STAT 1 3, .host, 3, 0xFFFFFFFFFF, by decide⟩,
  ⟨up.setCci 3 { queue := [⟨none, 0, false, [⟨true, true, 1, 2, 0⟩]⟩], busy := true }, 3, ⟨true, true, 1, 2, 0⟩, [],
    false, 0, [], true, 0xFFFF, by decide⟩,
  ⟨up.setCci 3 { queue := [⟨some 6, 1, false, [⟨true, true, 1, 2, 0⟩, ⟨true, true, 1, 2, 0⟩]⟩], busy := true }, 3,
    ⟨true, true, 1, 2, 0⟩, [⟨true, true, 1, 2, 0⟩], false, 1, 6, [], false, 0, by decide⟩,
  ⟨up, 3, true, 0, by decide⟩,
  ⟨((up.setFld VIS_SCCFG.EN 1).setFld VIS_SCCFG.BIN 4).jqUpd (fun q => { q with job := some { wJob with d := { wDesc with scan := true } } }),
    16777215, by decide +kernel⟩,
  ⟨up, 5, by decide⟩⟩

/-- Meets the hypotheses of InspectionIsConfigured, clauses with hypotheses 19 to 24. -/
theorem witness_InspectionIsConfigured_4 :
  (∃ (s : State) (v : Nat),
    (v < 256)) ∧
  (∃ (s : State) (o : Sender) (w : Word),
    (s.reaches o VIS_SCCFG = true) ∧ (s.on VIS_SCCFG.EN = false)) ∧
  (∃ (s : State) (o : Sender) (w : Word),
    (s.reaches o VIS_SCCFG = true) ∧ (s.on VIS_SCCFG.EN = true) ∧ (((w &&& 0xFFFFE00000) &&& 0x7FFFFFFFFF) = (s.reg
      VIS_SCCFG &&& 0x7FFFFFFFFF))) ∧
  (∃ (s : State) (o : Sender) (w : Word),
    (s.reaches o VIS_SCCFG = true) ∧ (s.on VIS_SCCFG.EN = true) ∧ (((w &&& 0xFFFFE00000) &&& 0x7FFFFFFFFF) ≠ (s.reg
      VIS_SCCFG &&& 0x7FFFFFFFFF))) ∧
  (∃ (s : State) (o : Sender) (w : Word),
    (s.reaches o VIS_HMDATA = true) ∧ (s.fld VIS_HMIDX.BIN < s.scBins)) ∧
  (∃ (s : State) (o : Sender) (w : Word),
    (s.reaches o VIS_HMDATA = true) ∧ (s.scBins ≤ s.fld VIS_HMIDX.BIN)) :=
  ⟨⟨up, 255, by decide⟩,
  ⟨up, .host, 0xFFFFFFFFFF, by decide⟩,
  ⟨(up.setFld VIS_SCCFG.EN 1).scUpd (fun c => { c with bad := [3] }), .host, (up.setFld VIS_SCCFG.EN 1).reg VIS_SCCFG,
    by decide⟩,
  ⟨up.setFld VIS_SCCFG.EN 1, .host, 0xFFFFFFFFFF, by decide⟩,
  ⟨up.setFld VIS_HMIDX.BIN 11999, .host, 0xFFFFFFFFFF, by decide⟩,
  ⟨up.setFld VIS_HMIDX.BIN 65535, .host, 0, by decide⟩⟩

/-- Meets the hypotheses of InspectionIsConfigured, clauses with hypotheses 25 to 28. -/
theorem witness_InspectionIsConfigured_5 :
  (∃ (s : State) (o : Sender) (e : Word) (l : Nat) (rest : List (Word × Nat)),
    (s.reaches o VIS_HMFIFO = true) ∧ ((o ≠ .warden ∨ s.scaler.rescan = false)) ∧ (s.scaler.fifo = (e, l) :: rest)) ∧
  (∃ (s : State),
    (s.reaches .warden VIS_HMFIFO = true) ∧ (s.scaler.rescan = true)) ∧
  (∃ (s : State) (o : Sender),
    (s.reaches o VIS_HMFIFO = true) ∧ ((o ≠ .warden ∨ s.scaler.rescan = false)) ∧ (s.scaler.fifo = [])) ∧
  (∃ (s : State) (e : Word),
    ((s.loopFld VIS_SCLOOP.AUTO = 0 ∨ hmState e ≠ 2))) :=
  ⟨⟨up.scUpd (fun c => { c with fifo := [(5, 6)] }), .warden, 5, 6, [], by decide⟩,
  ⟨up.scUpd (fun c => { c with rescan := true, fifo := [(5, 6)] }), by decide⟩,
  ⟨up, .warden, by decide⟩,
  ⟨up, 5, by decide⟩⟩

/-- Meets the hypotheses of BarMessagesAreTakenAcknowledgedAndForwarded, clauses with hypotheses 1 to 6. -/
theorem witness_BarMessagesAreTakenAcknowledgedAndForwarded_1 :
  (∃ (s : State) (e hseq : Nat) (f : State → State),
    (s.barUp e = false)) ∧
  (∃ (s : State) (e hseq : Nat) (f : State → State),
    (s.barUp e = true) ∧ (hseq ≠ (s.barPort e).rxSeq)) ∧
  (∃ (s : State) (e hseq : Nat) (f : State → State),
    (s.barUp e = true) ∧ (hseq = (s.barPort e).rxSeq)) ∧
  (∃ (s : State) (e : Fin 2) (hseq : BitVec 8) (orig hop : Fin 16) (t : Word),
    (s.awake = true)) ∧
  (∃ (s : State) (e : Fin 2) (hseq : BitVec 8) (orig hop : Fin 16) (ws : List Word),
    (s.awake = true)) ∧
  (∃ (s : State) (e : Fin 2) (hseq : BitVec 8) (orig hop : Fin 16) (w0 w1 w2 : Word),
    (s.awake = true)) :=
  ⟨⟨up, 1, 0, id, by decide⟩,
  ⟨upBar, 1, 255, id, by decide⟩,
  ⟨upBar, 1, 0, id, by decide⟩,
  ⟨upBar.setFld POS_CTL.SRC 2, 1, 0, 3, 15, 7, by decide⟩,
  ⟨upBar, 1, 0, 3, 15, [putFields 0 [], 5], by decide⟩,
  ⟨upBar, 1, 0, 3, 15, 0, 0, 0, by decide⟩⟩

/-- Meets the hypotheses of BarMessagesAreTakenAcknowledgedAndForwarded, clauses with hypotheses 7 to 12. -/
theorem witness_BarMessagesAreTakenAcknowledgedAndForwarded_2 :
  (∃ (s : State) (e : Fin 2) (hseq : BitVec 8) (orig hop : Fin 16) (w : Word),
    (s.awake = true)) ∧
  (∃ (s : State) (e : Fin 2) (hseq : BitVec 8) (orig hop : Fin 16) (w : Word),
    (s.awake = true)) ∧
  (∃ (s : State) (e : Fin 2) (hseq : BitVec 8) (orig hop : Fin 16) (j p : BitVec 16),
    (s.awake = true)) ∧
  (∃ (s : State) (e : Fin 2) (hseq : BitVec 8) (orig hop : Fin 16) (w0 w1 w2 : Word) (d : Nat),
    (s.awake = true)) ∧
  (∃ (s : State) (v i q r : Nat) (d : Dx),
    (s.bar.dx = some d) ∧ (d.init = i) ∧ (d.iseq = q)) ∧
  (∃ (s : State) (v i q r : Nat) (d : Dx),
    (s.bar.dx = some d) ∧ (d.init = i) ∧ (d.iseq = q)) :=
  ⟨⟨upBar, 1, 0, 3, 15, 0, by decide⟩,
  ⟨upBar.setSlot 15 (some { wSlot with mode := 4, line := none, dist := true, init := 3 }), 1, 0, 3, 15, 9, by decide +kernel⟩,
  ⟨upBar, 1, 0, 3, 15, 0xFFFF, 0xFFFF, by decide⟩,
  ⟨((upBar.setFld POS_CTL.SRC 2).setFld BAR_PORTSTAT.UPSTREAM 1 1).setFld POS_STAT.STATE 1, 1, 0, 3, 15, 5,
    0xFFFFFFFFFF, 0x1000000, 4, by decide⟩,
  ⟨upBar.updBar (fun b => { b with dx := some ⟨0, 1, 2, [], none⟩ }), 3, 0, 1, 0xF1, ⟨0, 1, 2, [], none⟩, by decide⟩,
  ⟨upBar.updBar (fun b => { b with dx := some ⟨0, 1, 2, [], none⟩ }), 3, 0, 1, 0, ⟨0, 1, 2, [], none⟩, by decide⟩⟩

/-- Meets the hypotheses of BarMessagesAreTakenAcknowledgedAndForwarded, clauses with hypotheses 13 to 18. -/
theorem witness_BarMessagesAreTakenAcknowledgedAndForwarded_3 :
  (∃ (s : State) (e : Fin 2) (h : BitVec 8) (i : Nat),
    (s.awake = true) ∧ (s.barUp e = true) ∧ ((s.barPort e).held.findIdx? (fun x => x.1 == h.toNat) = some i)) ∧
  (∃ (s : State) (e : Fin 2) (h : BitVec 8),
    ((s.barUp e = false ∨ (s.barPort e).held.all (fun x => x.1 != h.toNat) = true))) ∧
  (∃ (s : State) (e : Fin 2) (w : Word) (b : List Word),
    (s.awake = true) ∧ (s.barUp e = true) ∧ ((barCrcOk w b = false ∨ w.toNat / 2 ^ 36 = 0 ∨ w.toNat / 2 ^ 36 = 15))) ∧
  (∃ (s : State) (e : Fin 2) (w : Word) (b : List Word),
    ((s.barUp e = false ∨ (barCrcOk w b = true ∧ w.toNat / 2 ^ 36 ≠ 0 ∧ w.toNat / 2 ^ 36 ≠ 15)))) ∧
  (∃ (s : State) (e : Fin 2),
    (s.awake = true) ∧ (s.barUp e = true) ∧ ((s.barPort e).held ≠ []) ∧ ((∀ h ∈ (s.barPort e).held, h.2.2 < 4))) ∧
  (∃ (s : State) (e : Fin 2),
    (s.awake = true) ∧ (s.barUp e = true) ∧ ((∃ h ∈ (s.barPort e).held, 4 ≤ h.2.2))) :=
  ⟨⟨upBar.updBarPort 1 (fun b => { b with held := [(254, ⟨1, 0, 0, []⟩, 1), (255, ⟨1, 0, 0, []⟩, 1)] }), 1, 255, 1, by decide⟩,
  ⟨upBar, 1, 255, by decide⟩,
  ⟨upBar, 1, 0, [], by decide +kernel⟩,
  ⟨up, 1, 0, [], by decide⟩,
  ⟨upBar.updBarPort 1 (fun b => { b with held := [(254, ⟨1, 0, 0, []⟩, 3), (255, ⟨1, 0, 0, []⟩, 1)] }), 1, by decide⟩,
  ⟨upBar.updBarPort 1 (fun b => { b with held := [(254, ⟨1, 0, 0, []⟩, 4), (255, ⟨1, 0, 0, []⟩, 1)] }), 1, by decide⟩⟩

/-- Meets the hypotheses of BarMessagesAreTakenAcknowledgedAndForwarded, clauses with hypotheses 19 to 22. -/
theorem witness_BarMessagesAreTakenAcknowledgedAndForwarded_4 :
  (∃ (s : State) (e : Fin 2),
    ((s.barUp e = false ∨ (s.barPort e).held = []))) ∧
  (∃ (s : State),
    (s.awake = true) ∧ (s.bstate = 3)) ∧
  (∃ (s : State),
    (s.awake = true) ∧ (s.bstate ≠ 3) ∧ (s.follows = true) ∧ (s.moves = true)) ∧
  (∃ (s : State),
    (s.bstate ≠ 3) ∧ ((s.follows = false ∨ s.moves = false))) :=
  ⟨⟨upBar, 1, by decide⟩,
  ⟨upBar.setFld POS_CTL.SRC 2, by decide⟩,
  ⟨(up.setFld POS_CTL.SRC 2).setFld POS_STAT.STATE 2, by decide⟩,
  ⟨up, by decide⟩⟩

/-- Meets the hypotheses of BarMembershipAndOperations, clauses with hypotheses 1 to 6. -/
theorem witness_BarMembershipAndOperations_1 :
  (∃ (s : State) (e : Fin 2) (hseq : BitVec 8) (orig hop : Fin 16),
    (s.awake = true)) ∧
  (∃ (s : State) (e : Fin 2) (hseq : BitVec 8) (orig hop : Fin 16),
    (s.awake = true)) ∧
  (∃ (s : State) (e : Fin 2) (hseq : BitVec 8) (orig hop : Fin 16) (w : Bool),
    (s.awake = true)) ∧
  (∃ (s : State) (e : Fin 2) (hseq : BitVec 8) (orig hop : Fin 16) (ids : BitVec 16) (g : BitVec 8),
    (s.awake = true)) ∧
  (∃ (s : State) (e orig ids g : Nat),
    (s.on BAR_CTL.EN = true)) ∧
  (∃ (s : State) (o : Sender) (w : Word),
    (s.reaches o BAR_CTL = true)) :=
  ⟨⟨upBar.setFld BAR_STAT.BSTATE 1, 1, 0, 3, 15, by decide⟩,
  ⟨(upBar.setFld BAR_STAT.BSTATE 1).updBar (fun b => { b with snapLines := [(1, false)] }), 1, 0, 3, 15, by decide⟩,
  ⟨upBar, 1, 0, 3, 15, true, by decide⟩,
  ⟨((upBar.setFld BAR_CFG.ROLE 1).setFld BAR_STAT.BSTATE 1).setFld BAR_STAT.ID 4, 1, 0, 3, 15, 8, 0, by decide⟩,
  ⟨upBar.setFld BAR_STAT.BSTATE 2, 1, 3, 1, 255, by decide⟩,
  ⟨up.setFld BAR_CFG.ROLE 1, .host, putFields 0 [(BAR_CTL.EN, 1)], by decide⟩⟩

/-- Meets the hypotheses of BarMembershipAndOperations, clauses with hypotheses 7 to 12. -/
theorem witness_BarMembershipAndOperations_2 :
  (∃ (s : State) (o : Sender) (w : Word),
    (s.reaches o BAR_CTL = true)) ∧
  (∃ (s : State) (o : Sender) (w : Word),
    (s.reaches o BAR_CTL = true)) ∧
  (∃ (s : State),
    (s.awake = true) ∧ (s.bstate = 2)) ∧
  (∃ (s : State),
    (s.bstate ≠ 2)) ∧
  (∃ (s : State) (e : Fin 2) (x y : Nat) (q : List (Nat × Nat)) (n : Fin 16),
    (s.awake = true) ∧ (s.blkHeld (56 + e) = false) ∧ (s.pdOn 8 = true) ∧ (s.barUp e = false) ∧ ((s.barLanes e).length =
      2) ∧ (x ≤ 16) ∧ (y ≤ 16) ∧ (256 ≤ q.length)) ∧
  (∃ (q : List (Nat × Nat)),
    (q.length = 256)) :=
  ⟨⟨upBar, .warden, putFields 0 [(BAR_CTL.EN, 1)], by decide⟩,
  ⟨(upBar.setFld BAR_STAT.BSTATE 4).updBar (fun b => { b with mapSeen := true }), .host, putFields 0 [(BAR_CTL.EN,
    1)], by decide⟩,
  ⟨up.setFld BAR_STAT.BSTATE 2, by decide⟩,
  ⟨up, by decide⟩,
  ⟨(up.setFld BAR_LSTAT.BSTATE 2 2).setFld BAR_LSTAT.BSTATE 2 3, 1, 16, 0, List.replicate 256 (9, 2), 15, by decide +kernel⟩,
  ⟨List.replicate 256 (9, 2), by decide +kernel⟩⟩

/-- Meets the hypotheses of BarMembershipAndOperations, clauses with hypotheses 13 to 18. -/
theorem witness_BarMembershipAndOperations_3 :
  (∃ (s : State) (e : Fin 2) (x y : Nat) (q : List (Nat × Nat)) (n : Fin 16),
    (s.awake = true) ∧ (s.blkHeld (56 + e) = false) ∧ (s.pdOn 8 = true) ∧ (s.barUp e = false) ∧ ((s.barLanes e).length =
      2) ∧ (x ≤ 16) ∧ (y ≤ 16) ∧ (q.length < 256)) ∧
  (∃ (s : State) (e : Fin 2) (x y : Nat) (q : List (Nat × Nat)) (n : Fin 16),
    (s.awake = true) ∧ (s.blkHeld (56 + e) = false) ∧ (s.pdOn 8 = true) ∧ (s.barUp e = false) ∧ ((s.barLanes e).length =
      2) ∧ ((16 < x ∨ 16 < y))) ∧
  (∃ (s : State) (e : Fin 2) (x y : Nat) (q : List (Nat × Nat)) (n : Fin 16),
    ((s.blkHeld (56 + e) || !s.pdOn 8 || s.barUp e || decide ((s.barLanes e).length < 2)) = true)) ∧
  (∃ (s : State) (e : Nat),
    (2 ≤ s.fld BAR_PORTSTAT.LSTATE e)) ∧
  (∃ (s : State) (age : Nat),
    (s.awake = true) ∧ (s.bstate = 1)) ∧
  (∃ (s : State) (age : Nat),
    (s.awake = true) ∧ (s.bstate = 1)) :=
  ⟨⟨(up.setFld BAR_LSTAT.BSTATE 2 2).setFld BAR_LSTAT.BSTATE 2 3, 1, 16, 0, [], 15, by decide⟩,
  ⟨(up.setFld BAR_LSTAT.BSTATE 2 2).setFld BAR_LSTAT.BSTATE 2 3, 1, 16, 17, [], 15, by decide⟩,
  ⟨up, 1, 16, 17, [], 15, by decide⟩,
  ⟨upBar.setFld BAR_PORTSTAT.UPSTREAM 1 1, 1, by decide⟩,
  ⟨upBar.setFld BAR_STAT.BSTATE 1, 65535, by decide⟩,
  ⟨upBar.setFld BAR_STAT.BSTATE 1, 65535, by decide⟩⟩

/-- Meets the hypotheses of BarMembershipAndOperations, clauses with hypotheses 19 to 24. -/
theorem witness_BarMembershipAndOperations_4 :
  (∃ (s : State) (age : Nat),
    (s.bstate ≠ 1)) ∧
  (∃ (s : State) (o : Sender),
    (s.reaches o BAR_GOP = true) ∧ (s.on BAR_GOP.BUSY = false)) ∧
  (∃ (s : State) (o : Sender),
    (s.reaches o BAR_GOP = true) ∧ (s.on BAR_GOP.BUSY = false)) ∧
  (∃ (s : State) (o : Sender),
    (s.reaches o BAR_GOP = true) ∧ (s.on BAR_GOP.BUSY = false)) ∧
  (∃ (s : State) (o : Sender),
    (s.reaches o BAR_GOP = true) ∧ (s.on BAR_GOP.BUSY = true)) ∧
  (∃ (s : State) (e : Fin 2) (hseq : BitVec 8) (orig hop : Fin 16) (op : BitVec 2) (l : BitVec 24),
    (s.awake = true)) :=
  ⟨⟨up, 7, by decide⟩,
  ⟨upBar, .host, by decide⟩,
  ⟨upBar, .host, by decide⟩,
  ⟨upBar, .host, by decide⟩,
  ⟨upBar.setFld BAR_GOP.BUSY 1, .host, by decide⟩,
  ⟨upBar, 1, 0, 3, 15, 0, 0xFFFFFF, by decide⟩⟩

/-- Meets the hypotheses of BarMembershipAndOperations, clauses with hypotheses 25 to 28. -/
theorem witness_BarMembershipAndOperations_5 :
  (∃ (s : State),
    (s.awake = true) ∧ (s.bar.gopReset = true)) ∧
  (∃ (s : State),
    (s.bar.gopReset = false)) ∧
  (∃ (s : State) (d : Dx),
    (s.awake = true) ∧ (s.bar.dx = some d)) ∧
  (∃ (s : State),
    (s.bar.dx = none)) :=
  ⟨⟨upBar.updBar (fun b => { b with gopReset := true }), by decide⟩,
  ⟨upBar, by decide⟩,
  ⟨upBar.updBar (fun b => { b with dx := some ⟨0, 1, 2, [], none⟩ }), ⟨0, 1, 2, [], none⟩, by decide⟩,
  ⟨upBar, by decide⟩⟩

/-- Meets the hypotheses of NetworkTimeIsKeptAndUsed, clauses with hypotheses 1 to 6. -/
theorem witness_NetworkTimeIsKeptAndUsed_1 :
  (∃ (s : State) (o : Sender),
    (s.reaches o ETH_TIME_S = true)) ∧
  (∃ (s : State) (o : Sender) (w : Word),
    (s.reaches o ETH_TIME_S = true)) ∧
  (∃ (s : State) (o : Sender) (w : Word),
    (s.reaches o ETH_TIME_NS = true)) ∧
  (∃ (s : State) (sec ns : Nat),
    (ns < 1000000000)) ∧
  (∃ (s : State) (o : Sender) (w : Word),
    (s.reaches o ETH_TSTEP = true)) ∧
  (∃ (s : State) (age : Nat),
    (s.awake = true) ∧ (s.bstate = 1)) :=
  ⟨⟨up.setTime (timeOf 70000 999999999), .host, by decide⟩,
  ⟨up, .host, 0xFFFFFFFFFF, by decide⟩,
  ⟨up, .host, 0xFF3B9AC9FF, by decide⟩,
  ⟨up, 281474976710657, 999999999, by decide⟩,
  ⟨up, .host, 0xFFFFFFFFFF, by decide⟩,
  ⟨upBar.setFld BAR_STAT.BSTATE 1, 7, by decide⟩⟩

/-- Meets the hypotheses of NetworkTimeIsKeptAndUsed, clauses with hypotheses 7 to 12. -/
theorem witness_NetworkTimeIsKeptAndUsed_2 :
  (∃ (s : State) (age : Nat),
    (s.bstate ≠ 1)) ∧
  (∃ (s : State) (e : Fin 2) (hseq : BitVec 8) (orig hop : Fin 16) (w0 w1 w2 : Word) (d : Nat),
    (s.awake = true)) ∧
  (∃ (s : State) (sec ns age : Nat),
    (s.bar.lastTime = none)) ∧
  (∃ (s : State) (sec ns age t0 : Nat),
    (s.bar.lastTime = some t0) ∧ (timeMod (s.net.time + 2 ^ 48 * secUnits - t0) ≠ 0)) ∧
  (∃ (s : State) (c : BitVec 48) (n : BitVec 32) (f : List Byte),
    (s.awake = true) ∧ (s.macRuns = true) ∧ (s.timeReached c.toNat n.toNat = true)) ∧
  (∃ (s : State) (c : BitVec 48) (n : BitVec 32) (f : List Byte),
    (s.awake = true) ∧ (s.macRuns = true) ∧ (s.timeReached c.toNat n.toNat = false)) :=
  ⟨⟨upBar, 7, by decide⟩,
  ⟨upBar.setFld ETH_TCFG.SRC 2, 1, 0, 3, 15, 70000, 5, 0x1000000, 4, by decide⟩,
  ⟨up, 5, 6, 7, by decide⟩,
  ⟨(up.setTime 9).updBar (fun b => { b with lastTime := some 5 }), 5, 6, 7, 5, by decide⟩,
  ⟨up.setFld ETH_CTL.EN 1, 0, 0, List.replicate 60 0, by decide⟩,
  ⟨up.setFld ETH_CTL.EN 1, 1, 0, List.replicate 60 0, by decide⟩⟩

/-- Meets the hypotheses of NetworkTimeIsKeptAndUsed, clauses with hypotheses 13 to 18. -/
theorem witness_NetworkTimeIsKeptAndUsed_3 :
  (∃ (s : State) (c : BitVec 48) (n : BitVec 32) (f : List Byte),
    (s.macRuns = false)) ∧
  (∃ (s : State),
    (s.macRuns = true)) ∧
  (∃ (s : State) (f : List Byte),
    (s.awake = true) ∧ (s.macRuns = true) ∧ (s.on ETH_PTPCFG.UDP = false)) ∧
  (∃ (s : State) (f : List Byte),
    (s.awake = true) ∧ (s.macRuns = true) ∧ (s.on ETH_PTPCFG.UDP = true)) ∧
  (∃ (s : State) (u : Bool),
    (s.awake = true) ∧ (s.pdOn 9 = true) ∧ (s.blkHeld 69 = false) ∧ (s.on ETH_STAT.LINK ≠ u)) ∧
  (∃ (s : State) (u : Bool),
    ((s.pdOn 9 = false ∨ s.blkHeld 69 = true ∨ s.on ETH_STAT.LINK = u))) :=
  ⟨⟨up, 1, 0, [], by decide⟩,
  ⟨up.setFld ETH_CTL.EN 1, by decide⟩,
  ⟨up.setFld ETH_CTL.EN 1, List.replicate 60 0, by decide⟩,
  ⟨(up.setFld ETH_CTL.EN 1).setFld ETH_PTPCFG.UDP 1, List.replicate 90 0, by decide⟩,
  ⟨up, true, by decide⟩,
  ⟨up, false, by decide⟩⟩

/-- Meets the hypotheses of LanesLockTrainAndAreTested, clauses with hypotheses 1 to 6. -/
theorem witness_LanesLockTrainAndAreTested_1 :
  (∃ (s : State) (l : Fin 12),
    (s.awake = true) ∧ (s.laneRuns l = true) ∧ (s.laneState l < 2)) ∧
  (∃ (s : State) (l : Fin 12),
    ((s.laneRuns l = false ∨ 2 ≤ s.laneState l))) ∧
  (∃ (s : State) (l : Fin 12) (n : Nat),
    (s.awake = true) ∧ (s.laneRuns l = true) ∧ (2 ≤ s.laneState l)) ∧
  (∃ (s : State) (l : Fin 12) (n : Nat) (b : Bool),
    (s.awake = true) ∧ (s.laneRuns l = true) ∧ ((b = false ∨ s.laneState l < 2))) ∧
  (∃ (s : State) (l : Fin 12) (n : Nat) (b : Bool),
    (s.laneRuns l = false)) ∧
  (∃ (s : State) (l : Fin 12),
    (s.awake = true) ∧ (s.laneRuns l = true)) :=
  ⟨⟨up, 11, by decide⟩,
  ⟨up.setLane 11 3, 11, by decide⟩,
  ⟨up.setLane 11 3, 11, 16, by decide⟩,
  ⟨up, 11, 3, true, by decide⟩,
  ⟨State.reset, 3, 3, true, by decide⟩,
  ⟨up, 0, by decide⟩⟩

/-- Meets the hypotheses of LanesLockTrainAndAreTested, clauses with hypotheses 7 to 12. -/
theorem witness_LanesLockTrainAndAreTested_2 :
  (∃ (s : State) (g : Fin 3) (v : Fin 33) (fs sk : List Nat),
    (s.awake = true) ∧ (s.linkIsUp g = true)) ∧
  (∃ (s : State) (g : Fin 3) (v : Fin 33) (fs sk : List Nat),
    (s.linkIsUp g = false)) ∧
  (∃ (s : State) (g : Fin 3),
    (s.awake = true) ∧ (s.linkIsUp g = true)) ∧
  (∃ (s : State) (o : Sender) (w : Word),
    (s.reaches o HLNK_CTL = true)) ∧
  (∃ (s : State) (o : Sender) (w : Word),
    (s.reaches o HLNK_CTL = true)) ∧
  (∃ (s : State),
    (s.hlState = 0) ∧ (s.hlRuns = true)) :=
  ⟨⟨upLink, 0, 32, List.replicate 8 3, [16, 17], by decide⟩,
  ⟨up, 2, 9, [], [], by decide⟩,
  ⟨upLink, 0, by decide⟩,
  ⟨up, .host, putFields 0 [(HLNK_CTL.EN, 1)], by decide⟩,
  ⟨upLink, .warden, 0, by decide⟩,
  ⟨up, by decide⟩⟩

/-- Meets the hypotheses of LanesLockTrainAndAreTested, clauses with hypotheses 13 to 18. -/
theorem witness_LanesLockTrainAndAreTested_3 :
  (∃ (s : State),
    (s.awake = true) ∧ ((s.hlState = 1 ∨ s.hlState = 2))) ∧
  (∃ (s : State),
    (s.hlState ≠ 1) ∧ (s.hlState ≠ 2)) ∧
  (∃ (s : State) (r : BitVec 8) (c : Bool) (w : Fin 4) (x : Bool) (sk : List Nat),
    (s.awake = true) ∧ (s.hlState ≠ 0) ∧ (s.hlRuns = true) ∧ ((s.hlState = 1 ∨ s.hlState = 3))) ∧
  (∃ (s : State) (r : BitVec 8) (c : Bool) (w : Fin 4) (x : Bool) (sk : List Nat),
    (s.awake = true) ∧ (s.hlState ≠ 0) ∧ (s.hlRuns = true) ∧ (s.hlState = 2) ∧ (overSkew (2 ^ s.hlnk.width) sk = true)) ∧
  (∃ (s : State) (r : BitVec 8) (c : Bool) (w : Fin 4) (x : Bool) (sk : List Nat),
    (s.awake = true) ∧ (s.hlState ≠ 0) ∧ (s.hlRuns = true) ∧ (s.hlState = 2) ∧ (overSkew (2 ^ s.hlnk.width) sk = false)) ∧
  (∃ (s : State) (r : BitVec 8) (c : Bool) (w : Fin 4) (x : Bool) (sk : List Nat),
    ((s.hlState = 0 ∨ s.hlRuns = false))) :=
  ⟨⟨up.setFld HLNK_STAT.LSTATE 2, by decide⟩,
  ⟨upLink, by decide⟩,
  ⟨(up.setFld HLNK_STAT.LSTATE 1).setLane 0 2, 1, false, 0, true, List.replicate 8 16, by decide⟩,
  ⟨(up.setFld HLNK_STAT.LSTATE 2).setLane 0 2, 1, false, 0, true, [17], by decide⟩,
  ⟨(up.setFld HLNK_STAT.LSTATE 2).hlUpd (fun h => { h with confCols := 15 }), 1, true, 0, false, List.replicate 8 16,
    by decide⟩,
  ⟨up, 1, true, 0, false, [], by decide⟩⟩

/-- Meets the hypotheses of LanesLockTrainAndAreTested, clauses with hypotheses 19 to 24. -/
theorem witness_LanesLockTrainAndAreTested_4 :
  (∃ (s : State) (r w : Nat),
    (s.widest r (s.fld HLNK_CFG.WIDTH_MAX) = some w)) ∧
  (∃ (s : State) (r : Nat),
    (s.widest r (s.fld HLNK_CFG.WIDTH_MAX) = none)) ∧
  (∃ (s : State) (o : Sender) (l : Fin 12) (w : Word),
    (s.reaches o (if l.val < 8 then HLNK_LPRBS else BAR_LPRBS) (if l.val < 8 then l.val else l.val - 8) = true)) ∧
  (∃ (s : State) (o : Sender) (l : Fin 12) (w : Word),
    (s.reaches o (if l.val < 8 then HLNK_LPRBS else BAR_LPRBS) (if l.val < 8 then l.val else l.val - 8) = true)) ∧
  (∃ (s : State) (l : Nat) (t r i : Bool),
    ((t || r) = true) ∧ (s.linkEnabled l = true)) ∧
  (∃ (s : State) (l : Nat) (t r i : Bool),
    (((t = false ∧ r = false) ∨ s.linkEnabled l = false))) :=
  ⟨⟨((up.setFld HLNK_STAT.LSTATE 1).setLane 0 3).setFld HLNK_LCFG.EN 1 0, 1, 0, by decide⟩,
  ⟨up, 1, by decide⟩,
  ⟨up, .host, 11, putFields 0 [(HLNK_LPRBS.RX_EN, 1), (HLNK_LPRBS.TX_EN, 1), (HLNK_LPRBS.ERR_INJ, 1)], by decide⟩,
  ⟨up, .host, 3, putFields 0 [(HLNK_LPRBS.TX_EN, 1)], by decide⟩,
  ⟨up.setFld HLNK_CTL.EN 1, 7, false, true, false, by decide⟩,
  ⟨up, 11, true, true, true, by decide⟩⟩

/-- Meets the hypotheses of LanesLockTrainAndAreTested, clauses with hypotheses 25 to 30. -/
theorem witness_LanesLockTrainAndAreTested_5 :
  (∃ (s : State) (l : Fin 12) (b n : Nat),
    (s.awake = true) ∧ (s.laneRuns l = true) ∧ (s.laneFld l HLNK_LPRBS.RX_EN BAR_LPRBS.RX_EN = 1)) ∧
  (∃ (s : State) (l : Fin 12) (b n : Nat),
    ((s.laneRuns l = false ∨ s.laneFld l HLNK_LPRBS.RX_EN BAR_LPRBS.RX_EN ≠ 1))) ∧
  (∃ (s : State) (l : Fin 12) (b n : Nat),
    (s.awake = true) ∧ (s.laneFld l HLNK_LSTAT.PRBS_LOCK BAR_LSTAT.PRBS_LOCK = 1)) ∧
  (∃ (s : State) (l : Fin 12) (b n : Nat),
    (s.laneFld l HLNK_LSTAT.PRBS_LOCK BAR_LSTAT.PRBS_LOCK ≠ 1)) ∧
  (∃ (s : State),
    (s.awake = true) ∧ (s.hlState ≠ 0)) ∧
  (∃ (s : State),
    (s.awake = true) ∧ (s.hlState = 3)) :=
  ⟨⟨up.setFld BAR_LPRBS.RX_EN 1 3, 11, 3000, 7, by decide⟩,
  ⟨up, 11, 3000, 7, by decide⟩,
  ⟨up.setFld BAR_LSTAT.PRBS_LOCK 1 3, 11, 3000, 256, by decide⟩,
  ⟨up, 11, 3000, 256, by decide⟩,
  ⟨upLink, by decide⟩,
  ⟨upLink, by decide⟩⟩

/-- Meets the hypotheses of LanesLockTrainAndAreTested, clauses with hypotheses 31 to 32. -/
theorem witness_LanesLockTrainAndAreTested_6 :
  (∃ (s : State),
    (s.hlState = 0)) ∧
  (∃ (s : State),
    (s.hlState ≠ 3)) :=
  ⟨⟨up, by decide⟩,
  ⟨up, by decide⟩⟩

/-- Meets the hypotheses of PacketsAreAcceptedAnsweredAndReplayed, clauses with hypotheses 1 to 6. -/
theorem witness_PacketsAreAcceptedAnsweredAndReplayed_1 :
  (∃ (s : State) (seq : BitVec 8) (words : List Word) (f : PktFault),
    (s.awake = true)) ∧
  (∃ (s : State) (seq : BitVec 8) (words : List Word) (f : PktFault),
    (s.awake = true)) ∧
  (∃ (s : State) (seq : BitVec 8) (words : List Word) (f : PktFault),
    (s.awake = true)) ∧
  (∃ (s : State) (ty : BitVec 4) (seq : BitVec 8) (words : List Word) (f : PktFault),
    (s.awake = true)) ∧
  (∃ (s : State) (t q c : Nat) (ws : List Word) (f : PktFault) (why : Nat) (g : State → State),
    (s.hlState ≠ 3)) ∧
  (∃ (s : State) (t q c : Nat) (ws : List Word) (f : PktFault) (why : Nat) (g : State → State),
    (s.hlState = 3) ∧ (f = .crc)) :=
  ⟨⟨upLink, 0, [0x0400000000, 4], .none, by decide⟩,
  ⟨upLink, 0, [0x0400000000], .none, by decide⟩,
  ⟨{ upDram with regs := upDram.regs ++ [(HLNK_STAT.at 0, upLink.reg HLNK_STAT)] }.setFld HLNK_STAT.LSTATE 3, 0, 64 ::
    0 :: List.replicate 4 0x1122334455, .none, by decide⟩,
  ⟨upLink, 7, 0, [0], .empty, by decide⟩,
  ⟨up, 1, 0, 0, [], .none, 0, id, by decide⟩,
  ⟨upLink, 1, 0, 0, [], .crc, 0, id, by decide⟩⟩

/-- Meets the hypotheses of PacketsAreAcceptedAnsweredAndReplayed, clauses with hypotheses 7 to 12. -/
theorem witness_PacketsAreAcceptedAnsweredAndReplayed_2 :
  (∃ (s : State) (t q c : Nat) (ws : List Word) (f : PktFault) (why : Nat) (g : State → State),
    (s.hlState = 3) ∧ (f ≠ .crc) ∧ (q ≠ s.fld HLNK_SEQ.RX_NEXT) ∧ ((s.fld HLNK_SEQ.RX_NEXT + 256 - q) % 256 ≤ 64)) ∧
  (∃ (s : State) (t q c : Nat) (ws : List Word) (f : PktFault) (why : Nat) (g : State → State),
    (s.hlState = 3) ∧ (f ≠ .crc) ∧ (q ≠ s.fld HLNK_SEQ.RX_NEXT) ∧ (64 < (s.fld HLNK_SEQ.RX_NEXT + 256 - q) % 256)) ∧
  (∃ (s : State) (t q c : Nat) (ws : List Word) (f : PktFault) (why : Nat) (g : State → State),
    (s.hlState = 3) ∧ (f ≠ .crc) ∧ (q = s.fld HLNK_SEQ.RX_NEXT) ∧ (why ≠ 0)) ∧
  (∃ (s : State) (t q c : Nat) (ws : List Word) (f : PktFault) (why : Nat) (g : State → State),
    (s.hlState = 3) ∧ (f ≠ .crc) ∧ (q = s.fld HLNK_SEQ.RX_NEXT) ∧ (why = 0)) ∧
  (∃ (s : State) (seq : BitVec 8),
    (s.awake = true) ∧ (s.hlState = 3)) ∧
  (∃ (s : State) (seq i : Nat),
    (s.hlnk.replay.findIdx? (fun p => p.seq == seq) = some i)) :=
  ⟨⟨upLink, 1, 192, 0, [0], .empty, 0, id, by decide⟩,
  ⟨upLink, 1, 191, 1, [0], .none, 0, id, by decide⟩,
  ⟨upLink, 1, 0, 0, [0], .none, 4, id, by decide⟩,
  ⟨upLink, 2, 0, 0, [0], .behind 63, 0, id, by decide⟩,
  ⟨upLink, 255, by decide⟩,
  ⟨up.hlUpd (fun h => { h with replay := [⟨254, 2, 3, .nak 0⟩, ⟨255, 2, 3, .nak 0⟩] }), 255, 1, by decide⟩⟩

/-- Meets the hypotheses of PacketsAreAcceptedAnsweredAndReplayed, clauses with hypotheses 13 to 18. -/
theorem witness_PacketsAreAcceptedAnsweredAndReplayed_3 :
  (∃ (s : State) (seq : Nat),
    (s.hlnk.replay.all (fun p => p.seq != seq) = true)) ∧
  (∃ (s : State) (seq : BitVec 8),
    (s.awake = true) ∧ (s.hlState = 3)) ∧
  (∃ (s : State),
    (s.awake = true) ∧ (s.hlState = 3)) ∧
  (∃ (s : State) (c : Fin 4) (n : BitVec 30),
    (s.awake = true) ∧ (s.hlState = 3) ∧ ((c = 2 ∨ c = 3))) ∧
  (∃ (s : State) (c : Fin 4) (n : BitVec 30) (q : BitVec 8),
    (s.hlState ≠ 3)) ∧
  (∃ (s : State) (c : Fin 4) (n : BitVec 30),
    (c.val < 2)) :=
  ⟨⟨up, 255, by decide⟩,
  ⟨upLink, 255, by decide⟩,
  ⟨upLink.hlUpd fun h => { h with replay := [⟨254, 2, 3, .nak 0⟩], tries := 7 }, by decide⟩,
  ⟨upLink, 3, 0x3FFFFFFF, by decide⟩,
  ⟨up, 3, 7, 9, by decide⟩,
  ⟨upLink, 1, 7, by decide⟩⟩

/-- Meets the hypotheses of PacketsAreAcceptedAnsweredAndReplayed, clauses with hypotheses 19 to 20. -/
theorem witness_PacketsAreAcceptedAnsweredAndReplayed_4 :
  (∃ (s : State) (e : EvtPkt) (rest : List EvtPkt),
    (s.awake = true) ∧ (s.hlnk.evq = e :: rest) ∧ (s.canSend 3 6 = true)) ∧
  (∃ (s : State),
    ((s.hlnk.evq = [] ∨ s.canSend 3 6 = false))) :=
  ⟨⟨upLink.hlUpd (fun h => { h with evq := [⟨1, false, 2, 3, 4⟩], limit := [(3, 6)] }), ⟨1, false, 2, 3, 4⟩, [], by decide⟩,
  ⟨upLink.hlUpd (fun h => { h with evq := [⟨1, false, 2, 3, 4⟩], limit := [(3, 5)] }), by decide⟩⟩

/-- Meets the hypotheses of MemoryReadsWhatWasWritten. -/
theorem witness_MemoryReadsWhatWasWritten :
  (∃ (s : State) (c : Fin 12) (a : BitVec 40) (bs : List Byte),
    (s.awake = true) ∧ ((c.val ≠ 9 ∨ s.coreCut = false)) ∧ (s.dramGate a.toNat bs.length = .go)) ∧
  (∃ (s : State) (c : Fin 12) (a : BitVec 40) (bs : List Byte),
    (s.awake = true) ∧ ((c.val ≠ 9 ∨ s.coreCut = false)) ∧ (s.dramGate a.toNat bs.length ≠ .go)) ∧
  (∃ (s : State) (a : BitVec 40) (bs : List Byte),
    (s.coreCut = true)) ∧
  (∃ (s : State) (c a n : Nat),
    (s.dramGate a n = .go) ∧ (s.dram.rq = []) ∧ ((∀ w, a / 64 * 8 ≤ w → w < (a + n + 63) / 64 * 8 → s.cwErr w = 0))) ∧
  (∃ (s : State) (c a n : Nat),
    (s.dramGate a n ≠ .go)) :=
  ⟨⟨upDram, 11, 0x7FFFFFFFF, [5], by decide⟩,
  ⟨upDram, 11, 0x7FFFFFFFF, [5, 6], by decide⟩,
  ⟨(upDram.setFld WARD_STAT.SSTATE 2).setFld WARD_STAT.ISO_DONE 0, 0, [5, 6], by decide⟩,
  ⟨upDram, 0, 3, 5, by decide⟩,
  ⟨up, 0, 3, 5, by decide⟩⟩

/-- Meets the hypotheses of TheMemoryControllerRuns, clauses with hypotheses 1 to 6. -/
theorem witness_TheMemoryControllerRuns_1 :
  (∃ (s : State) (c : Fin 12) (a : BitVec 40) (n : Nat),
    (s.awake = true) ∧ (s.dramGate a.toNat n ≠ .go)) ∧
  (∃ (s : State) (c : Fin 12) (a : BitVec 40) (n : Nat),
    (s.awake = true) ∧ (s.dramGate a.toNat n = .go)) ∧
  (∃ (s : State) (i : Nat) (d : DRead),
    (s.dram.rq[i]? = some d) ∧ (d.entered = false) ∧ (s.rqCount (d.burst % 4) < 64) ∧ (s.tieOf d = none)) ∧
  (∃ (s : State) (i : Nat) (d : DRead) (t : DTie),
    (s.dram.rq[i]? = some d) ∧ (d.entered = false) ∧ (s.rqCount (d.burst % 4) < 64) ∧ (s.tieOf d = some t)) ∧
  (∃ (s : State) (q : Fin 4) (b : List Nat) (e : List (Nat × Nat)),
    ((s.dramRuns = false ∨ s.pickRead q b = none))) ∧
  (∃ (s : State) (q : Fin 4) (b : List Nat) (e : List (Nat × Nat)) (i : Nat),
    (s.awake = true) ∧ (s.dramRuns = true) ∧ (s.pickRead q b = some i)) :=
  ⟨⟨up, 11, 5, 6, by decide⟩,
  ⟨upDram, 11, 5, 66, by decide⟩,
  ⟨{ upDram with dram := { upDram.dram with rq := [readPart 9 8 2 0] } }, 0, readPart 9 8 2 0, by decide⟩,
  ⟨{ upDram with dram := { upDram.dram with rq := [readPart 3 8 2 0], tie := (0, [⟨9, 0, 2, [], []⟩]) } }, 0, readPart
    3 8 2 0, ⟨9, 0, 2, [], []⟩, by decide⟩,
  ⟨upDram, 0, [], [], by decide⟩,
  ⟨{ upDram with dram := { upDram.dram with rq := [⟨9, 0, 8, 2, true, true, List.replicate 64 7, [0, 0, 0, 0, 0, 0, 0, 0], [], 0, none, [], 0, 0, false⟩] } },
    0, [3], [(1, 3)], 0, by decide +kernel⟩⟩

/-- Meets the hypotheses of TheMemoryControllerRuns, clauses with hypotheses 7 to 12. -/
theorem witness_TheMemoryControllerRuns_2 :
  (∃ (s : State) (q i : Nat) (e : List (Nat × Nat)) (d : DRead),
    (s.dram.rq[i]? = some d)) ∧
  (∃ (s : State) (c i : Nat) (d : DRead) (x : Option (List Byte)) (u : State),
    (s.dram.rq.findIdx? (fun d => d.client == c) = some i) ∧ (s.dram.rq[i]? = some d) ∧ (d.answer = some x) ∧ (u = { s with dram := { s.dram with rq := s.dram.rq.eraseIdx i } })) ∧
  (∃ (s : State) (e : List (Nat × Nat)),
    (s.awake = true) ∧ (s.dramRuns = true) ∧ (s.on DRAM_CTL.SCRUB_EN = true) ∧ (s.scrubEnding = false)) ∧
  (∃ (s : State) (e : List (Nat × Nat)),
    ((s.dramRuns = false ∨ s.on DRAM_CTL.SCRUB_EN = false ∨ s.scrubEnding = true))) ∧
  (∃ (s : State) (q : Fin 4) (r : Fin 2) (d : Bool),
    (s.awake = true) ∧ (s.dramLive = true) ∧ ((s.rtWaits q || d) = true) ∧ (s.owed q r < 4)) ∧
  (∃ (s : State) (q : Fin 4) (r : Fin 2) (d : Bool),
    (s.awake = true) ∧ (s.dramLive = true) ∧ ((s.rtWaits q || d) = true) ∧ (4 ≤ s.owed q r)) :=
  ⟨⟨{ upDram with dram := { upDram.dram with rq := [⟨9, 0, 8, 2, true, true, List.replicate 64 7, [0, 0, 0, 0, 0, 0, 0, 0], [], 0, none, [], 0, 0, false⟩] } },
    0, 0, [(1, 3)], ⟨9, 0, 8, 2, true, true, List.replicate 64 7, [0, 0, 0, 0, 0, 0, 0, 0], [], 0, none, [], 0, 0,
    false⟩, by decide⟩,
  ⟨{ upDram with dram := { upDram.dram with rq := [{ (⟨9, 0, 8, 2, true, true, List.replicate 64 7, [0, 0, 0, 0, 0, 0, 0, 0], [], 0, none, [], 0, 0, false⟩ : DRead) with answer := some (some [1, 2]), marks := [(1, 2)] }] } },
    9, 0, { (⟨9, 0, 8, 2, true, true, List.replicate 64 7, [0, 0, 0, 0, 0, 0, 0, 0], [], 0, none, [], 0, 0, false⟩ : DRead) with answer := some (some [1, 2]), marks := [(1, 2)] },
    some [1, 2], upDram, by decide +kernel⟩,
  ⟨upDram.setFld DRAM_CTL.SCRUB_EN 1, [], by decide⟩,
  ⟨upDram.setFld DRAM_CTL.SCRUB_EN 0, [], by decide⟩,
  ⟨upDram, 3, 1, true, by decide⟩,
  ⟨{ upDram with dram := { upDram.dram with owed := [(7, 4)] } }, 3, 1, true, by decide⟩⟩

/-- Meets the hypotheses of TheMemoryControllerRuns, clauses with hypotheses 13 to 18. -/
theorem witness_TheMemoryControllerRuns_3 :
  (∃ (s : State) (q : Fin 4) (r : Fin 2) (d : Bool),
    (s.awake = true) ∧ (s.dramLive = true) ∧ ((s.rtWaits q || d) = false)) ∧
  (∃ (s : State) (a b c d : Fin 8) (x h : Bool),
    (s.awake = true) ∧ (s.dramLive = true)) ∧
  (∃ (s : State),
    (s.awake = true) ∧ (s.dramLive = true)) ∧
  (∃ (s : State) (q : Fin 4) (r : Fin 2) (g : Fin 8) (b : Fin 4) (row : Nat),
    (s.awake = true) ∧ (s.dramRuns = true) ∧ (s.fld DRAM_PAGE.MODE ≠ 1) ∧ ((s.bank (((q * 2 + r) * 8 + g) * 4 +
      b)).openRow = some row)) ∧
  (∃ (s : State) (q : Fin 4) (r : Fin 2) (g : Fin 8) (b : Fin 4),
    ((s.dramRuns = false ∨ s.fld DRAM_PAGE.MODE = 1 ∨ (s.bank (((q * 2 + r) * 8 + g) * 4 + b)).openRow = none))) ∧
  (∃ (s : State) (q : Fin 4) (r : Fin 2) (d : Bool) (x : Fin 8) (h : Bool),
    (s.dramLive = false)) :=
  ⟨⟨{ upDram with dram := { upDram.dram with owed := [(7, 4)] } }, 3, 1, false, by decide⟩,
  ⟨upDram, 7, 0, 3, 4, true, true, by decide⟩,
  ⟨upDram, by decide⟩,
  ⟨upDram.touch (3 * 64), 3, 0, 0, 0, 0, by decide⟩,
  ⟨upDram, 3, 0, 0, 0, by decide⟩,
  ⟨up, 3, 1, true, 4, true, by decide⟩⟩

/-- Meets the hypotheses of TheMemoryControllerRuns, clauses with hypotheses 19 to 24. -/
theorem witness_TheMemoryControllerRuns_4 :
  (∃ (s : State) (o : Sender) (w : Word),
    (s.reaches o DRAM_CTL = true)) ∧
  (∃ (s : State),
    (s.awake = true) ∧ (s.blkHeld 54 = false) ∧ (s.fld DRAM_STAT.STATE = 1)) ∧
  (∃ (s : State),
    ((s.fld DRAM_STAT.STATE ≠ 1 ∨ s.blkHeld 54 = true))) ∧
  (∃ (s : State) (f : BitVec 4),
    (s.awake = true) ∧ (s.blkHeld 54 = false) ∧ (s.fld DRAM_STAT.STATE = 2) ∧ (f ≠ 0)) ∧
  (∃ (s : State),
    (s.awake = true) ∧ (s.blkHeld 54 = false) ∧ (s.fld DRAM_STAT.STATE = 2) ∧ (s.on DRAM_CTL.ZERO = true)) ∧
  (∃ (s : State),
    (s.awake = true) ∧ (s.blkHeld 54 = false) ∧ (s.fld DRAM_STAT.STATE = 2) ∧ (s.on DRAM_CTL.ZERO = false)) :=
  ⟨⟨up, .host, putFields 0 [(DRAM_CTL.ZERO, 1)], by decide⟩,
  ⟨up.setFld DRAM_STAT.STATE 1, by decide⟩,
  ⟨up, by decide⟩,
  ⟨up.setFld DRAM_STAT.STATE 2, 15, by decide⟩,
  ⟨(up.setFld DRAM_STAT.STATE 2).setFld DRAM_CTL.ZERO 1, by decide⟩,
  ⟨(up.setFld DRAM_STAT.STATE 2).setFld DRAM_CTL.ZERO 0, by decide⟩⟩

/-- Meets the hypotheses of TheMemoryControllerRuns, clauses with hypotheses 25 to 27. -/
theorem witness_TheMemoryControllerRuns_5 :
  (∃ (s : State) (f : BitVec 4),
    ((s.fld DRAM_STAT.STATE ≠ 2 ∨ s.blkHeld 54 = true))) ∧
  (∃ (s : State),
    (s.awake = true) ∧ (s.blkHeld 54 = false) ∧ (s.fld DRAM_STAT.STATE = 3)) ∧
  (∃ (s : State),
    ((s.fld DRAM_STAT.STATE ≠ 3 ∨ s.blkHeld 54 = true))) :=
  ⟨⟨up, 15, by decide⟩,
  ⟨up.setFld DRAM_STAT.STATE 3, by decide⟩,
  ⟨up, by decide⟩⟩

/-- Meets the hypotheses of RecordsOfTheImageAreApplied, clauses with hypotheses 1 to 6. -/
theorem witness_RecordsOfTheImageAreApplied_1 :
  (∃ (s : State) (m : BitVec 8) (l : List (BitVec 24 × Word)),
    (s.awake = true)) ∧
  (∃ (s : State) (m : BitVec 8) (ws : List Word),
    (s.awake = true)) ∧
  (∃ (s : State) (m : BitVec 8) (ws : List Word),
    (s.awake = true)) ∧
  (∃ (s : State) (m : BitVec 8) (f : Nat) (ws : List Word),
    (s.awake = true)) ∧
  (∃ (s : State) (m : BitVec 8) (p : Fin 48) (f : Nat) (ws : List Word),
    (s.awake = true)) ∧
  (∃ (s : State) (m : BitVec 8) (p : Fin 48) (t : Fin 4) (f : Nat) (ws : List Word),
    (s.awake = true)) :=
  ⟨⟨upApply, 1, [(0x040000, 4)], by decide⟩,
  ⟨upApply, 1, List.replicate 44 0, by decide⟩,
  ⟨upApply, 1, List.replicate 12 0, by decide⟩,
  ⟨upApply, 1, 191999, [0, 0], by decide⟩,
  ⟨upApply, 1, 47, 1333, [0], by decide⟩,
  ⟨upApply, 1, 47, 3, 1, [0], by decide⟩⟩

/-- Meets the hypotheses of RecordsOfTheImageAreApplied, clauses with hypotheses 7 to 12. -/
theorem witness_RecordsOfTheImageAreApplied_2 :
  (∃ (s : State) (m : BitVec 8) (u : BitVec 32) (bs : List Byte),
    (s.awake = true)) ∧
  (∃ (s : State) (m : BitVec 8) (i : BitVec 16) (bs : List Byte),
    (s.awake = true)) ∧
  (∃ (s : State) (t m : Nat) (b : List Byte),
    (s.cfgState = 3) ∧ (s.cfg.fin = none)) ∧
  (∃ (s : State) (t m : Nat) (b : List Byte),
    ((s.cfgState ≠ 3 ∨ s.cfg.fin.isSome = true))) ∧
  (∃ (s : State) (r : ImgRec) (rest : List ImgRec),
    (s.loadReady = true) ∧ (s.cfg.writes = []) ∧ (s.cfg.recs = r :: rest) ∧ (s.dramWaits = false)) ∧
  (∃ (s : State),
    (s.loadReady = true) ∧ (s.cfg.writes = []) ∧ (s.dramWaits = true)) :=
  ⟨⟨(upApply.setFld DRAM_STAT.STATE 4).setFld DRAM_GEOM.SIZE 35, 1, 3, List.replicate 16 7, by decide⟩,
  ⟨upApply, 1, 3, [1, 2], by decide⟩,
  ⟨upApply, 1, 1, [1, 2, 3], by decide⟩,
  ⟨up, 1, 1, [1, 2, 3], by decide⟩,
  ⟨upApply.cfgUpd (fun c => { c with begun := true, recs := [⟨1, 1, [4, 0, 0, 0, 0, 0, 0, 4]⟩] }), ⟨1, 1, [4, 0, 0, 0,
    0, 0, 0, 4]⟩, [], by decide⟩,
  ⟨(upApply.setFld DRAM_STAT.STATE 6).cfgUpd (fun c => { c with begun := true, recs := [⟨7, 1, []⟩] }), by decide⟩⟩

/-- Meets the hypotheses of RecordsOfTheImageAreApplied, clauses with hypotheses 13 to 18. -/
theorem witness_RecordsOfTheImageAreApplied_3 :
  (∃ (s : State) (e : Nat × Word) (rest : List (Nat × Word)),
    (s.loadReady = true) ∧ (s.cfg.writes = e :: rest)) ∧
  (∃ (s : State) (ok p : Bool),
    (s.loadReady = true) ∧ (s.cfg.writes = []) ∧ (s.cfg.recs = []) ∧ (s.cfg.fin = some (ok, p))) ∧
  (∃ (s : State),
    (s.loadReady = false)) ∧
  (∃ (s : State),
    (s.loadReady = true) ∧ (s.cfg.writes = []) ∧ (s.cfg.recs = []) ∧ (s.cfg.fin = none)) ∧
  (∃ (s : State) (r : ImgRec),
    (s.applies r = false)) ∧
  (∃ (s : State) (m : BitVec 8) (l : List (BitVec 24 × Word)),
    (m.toNat.testBit s.sys.varSel = true)) :=
  ⟨⟨upApply.cfgUpd (fun c => { c with begun := true, writes := [(0x040000, 4)] }), (0x040000, 4), [], by decide⟩,
  ⟨upApply.cfgUpd (fun c => { c with begun := true, fin := some (true, true) }), true, true, by decide⟩,
  ⟨upApply, by decide⟩,
  ⟨upApply.cfgUpd fun c => { c with begun := true }, by decide⟩,
  ⟨upApply, ⟨1, 0xFE, []⟩, by decide⟩,
  ⟨upApply, 1, [(0x040000, 4)], by decide⟩⟩

/-- Meets the hypotheses of RecordsOfTheImageAreApplied, clauses with hypotheses 19 to 24. -/
theorem witness_RecordsOfTheImageAreApplied_4 :
  (∃ (s : State) (m : BitVec 8) (ws : List Word),
    (m.toNat.testBit s.sys.varSel = true) ∧ (ws.length = 44)) ∧
  (∃ (s : State) (m : BitVec 8) (ws : List Word),
    (m.toNat.testBit s.sys.varSel = true) ∧ (ws.length = 12)) ∧
  (∃ (s : State) (m : BitVec 8) (f : Nat) (ws : List Word),
    (m.toNat.testBit s.sys.varSel = true) ∧ (ws.length % 2 = 0) ∧ (f < 192000) ∧ (ws.length ≤ 384000)) ∧
  (∃ (s : State) (m : BitVec 8) (p : Fin 48) (f : Nat) (ws : List Word),
    (m.toNat.testBit s.sys.varSel = true) ∧ (f < 1334) ∧ (ws.length ≤ 1334)) ∧
  (∃ (s : State) (m : BitVec 8) (p : Fin 48) (t : Fin 4) (f : Nat) (ws : List Word),
    (m.toNat.testBit s.sys.varSel = true) ∧ (f < 1024) ∧ (ws.length < 1024)) ∧
  (∃ (s : State) (m : BitVec 8) (u : BitVec 32) (bs : List Byte),
    (m.toNat.testBit s.sys.varSel = true) ∧ (bs.length % 16 = 0) ∧ (bs.length < 2 ^ 32)) :=
  ⟨⟨upApply, 1, List.replicate 44 7, by decide⟩,
  ⟨upApply, 1, List.replicate 12 7, by decide⟩,
  ⟨upApply, 1, 191999, [5, 6], by decide⟩,
  ⟨upApply, 1, 47, 1333, [5], by decide⟩,
  ⟨upApply, 1, 47, 3, 1, [5], by decide⟩,
  ⟨(upApply.setFld DRAM_STAT.STATE 4).setFld DRAM_GEOM.SIZE 35, 1, 3, List.replicate 16 7, by decide⟩⟩

/-- Meets the hypotheses of RecordsOfTheImageAreApplied, clauses with hypotheses 25 to 29. -/
theorem witness_RecordsOfTheImageAreApplied_5 :
  (∃ (s : State) (m : BitVec 8) (i : BitVec 16) (bs : List Byte),
    (m.toNat.testBit s.sys.varSel = true) ∧ (bs.length % 8 = 0)) ∧
  (∃ (s : State),
    (s.awake = true) ∧ (s.applying = true) ∧ (s.cfg.writes = []) ∧ (s.dramWaits = true)) ∧
  (∃ (s : State),
    ((s.applying = false ∨ s.cfg.writes ≠ [] ∨ s.dramWaits = false))) ∧
  (∃ (s : State) (m : BitVec 8) (c : BitVec 32) (p : Bool),
    (s.awake = true) ∧ (s.cfgState = 3) ∧ (s.cfg.fin = none)) ∧
  (∃ (s : State) (m : BitVec 8) (c : BitVec 32) (p : Bool),
    ((s.cfgState ≠ 3 ∨ s.cfg.fin.isSome = true))) :=
  ⟨⟨upApply.setFld WARD_PATCH.N 62, 1, 3, List.replicate 8 7, by decide⟩,
  ⟨upApply.cfgUpd (fun c => { c with begun := true, recs := [⟨7, 1, []⟩] }), by decide⟩,
  ⟨upApply, by decide⟩,
  ⟨upApply, 0, 5, true, by decide⟩,
  ⟨up, 0, 5, true, by decide⟩⟩

/-- Meets the hypotheses of SlotsAreCheckedAndTheStoresCommanded, clauses with hypotheses 1 to 6. -/
theorem witness_SlotsAreCheckedAndTheStoresCommanded_1 :
  (∃ (s : State),
    (s.awake = true) ∧ (s.inSfdp = true)) ∧
  (∃ (s : State) (d : Sfdp),
    (s.inSfdp = false)) ∧
  (∃ (s : State) (d : Sfdp),
    (s.awake = true) ∧ (s.inSfdp = true)) ∧
  (∃ (s : State) (img : List Byte),
    (s.awake = true) ∧ (s.cfgState = 1)) ∧
  (∃ (s : State) (img : List Byte),
    (s.awake = true) ∧ (s.cfgState = 2)) ∧
  (∃ (s : State) (img : List Byte),
    (s.cfgState ≠ 1) ∧ (s.cfgState ≠ 2)) :=
  ⟨⟨upSfdp, by decide⟩,
  ⟨upLoaded, ⟨0x30, 20, 20, none, (8, 0), 1⟩, by decide⟩,
  ⟨upSfdp, ⟨0x30, 20, 20, some (31, 2), (8, 0), 4⟩, by decide⟩,
  ⟨up.setFld CFG_STAT.STATE 1, [], by decide⟩,
  ⟨up.setFld CFG_STAT.STATE 2, [], by decide⟩,
  ⟨upLoaded, [], by decide⟩⟩

/-- Meets the hypotheses of SlotsAreCheckedAndTheStoresCommanded, clauses with hypotheses 7 to 12. -/
theorem witness_SlotsAreCheckedAndTheStoresCommanded_2 :
  (∃ (s : State) (img : List Byte) (rs : List ImgRec),
    (checkImage (s.fld SYS_ID.REV) (2 ^ (s.fld CFG_FLINFO.DENS) / 2) img = .ok rs)) ∧
  (∃ (s : State) (img : List Byte) (c k : Nat),
    (checkImage (s.fld SYS_ID.REV) (2 ^ (s.fld CFG_FLINFO.DENS) / 2) img = .error (c, k))) ∧
  (∃ (s : State) (o : Sender) (w : Word),
    (s.reaches o CFG_CTL = true) ∧ (s.loaded = true) ∧ (s.on CFG_FLCMD.BUSY = false)) ∧
  (∃ (s : State) (o : Sender) (w : Word),
    (s.reaches o CFG_CTL = true) ∧ (s.loaded = true) ∧ (s.on CFG_FLCMD.BUSY = true)) ∧
  (∃ (s : State) (o : Sender),
    (s.reaches o CFG_CTL = true) ∧ (s.loaded = true) ∧ (s.on CFG_FLCMD.BUSY = false)) ∧
  (∃ (s : State) (o : Sender),
    (s.reaches o CFG_CTL = true) ∧ (s.loaded = true) ∧ (s.on CFG_FLCMD.BUSY = true)) :=
  ⟨⟨(up.setFld CFG_STAT.STATE 2).setFld CFG_FLINFO.DENS 20, wImg, [⟨1, 0, []⟩], by decide +kernel⟩,
  ⟨up, [], 2, 0, by decide +kernel⟩,
  ⟨upLoaded, .host, 0, by decide⟩,
  ⟨upLoaded.setFld CFG_FLCMD.BUSY 1, .host, 0, by decide⟩,
  ⟨upLoaded, .warden, by decide⟩,
  ⟨upLoaded.setFld CFG_FLCMD.BUSY 1, .warden, by decide⟩⟩

/-- Meets the hypotheses of SlotsAreCheckedAndTheStoresCommanded, clauses with hypotheses 13 to 18. -/
theorem witness_SlotsAreCheckedAndTheStoresCommanded_3 :
  (∃ (s : State) (o : Sender) (w : Word),
    (s.reaches o CFG_CTL = true) ∧ (s.loaded = false)) ∧
  (∃ (s : State) (o : Sender) (w : Word),
    (s.reaches o CFG_FLCMD = true)) ∧
  (∃ (s : State) (bs : List Byte),
    (s.awake = true) ∧ (s.on CFG_FLCMD.BUSY = true)) ∧
  (∃ (s : State) (bs : List Byte),
    (s.on CFG_FLCMD.BUSY = false)) ∧
  (∃ (s : State) (o : Sender) (a : BitVec 13) (e : Fin 3) (raw : BitVec 64),
    (s.reaches o CFG_STCMD = true)) ∧
  (∃ (s : State) (o : Sender) (a : BitVec 13) (k : BitVec 8),
    (s.reaches o CFG_STCMD = true) ∧ (s.on CFG_STCMD.BUSY = false) ∧ (s.stumpAllowed (o == .warden) a.toNat k.toNat =
      true) ∧ (s.stumpWord a.toNat = stumpErased)) :=
  ⟨⟨up, .host, 0, by decide⟩,
  ⟨upLoaded, .host, putFields 0 [(CFG_FLCMD.NBYTES, 260), (CFG_FLCMD.OPCODE, 0x9F)], by decide⟩,
  ⟨(upLoaded.setFld CFG_FLCMD.BUSY 1).cfgUpd (fun c => { c with flRead := 3 }), [1, 2], by decide⟩,
  ⟨upLoaded, [1, 2], by decide⟩,
  ⟨up, .host, 8191, 2, 0xFFFFFFFFFFFFFFFF, by decide⟩,
  ⟨upLoaded, .host, 4095, 0xA5, by decide⟩⟩

/-- Meets the hypotheses of SlotsAreCheckedAndTheStoresCommanded, clauses with hypotheses 19 to 24. -/
theorem witness_SlotsAreCheckedAndTheStoresCommanded_4 :
  (∃ (s : State) (o : Sender) (a : BitVec 13) (k : BitVec 8),
    (s.reaches o CFG_STCMD = true) ∧ ((s.on CFG_STCMD.BUSY = true ∨ s.stumpAllowed (o == .warden) a.toNat k.toNat =
      false ∨ s.stumpWord a.toNat ≠ stumpErased))) ∧
  (∃ (s : State) (o : Sender) (a : BitVec 13) (k : BitVec 8),
    (s.reaches o CFG_STCMD = true) ∧ (s.on CFG_STCMD.BUSY = false) ∧ (s.stumpAllowed (o == .warden) a.toNat k.toNat =
      true)) ∧
  (∃ (s : State) (o : Sender) (a : BitVec 13) (k : BitVec 8),
    (s.reaches o CFG_STCMD = true) ∧ ((s.on CFG_STCMD.BUSY = true ∨ s.stumpAllowed (o == .warden) a.toNat k.toNat =
      false))) ∧
  (∃ (s : State) (p : Pulse),
    (s.cfg.pulse = some p) ∧ (p.recorder = false)) ∧
  (∃ (s : State) (p : Pulse),
    (s.cfg.pulse = some p) ∧ (p.recorder = true)) ∧
  (∃ (s : State),
    (s.cfg.pulse = none)) :=
  ⟨⟨upLoaded.setStump 4095 0, .host, 4095, 0xA5, by decide⟩,
  ⟨upLoaded, .warden, 4096, 0, by decide⟩,
  ⟨upLoaded, .host, 4096, 0xA5, by decide⟩,
  ⟨up.pulseStart ⟨false, true, 4095, 5⟩, ⟨false, true, 4095, 5⟩, by decide⟩,
  ⟨up.pulseStart ⟨true, true, 4095, 5⟩, ⟨true, true, 4095, 5⟩, by decide⟩,
  ⟨up, by decide⟩⟩

/-- Meets the hypotheses of ResetsAreRequestedAppliedAndReleased, clauses with hypotheses 1 to 6. -/
theorem witness_ResetsAreRequestedAppliedAndReleased_1 :
  (∃ (s : State),
    (s.sys.por = true) ∧ (s.railOk 7 = true)) ∧
  (∃ (s : State),
    ((s.sys.por = false ∨ s.railOk 7 = false))) ∧
  (∃ (s : State) (c k : Nat),
    (s.sys.por = true)) ∧
  (∃ (s : State) (c k : Nat),
    (s.sys.por = false) ∧ (s.sys.held = true)) ∧
  (∃ (s : State) (c k : Nat) (r : SysReq),
    (s.sys.por = false) ∧ (s.sys.held = false) ∧ (s.sys.req = some r)) ∧
  (∃ (s : State) (c k : Nat),
    (s.sys.por = false) ∧ (s.sys.held = false) ∧ (s.sys.req = none)) :=
  ⟨⟨State.reset.setFld SYS_SUPSTAT.RAIL_OK 128, by decide⟩,
  ⟨State.reset.setFld SYS_SUPSTAT.RAIL_OK 127, by decide⟩,
  ⟨State.reset, 3, 0, by decide⟩,
  ⟨{ State.reset with sys := { State.reset.sys with por := false } }, 3, 0, by decide⟩,
  ⟨{ up with sys := { up.sys with por := false, req := some ⟨0, 5, false, 0⟩ } }, 3, 1, ⟨0, 5, false, 0⟩, by decide⟩,
  ⟨{ up with sys := { up.sys with por := false } }, 3, 0, by decide⟩⟩

/-- Meets the hypotheses of ResetsAreRequestedAppliedAndReleased, clauses with hypotheses 7 to 12. -/
theorem witness_ResetsAreRequestedAppliedAndReleased_2 :
  (∃ (s : State) (o : Sender) (w : Word),
    (s.reaches o SYS_RSTCMD = true) ∧ (SYS_RSTCMD.KEY.ext w = 0x5A)) ∧
  (∃ (s : State) (o : Sender) (w : Word),
    (s.reaches o SYS_RSTCMD = true) ∧ (SYS_RSTCMD.KEY.ext w = 0x5A)) ∧
  (∃ (s : State) (o : Sender) (w : Word),
    (s.reaches o SYS_RSTCMD = true) ∧ (SYS_RSTCMD.KEY.ext w ≠ 0x5A)) ∧
  (∃ (s : State) (c : Nat),
    (s.sys.held = false) ∧ (s.sys.req = none)) ∧
  (∃ (s : State) (c : Nat),
    ((s.sys.held = true ∨ s.sys.req.isSome = true))) ∧
  (∃ (s : State) (d : Nat) (p : Bool),
    (s.awake = true) ∧ (s.sys.core.isSome = true) ∧ (s.cfg.pulse = none)) :=
  ⟨⟨up, .host, putFields 0 [(SYS_RSTCMD.KEY, 0x5A)], by decide⟩,
  ⟨up, .host, putFields 0 [(SYS_RSTCMD.KEY, 0x5A)], by decide⟩,
  ⟨up, .host, putFields 0 [(SYS_RSTCMD.KEY, 0x5B)], by decide⟩,
  ⟨up, 1, by decide⟩,
  ⟨State.reset, 1, by decide⟩,
  ⟨{ upLoaded with sys := { upLoaded.sys with core := some false } }, 0, true, by decide⟩⟩

/-- Meets the hypotheses of ResetsAreRequestedAppliedAndReleased, clauses with hypotheses 13 to 18. -/
theorem witness_ResetsAreRequestedAppliedAndReleased_3 :
  (∃ (s : State) (d : Nat) (p : Bool),
    ((s.sys.core = none ∨ s.cfg.pulse.isSome = true))) ∧
  (∃ (s : State) (d : Nat) (r : SysReq),
    (s.sys.req = some r) ∧ (s.cfg.pulse = none)) ∧
  (∃ (s : State) (d : Nat),
    ((s.sys.req = none ∨ s.cfg.pulse.isSome = true))) ∧
  (∃ (s : State) (c d k : Nat) (st : Bool) (a : Nat),
    (a ∉ aonRegs) ∧ (a ∉ [SYS_SUPSTAT.base, SYS_HPSTAT.base, SYS_PDSTAT.base, SYS_CLKSTAT.base, WARD_FLOG.base])) ∧
  (∃ (s : State) (c d k : Nat) (st : Bool),
    (c < 16)) ∧
  (∃ (s : State) (b : Fin 16) (v : Fin 8),
    (s.sys.held = true) ∧ (s.sys.por = false) ∧ (s.sys.req = none) ∧ (s.sys.rstLow = false) ∧ (s.clocksGood = true) ∧
      (s.railOk 6 = true) ∧ (s.railOk 5 = true)) :=
  ⟨⟨upLoaded, 0, true, by decide⟩,
  ⟨{ up with sys := { up.sys with req := some ⟨1, 3, false, 0⟩ } }, 7, ⟨1, 3, false, 0⟩, by decide⟩,
  ⟨up, 7, by decide⟩,
  ⟨upJob, 3, 0, 0, true, 0x080000, by decide⟩,
  ⟨upJob, 9, 0, 0, true, by decide⟩,
  ⟨{ (State.reset.setFld SYS_SUPSTAT.RAIL_OK 255).setFld SYS_CLKSTAT.CKGOOD 31 with sys := { State.reset.sys with por := false } },
    15, 7, by decide⟩⟩

/-- Meets the hypotheses of ResetsAreRequestedAppliedAndReleased, clauses with hypotheses 19 to 24. -/
theorem witness_ResetsAreRequestedAppliedAndReleased_4 :
  (∃ (s : State) (b : Fin 16) (v : Fin 8),
    (s.sys.held = true) ∧ (s.sys.por = false) ∧ (s.sys.req = none) ∧ (s.sys.rstLow = false) ∧ (s.clocksGood = true) ∧
      (s.railOk 6 = true) ∧ (s.railOk 5 = true)) ∧
  (∃ (s : State) (b : Fin 16) (v : Fin 8) (x : Bool),
    ((s.sys.held = false ∨ s.sys.por = true ∨ s.sys.req.isSome = true ∨ s.sys.rstLow = true ∨ s.clocksGood = false ∨
      s.railOk 6 = false ∨ s.railOk 5 = false))) ∧
  (∃ (s : State) (o : Sender) (b : Fin 70),
    (s.reaches o (if b.val < 40 then SYS_BLKRST0 else SYS_BLKRST1) = true)) ∧
  (∃ (s : State) (o : Sender) (b : Fin 70),
    (s.reaches o (if b.val < 40 then SYS_BLKRST0 else SYS_BLKRST1) = true)) ∧
  (∃ (s : State) (b : Nat),
    (b ≤ 69) ∧ (s.blkHeld b = false)) ∧
  (∃ (s : State) (b : Nat),
    (b ≤ 69) ∧ (s.blkHeld b = true)) :=
  ⟨⟨{ (State.reset.setFld SYS_SUPSTAT.RAIL_OK 255).setFld SYS_CLKSTAT.CKGOOD 31 with sys := { State.reset.sys with por := false } },
    15, 7, by decide⟩,
  ⟨{ (State.reset.setFld SYS_SUPSTAT.RAIL_OK 255).setFld SYS_CLKSTAT.CKGOOD 31 with sys := { State.reset.sys with por := false, rstLow := true } },
    0, 1, true, by decide⟩,
  ⟨up, .host, 69, by decide⟩,
  ⟨up.blockAssert 39, .host, 39, by decide⟩,
  ⟨up, 69, by decide⟩,
  ⟨State.reset, 69, by decide⟩⟩

/-- Meets the hypotheses of ResetsAreRequestedAppliedAndReleased, clauses with hypotheses 25 to 30. -/
theorem witness_ResetsAreRequestedAppliedAndReleased_5 :
  (∃ (s : State) (b : Fin 70) (n : Nat),
    (s.awake = true) ∧ (b.val ∈ s.sys.draining)) ∧
  (∃ (s : State) (b : Fin 70) (n : Nat),
    (b.val ∉ s.sys.draining)) ∧
  (∃ (s : State) (b : Nat),
    (s.blkBit SYS_BLKRST0 SYS_BLKRST1 b = true)) ∧
  (∃ (s : State) (b : Nat),
    (s.blkBit SYS_BLKRST0 SYS_BLKRST1 b = false)) ∧
  (∃ (s : State) (b : Fin 70),
    (s.awake = true) ∧ (s.blkPend b = true)) ∧
  (∃ (s : State) (b : Fin 70),
    (s.blkPend b = false)) :=
  ⟨⟨up.blockAssert 69, 69, 2, by decide⟩,
  ⟨up, 69, 2, by decide⟩,
  ⟨State.reset, 69, by decide⟩,
  ⟨up, 69, by decide⟩,
  ⟨(up.blockAssert 69).blockReleaseReq 69, 69, by decide⟩,
  ⟨up, 69, by decide⟩⟩

/-- Meets the hypotheses of ResetsAreRequestedAppliedAndReleased, clauses with hypotheses 31 to 31. -/
theorem witness_ResetsAreRequestedAppliedAndReleased_6 :
  (∃ (s : State) (p e n d : Nat),
    (s.sys.held = true) ∧ (s.reg SYS_SUPSTAT = 0xFF00000000) ∧ (s.tap.ir ≠ 0)) :=
  ⟨State.reset.setFld SYS_SUPSTAT.RAIL_OK 255, 0, 0, 0, 0, by decide⟩

/-- Meets the hypotheses of ClocksRailsAndDomainsFollowTheirEvents, clauses with hypotheses 1 to 6. -/
theorem witness_ClocksRailsAndDomainsFollowTheirEvents_1 :
  (∃ (s : State),
    (s.sys.por = false) ∧ (s.railOk 6 = true) ∧ (s.railOk 5 = true)) ∧
  (∃ (s : State),
    ((s.sys.por = true ∨ s.railOk 6 = false ∨ s.railOk 5 = false))) ∧
  (∃ (s : State),
    (s.on SYS_CLKSTAT.ROOT_LOCK = true)) ∧
  (∃ (s : State),
    (s.on SYS_CLKSTAT.ROOT_LOCK = true)) ∧
  (∃ (s : State),
    (s.on SYS_CLKSTAT.ROOT_LOCK = false)) ∧
  (∃ (s : State) (g : Fin 15),
    (s.awake = true) ∧ (s.pllRuns g = true)) :=
  ⟨⟨{ up.setFld SYS_SUPSTAT.RAIL_OK 255 with sys := { up.sys with por := false } }, by decide⟩,
  ⟨State.reset, by decide⟩,
  ⟨up.setFld SYS_CLKSTAT.ROOT_LOCK 1, by decide⟩,
  ⟨up.setFld SYS_CLKSTAT.ROOT_LOCK 1, by decide⟩,
  ⟨up.setFld SYS_CLKSTAT.ROOT_LOCK 0, by decide⟩,
  ⟨up, 14, by decide⟩⟩

/-- Meets the hypotheses of ClocksRailsAndDomainsFollowTheirEvents, clauses with hypotheses 7 to 12. -/
theorem witness_ClocksRailsAndDomainsFollowTheirEvents_2 :
  (∃ (s : State) (g : Fin 15),
    (s.pllRuns g = false)) ∧
  (∃ (s : State) (g : Fin 15),
    (s.awake = true) ∧ ((s.fld SYS_CLKSTAT.LPLL_LOCK).testBit g = true)) ∧
  (∃ (s : State) (g : Fin 15),
    ((s.fld SYS_CLKSTAT.LPLL_LOCK).testBit g = false)) ∧
  (∃ (s : State) (i : Nat),
    (3 ≤ i)) ∧
  (∃ (s : State) (r : Fin 2) (n : BitVec 18),
    (s.awake = true) ∧ (156250 - 46 ≤ n.toNat) ∧ (n.toNat ≤ 156250 + 46)) ∧
  (∃ (s : State) (r : Fin 2) (n : BitVec 18),
    (s.awake = true) ∧ ((n.toNat < 156250 - 46 ∨ 156250 + 46 < n.toNat))) :=
  ⟨⟨State.reset, 14, by decide⟩,
  ⟨upBar.setFld SYS_CLKSTAT.LPLL_LOCK 1, 0, by decide⟩,
  ⟨up.setFld SYS_CLKSTAT.LPLL_LOCK 1, 1, by decide⟩,
  ⟨upBar, 3, by decide⟩,
  ⟨up, 1, 156296, by decide⟩,
  ⟨up.setFld SYS_CLKSTAT.LREF_OK 3, 1, 156297, by decide⟩⟩

/-- Meets the hypotheses of ClocksRailsAndDomainsFollowTheirEvents, clauses with hypotheses 13 to 18. -/
theorem witness_ClocksRailsAndDomainsFollowTheirEvents_3 :
  (∃ (s : State),
    (s.on SYS_AONCTL.OSC_EN = true)) ∧
  (∃ (s : State),
    (s.on SYS_AONCTL.OSC_EN = false)) ∧
  (∃ (s : State),
    (s.on SYS_CLKSTAT.OSC_OK = true)) ∧
  (∃ (s : State),
    (s.on SYS_CLKSTAT.OSC_OK = false)) ∧
  (∃ (s : State),
    (s.railOk 7 = true)) ∧
  (∃ (s : State),
    (s.railOk 6 = true)) :=
  ⟨⟨up.setFld SYS_AONCTL.OSC_EN 1, by decide⟩,
  ⟨up.setFld SYS_AONCTL.OSC_EN 0, by decide⟩,
  ⟨up.setFld SYS_CLKSTAT.OSC_OK 1, by decide⟩,
  ⟨up.setFld SYS_CLKSTAT.OSC_OK 0, by decide⟩,
  ⟨up.setFld SYS_SUPSTAT.RAIL_OK 255, by decide⟩,
  ⟨{ up.setFld SYS_SUPSTAT.RAIL_OK 255 with sys := { up.sys with por := false } }, by decide⟩⟩

/-- Meets the hypotheses of ClocksRailsAndDomainsFollowTheirEvents, clauses with hypotheses 19 to 24. -/
theorem witness_ClocksRailsAndDomainsFollowTheirEvents_4 :
  (∃ (s : State),
    (s.sys.held = false)) ∧
  (∃ (s : State),
    (s.pulseBroken.sys.held = true)) ∧
  (∃ (s : State),
    (s.railOk 5 = true)) ∧
  (∃ (s : State) (r : Fin 8),
    (s.railOk r = true) ∧ (r.val < 5)) ∧
  (∃ (s : State) (r : Nat),
    (r ≠ 4)) ∧
  (∃ (s : State) (r : Fin 8),
    (s.railOk r = false)) :=
  ⟨⟨{ upJob with sys := { upJob.sys with por := false } }, by decide⟩,
  ⟨{ State.reset with sys := { State.reset.sys with por := false } }, by decide⟩,
  ⟨up.setFld SYS_SUPSTAT.RAIL_OK 255, by decide⟩,
  ⟨{ up.setFld SYS_SUPSTAT.RAIL_OK 255 with sys := { up.sys with por := false } }, 4, by decide⟩,
  ⟨up, 1, by decide⟩,
  ⟨up.setFld SYS_SUPSTAT.RAIL_OK 127, 7, by decide⟩⟩

/-- Meets the hypotheses of ClocksRailsAndDomainsFollowTheirEvents, clauses with hypotheses 25 to 30. -/
theorem witness_ClocksRailsAndDomainsFollowTheirEvents_5 :
  (∃ (s : State) (c k : Nat) (h : Word),
    (s.sys.vddLost = some (c, k, h))) ∧
  (∃ (s : State),
    (s.sys.vddLost = none)) ∧
  (∃ (s : State) (o : Sender) (w : Word) (y d : Nat),
    (s.reaches o SYS_PDCTL = true) ∧ (s.pdWhy (SYS_PDCTL.KEY.ext w) (SYS_PDCTL.REQ.ext w) = some (y, d))) ∧
  (∃ (s : State) (o : Sender) (w : Word) (d : Nat) (rest : List Nat),
    (s.reaches o SYS_PDCTL = true) ∧ (s.pdWhy (SYS_PDCTL.KEY.ext w) (SYS_PDCTL.REQ.ext w) = none) ∧ ((List.range' 4
      6).filter (fun k => (s.pdState k == 2) != (SYS_PDCTL.REQ.ext w).testBit (k - 4)) = d :: rest)) ∧
  (∃ (s : State) (o : Sender) (w : Word),
    (s.reaches o SYS_PDCTL = true) ∧ (s.pdWhy (SYS_PDCTL.KEY.ext w) (SYS_PDCTL.REQ.ext w) = none) ∧ ((List.range' 4
      6).filter (fun k => (s.pdState k == 2) != (SYS_PDCTL.REQ.ext w).testBit (k - 4)) = [])) ∧
  (∃ (s : State) (r d : Nat),
    (s.pdState d = 2) ∧ (r.testBit (d - 4) = false)) :=
  ⟨⟨{ State.reset with sys := { State.reset.sys with por := false, vddLost := some (2, 0, 5) } }, 2, 0, 5, by decide⟩,
  ⟨up, by decide⟩,
  ⟨up, .host, 0, 1, 0, by decide⟩,
  ⟨(up.setPd 6 0).setFld SYS_SUPSTAT.RAIL_OK 255, .host, putFields 0 [(SYS_PDCTL.KEY, 0xC3), (SYS_PDCTL.REQ, 63)], 6,
    [], by decide⟩,
  ⟨up.setFld SYS_SUPSTAT.RAIL_OK 255, .host, putFields 0 [(SYS_PDCTL.KEY, 0xC3), (SYS_PDCTL.REQ, 63)], by decide⟩,
  ⟨up, 0, 6, by decide⟩⟩

/-- Meets the hypotheses of ClocksRailsAndDomainsFollowTheirEvents, clauses with hypotheses 31 to 36. -/
theorem witness_ClocksRailsAndDomainsFollowTheirEvents_6 :
  (∃ (s : State) (r d : Nat),
    (s.pdState d = 0) ∧ (r.testBit (d - 4) = true)) ∧
  (∃ (s : State) (r k : Nat),
    ((k ≠ 0xC3 ∨ s.pdBusy = true ∨ s.on BIST_STAT.STATE = true))) ∧
  (∃ (s : State) (f : Fld) (d y : Nat),
    (s.on SYS_PWRFLAG.PD_REJ = false) ∧ (s.on SYS_PWRFLAG.PD_FAIL = false)) ∧
  (∃ (s : State) (f : Fld) (d y : Nat),
    ((s.on SYS_PWRFLAG.PD_REJ = true ∨ s.on SYS_PWRFLAG.PD_FAIL = true))) ∧
  (∃ (s : State) (d : Nat),
    (d ≠ 4) ∧ (d ≠ 7) ∧ (d ≠ 8)) ∧
  (∃ (s : State) (d : Fin 10),
    (s.awake = true)) :=
  ⟨⟨up.setPd 6 0, 63, 6, by decide⟩,
  ⟨up, 63, 0, by decide⟩,
  ⟨up, SYS_PWRFLAG.PD_REJ, 4, 7, by decide⟩,
  ⟨up.setFld SYS_PWRFLAG.PD_REJ 1, SYS_PWRFLAG.PD_REJ, 4, 7, by decide⟩,
  ⟨up, 6, by decide⟩,
  ⟨up.setPd 9 1, 9, by decide⟩⟩

/-- Meets the hypotheses of ClocksRailsAndDomainsFollowTheirEvents, clauses with hypotheses 37 to 42. -/
theorem witness_ClocksRailsAndDomainsFollowTheirEvents_7 :
  (∃ (s : State) (d : Nat),
    (s.pdState d = 1) ∧ (s.sys.held = false) ∧ (s.pdTurn d = true)) ∧
  (∃ (s : State) (d : Nat),
    ((s.pdState d ≠ 1 ∨ s.sys.held = true ∨ s.pdTurn d = false))) ∧
  (∃ (s : State) (d k : Nat),
    (4 ≤ k) ∧ (k < d) ∧ (s.pdState k = 1)) ∧
  (∃ (s : State) (d : Fin 10),
    (s.pdState d = 3)) ∧
  (∃ (s : State) (d : Fin 10),
    (s.pdState d ≠ 3)) ∧
  (∃ (s : State) (d : Fin 10),
    (s.awake = true)) :=
  ⟨⟨up.setPd 9 1, 9, by decide⟩,
  ⟨(up.setPd 9 1).setPd 8 1, 9, by decide⟩,
  ⟨up.setPd 8 1, 9, 8, by decide⟩,
  ⟨up.setPd 9 3, 9, by decide⟩,
  ⟨up, 9, by decide⟩,
  ⟨up.setPd 9 1, 9, by decide⟩⟩

/-- Meets the hypotheses of ClocksRailsAndDomainsFollowTheirEvents, clauses with hypotheses 43 to 48. -/
theorem witness_ClocksRailsAndDomainsFollowTheirEvents_8 :
  (∃ (s : State) (d : Nat),
    (s.pdState d = 1) ∧ (4 ≤ d)) ∧
  (∃ (s : State) (d : Nat),
    (s.pdState d = 1) ∧ (d < 4)) ∧
  (∃ (s : State) (d : Nat),
    (s.pdState d ≠ 1)) ∧
  (∃ (s : State) (d : Nat) (rest : List Nat),
    (s.sys.pdQueue = d :: rest)) ∧
  (∃ (s : State),
    (s.sys.pdQueue = []) ∧ (s.sys.pdReq = true)) ∧
  (∃ (s : State),
    (s.sys.pdQueue = []) ∧ (s.sys.pdReq = false)) :=
  ⟨⟨(up.setPd 9 1).setFld SYS_PDCTL.REQ 63, 9, by decide⟩,
  ⟨up.setPd 2 1, 2, by decide⟩,
  ⟨up, 9, by decide⟩,
  ⟨{ up with sys := { up.sys with pdQueue := [6] } }, 6, [], by decide⟩,
  ⟨{ up with sys := { up.sys with pdReq := true } }, by decide⟩,
  ⟨up, by decide⟩⟩

/-- Meets the hypotheses of SpotterWatchesAndFailsOver, clauses with hypotheses 1 to 6. -/
theorem witness_SpotterWatchesAndFailsOver_1 :
  (∃ (s : State) (t : BitVec 16) (g : Nat),
    (s.reaches .warden WARD_HB = true) ∧ ((s.ward.first = true ∨ t.toNat = (s.fld WARD_STAT.HB_LAST + 1) % 65536))) ∧
  (∃ (s : State) (t : Nat),
    (s.sstate ≠ 1) ∧ (s.ward.swapWait = false)) ∧
  (∃ (s : State) (t : Nat),
    (s.sstate ≠ 1) ∧ (s.ward.swapWait = true)) ∧
  (∃ (s : State) (t : Nat),
    (s.sstate = 1) ∧ (s.ward.swapWait = false)) ∧
  (∃ (s : State) (t : BitVec 16) (g : Nat),
    (s.reaches .warden WARD_HB = true) ∧ (s.ward.first = false) ∧ (t.toNat ≠ (s.fld WARD_STAT.HB_LAST + 1) % 65536) ∧
      (s.sstate ≠ 4)) ∧
  (∃ (s : State) (t : BitVec 16) (g : Nat),
    (s.reaches .warden WARD_HB = true) ∧ (s.ward.first = false) ∧ (t.toNat ≠ (s.fld WARD_STAT.HB_LAST + 1) % 65536) ∧
      (s.sstate = 4) ∧ (s.trigNow = false)) :=
  ⟨⟨up.setFld WARD_STAT.HB_LAST 65535, 0, 1, by decide⟩,
  ⟨up, 7, by decide⟩,
  ⟨up.wardUpd (fun w => { w with swapWait := true }), 7, by decide⟩,
  ⟨up.setFld WARD_STAT.SSTATE 1, 7, by decide⟩,
  ⟨(up.setFld WARD_STAT.HB_LAST 65535).wardUpd (fun w => { w with first := false }), 65535, 1, by decide⟩,
  ⟨((up.setFld WARD_STAT.HB_LAST 65535).wardUpd (fun w => { w with first := false })).setFld WARD_STAT.SSTATE 4,
    65535, 1, by decide⟩⟩

/-- Meets the hypotheses of SpotterWatchesAndFailsOver, clauses with hypotheses 7 to 12. -/
theorem witness_SpotterWatchesAndFailsOver_2 :
  (∃ (s : State),
    (s.awake = true) ∧ (s.ward.coreUp = true) ∧ (s.sstate = 0) ∧ (s.on WARD_ROLE.SB_OK = true)) ∧
  (∃ (s : State),
    ((s.ward.coreUp = false ∨ s.sstate ≠ 0 ∨ s.on WARD_ROLE.SB_OK = false))) ∧
  (∃ (s : State) (g : Nat),
    (s.awake = true) ∧ (s.ward.coreUp = true)) ∧
  (∃ (s : State) (g : Nat),
    (s.awake = true) ∧ (s.ward.coreUp = true)) ∧
  (∃ (s : State) (g : Nat),
    (s.ward.coreUp = false) ∧ (s.trigNow = false)) ∧
  (∃ (s : State) (g : Nat),
    (s.awake = true) ∧ (s.relStalled = true)) :=
  ⟨⟨up.setFld WARD_ROLE.SB_OK 1, by decide⟩,
  ⟨up.setFld WARD_ROLE.SB_OK 0, by decide⟩,
  ⟨up, 5, by decide⟩,
  ⟨up, 5, by decide⟩,
  ⟨up.wardUpd (fun w => { w with coreUp := false }), 5, by decide⟩,
  ⟨((up.setFld WARD_POLICY.REL_TMO 1).setFld SYS_JOBQ_CTL.ENABLE 1).jqUpd (fun q => { q with q := [.job 1 wDesc false] }),
    5, by decide⟩⟩

/-- Meets the hypotheses of SpotterWatchesAndFailsOver, clauses with hypotheses 13 to 18. -/
theorem witness_SpotterWatchesAndFailsOver_3 :
  (∃ (s : State) (g : Nat),
    (s.relStalled = false)) ∧
  (∃ (s : State) (d : JobDesc) (j : Nat) (rest : List QEnt),
    (s.on WARD_POLICY.REL_TMO = true) ∧ (s.on SYS_JOBQ_CTL.ENABLE = true) ∧ (s.jobState = 0) ∧ (s.jq.q = .job j d false
      :: rest)) ∧
  (∃ (s : State) (p : Bool),
    (s.awake = true)) ∧
  (∃ (s : State) (r g : Nat),
    ((s.sstate = 0 ∨ s.sstate = 1)) ∧ (s.trigNow = false)) ∧
  (∃ (s : State) (r g : Nat),
    (s.sstate ≠ 0) ∧ (s.sstate ≠ 1) ∧ (s.trigNow = false)) ∧
  (∃ (s : State) (g : Nat),
    (s.awake = true) ∧ (s.trigNow = true)) :=
  ⟨⟨up, 5, by decide⟩,
  ⟨((up.setFld WARD_POLICY.REL_TMO 1).setFld SYS_JOBQ_CTL.ENABLE 1).jqUpd (fun q => { q with q := [.job 1 wDesc false] }),
    wDesc, 1, [], by decide⟩,
  ⟨up, true, by decide⟩,
  ⟨(up.setFld WARD_POLICY.ESC_ACT 1).setFld WARD_ROLE.SB_OK 0, 3, 0, by decide⟩,
  ⟨up.setFld WARD_STAT.SSTATE 4, 3, 0, by decide⟩,
  ⟨((up.setFld WARD_STAT.SSTATE 2).wardUpd fun w => { w with coreUp := false, trig := some (up.cycle, true) }), 5, by decide⟩⟩

/-- Meets the hypotheses of SpotterWatchesAndFailsOver, clauses with hypotheses 19 to 24. -/
theorem witness_SpotterWatchesAndFailsOver_4 :
  (∃ (s : State) (r g : Nat),
    (s.trigNow = true)) ∧
  (∃ (s : State),
    ((s.sstate = 2 ∨ s.sstate = 4))) ∧
  (∃ (s : State) (r : Nat),
    (s.sstate = 2) ∧ (r < 16)) ∧
  (∃ (s : State) (r : Nat) (q : List FlogEnt) (e : FlogEnt),
    (s.ward.trig.any (·.2) = true) ∧ (s.ward.flogQ = q ++ [e]) ∧ ((e.kind = 2 ∨ e.kind = 3))) ∧
  (∃ (s : State) (r : Nat),
    (r < 16)) ∧
  (∃ (s : State) (d : Nat) (p : Bool),
    (s.awake = true) ∧ (s.sstate = 2) ∧ (s.pdState s.sbDomain = 2) ∧ (s.cfg.pulse = none) ∧ (s.sys.core = none)) :=
  ⟨⟨((up.setFld WARD_STAT.SSTATE 4).wardUpd fun w => { w with trig := some (up.cycle, true) }), 3, 0, by decide⟩,
  ⟨up.setFld WARD_STAT.SSTATE 4, by decide⟩,
  ⟨(((up.setFld WARD_STAT.SSTATE 2).setFld WARD_LASTFO.REASON 5).wardUpd fun w => { w with trig := some (up.cycle, true) }),
    3, by decide⟩,
  ⟨(up.wardUpd fun w => { w with trig := some (up.cycle, true), flogQ := [⟨2, 4, 0, 0, 0⟩] }), 3, [], ⟨2, 4, 0, 0, 0⟩,
    by decide⟩,
  ⟨(up.setPd 2 0).setFld WARD_CKPTSTAT.SEALING 1 1, 5, by decide⟩,
  ⟨(up.setFld WARD_STAT.SSTATE 2).setPd 2 2, 0, true, by decide⟩⟩

/-- Meets the hypotheses of SpotterWatchesAndFailsOver, clauses with hypotheses 25 to 30. -/
theorem witness_SpotterWatchesAndFailsOver_5 :
  (∃ (s : State) (d : Nat) (p : Bool),
    (s.awake = true) ∧ (s.sstate = 2) ∧ (s.pdState s.sbDomain = 2) ∧ (s.cfg.pulse = none) ∧ (s.sys.core.isSome = true)) ∧
  (∃ (s : State) (d : Nat) (p : Bool),
    ((s.sstate ≠ 2 ∨ s.pdState s.sbDomain ≠ 2 ∨ s.cfg.pulse.isSome = true))) ∧
  (∃ (s : State) (ws : List (BitVec 24 × Word)),
    (s.awake = true) ∧ ((s.sstate = 2 ∨ s.sstate = 3)) ∧ (s.on WARD_STAT.ISO_DONE = false)) ∧
  (∃ (s : State) (ws : List (BitVec 24 × Word)),
    (((s.sstate ≠ 2 ∧ s.sstate ≠ 3) ∨ s.on WARD_STAT.ISO_DONE = true))) ∧
  (∃ (s : State) (a : Nat) (w : Word),
    ((a = TXN_CMD.base ∨ a = TXN_ARM.base))) ∧
  (∃ (s : State) (a : Nat) (w : Word),
    (0x280000 ≤ a) ∧ (a < 0x2C0000) ∧ ((regRow? a).isSome = true)) :=
  ⟨⟨{ (up.setFld WARD_STAT.SSTATE 2).setPd 2 2 with sys := { up.sys with core := some false } }, 0, true, by decide⟩,
  ⟨up, 0, true, by decide⟩,
  ⟨(up.setFld WARD_STAT.SSTATE 3).setFld WARD_STAT.ISO_DONE 0, [(0x040000, 4)], by decide⟩,
  ⟨up, [(0x040000, 4)], by decide⟩,
  ⟨up, TXN_CMD.base, 1, by decide⟩,
  ⟨up, WARD_CKPT.base, 1, by decide⟩⟩

/-- Meets the hypotheses of SpotterWatchesAndFailsOver, clauses with hypotheses 31 to 35. -/
theorem witness_SpotterWatchesAndFailsOver_6 :
  (∃ (s : State) (a : Nat) (w : Word),
    (regRow? a = none)) ∧
  (∃ (s : State) (a b : Bool),
    (s.awake = true) ∧ (s.ward.verify = true) ∧ (s.ward.coreUp = true) ∧ (s.on WARD_CKPTSTAT.VALID 0 = false) ∧ (s.on
      WARD_CKPTSTAT.VALID 1 = false)) ∧
  (∃ (s : State) (a b : Bool),
    (s.awake = true) ∧ (s.ward.verify = true) ∧ (s.ward.coreUp = true)) ∧
  (∃ (s : State) (a b : Bool),
    ((s.ward.verify = false ∨ s.ward.coreUp = false))) ∧
  (∃ (q0 q1 : Nat),
    (q0 < 2 ^ 32) ∧ (q1 < 2 ^ 32)) :=
  ⟨⟨up, 0xFFFFFF, 1, by decide⟩,
  ⟨up.wardUpd (fun w => { w with verify := true }), true, false, by decide⟩,
  ⟨up.wardUpd (fun w => { w with verify := true }), false, false, by decide⟩,
  ⟨up, true, false, by decide⟩,
  ⟨4294967295, 0, by decide⟩⟩

/-- Meets the hypotheses of CheckpointsSwapsAndTheFaultLog, clauses with hypotheses 1 to 6. -/
theorem witness_CheckpointsSwapsAndTheFaultLog_1 :
  (∃ (s : State) (c : Fin 2),
    (s.reaches .warden WARD_CKPT = true) ∧ (s.on WARD_CKPTSTAT.SEALING 0 = false) ∧ (s.on WARD_CKPTSTAT.SEALING 1 =
      false) ∧ ((s.on WARD_CKPTSTAT.VALID c = false ∨ s.on WARD_CKPTSTAT.VALID (1 - c.val) = true))) ∧
  (∃ (s : State) (c : Fin 2),
    (s.reaches .warden WARD_CKPT = true) ∧ ((s.on WARD_CKPTSTAT.SEALING 0 = true ∨ s.on WARD_CKPTSTAT.SEALING 1 = true ∨
      (s.on WARD_CKPTSTAT.VALID c = true ∧ s.on WARD_CKPTSTAT.VALID (1 - c.val) = false)))) ∧
  (∃ (s : State) (c : Fin 2),
    (s.awake = true) ∧ (s.on WARD_CKPTSTAT.SEALING c = true)) ∧
  (∃ (s : State) (c : Fin 2),
    (s.on WARD_CKPTSTAT.SEALING c = false)) ∧
  (∃ (s : State),
    (s.reaches .host WARD_SWAP = true)) ∧
  (∃ (s : State) (k : BitVec 8),
    (s.reaches .host WARD_SWAP = true) ∧ (k ≠ 0x3C)) :=
  ⟨⟨up, 1, by decide⟩,
  ⟨up.setFld WARD_CKPTSTAT.VALID 1 1, 1, by decide⟩,
  ⟨up.setFld WARD_CKPTSTAT.SEALING 1 1, 1, by decide⟩,
  ⟨up.setFld WARD_CKPTSTAT.SEALING 1 1, 0, by decide⟩,
  ⟨(up.setFld WARD_ROLE.SB_STATE 4).setPd 2 0, by decide⟩,
  ⟨up, 0x3D, by decide⟩⟩

/-- Meets the hypotheses of CheckpointsSwapsAndTheFaultLog, clauses with hypotheses 7 to 12. -/
theorem witness_CheckpointsSwapsAndTheFaultLog_2 :
  (∃ (s : State) (x : Bool),
    (s.sstate = 0) ∧ ((s.sbState = 0 ∨ s.sbState = 4 ∨ s.sbState = 5 ∨ (s.sbState = 6 ∧ x = false)))) ∧
  (∃ (s : State) (x : Bool),
    ((s.sstate ≠ 0 ∨ s.sbState ∉ [0, 4, 5, 6] ∨ (s.sbState = 6 ∧ x = true)))) ∧
  (∃ (s : State),
    (s.pdState s.sbDomain ≠ 1) ∧ (s.pdState s.sbDomain ≠ 2)) ∧
  (∃ (s : State),
    ((s.pdState s.sbDomain = 1 ∨ s.pdState s.sbDomain = 2))) ∧
  (∃ (s : State) (d : Nat),
    (s.sbState = 1) ∧ (d = s.sbDomain)) ∧
  (∃ (s : State) (d : Nat),
    ((s.sbState ≠ 1 ∨ d ≠ s.sbDomain))) :=
  ⟨⟨(up.setFld WARD_ROLE.SB_STATE 6).setPd 2 0, false, by decide⟩,
  ⟨up.setFld WARD_ROLE.SB_STATE 6, true, by decide⟩,
  ⟨up.setPd 2 0, by decide⟩,
  ⟨up, by decide⟩,
  ⟨(up.setFld WARD_ROLE.SB_STATE 1).setPd 2 0, 2, by decide⟩,
  ⟨up.setPd 2 0, 2, by decide⟩⟩

/-- Meets the hypotheses of CheckpointsSwapsAndTheFaultLog, clauses with hypotheses 13 to 18. -/
theorem witness_CheckpointsSwapsAndTheFaultLog_3 :
  (∃ (s : State) (p : Bool),
    (s.sbDomain ∈ s.bist.spot)) ∧
  (∃ (s : State) (p : Bool),
    (¬s.sbDomain ∈ s.bist.spot) ∧ (s.sbState = 2)) ∧
  (∃ (s : State),
    (s.reaches .host WARD_SWAP = true) ∧ (s.sstate = 4)) ∧
  (∃ (s : State),
    (s.reaches .host WARD_SWAP = true) ∧ (s.sstate ≠ 4)) ∧
  (∃ (s : State),
    (s.reaches .warden WARD_CTL = true) ∧ (s.on WARD_STAT.SWAP_REQ = true) ∧ (s.sstate ≤ 1)) ∧
  (∃ (s : State),
    (s.reaches .warden WARD_CTL = true) ∧ ((s.on WARD_STAT.SWAP_REQ = false ∨ 1 < s.sstate))) :=
  ⟨⟨(up.setFld WARD_ROLE.SB_STATE 2).bistUpd (fun b => { b with spot := [up.sbDomain] }), true, by decide⟩,
  ⟨up.setFld WARD_ROLE.SB_STATE 2, true, by decide⟩,
  ⟨up.setFld WARD_STAT.SSTATE 4, by decide⟩,
  ⟨up.setFld WARD_STAT.SSTATE 1, by decide⟩,
  ⟨up.setFld WARD_STAT.SWAP_REQ 1, by decide⟩,
  ⟨up, by decide⟩⟩

/-- Meets the hypotheses of CheckpointsSwapsAndTheFaultLog, clauses with hypotheses 19 to 24. -/
theorem witness_CheckpointsSwapsAndTheFaultLog_4 :
  (∃ (s : State),
    (s.awake = true) ∧ (s.on WARD_STAT.SWAP_REQ = true)) ∧
  (∃ (s : State),
    (s.on WARD_STAT.SWAP_REQ = false)) ∧
  (∃ (s : State),
    (s.reaches .warden WARD_CTL = true)) ∧
  (∃ (s : State) (k : BitVec 8),
    (s.reaches .warden WARD_CTL = true) ∧ (k ≠ 0x5A)) ∧
  (∃ (s : State),
    (s.awake = true) ∧ (s.sbState = 3)) ∧
  (∃ (s : State) (r : BitVec 8),
    (s.awake = true) ∧ (s.sbState = 3) ∧ (r ≠ 0)) :=
  ⟨⟨up.setFld WARD_STAT.SWAP_REQ 1, by decide⟩,
  ⟨up, by decide⟩,
  ⟨up, by decide⟩,
  ⟨up, 0x5B, by decide⟩,
  ⟨(up.setFld WARD_ROLE.SB_STATE 3).wardUpd (fun w => { w with op := some true }), by decide⟩,
  ⟨up.setFld WARD_ROLE.SB_STATE 3, 1, by decide⟩⟩

/-- Meets the hypotheses of CheckpointsSwapsAndTheFaultLog, clauses with hypotheses 25 to 30. -/
theorem witness_CheckpointsSwapsAndTheFaultLog_5 :
  (∃ (s : State),
    (s.awake = true) ∧ (s.sbState = 3)) ∧
  (∃ (s : State) (r : BitVec 8),
    (s.sbState ≠ 3)) ∧
  (∃ (s : State) (e : FlogEnt) (rest : List FlogEnt),
    (s.ward.flogQ = e :: rest) ∧ (s.cfg.pulse = none) ∧ (s.fld WARD_FLOG.NEXT % 512 = 0) ∧ (s.ward.flogErased = false)) ∧
  (∃ (s : State) (e : FlogEnt) (rest : List FlogEnt),
    (s.ward.flogQ = e :: rest) ∧ (s.cfg.pulse = none) ∧ ((s.fld WARD_FLOG.NEXT % 512 ≠ 0 ∨ s.ward.flogErased = true))) ∧
  (∃ (s : State),
    ((s.ward.flogQ = [] ∨ s.cfg.pulse.isSome = true))) ∧
  (∃ (s : State) (o : Sender),
    (s.reaches o WARD_LDATA = true) ∧ (s.on WARD_LIDX.AUTOINC = true)) :=
  ⟨⟨up.setFld WARD_ROLE.SB_STATE 3, by decide⟩,
  ⟨up, 1, by decide⟩,
  ⟨(up.setFld WARD_FLOG.NEXT 4096).wardUpd (fun w => { w with flogQ := [⟨2, 1, 5, 6, 7⟩] }), ⟨2, 1, 5, 6, 7⟩, [], by decide⟩,
  ⟨(up.setFld WARD_FLOG.NEXT 8188).wardUpd (fun w => { w with flogQ := [⟨2, 1, 5, 6, 7⟩] }), ⟨2, 1, 5, 6, 7⟩, [], by decide⟩,
  ⟨up, by decide⟩,
  ⟨(up.setFld WARD_LIDX.AUTOINC 1).setFld WARD_LIDX.WORD 65535, .host, by decide⟩⟩

/-- Meets the hypotheses of CheckpointsSwapsAndTheFaultLog, clauses with hypotheses 31 to 31. -/
theorem witness_CheckpointsSwapsAndTheFaultLog_6 :
  (∃ (s : State) (o : Sender),
    (s.reaches o WARD_LDATA = true) ∧ (s.on WARD_LIDX.AUTOINC = false)) :=
  ⟨up, .host, by decide⟩

/-- Meets the hypotheses of AxesTakeAndMakeMoves, clauses with hypotheses 1 to 6. -/
theorem witness_AxesTakeAndMakeMoves_1 :
  (∃ (s : State) (o : Sender) (n : Fin 8) (w : Word),
    (s.reaches o MOT_QW2 n = true) ∧ (s.blkHeld (60 + n) = false) ∧ ((s.axis n).queue.length < 16) ∧ ((s.reg MOT_QW0
      n).toNat % 2 ^ 12 = 0) ∧ ((s.reg MOT_QW1 n).toNat % 2 ^ 8 = 0) ∧ (w.toNat % 2 ^ 16 = 0)) ∧
  (∃ (s : State) (o : Sender) (n : Fin 8) (w : Word),
    (s.reaches o MOT_QW2 n = true) ∧ (s.blkHeld (60 + n) = false) ∧ (16 ≤ (s.axis n).queue.length)) ∧
  (∃ (s : State) (o : Sender) (n : Fin 8) (w : Word),
    (s.reaches o MOT_QW2 n = true) ∧ (s.blkHeld (60 + n) = false) ∧ ((s.axis n).queue.length < 16) ∧ (((s.reg MOT_QW0
      n).toNat % 2 ^ 12 ≠ 0 ∨ (s.reg MOT_QW1 n).toNat % 2 ^ 8 ≠ 0 ∨ w.toNat % 2 ^ 16 ≠ 0))) ∧
  (∃ (s : State) (o : Sender) (n : Fin 8) (w : Word),
    (s.reaches o MOT_QW2 n = true) ∧ (s.blkHeld (60 + n) = true)) ∧
  (∃ (s : State) (o : Sender) (n : Fin 8),
    (s.reaches o MOT_CMD n = true) ∧ (s.blkHeld (60 + n) = true)) ∧
  (∃ (s : State) (o : Sender) (n : Fin 8),
    (s.reaches o MOT_CMD n = true) ∧ (s.blkHeld (60 + n) = false) ∧ (s.astate n = 2)) :=
  ⟨⟨up.setReg MOT_QW0 0xFFFFFFF000 7, .host, 7, 0xFFFFFF0000, by decide⟩,
  ⟨up.setAxis 7 { Axis.reset with queue := List.replicate 16 ⟨false, false, false, false, 1, 1, 0⟩ }, .host, 7, 0, by decide⟩,
  ⟨up, .host, 7, 1, by decide⟩,
  ⟨(up.blockAssert 67).blockDrained 67 0, .host, 7, 1, by decide⟩,
  ⟨(up.blockAssert 67).blockDrained 67 0, .host, 7, by decide⟩,
  ⟨(up.setAxis 7 { Axis.reset with queue := [⟨false, false, true, false, 1, 1, 0⟩] }).setAstate 7 2, .host, 7, by decide⟩⟩

/-- Meets the hypotheses of AxesTakeAndMakeMoves, clauses with hypotheses 7 to 12. -/
theorem witness_AxesTakeAndMakeMoves_2 :
  (∃ (s : State) (o : Sender) (n : Fin 8),
    (s.reaches o MOT_CMD n = true) ∧ (s.blkHeld (60 + n) = false) ∧ (s.astate n ≠ 2) ∧ (s.on MOT_STAT.PEND n = false)) ∧
  (∃ (s : State) (o : Sender) (n : Fin 8),
    (s.reaches o MOT_CMD n = true) ∧ (s.blkHeld (60 + n) = false) ∧ (s.astate n ≠ 2) ∧ (s.on MOT_STAT.PEND n = true)) ∧
  (∃ (s : State) (o : Sender) (n : Fin 8),
    (s.reaches o MOT_CMD n = true) ∧ (s.blkHeld (60 + n) = false) ∧ (s.astate n = 3)) ∧
  (∃ (s : State) (o : Sender) (n : Fin 8),
    (s.reaches o MOT_CMD n = true) ∧ (s.blkHeld (60 + n) = false) ∧ (s.astate n = 2)) ∧
  (∃ (s : State) (o : Sender) (n : Fin 8),
    (s.reaches o MOT_CMD n = true) ∧ (s.blkHeld (60 + n) = false) ∧ (s.astate n ≠ 2) ∧ (s.astate n ≠ 3)) ∧
  (∃ (s : State) (o : Sender) (n : Fin 8),
    (s.reaches o MOT_CMD n = true) ∧ (s.blkHeld (60 + n) = false) ∧ (s.axisUp n = true)) :=
  ⟨⟨up, .host, 7, by decide⟩,
  ⟨up.setFld MOT_STAT.PEND 1 7, .host, 7, by decide⟩,
  ⟨up.setAstate 7 3, .host, 7, by decide⟩,
  ⟨up.setAstate 7 2, .host, 7, by decide⟩,
  ⟨up, .host, 7, by decide⟩,
  ⟨up.setAstate 7 3, .host, 7, by decide⟩⟩

/-- Meets the hypotheses of AxesTakeAndMakeMoves, clauses with hypotheses 13 to 18. -/
theorem witness_AxesTakeAndMakeMoves_3 :
  (∃ (s : State) (o : Sender) (n : Fin 8),
    (s.reaches o MOT_CMD n = true) ∧ (s.blkHeld (60 + n) = false) ∧ (s.axisUp n = false)) ∧
  (∃ (s : State) (o : Sender) (n : Fin 8),
    (s.reaches o MOT_CMD n = true) ∧ (s.blkHeld (60 + n) = false)) ∧
  (∃ (s : State) (o : Sender) (n : Fin 8) (w : Word),
    (s.reaches o MOT_AXCFG n = true)) ∧
  (∃ (s : State) (o : Sender) (n : Fin 8) (w : Word),
    (s.reaches o MOT_AXCFG n = true) ∧ (s.unguarded o MOT_AXCFG n w = true)) ∧
  (∃ (s : State) (n : Nat) (u : State),
    (u = s.setFld MOT_AXCFG.EN 1 n)) ∧
  (∃ (s : State) (o : Sender) (n : Fin 8) (w : Word),
    (s.reaches o MOT_POS n = true) ∧ (s.astate n = 1)) :=
  ⟨⟨up, .host, 7, by decide⟩,
  ⟨up, .warden, 7, by decide⟩,
  ⟨up, .host, 7, 0xFFFFFFFFFF, by decide⟩,
  ⟨up.setFld MOT_AXCFG.MODE 1 7, .host, 7, putFields ((up.setFld MOT_AXCFG.MODE 1 7).reg MOT_AXCFG 7) [(MOT_AXCFG.EN,
    1)], by decide⟩,
  ⟨up.setFld MOT_AXCFG.MODE 2 7, 7, (up.setFld MOT_AXCFG.MODE 2 7).setFld MOT_AXCFG.EN 1 7, by decide +kernel⟩,
  ⟨up.setAstate 7 1, .host, 7, 0xFFFFFFFFFF, by decide⟩⟩

/-- Meets the hypotheses of AxesTakeAndMakeMoves, clauses with hypotheses 19 to 24. -/
theorem witness_AxesTakeAndMakeMoves_4 :
  (∃ (s : State) (o : Sender) (n : Fin 8) (w : Word),
    (s.reaches o MOT_POS n = true) ∧ (s.astate n ≠ 1)) ∧
  (∃ (s : State) (n : Fin 8) (r : MoveRun),
    (s.awake = true) ∧ (s.astate n = 3) ∧ ((s.axis n).run = some r) ∧ (2 ≤ r.left) ∧ (s.atLimit n r.m.dir = false)) ∧
  (∃ (s : State) (n : Fin 8) (r : MoveRun),
    (s.awake = true) ∧ (s.astate n = 3) ∧ ((s.axis n).run = some r) ∧ (r.left = 1) ∧ (s.atLimit n r.m.dir = false)) ∧
  (∃ (s : State) (n : Fin 8) (r : MoveRun),
    (s.awake = true) ∧ (s.astate n = 3) ∧ ((s.axis n).run = some r) ∧ (r.left = 0)) ∧
  (∃ (s : State) (n : Fin 8) (r : MoveRun),
    (s.awake = true) ∧ (s.astate n = 3) ∧ ((s.axis n).run = some r) ∧ (0 < r.left) ∧ (s.atLimit n r.m.dir = true)) ∧
  (∃ (s : State) (n : Fin 8),
    ((s.astate n ≠ 3 ∨ (s.axis n).run = none))) :=
  ⟨⟨up, .host, 7, 0xFFFFFFFFFF, by decide⟩,
  ⟨(up.setAxis 7 { Axis.reset with run := some ⟨⟨true, false, false, false, 2, 9, -1⟩, 2, 256 * 90, 0, 90⟩ }).setAstate
    7 3, 7, ⟨⟨true, false, false, false, 2, 9, -1⟩, 2, 256 * 90, 0, 90⟩, by decide⟩,
  ⟨(up.setAxis 7 { Axis.reset with run := some ⟨⟨false, false, false, true, 2, 9, -1⟩, 1, 256 * 90, 0, 90⟩ }).setAstate
    7 3, 7, ⟨⟨false, false, false, true, 2, 9, -1⟩, 1, 256 * 90, 0, 90⟩, by decide⟩,
  ⟨(up.setAxis 7 { Axis.reset with run := some ⟨⟨false, false, false, true, 0, 9, 0⟩, 0, 256 * 90, 0, 90⟩ }).setAstate
    7 3, 7, ⟨⟨false, false, false, true, 0, 9, 0⟩, 0, 256 * 90, 0, 90⟩, by decide⟩,
  ⟨((up.setAxis 7 { Axis.reset with limHigh := false, run := some ⟨⟨true, false, false, false, 2, 9, -1⟩, 2, 256 * 90, 0, 90⟩ }).setAstate
    7 3).setFld MOT_STALL.LIM_DIR 1 7, 7, ⟨⟨true, false, false, false, 2, 9, -1⟩, 2, 256 * 90, 0, 90⟩, by decide⟩,
  ⟨up, 7, by decide⟩⟩

/-- Meets the hypotheses of AxesTakeAndMakeMoves, clauses with hypotheses 25 to 30. -/
theorem witness_AxesTakeAndMakeMoves_5 :
  (∃ (s : State) (n : Nat) (m : Move) (left : Nat) (a : Int) (f : Nat),
    (s.minIvl n * 256 ≤ (2 ^ 24 - 1) * 256) ∧ (m.nstep ≠ 0)) ∧
  (∃ (s : State) (n : Nat) (m : Move) (a : Int) (f : Nat),
    (m.nstep = 0)) ∧
  (∃ (s : State) (n : Nat) (j : Option Bool),
    ((s.axis n).queue = [])) ∧
  (∃ (s : State) (n : Nat) (j : Option Bool) (m : Move) (rest : List Move),
    ((s.axis n).queue = m :: rest)) ∧
  (∃ (s : State) (n : Fin 8),
    (s.awake = true) ∧ (0 < (s.axis n).markDue)) ∧
  (∃ (s : State) (n : Fin 8),
    ((s.axis n).markDue = 0)) :=
  ⟨⟨up.setFld MOT_AXCFG.MIN_IVL 9 7, 7, ⟨true, false, false, false, 2, 9, -1⟩, 3, -5, 255, by decide⟩,
  ⟨up.setFld MOT_AXCFG.MIN_IVL 9 7, 7, ⟨false, false, false, true, 0, 9, 0⟩, 5, 255, by decide⟩,
  ⟨up, 7, none, by decide⟩,
  ⟨up.setAxis 7 { Axis.reset with queue := [⟨false, false, true, false, 1, 1, 0⟩] }, 7, none, ⟨false, false, true,
    false, 1, 1, 0⟩, [], by decide⟩,
  ⟨up.setAxis 7 { Axis.reset with markDue := 1 }, 7, by decide⟩,
  ⟨up, 7, by decide⟩⟩

/-- Meets the hypotheses of AxesTakeAndMakeMoves, clauses with hypotheses 31 to 31. -/
theorem witness_AxesTakeAndMakeMoves_6 :
  (∃ (s : State) (n : Fin 8) (r : MoveRun),
    (s.awake = true) ∧ (s.astate n = 3) ∧ ((s.axis n).run = some r) ∧ (r.left = 0) ∧ (((s.axis n).queue = [] ∨ (s.axis
      n).halting = true)) ∧ (r.ivl < s.fld MOT_AXCFG.SAFE_IVL n * 256)) :=
  ⟨((up.setFld MOT_AXCFG.SAFE_IVL 100 7).setAxis 7 { Axis.reset with halting := true, run := some ⟨⟨false, false, false, true, 0, 9, 0⟩, 0, 256 * 90, 0, 90⟩ }).setAstate
    7 3, 7, ⟨⟨false, false, false, true, 0, 9, 0⟩, 0, 256 * 90, 0, 90⟩, by decide⟩

/-- Meets the hypotheses of EmptyQueueAtSpeedIsSuspected. -/
theorem witness_EmptyQueueAtSpeedIsSuspected :
  (∃ (s : State) (n : Fin 8) (r : MoveRun),
    (s.awake = true) ∧ (s.astate n = 3) ∧ ((s.axis n).run = some r) ∧ (r.left = 1) ∧ (s.atLimit n r.m.dir = false) ∧
      (((s.axis n).queue = [] ∨ (s.axis n).halting = true)) ∧ (r.ivl < s.fld MOT_AXCFG.SAFE_IVL n * 256)) :=
  ⟨((up.setFld MOT_AXCFG.SAFE_IVL 100 7).setAxis 7 { Axis.reset with run := some ⟨⟨false, false, false, true, 2, 9, -1⟩, 1, 256 * 90, 0, 90⟩ }).setAstate
    7 3, 7, ⟨⟨false, false, false, true, 2, 9, -1⟩, 1, 256 * 90, 0, 90⟩, by decide⟩

/-- Meets the hypotheses of AxesAreSensedAndSwathsArmed, clauses with hypotheses 1 to 6. -/
theorem witness_AxesAreSensedAndSwathsArmed_1 :
  (∃ (s : State) (n : Fin 8),
    (s.awake = true) ∧ ((s.astate n = 1 ∨ s.astate n = 2)) ∧ ((s.axis n).ramp = none)) ∧
  (∃ (s : State) (n a g : Nat),
    ((s.axis n).ramp = some (a, g)) ∧ ((s.axis n).cur ≤ g)) ∧
  (∃ (s : State) (n a g : Nat),
    ((s.axis n).ramp = some (a, g)) ∧ (g ≤ (s.axis n).cur)) ∧
  (∃ (s : State) (n : Fin 8),
    (((s.astate n ≠ 1 ∧ s.astate n ≠ 2) ∨ (s.axis n).ramp ≠ none))) ∧
  (∃ (s : State) (n : Fin 8),
    (s.awake = true) ∧ (s.axisSenses n = true) ∧ (s.on MOT_STALL.STALL_EN n = true) ∧ (s.fld MOT_STALL.WINDOW n <
      (s.motDev n).natAbs)) ∧
  (∃ (s : State) (n : Fin 8),
    ((s.axisSenses n = false ∨ s.on MOT_STALL.STALL_EN n = false ∨ (s.motDev n).natAbs ≤ s.fld MOT_STALL.WINDOW n))) :=
  ⟨⟨up.setAstate 7 2, 7, by decide⟩,
  ⟨({ up with cycle := 600010 } : State).setAxis 7 { Axis.reset with cur := 3, ramp := some (10, 9) }, 7, 10, 9, by decide⟩,
  ⟨({ up with cycle := 600010 } : State).setAxis 7 { Axis.reset with cur := 9, ramp := some (10, 3) }, 7, 10, 3, by decide⟩,
  ⟨up.setAstate 7 3, 7, by decide⟩,
  ⟨((up.setAstate 7 3).setFld MOT_STALL.STALL_EN 1 7).setReg MOT_ENCCNT 0x8000000000 7, 7, by decide⟩,
  ⟨up.setFld MOT_STALL.STALL_EN 0 7, 7, by decide⟩⟩

/-- Meets the hypotheses of AxesAreSensedAndSwathsArmed, clauses with hypotheses 7 to 12. -/
theorem witness_AxesAreSensedAndSwathsArmed_2 :
  (∃ (s : State) (n : Fin 8),
    (s.awake = true) ∧ (s.axisSenses n = true) ∧ (s.axisUp n = true)) ∧
  (∃ (s : State) (n : Fin 8),
    (s.awake = true) ∧ (s.axisSenses n = true) ∧ (s.axisUp n = true) ∧ (s.fld MOT_AXCFG.MODE n = 1) ∧ ((s.fld
      MOT_CUR.RUN n ≤ 4 * (s.phaseTarget n 0).natAbs ∨ s.fld MOT_CUR.RUN n ≤ 4 * (s.phaseTarget n 1).natAbs))) ∧
  (∃ (s : State) (n : Fin 8),
    (s.axisUp n = true) ∧ ((s.fld MOT_AXCFG.MODE n ≠ 1 ∨ (4 * (s.phaseTarget n 0).natAbs < s.fld MOT_CUR.RUN n ∧ 4 *
      (s.phaseTarget n 1).natAbs < s.fld MOT_CUR.RUN n)))) ∧
  (∃ (s : State) (n : Fin 8),
    ((s.axisUp n = false ∨ s.axisSenses n = false))) ∧
  (∃ (s : State) (n : Fin 8),
    (s.awake = true) ∧ (s.axisSenses n = true) ∧ (s.axisUp n = true)) ∧
  (∃ (s : State) (n : Fin 8),
    (s.awake = true) ∧ (s.axisSenses n = true) ∧ (s.axisUp n = false)) :=
  ⟨⟨up.setAstate 7 1, 7, by decide⟩,
  ⟨((up.setAxis 7 { Axis.reset with cur := 100 }).setAstate 7 3).setFld MOT_AXCFG.MODE 1 7, 7, by decide⟩,
  ⟨(up.setAstate 7 3).setFld MOT_AXCFG.MODE 2 7, 7, by decide⟩,
  ⟨up, 7, by decide⟩,
  ⟨up.setAstate 7 2, 7, by decide⟩,
  ⟨up, 7, by decide⟩⟩

/-- Meets the hypotheses of AxesAreSensedAndSwathsArmed, clauses with hypotheses 13 to 18. -/
theorem witness_AxesAreSensedAndSwathsArmed_3 :
  (∃ (s : State) (n : Fin 8),
    (s.awake = true) ∧ (s.railOk 1 = true)) ∧
  (∃ (s : State) (n : Fin 8) (a b : Bool),
    (s.railOk 1 = false)) ∧
  (∃ (s : State) (n : Fin 8) (h : Bool),
    (s.awake = true) ∧ (s.railOk 1 = true) ∧ ((s.astate n ≠ 3 ∨ (s.axis n).run = none))) ∧
  (∃ (s : State) (n : Fin 8) (h : Bool) (r : MoveRun),
    (s.awake = true) ∧ (s.astate n = 3) ∧ ((s.axis n).run = some r) ∧ (s.railOk 1 = true) ∧ (0 < r.left) ∧ (h = s.on
      MOT_STALL.LIM_POL n) ∧ (s.on MOT_STALL.LIM_DIR n = r.m.dir)) ∧
  (∃ (s : State) (n : Fin 8) (h : Bool) (r : MoveRun),
    (s.awake = true) ∧ (s.railOk 1 = true) ∧ ((s.axis n).run = some r) ∧ ((r.left = 0 ∨ h ≠ s.on MOT_STALL.LIM_POL n ∨
      s.on MOT_STALL.LIM_DIR n ≠ r.m.dir))) ∧
  (∃ (s : State) (n : Fin 8) (a : Bool),
    (s.awake = true) ∧ (s.railOk 1 = true) ∧ ((s.axis n).qa ≠ a) ∧ (s.blkHeld (60 + n) = false)) :=
  ⟨⟨up, 0, by decide⟩,
  ⟨up.setFld SYS_SUPSTAT.RAIL_OK 0xFD, 7, true, true, by decide⟩,
  ⟨up, 0, true, by decide⟩,
  ⟨((up.setAxis 7 { Axis.reset with run := some ⟨⟨true, false, false, false, 2, 9, -1⟩, 2, 256 * 90, 0, 90⟩ }).setAstate
    7 3).setFld MOT_STALL.LIM_DIR 1 7, 7, false, ⟨⟨true, false, false, false, 2, 9, -1⟩, 2, 256 * 90, 0, 90⟩, by decide⟩,
  ⟨(up.setAxis 7 { Axis.reset with run := some ⟨⟨true, false, false, false, 2, 9, -1⟩, 2, 256 * 90, 0, 90⟩ }).setAstate
    7 3, 7, false, ⟨⟨true, false, false, false, 2, 9, -1⟩, 2, 256 * 90, 0, 90⟩, by decide⟩,
  ⟨up, 7, true, by decide⟩⟩

/-- Meets the hypotheses of AxesAreSensedAndSwathsArmed, clauses with hypotheses 19 to 24. -/
theorem witness_AxesAreSensedAndSwathsArmed_4 :
  (∃ (s : State) (n : Fin 8) (b : Bool),
    (s.awake = true) ∧ (s.railOk 1 = true) ∧ ((s.axis n).qb ≠ b) ∧ (s.blkHeld (60 + n) = false)) ∧
  (∃ (s : State) (n : Fin 8) (a b : Bool),
    (s.awake = true) ∧ (s.railOk 1 = true) ∧ ((((s.axis n).qa = a ↔ (s.axis n).qb = b) ∨ s.blkHeld (60 + n) = true))) ∧
  (∃ (s : State) (n : Fin 8) (t : Nat),
    (s.awake = true) ∧ (s.axisSenses n = true) ∧ (s.axisUp n = true) ∧ (s.fld MOT_AXCFG.MODE n = 1) ∧ ((s.axis
      n).chA.drive = true) ∧ (s.blanked n true (max 1 t) = false)) ∧
  (∃ (s : State) (n : Fin 8) (t : Nat),
    (s.awake = true) ∧ (s.axisSenses n = true) ∧ (s.axisUp n = true) ∧ (s.fld MOT_AXCFG.MODE n = 1) ∧ ((s.axis
      n).chB.drive = true) ∧ (s.blanked n true (max 1 t) = false)) ∧
  (∃ (s : State) (n : Fin 8) (t : Nat),
    (s.awake = true) ∧ (s.axisSenses n = true) ∧ (s.axisUp n = true) ∧ (s.fld MOT_AXCFG.MODE n = 1) ∧ ((s.axis
      n).chA.drive = false) ∧ (s.fld MOT_CHOP.TOFF_MIN n ≤ max 1 t) ∧ (s.blanked n false (max 1 t) = false)) ∧
  (∃ (s : State) (n : Fin 8) (t : Nat),
    (s.awake = true) ∧ (s.axisSenses n = true) ∧ (s.axisUp n = true) ∧ (s.fld MOT_AXCFG.MODE n = 1) ∧ ((s.axis
      n).chB.drive = false) ∧ (s.fld MOT_CHOP.TOFF_MIN n ≤ max 1 t) ∧ (s.blanked n false (max 1 t) = false)) :=
  ⟨⟨up, 7, true, by decide⟩,
  ⟨up, 7, true, true, by decide⟩,
  ⟨((up.setAxis 7 { Axis.reset with chA := { ChopPhase.reset with drive := true } }).setAstate 7 3).setFld
    MOT_AXCFG.MODE 1 7, 7, 50000, by decide⟩,
  ⟨((up.setAxis 7 { Axis.reset with chB := { ChopPhase.reset with drive := true } }).setAstate 7 3).setFld
    MOT_AXCFG.MODE 1 7, 7, 50000, by decide⟩,
  ⟨((up.setAxis 7 { Axis.reset with chA := { ChopPhase.reset with drive := false } }).setAstate 7 3).setFld
    MOT_AXCFG.MODE 1 7, 7, 100000, by decide⟩,
  ⟨((up.setAxis 7 { Axis.reset with chB := { ChopPhase.reset with drive := false } }).setAstate 7 3).setFld
    MOT_AXCFG.MODE 1 7, 7, 100000, by decide⟩⟩

/-- Meets the hypotheses of AxesAreSensedAndSwathsArmed, clauses with hypotheses 25 to 30. -/
theorem witness_AxesAreSensedAndSwathsArmed_5 :
  (∃ (s : State) (n : Fin 8) (k : Fin 2) (u : Bool) (t : Nat),
    ((s.fld MOT_AXCFG.MODE n ≠ 1 ∨ s.axisUp n = false ∨ s.axisSenses n = false ∨ s.blanked n u (max 1 t) = true ∨ (if
      k.val = 0 then (s.axis n).chA else (s.axis n).chB).drive ≠ u ∨ (u = false ∧ max 1 t < s.fld MOT_CHOP.TOFF_MIN n)))) ∧
  (∃ (s : State) (n t : Nat),
    (s.fld MOT_CHOP.DECAY n = 2)) ∧
  (∃ (s : State) (n a b : Nat) (x : Int),
    (s.on MOT_CHOP.ADAPT n = false)) ∧
  (∃ (s : State) (o : Sender),
    (s.reaches o FIRE_SCANCTL = true)) ∧
  (∃ (s : State) (o : Sender),
    (s.reaches o FIRE_SCANCTL = true) ∧ (s.unguarded o FIRE_SCANCTL 0 (putFields (s.reg FIRE_SCANCTL)
      [(FIRE_SCANCTL.RESUME, 1)]) = true)) ∧
  (∃ (s : State) (o : Sender) (w : Word),
    (s.reaches o FIRE_PASSDATA = true) ∧ ((s.fld FIRE_SCANSTAT.SSTATE = 0 ∨ s.passLocked (s.fld FIRE_SCANSTAT.PASS)
      (s.fld FIRE_PASSIDX.ENTRY) 256 = false))) :=
  ⟨⟨up, 7, 1, true, 5, by decide⟩,
  ⟨((up.setFld MOT_CHOP.BLANK 9 7).setFld MOT_CHOP.FASTT 100 7).setFld MOT_CHOP.DECAY 2 7, 7, 108, by decide⟩,
  ⟨up.setFld MOT_CHOP.ADAPT 0 7, 7, 1, 2, 3, by decide⟩,
  ⟨upJob, .host, by decide⟩,
  ⟨upJob.setFld FIRE_SCANSTAT.SSTATE 4, .host, by decide⟩,
  ⟨up.setFld FIRE_PASSIDX.ENTRY 255, .host, 5, by decide⟩⟩

/-- Meets the hypotheses of AxesAreSensedAndSwathsArmed, clauses with hypotheses 31 to 33. -/
theorem witness_AxesAreSensedAndSwathsArmed_6 :
  (∃ (s : State) (o : Sender) (w : Word),
    (s.reaches o FIRE_PASSDATA = true) ∧ (s.fld FIRE_SCANSTAT.SSTATE ≠ 0) ∧ (s.passLocked (s.fld FIRE_SCANSTAT.PASS)
      (s.fld FIRE_PASSIDX.ENTRY) 256 = true)) ∧
  (∃ (s : State) (o : Sender) (w : Word),
    (s.reaches o FIRE_MASKDATA = true) ∧ (s.betweenJobs = true)) ∧
  (∃ (s : State) (o : Sender) (w : Word),
    (s.reaches o FIRE_MASKDATA = true) ∧ (s.betweenJobs = false)) :=
  ⟨⟨up.setFld FIRE_SCANSTAT.SSTATE 1, .host, 5, by decide +kernel⟩,
  ⟨up.setFld FIRE_MASKIDX.MASK 15, .host, 0xFFFFFFFFFF, by decide⟩,
  ⟨upJob, .host, 0, by decide⟩⟩

/-- Meets the hypotheses of LampsStrobeAndDisplaysShowTheirFrames, clauses with hypotheses 1 to 6. -/
theorem witness_LampsStrobeAndDisplaysShowTheirFrames_1 :
  (∃ (s : State) (c : Fin 16),
    (s.awake = true) ∧ (s.liteRuns = true) ∧ (s.liteMode c = 3) ∧ (s.comesTo (s.fld LITE_STRB.LEAD c) (s.reg LITE_SPOS
      c) = true) ∧ (s.cstate c = 1)) ∧
  (∃ (s : State) (c : Fin 16),
    (s.awake = true) ∧ (s.liteRuns = true) ∧ (s.liteMode c = 3) ∧ (s.comesTo (s.fld LITE_STRB.LEAD c) (s.reg LITE_SPOS
      c) = true) ∧ (s.cstate c = 2) ∧ ((s.liteCh c).asked = s.cycle + 1) ∧ (¬16 ∈ (s.liteCh c).askers)) ∧
  (∃ (s : State) (c : Fin 16),
    (s.awake = true) ∧ (s.liteRuns = true) ∧ (s.liteMode c = 3) ∧ (s.comesTo (s.fld LITE_STRB.LEAD c) (s.reg LITE_SPOS
      c) = true) ∧ (s.cstate c ≠ 1) ∧ (¬(s.cstate c = 2 ∧ (s.liteCh c).asked = s.cycle + 1 ∧ ¬16 ∈ (s.liteCh c).askers))) ∧
  (∃ (s : State) (c : Fin 16),
    ((s.liteRuns = false ∨ s.liteMode c ≠ 3 ∨ s.comesTo (s.fld LITE_STRB.LEAD c) (s.reg LITE_SPOS c) = false))) ∧
  (∃ (s : State) (c : Fin 16),
    (s.awake = true) ∧ (s.cstate c = 2)) ∧
  (∃ (s : State) (c : Fin 16),
    (s.cstate c ≠ 2)) :=
  ⟨⟨((upMove.setFld LITE_CH.MODE 3 15).setReg LITE_SPOS 0x50000 15).setCstate 15 1, 15, by decide⟩,
  ⟨(((upMove.setFld LITE_CH.MODE 3 15).setReg LITE_SPOS 0x50000 15).setCstate 15 2).setLiteCh 15 { LiteCh.reset with asked := upMove.cycle + 1, askers := [3] },
    15, by decide⟩,
  ⟨((upMove.setFld LITE_CH.MODE 3 15).setReg LITE_SPOS 0x50000 15).setCstate 15 3, 15, by decide⟩,
  ⟨up.setFld LITE_CH.MODE 3 15, 15, by decide⟩,
  ⟨up.setCstate 15 2, 15, by decide⟩,
  ⟨up, 15, by decide⟩⟩

/-- Meets the hypotheses of LampsStrobeAndDisplaysShowTheirFrames, clauses with hypotheses 7 to 12. -/
theorem witness_LampsStrobeAndDisplaysShowTheirFrames_2 :
  (∃ (s : State) (c : Fin 16) (d : BitVec 10),
    (s.awake = true) ∧ (s.cstate c = 3) ∧ (s.liteMode c ≠ 1)) ∧
  (∃ (s : State) (c : Fin 16) (d : BitVec 10),
    ((s.cstate c ≠ 3 ∨ s.liteMode c = 1))) ∧
  (∃ (s : State) (c d : Nat) (x : LiteCh),
    (x = s.senseRuns c d)) ∧
  (∃ (s : State) (c d : Nat),
    (s.fld LITE_CH.OPEN_THR c < d)) ∧
  (∃ (s : State) (c d : Nat),
    (d ≤ s.fld LITE_CH.OPEN_THR c)) ∧
  (∃ (s : State) (c d : Nat),
    (d < s.fld LITE_CH.SHORT_THR c)) :=
  ⟨⟨((up.setFld LITE_CH.MODE 3 15).setCstate 15 3).setFld LITE_STRB.WIDTH 16 15, 15, 1023, by decide⟩,
  ⟨up, 15, 1023, by decide⟩,
  ⟨upSense, 15, 9, upSense.senseRuns 15 9, by decide⟩,
  ⟨upSense, 15, 9, by decide⟩,
  ⟨upSense, 15, 5, by decide⟩,
  ⟨upSense.setFld LITE_CH.SHORT_THR 10 15, 15, 9, by decide⟩⟩

/-- Meets the hypotheses of LampsStrobeAndDisplaysShowTheirFrames, clauses with hypotheses 13 to 18. -/
theorem witness_LampsStrobeAndDisplaysShowTheirFrames_3 :
  (∃ (s : State) (c d : Nat),
    (s.fld LITE_CH.SHORT_THR c ≤ d)) ∧
  (∃ (s : State) (c : Fin 16),
    (s.awake = true) ∧ (s.cstate c = 4)) ∧
  (∃ (s : State) (c : Fin 16),
    (s.cstate c ≠ 4)) ∧
  (∃ (s : State) (c : Fin 16) (d : BitVec 10),
    (s.awake = true) ∧ (s.cstate c = 3) ∧ (s.liteMode c = 1) ∧ (s.railOk 1 = true)) ∧
  (∃ (s : State) (c : Fin 16) (d : BitVec 10),
    ((s.cstate c ≠ 3 ∨ s.liteMode c ≠ 1 ∨ s.railOk 1 = false))) ∧
  (∃ (s : State) (g : Fin 4) (d : BitVec 10),
    (s.awake = true) ∧ (s.liteRuns = true) ∧ (s.railOk 1 = true) ∧ (0 < d.toNat) ∧ (d.toNat < 1023)) :=
  ⟨⟨upSense, 15, 5, by decide⟩,
  ⟨up.setCstate 15 4, 15, by decide⟩,
  ⟨up, 15, by decide⟩,
  ⟨(up.setFld LITE_CH.MODE 1 15).setCstate 15 3, 15, 1023, by decide⟩,
  ⟨up, 15, 1023, by decide⟩,
  ⟨up, 3, 1022, by decide⟩⟩

/-- Meets the hypotheses of LampsStrobeAndDisplaysShowTheirFrames, clauses with hypotheses 19 to 24. -/
theorem witness_LampsStrobeAndDisplaysShowTheirFrames_4 :
  (∃ (s : State) (g : Fin 4) (d : BitVec 10),
    (s.awake = true) ∧ (s.liteRuns = true) ∧ (s.railOk 1 = true) ∧ ((d.toNat = 0 ∨ d.toNat = 1023))) ∧
  (∃ (s : State) (g : Fin 4) (d : BitVec 10),
    ((s.liteRuns = false ∨ s.railOk 1 = false))) ∧
  (∃ (s : State) (c : Nat),
    (s.on LITE_CH.DRT_EN c = false)) ∧
  (∃ (s : State) (c : Nat),
    (s.on LITE_CH.DRT_EN c = true) ∧ ((s.tin (s.fld LITE_CH.TSRC c)).fault = true)) ∧
  (∃ (s : State) (c x : Nat),
    (s.on LITE_CH.DRT_EN c = true) ∧ ((s.tin (s.fld LITE_CH.TSRC c)).fault = false) ∧ (x = (if s.on LITE_TINCFG.TPOL
      (s.fld LITE_CH.TSRC c) then 1023 - s.fld LITE_TEMP.CODE (s.fld LITE_CH.TSRC c) else s.fld LITE_TEMP.CODE (s.fld
      LITE_CH.TSRC c)))) ∧
  (∃ (s : State) (o : Sender) (c : Fin 16) (w : Word),
    (s.reaches o LITE_CH c = true)) :=
  ⟨⟨up.liteUpd (fun l => { l with tin := [(3, ⟨3, 0, false⟩)] }), 3, 1023, by decide⟩,
  ⟨State.reset, 3, 1023, by decide⟩,
  ⟨up, 15, by decide⟩,
  ⟨(up.setFld LITE_CH.DRT_EN 1 15).liteUpd (fun l => { l with tin := [(0, ⟨4, 0, true⟩)] }), 15, by decide⟩,
  ⟨((up.setFld LITE_CH.DRT_EN 1 15).setFld LITE_LVL.SLOPE 16 15).setFld LITE_TEMP.CODE 9 0, 15, 9, by decide⟩,
  ⟨up, .host, 15, 0xFFFFFFFFFF, by decide⟩⟩

/-- Meets the hypotheses of LampsStrobeAndDisplaysShowTheirFrames, clauses with hypotheses 25 to 30. -/
theorem witness_LampsStrobeAndDisplaysShowTheirFrames_5 :
  (∃ (s : State) (o : Sender) (c : Fin 16) (w : Word),
    (s.reaches o LITE_CH c = true) ∧ (s.unguarded o LITE_CH c w = true)) ∧
  (∃ (s : State) (c m : Nat),
    (s.liteRuns = true)) ∧
  (∃ (s : State) (c m : Nat),
    (s.liteRuns = false)) ∧
  (∃ (s : State),
    (s.awake = true) ∧ (s.liteRuns = true) ∧ (s.on LITE_MXCTL.EN = true)) ∧
  (∃ (s : State),
    ((s.liteRuns = false ∨ s.on LITE_MXCTL.EN = false))) ∧
  (∃ (s : State),
    (s.on LITE_MXCTL.PEND = true)) :=
  ⟨⟨up, .host, 15, putFields (up.reg LITE_CH 15) [(LITE_CH.MODE, 1)], by decide⟩,
  ⟨up.setFld LITE_CH.MODE 1 15, 15, 0, by decide⟩,
  ⟨State.reset, 15, 0, by decide⟩,
  ⟨(up.setFld LITE_MXCTL.EN 1).setFld LITE_MXCTL.PEND 1, by decide⟩,
  ⟨up, by decide⟩,
  ⟨up.setFld LITE_MXCTL.PEND 1, by decide⟩⟩

/-- Meets the hypotheses of LampsStrobeAndDisplaysShowTheirFrames, clauses with hypotheses 31 to 36. -/
theorem witness_LampsStrobeAndDisplaysShowTheirFrames_6 :
  (∃ (s : State),
    (s.on LITE_MXCTL.PEND = false)) ∧
  (∃ (s : State) (o : Sender) (w : Word),
    (s.reaches o LITE_MXCTL = true)) ∧
  (∃ (s : State) (o : Sender) (d : Fin 2) (w : Word),
    (s.reaches o DISP_CTL d = true)) ∧
  (∃ (s : State) (o : Sender) (d : Fin 2) (w : Word),
    (s.reaches o DISP_CTL d = true) ∧ (s.unguarded o DISP_CTL d w = true)) ∧
  (∃ (s : State),
    ((s.fld DISP_HTIM.HACT 1 < 16 ∨ 4096 < s.fld DISP_HTIM.HACT 1 ∨ 4096 < s.fld DISP_VTIM.VACT 1 ∨ s.fld DISP_VTIM.VACT
      1 = 0 ∨ s.fld DISP_CTL.DIV 1 < 4 ∨ s.fld DISP_HTIM.HFP 1 = 0 ∨ 8191 < s.htot 1))) ∧
  (∃ (s : State) (o : Sender) (d : Fin 2) (l : Fin 4) (w : Word),
    (s.maySend o = true) ∧ (s.regIso (DISP_LBASE.at d l) = false)) :=
  ⟨⟨up, by decide⟩,
  ⟨up, .host, 0, by decide⟩,
  ⟨upDisp, .host, 1, 0xFFFFFFFFFF, by decide⟩,
  ⟨upDisp, .host, 1, putFields (upDisp.reg DISP_CTL 1) [(DISP_CTL.EN, 1)], by decide⟩,
  ⟨upDisp.setFld DISP_HTIM.HACT 15 1, by decide⟩,
  ⟨up, .host, 1, 3, 0xFFFFFFFFFF, by decide⟩⟩

/-- Meets the hypotheses of LampsStrobeAndDisplaysShowTheirFrames, clauses with hypotheses 37 to 42. -/
theorem witness_LampsStrobeAndDisplaysShowTheirFrames_7 :
  (∃ (s : State) (d : Fin 2),
    (s.awake = true) ∧ (s.dispUp d = true) ∧ (s.on DISP_CTL.EN d = true) ∧ (((s.dout d).scanning = false ∨ s.dispLine d
      + 1 = s.vtot d))) ∧
  (∃ (s : State) (d : Fin 2),
    (s.awake = true) ∧ (s.dispUp d = true) ∧ (s.on DISP_CTL.EN d = false) ∧ ((s.dout d).scanning = true) ∧ (s.dispLine d
      + 1 = s.vtot d)) ∧
  (∃ (s : State) (d : Fin 2),
    ((s.dispUp d = false ∨ (s.on DISP_CTL.EN d = false ∧ (s.dout d).scanning = false) ∨ ((s.dout d).scanning = true ∧
      s.dispLine d + 1 ≠ s.vtot d)))) ∧
  (∃ (p : Nat) (x y : Rgb),
    (x.r < 256) ∧ (x.g < 256) ∧ (x.b < 256)) ∧
  (∃ (s : State) (d : Fin 2) (k : Fin 4) (r : DRect) (x1 y1 : Nat),
    (s.awake = true) ∧ ((s.dout d).scanning = true) ∧ (¬k.val ∈ (s.dout d).done) ∧ ((s.dout d).rects[k.val]? = some r) ∧
      (r.en = true) ∧ (s.clipRect d r = some (x1, y1))) ∧
  (∃ (s : State) (d : Fin 2) (k : Fin 4),
    (((s.dout d).scanning = false ∨ k.val ∈ (s.dout d).done ∨ (s.dout d).rects[k.val]? = none))) :=
  ⟨⟨up.setFld DISP_CTL.EN 1 1, 1, by decide⟩,
  ⟨upDisp.setDout 1 { DOut.reset with scanning := true, tick := 1200 }, 1, by decide⟩,
  ⟨up, 1, by decide⟩,
  ⟨9, ⟨255, 0, 7⟩, ⟨1, 2, 3⟩, by decide⟩,
  ⟨upDisp.setDout 1 { DOut.reset with scanning := true, rects := [⟨true, 0, 0, 0, 0, 0⟩] }, 1, 0, ⟨true, 0, 0, 0, 0,
    0⟩, 0, 0, by decide +kernel⟩,
  ⟨up, 1, 3, by decide⟩⟩

/-- Meets the hypotheses of LampsStrobeAndDisplaysShowTheirFrames, clauses with hypotheses 43 to 47. -/
theorem witness_LampsStrobeAndDisplaysShowTheirFrames_8 :
  (∃ (s : State) (d : Fin 2) (k : Fin 4) (r : DRect),
    ((s.dout d).rects[k.val]? = some r) ∧ ((r.en = false ∨ s.clipRect d r = none))) ∧
  (∃ (s : State) (d k y : Nat) (r : DRect) (x1 y1 : Nat),
    ((s.dout d).rects[k]? = some r) ∧ (r.en = true) ∧ (s.clipRect d r = some (x1, y1)) ∧ (r.y0 ≤ y) ∧ (y ≤ y1)) ∧
  (∃ (s : State) (d : Fin 2) (y x : BitVec 16),
    (s.awake = true) ∧ ((s.dout d).scanning = true) ∧ ((s.dout d).shown ≤ y.toNat) ∧ ((s.on DISP_FLAG.UNDERRUN d = true
      ∨ s.on DISP_FLAG.POISON d = true))) ∧
  (∃ (s : State) (d : Fin 2) (y x : BitVec 16),
    (s.awake = true) ∧ ((s.dout d).scanning = true) ∧ ((s.dout d).shown ≤ y.toNat) ∧ (s.on DISP_FLAG.UNDERRUN d = false)
      ∧ (s.on DISP_FLAG.POISON d = false)) ∧
  (∃ (s : State) (d : Fin 2) (y x : BitVec 16),
    (((s.dout d).scanning = false ∨ y.toNat < (s.dout d).shown))) :=
  ⟨⟨upDisp.setDout 1 { DOut.reset with scanning := true, rects := [⟨false, 0, 0, 0, 0, 0⟩] }, 1, 0, ⟨false, 0, 0, 0, 0,
    0⟩, by decide⟩,
  ⟨upDisp.setDout 1 { DOut.reset with scanning := true, rects := [⟨true, 0, 0, 0, 0, 0⟩] }, 1, 0, 0, ⟨true, 0, 0, 0,
    0, 0⟩, 0, 0, by decide⟩,
  ⟨(up.setDout 1 { DOut.reset with scanning := true }).setFld DISP_FLAG.UNDERRUN 1 1, 1, 7, 8, by decide⟩,
  ⟨up.setDout 1 { DOut.reset with scanning := true }, 1, 7, 8, by decide⟩,
  ⟨up, 1, 7, 8, by decide⟩⟩

/-- Meets the hypotheses of SelfTestAndHotPlugFollowTheirStates, clauses with hypotheses 1 to 6. -/
theorem witness_SelfTestAndHotPlugFollowTheirStates_1 :
  (∃ (s : State) (o : Sender) (w : Word),
    (s.reaches o BIST_CTL = true)) ∧
  (∃ (s : State) (o : Sender) (key : BitVec 8),
    (s.reaches o BIST_CTL = true)) ∧
  (∃ (s : State) (l : Bool) (w : Word) (y d : Nat),
    (BIST_CTL.GO.ext w = 1) ∧ ((s.bistWhy (BIST_CTL.KEY.ext w) (BIST_CTL.KIND.ext w) (BIST_CTL.DMASK.ext w)) = some (y,
      d)) ∧ ((BIST_CTL.ABORT.ext w = 0 ∨ BIST_CTL.KEY.ext w ≠ 0x4B ∨ s.bistRuns = false))) ∧
  (∃ (s : State) (l : Bool) (w : Word),
    (BIST_CTL.GO.ext w = 1) ∧ ((s.bistWhy (BIST_CTL.KEY.ext w) (BIST_CTL.KIND.ext w) (BIST_CTL.DMASK.ext w)) = none) ∧
      ((BIST_CTL.ABORT.ext w = 0 ∨ BIST_CTL.KEY.ext w ≠ 0x4B ∨ s.bistRuns = false))) ∧
  (∃ (s : State) (l : Bool) (w : Word),
    (BIST_CTL.GO.ext w = 0) ∧ ((BIST_CTL.ABORT.ext w = 0 ∨ BIST_CTL.KEY.ext w ≠ 0x4B ∨ s.bistRuns = false))) ∧
  (∃ (s : State) (l : Bool) (w : Word),
    (BIST_CTL.GO.ext w = 0) ∧ (BIST_CTL.ABORT.ext w = 1) ∧ (BIST_CTL.KEY.ext w = 0x4B) ∧ (s.bistRuns = true)) :=
  ⟨⟨up, .host, 0, by decide⟩,
  ⟨up.setFld BIST_STAT.STATE 2, .host, 0x4B, by decide⟩,
  ⟨up, false, putFields 0 [(BIST_CTL.GO, 1)], 1, 0, by decide⟩,
  ⟨(up.setReg SYS_BLKRST1 0x200), false, putFields 0 [(BIST_CTL.GO, 1), (BIST_CTL.KEY, 0x4B), (BIST_CTL.KIND, 3),
    (BIST_CTL.DMASK, 32)], by decide +kernel⟩,
  ⟨up, false, putFields 0 [(BIST_CTL.KIND, 3)], by decide⟩,
  ⟨up.setFld BIST_STAT.STATE 2, false, putFields 0 [(BIST_CTL.ABORT, 1), (BIST_CTL.KEY, 0x4B)], by decide⟩⟩

/-- Meets the hypotheses of SelfTestAndHotPlugFollowTheirStates, clauses with hypotheses 7 to 12. -/
theorem witness_SelfTestAndHotPlugFollowTheirStates_2 :
  (∃ (s : State) (l : Bool) (w : Word) (y d : Nat),
    (BIST_CTL.GO.ext w = 1) ∧ ((s.bistWhy (BIST_CTL.KEY.ext w) (BIST_CTL.KIND.ext w) (BIST_CTL.DMASK.ext w)) = some (y,
      d)) ∧ (BIST_CTL.ABORT.ext w = 1) ∧ (BIST_CTL.KEY.ext w = 0x4B) ∧ (s.bistRuns = true)) ∧
  (∃ (s : State) (k : Nat) (d : Fin 10) (y : Nat),
    (0 < k) ∧ (4 ≤ d.val) ∧ (s.bistRuns = false) ∧ (s.fld BIST_STAT.QUEUE = 0) ∧ (s.bist.spot = []) ∧ (s.pdBusy = false)
      ∧ (y = (if s.pdState d ≠ 2 then 4 else if (domainBlocks d).any (fun b => !s.blkHeld b || s.blkPend b) then 5 else
      if !s.pdCond d || (d.val == 7 && s.fld DRAM_STAT.STATE == 5) then 6 else 0))) ∧
  (∃ (s : State) (g : Word) (m : Option MemFail),
    (s.awake = true)) ∧
  (∃ (s : State) (g : Word) (m : Option MemFail),
    (s.fld BIST_STAT.STATE < 2)) ∧
  (∃ (s : State) (g : Word) (m : Option MemFail),
    (2 ≤ s.fld BIST_STAT.STATE) ∧ (s.fld BIST_STAT.SRC < 2) ∧ (s.fld BIST_STAT.DOM ∉ [4, 8])) ∧
  (∃ (s : State) (d : Fin 10) (k : Nat) (g : Word) (m : Option MemFail),
    (1 ≤ k) ∧ (k ≤ 3)) :=
  ⟨⟨up.setFld BIST_STAT.STATE 2, false, putFields 0 [(BIST_CTL.GO, 1), (BIST_CTL.KIND, 1), (BIST_CTL.ABORT, 1),
    (BIST_CTL.KEY, 0x4B)], 2, 0, by decide⟩,
  ⟨up, 3, 9, 5, by decide +kernel⟩,
  ⟨(up.setFld BIST_STAT.STATE 2).setFld BIST_STAT.DOM 5, bistSig 5, none, by decide⟩,
  ⟨up.setFld BIST_STAT.STATE 1, 0, none, by decide⟩,
  ⟨(up.setFld BIST_STAT.STATE 2).setFld BIST_STAT.DOM 5, bistSig 5, none, by decide⟩,
  ⟨up, 5, 3, bistSig 6, some ⟨1, 2, 3⟩, by decide⟩⟩

/-- Meets the hypotheses of SelfTestAndHotPlugFollowTheirStates, clauses with hypotheses 13 to 18. -/
theorem witness_SelfTestAndHotPlugFollowTheirStates_3 :
  (∃ (s : State),
    (s.clocked = true) ∧ (s.hstate = 0) ∧ (s.fld SYS_HPCFG.END = 2)) ∧
  (∃ (s : State),
    (s.clocked = true) ∧ (s.hstate = 0) ∧ (s.fld SYS_HPCFG.END = 1)) ∧
  (∃ (s : State),
    (s.clocked = true) ∧ (s.hstate = 0) ∧ (s.fld SYS_HPCFG.END ≠ 1) ∧ (s.fld SYS_HPCFG.END ≠ 2)) ∧
  (∃ (s : State),
    ((s.clocked = false ∨ s.hstate ≠ 0))) ∧
  (∃ (s : State) (v : Nat),
    (v < 8)) ∧
  (∃ (s : State),
    (s.awake = true) ∧ (s.hstate = 1) ∧ (s.jobRuns = false)) :=
  ⟨⟨up.setFld SYS_HPCFG.END 2, by decide⟩,
  ⟨up.setFld SYS_HPCFG.END 1, by decide⟩,
  ⟨up.setFld SYS_HPCFG.END 0, by decide⟩,
  ⟨up.setFld SYS_HPSTAT.HSTATE 5, by decide⟩,
  ⟨upJob, 6, by decide⟩,
  ⟨up.setFld SYS_HPSTAT.HSTATE 1, by decide⟩⟩

/-- Meets the hypotheses of SelfTestAndHotPlugFollowTheirStates, clauses with hypotheses 19 to 24. -/
theorem witness_SelfTestAndHotPlugFollowTheirStates_4 :
  (∃ (s : State),
    ((s.hstate ≠ 1 ∨ s.jobRuns = true))) ∧
  (∃ (s : State),
    (s.awake = true) ∧ (s.hstate = 1)) ∧
  (∃ (s : State),
    (s.hstate ≠ 1)) ∧
  (∃ (s : State) (o : Sender),
    (s.reaches o SYS_HPCTL = true) ∧ (s.hstate = 2) ∧ (s.parkedOk = true)) ∧
  (∃ (s : State) (o : Sender),
    (s.reaches o SYS_HPCTL = true) ∧ ((s.hstate ≠ 2 ∨ s.parkedOk = false))) ∧
  (∃ (s : State),
    (s.parkedOk = true)) :=
  ⟨⟨up, by decide⟩,
  ⟨upJob.setFld SYS_HPSTAT.HSTATE 1, by decide⟩,
  ⟨up, by decide⟩,
  ⟨(up.setFld SYS_HPSTAT.HSTATE 2).setFld SYS_HPCFG.PARK_AXES 0, .warden, by decide⟩,
  ⟨(up.setFld SYS_HPSTAT.HSTATE 2).setFld SYS_HPCFG.PARK_AXES 128, .warden, by decide⟩,
  ⟨(up.setAstate 7 1).setFld SYS_HPCFG.PARK_AXES 128, by decide⟩⟩

/-- Meets the hypotheses of SelfTestAndHotPlugFollowTheirStates, clauses with hypotheses 25 to 30. -/
theorem witness_SelfTestAndHotPlugFollowTheirStates_5 :
  (∃ (s : State),
    (s.awake = true) ∧ (s.hstate = 2)) ∧
  (∃ (s : State),
    (s.hstate ≠ 2)) ∧
  (∃ (s : State),
    (s.awake = true) ∧ (s.hstate = 4)) ∧
  (∃ (s : State),
    (s.hstate ≠ 4)) ∧
  (∃ (s : State),
    (s.clocked = true) ∧ (1 ≤ s.hstate) ∧ (s.hstate ≤ 4)) ∧
  (∃ (s : State),
    ((s.clocked = false ∨ s.hstate = 0 ∨ 5 ≤ s.hstate))) :=
  ⟨⟨up.setFld SYS_HPSTAT.HSTATE 2, by decide⟩,
  ⟨up, by decide⟩,
  ⟨upBar.setFld SYS_HPSTAT.HSTATE 4, by decide⟩,
  ⟨upBar, by decide⟩,
  ⟨upBar.setFld SYS_HPSTAT.HSTATE 4, by decide⟩,
  ⟨up.setFld SYS_HPSTAT.HSTATE 5, by decide⟩⟩

/-- Meets the hypotheses of SelfTestAndHotPlugFollowTheirStates, clauses with hypotheses 31 to 36. -/
theorem witness_SelfTestAndHotPlugFollowTheirStates_6 :
  (∃ (s : State),
    (s.awake = true) ∧ (s.hstate = 6) ∧ (s.on SYS_HPSTAT.REQ = false)) ∧
  (∃ (s : State),
    ((s.hstate ≠ 6 ∨ s.on SYS_HPSTAT.REQ = true))) ∧
  (∃ (s : State) (o : Sender),
    (s.reaches o SYS_HPCTL = true) ∧ (s.hstate = 5) ∧ (s.on SYS_HPSTAT.REQ = false)) ∧
  (∃ (s : State) (o : Sender),
    (s.reaches o SYS_HPCTL = true) ∧ ((s.hstate ≠ 5 ∨ s.on SYS_HPSTAT.REQ = true))) ∧
  (∃ (s : State) (a b : List Bool),
    (s.tapOn = true)) ∧
  (∃ (s : State) (a b : List Bool),
    (s.tapOn = true)) :=
  ⟨⟨up.setFld SYS_HPSTAT.HSTATE 6, by decide⟩,
  ⟨up, by decide⟩,
  ⟨up.setFld SYS_HPSTAT.HSTATE 5, .host, by decide⟩,
  ⟨(up.setFld SYS_HPSTAT.HSTATE 5).setFld SYS_HPSTAT.REQ 1, .host, by decide⟩,
  ⟨up, [true], [false], by decide⟩,
  ⟨up, [true], [false], by decide⟩⟩

/-- Meets the hypotheses of SelfTestAndHotPlugFollowTheirStates, clauses with hypotheses 37 to 42. -/
theorem witness_SelfTestAndHotPlugFollowTheirStates_7 :
  (∃ (s : State) (a b : List Bool),
    (a.length = bsrDrives.length)) ∧
  (∃ (s : State),
    (s.tapOn = true)) ∧
  (∃ (s : State) (c : BitVec 8) (b : List Bool),
    (s.tapOn = true)) ∧
  (∃ (s : State) (l : List (BitVec 24 × Option Word)),
    (s.tapOn = true) ∧ (s.awake = true)) ∧
  (∃ (s : State) (l : List (BitVec 24 × Option Word)),
    (s.tapOn = true) ∧ (s.awake = false)) ∧
  (∃ (s : State) (a b : List Bool) (c : BitVec 8) (l : List (BitVec 24 × Option Word)),
    (s.tapOn = false)) :=
  ⟨⟨up, List.replicate bsrDrives.length true, [false], by decide +kernel⟩,
  ⟨up, by decide⟩,
  ⟨up, 255, [true, false], by decide⟩,
  ⟨up, [(0x000021, some 7), (0, none)], by decide⟩,
  ⟨State.reset.setFld SYS_SUPSTAT.RAIL_OK 255, [(0x000021, some 7), (0, none)], by decide⟩,
  ⟨up.setFld SYS_SUPSTAT.RAIL_OK 0xFD, [true], [false], 255, [(0, none)], by decide⟩⟩

/-- Meets the hypotheses of SelfTestAndHotPlugFollowTheirStates, clauses with hypotheses 43 to 43. -/
theorem witness_SelfTestAndHotPlugFollowTheirStates_8 :
  (∃ (p q : Nat) (g h : KerfSig),
    (p < 48) ∧ (q < 48) ∧ (kerfBall p g = kerfBall q h)) :=
  ⟨47, 47, .headEn, .headEn, by decide⟩

/-- Meets the hypotheses of BistAbortEndsTheRunAfterItsDomain. -/
theorem witness_BistAbortEndsTheRunAfterItsDomain :
  (∃ (s : State) (o : Sender),
    (s.reaches o BIST_CTL = true) ∧ (s.bistRuns = true) ∧ (BIST_CTL.GO.ext (s.reg BIST_CTL) = 0)) ∧
  (∃ (s : State) (g : Word) (m : Option MemFail),
    (2 ≤ s.fld BIST_STAT.STATE) ∧ (s.fld BIST_STAT.QUEUE = 0) ∧ (s.bist.spot = [])) :=
  ⟨⟨(up.setFld BIST_STAT.STATE 2).setFld BIST_STAT.QUEUE 64, .host, by decide +kernel⟩,
  ⟨(up.setFld BIST_STAT.STATE 2).setFld BIST_STAT.DOM 5, 0, none, by decide⟩⟩

/-- Meets the hypotheses of CopyEngineMovesItsUnits, clauses with hypotheses 1 to 6. -/
theorem witness_CopyEngineMovesItsUnits_1 :
  (∃ (s : State) (o : Sender) (c : Fin 16) (w : Word),
    (s.reaches o GDMA_CHCTL c = true) ∧ (s.gdmaWhy c (GDMA_CHCTL.NSEG.ext (putFields w [(GDMA_CHCTL.GO, 1)]))
      (GDMA_CHCTL.ABORT.ext (putFields w [(GDMA_CHCTL.GO, 1)]) == 1) (reservedSet [GDMA_CHCTL.GO, GDMA_CHCTL.ABORT,
      GDMA_CHCTL.NSEG] (putFields w [(GDMA_CHCTL.GO, 1)])) = none)) ∧
  (∃ (s : State) (o : Sender) (c : Fin 16) (w : Word) (y k : Nat),
    (s.reaches o GDMA_CHCTL c = true) ∧ (s.gdmaWhy c (GDMA_CHCTL.NSEG.ext (putFields w [(GDMA_CHCTL.GO, 1)]))
      (GDMA_CHCTL.ABORT.ext (putFields w [(GDMA_CHCTL.GO, 1)]) == 1) (reservedSet [GDMA_CHCTL.GO, GDMA_CHCTL.ABORT,
      GDMA_CHCTL.NSEG] (putFields w [(GDMA_CHCTL.GO, 1)])) = some (y, k))) ∧
  (∃ (s : State) (c n : Nat) (a b : Bool) (k y : Nat),
    (s.on GDMA_CTL.EN = true) ∧ (s.gdmaBusy c = false) ∧ (1 ≤ n) ∧ (n ≤ 16) ∧ (s.gdmaWhy c n a b = some (y, k)) ∧ (y ≠
      6)) ∧
  (∃ (s : State) (o : Sender) (c : Fin 16),
    (s.reaches o GDMA_CHCTL c = true) ∧ ((s.gdmaRuns c = false ∨ s.fld GDMA_CHCTL.NSEG c = 0))) ∧
  (∃ (s : State) (o : Sender) (c : Fin 16),
    (s.reaches o GDMA_CHCTL c = true) ∧ (s.gdmaRuns c = true) ∧ (s.fld GDMA_CHCTL.NSEG c ≠ 0)) ∧
  (∃ (s : State) (c : Nat),
    (s.gdmaRuns c = true)) :=
  ⟨⟨((upDram.setFld GDMA_CTL.EN 1).setFld GDMA_SLEN.UNITS 1 15 0).setFld GDMA_SSRC.FILL 1 15 0, .host, 15, putFields 0
    [(GDMA_CHCTL.NSEG, 1)], by decide +kernel⟩,
  ⟨upDram, .host, 15, 0, 1, 0, by decide +kernel⟩,
  ⟨(upDram.setFld GDMA_CTL.EN 1).setFld GDMA_SLEN.UNITS 1 15 0, 15, 1, false, false, 0, 5, by decide +kernel⟩,
  ⟨(up.setFld GDMA_CHCTL.NSEG 0 15).gdmaState 15 1, .host, 15, by decide⟩,
  ⟨(up.gdmaState 15 1).setFld GDMA_CHCTL.NSEG 2 15, .host, 15, by decide⟩,
  ⟨up.gdmaState 15 1, 15, by decide⟩⟩

/-- Meets the hypotheses of CopyEngineMovesItsUnits, clauses with hypotheses 7 to 12. -/
theorem witness_CopyEngineMovesItsUnits_2 :
  (∃ (s : State) (c : Nat),
    (s.gdmaRuns c = false)) ∧
  (∃ (s : State) (c : Fin 16) (v : Nat),
    (v < 4)) ∧
  (∃ (s : State) (o : Sender),
    (s.reaches o GDMA_CTL = true)) ∧
  (∃ (s : State) (r : Reg) (c k : Nat) (w : Word),
    (s.gdmaRuns c = true)) ∧
  (∃ (s : State) (c : Fin 16) (e : Bool) (k u : Nat) (bs : List Byte),
    (s.awake = true) ∧ (s.gdmaTurn = some c) ∧ (s.gdmaNext c = some (k, u)) ∧ ((((({ s with gdma := { s.gdma with last := c } }
      : State).setFld GDMA_CHSTAT.SEG k c).setFld GDMA_CHSTAT.UNITS u c).unitRead c k u e).2 = .bytes bs) ∧ (((((({ s with gdma := { s.gdma with last := c } }
      : State).setFld GDMA_CHSTAT.SEG k c).setFld GDMA_CHSTAT.UNITS u c).unitRead c k u e).1.unitWrite c k u bs).2 =
      true)) ∧
  (∃ (s : State) (c : Fin 16) (e : Bool) (k u : Nat) (bs : List Byte),
    (s.awake = true) ∧ (s.gdmaTurn = some c) ∧ (s.gdmaNext c = some (k, u)) ∧ ((((({ s with gdma := { s.gdma with last := c } }
      : State).setFld GDMA_CHSTAT.SEG k c).setFld GDMA_CHSTAT.UNITS u c).unitRead c k u e).2 = .bytes bs) ∧ (((((({ s with gdma := { s.gdma with last := c } }
      : State).setFld GDMA_CHSTAT.SEG k c).setFld GDMA_CHSTAT.UNITS u c).unitRead c k u e).1.unitWrite c k u bs).2 =
      false)) :=
  ⟨⟨up, 15, by decide⟩,
  ⟨up.gdmaState 15 1, 15, 3, by decide⟩,
  ⟨(up.setFld GDMA_CTL.EN 1).gdmaState 15 1, .host, by decide⟩,
  ⟨up.gdmaState 15 1, GDMA_SLEN, 15, 3, 1, by decide⟩,
  ⟨(((upDram.setFld GDMA_SLEN.UNITS 1 15 0).setFld GDMA_SSRC.FILL 1 15 0).setFld GDMA_CHCTL.NSEG 1 15).gdmaState 15 1,
    15, false, 0, 0, List.replicate 16 0, by decide⟩,
  ⟨(((up.setFld GDMA_SLEN.UNITS 1 15 0).setFld GDMA_SSRC.FILL 1 15 0).setFld GDMA_CHCTL.NSEG 1 15).gdmaState 15 1, 15,
    false, 0, 0, List.replicate 16 0, by decide⟩⟩

/-- Meets the hypotheses of CopyEngineMovesItsUnits, clauses with hypotheses 13 to 18. -/
theorem witness_CopyEngineMovesItsUnits_3 :
  (∃ (s : State) (c : Fin 16) (e : Bool) (k u : Nat),
    (s.awake = true) ∧ (s.gdmaTurn = some c) ∧ (s.gdmaNext c = some (k, u)) ∧ ((((({ s with gdma := { s.gdma with last := c } }
      : State).setFld GDMA_CHSTAT.SEG k c).setFld GDMA_CHSTAT.UNITS u c).unitRead c k u e).2 = .poison)) ∧
  (∃ (s : State) (c : Fin 16) (e : Bool) (k u : Nat),
    (s.awake = true) ∧ (s.gdmaTurn = some c) ∧ (s.gdmaNext c = some (k, u)) ∧ ((((({ s with gdma := { s.gdma with last := c } }
      : State).setFld GDMA_CHSTAT.SEG k c).setFld GDMA_CHSTAT.UNITS u c).unitRead c k u e).2 = .lost)) ∧
  (∃ (s : State) (c : Nat) (f : Fld) (y : Nat),
    (0 < y)) ∧
  (∃ (s : State) (c : Fin 16) (e : Bool),
    (s.gdmaTurn ≠ some c.val)) ∧
  (∃ (s : State) (c : Nat),
    (s.gdmaTurn = some c)) ∧
  (∃ (s : State) (c : Fin 16),
    (s.awake = true) ∧ (s.gdmaRuns c = true) ∧ (s.gdmaNext c = none)) :=
  ⟨⟨(((upDram.setFld GDMA_SLEN.UNITS 1 15 0).setFld GDMA_SSRC.SPACE 1 15 0).setFld GDMA_CHCTL.NSEG 1 15).gdmaState 15
    1, 15, true, 0, 0, by decide⟩,
  ⟨((up.setFld GDMA_SLEN.UNITS 1 15 0).setFld GDMA_CHCTL.NSEG 1 15).gdmaState 15 1, 15, true, 0, 0, by decide⟩,
  ⟨up.gdmaState 15 1, 15, GDMA_CHFLAG.LOST, 9, by decide⟩,
  ⟨up, 15, true, by decide⟩,
  ⟨(((upDram.setFld GDMA_SLEN.UNITS 1 15 0).setFld GDMA_SSRC.FILL 1 15 0).setFld GDMA_CHCTL.NSEG 1 15).gdmaState 15 1,
    15, by decide⟩,
  ⟨up.gdmaState 15 1, 15, by decide⟩⟩

/-- Meets the hypotheses of CopyEngineMovesItsUnits, clauses with hypotheses 19 to 24. -/
theorem witness_CopyEngineMovesItsUnits_4 :
  (∃ (s : State) (c : Fin 16),
    ((s.gdmaRuns c = false ∨ s.gdmaNext c ≠ none))) ∧
  (∃ (s : State) (c k u : Nat) (e : Bool),
    (s.on GDMA_SSRC.FILL c k = true)) ∧
  (∃ (s : State) (c k u : Nat),
    (s.on GDMA_SSRC.FILL c k = false) ∧ (s.on GDMA_SSRC.SPACE c k = true)) ∧
  (∃ (s : State) (c k u : Nat) (e : Bool),
    (s.on GDMA_SSRC.FILL c k = false) ∧ (s.on GDMA_SSRC.SPACE c k = false)) ∧
  (∃ (s : State) (c k u : Nat) (bs : List Byte),
    (s.on GDMA_SDST.SPACE c k = true)) ∧
  (∃ (s : State) (c k u : Nat) (bs : List Byte),
    (s.on GDMA_SDST.SPACE c k = false)) :=
  ⟨⟨up.setFld GDMA_SLEN.UNITS 1 15 0, 15, by decide⟩,
  ⟨up.setFld GDMA_SSRC.FILL 1 15 3, 15, 3, 0, false, by decide⟩,
  ⟨up.setFld GDMA_SSRC.SPACE 1 15 3, 15, 3, 0, by decide⟩,
  ⟨upDram, 15, 3, 0, false, by decide⟩,
  ⟨up.setFld GDMA_SDST.SPACE 1 15 3, 15, 3, 0, [1, 2], by decide⟩,
  ⟨upDram, 15, 3, 0, [1, 2], by decide⟩⟩

/-- Meets the hypotheses of CopyEngineMovesItsUnits, clauses with hypotheses 25 to 25. -/
theorem witness_CopyEngineMovesItsUnits_5 :
  (∃ (s : State) (c k u : Nat) (bs : List Byte),
    (s.on GDMA_SDST.SPACE c k = false) ∧ (s.dramGate ((s.fld GDMA_SDST.ADDR c k + u) * 16) bs.length = .go)) :=
  ⟨upDram, 15, 3, 0, [1, 2], by decide⟩
end

/-! Proofs of the statements about the machine as a whole: the end of a command and the level of EVENT_N. -/

namespace Sys2Proof.Machine

/-! ### Every command ends with `State.close` -/

/-- Whatever the command does, it answers the close of some effect. -/
theorem exec_eq_close (c : Instr) (s : State) : ∃ t, exec c s = .next (s.close t) := by
  cases c <;> exact ⟨_, rfl⟩

/-- A step answers the close of some effect, on the state whose queue has lost the command it ran. -/
theorem step_eq_close (s : State) : ∃ u t : State, step s = .next (u.close t) := by
  unfold step
  split
  · next c rest _ =>
    obtain ⟨t, ht⟩ := exec_eq_close c { s with pending := rest }
    exact ⟨_, t, ht⟩
  · exact ⟨s, s.tick, rfl⟩

/-- Settles O3: every step ends with `State.close`, which sets EVENT_N from the flags. -/
theorem eventPinFollowsTheFlagsAfterEveryStep : Obligations.EventPinFollowsTheFlagsAfterEveryStep := by
  intro s s' h
  obtain ⟨u, t, ht⟩ := step_eq_close s
  rw [ht] at h
  cases h
  exact State.close_eventInv u t

/-- No flag is set at reset: the load has not begun, CFG_STAT.STATE is 0. -/
theorem State.reset_eventNLow : State.reset.eventNLow = false := by decide

/-- Settles O4: at reset nothing drives EVENT_N low, and the memory and the queue are empty. -/
theorem eventPinAfterReset : Obligations.EventPinAfterReset :=
  ⟨by unfold State.eventInv; rw [State.reset_eventNLow]; rfl, rfl, State.reset_memory_wf, rfl⟩

/-! ### The end of a command in a calm state -/

/-- The words of a register file that EVENT_N's condition looks at. -/
theorem State.eventNLow_of_words {s t : State} (hst : s.word (CFG_STAT.at 0) = t.word (CFG_STAT.at 0))
    (hfl : ∀ r ∈ flagRows, ∀ i < max r.flag.n1 1,
      s.word (r.flag.at i) = t.word (r.flag.at i) ∧ s.word (r.en.at i) = t.word (r.en.at i)) :
    s.eventNLow = t.eventNLow := by
  have hfld : s.fld CFG_STAT.STATE = t.fld CFG_STAT.STATE := congrArg CFG_STAT.STATE.ext hst
  unfold State.eventNLow
  rw [hfld]
  congr 1
  rw [Bool.eq_iff_iff]
  simp only [List.any_eq_true, List.mem_range]
  refine exists_congr fun r => and_congr_right fun hr => exists_congr fun i => and_congr_right fun hi => ?_
  obtain ⟨h1, h2⟩ := hfl r hr i hi
  rw [show s.reg r.flag i = t.reg r.flag i from h1, show s.reg r.en i = t.reg r.en i from h2]

/-- DRAM_GEOM is none of the registers that EVENT_N's condition looks at. -/
theorem flagRows_apart_geom : ∀ r ∈ flagRows, ∀ i < max r.flag.n1 1,
    r.flag.at i ≠ DRAM_GEOM.at 0 ∧ r.en.at i ≠ DRAM_GEOM.at 0 := by decide

/-- Showing the capacity writes no register but DRAM_GEOM. -/
theorem State.geomSync_word (s : State) {a : Nat} (h : a ≠ DRAM_GEOM.at 0) : s.geomSync.word a = s.word a :=
  State.word_setFld_other s DRAM_GEOM.SIZE _ 0 0 a h

/-- Showing the capacity does not move EVENT_N. -/
theorem State.geomSync_eventNLow (s : State) : s.geomSync.eventNLow = s.eventNLow :=
  State.eventNLow_of_words (s.geomSync_word (by decide)) fun r hr i hi =>
    have h := flagRows_apart_geom r hr i hi
    ⟨s.geomSync_word h.1, s.geomSync_word h.2⟩

/-- Settles O7: of the registers the close of a calm state changes DRAM_GEOM.SIZE alone, and EVENT_N does not see it. -/
theorem closeLeavesTheCommandsEffect : Obligations.CloseLeavesTheCommandsEffect := by
  intro s t h
  have hw : ∀ a, (s.close t).word a = (t.settle s).word a := fun _ => rfl
  have hf : ∀ f, (s.close t).fld f = (t.settle s).fld f := fun _ => rfl
  have hsettle := t.settle_calm s h
  by_cases hc : t.clocked = true
  case neg =>
    have hsame : t.settle s = t := by rw [hsettle, if_neg hc]
    refine ⟨fun a _ => by rw [hw, hsame], fun f _ => by rw [hf, hsame], t.regs, ?_⟩
    unfold State.close
    rw [hsame]
    rfl
  case pos =>
    have hgeom : t.settle s = t.geomSync := by rw [hsettle, if_pos hc]
    refine ⟨fun a ha => by rw [hw, hgeom, t.geomSync_word ha], fun f hm => ?_, t.geomSync.regs, ?_⟩
    · rw [hf, hgeom]
      exact State.fld_setFld_beside t DRAM_GEOM.SIZE f _ 0 0 (by fin_cases hm <;> rfl) (by decide) (by decide)
        (by fin_cases hm <;> decide) (by fin_cases hm <;> decide)
    · unfold State.close State.eventSync
      rw [hgeom, t.geomSync_eventNLow]
      rfl

end Sys2Proof.Machine

/-! Proofs about flags (R8, R9, R45, R261, R262): what an occurrence of a flag's condition does, with and without room in
the event queue. -/

namespace Sys2Proof.Machine

/-! ### Words, bits and one-bit fields -/

/-- A field reads the same where the words of its register agree. -/
theorem State.fld_of_word {s t : State} {f : Fld} {i j : Nat}
    (h : s.word (f.reg.at i j) = t.word (f.reg.at i j)) : s.fld f i j = t.fld f i j := congrArg f.ext h

/-- A condition reads the same where the words of its register agree. -/
theorem State.on_of_word {s t : State} {f : Fld} {i j : Nat}
    (h : s.word (f.reg.at i j) = t.word (f.reg.at i j)) : s.on f i j = t.on f i j := by
  unfold State.on
  rw [State.fld_of_word h]

/-- A one-bit field, read as a condition, is its bit. -/
theorem State.on_eq_bit (s : State) {f : Fld} (h : f.hi = f.lo) (i j : Nat) :
    s.on f i j = (s.reg f.reg i j).getLsbD f.lo := by
  have hw : f.width = 1 := by unfold Fld.width; omega
  have hbit := Fld.testBit_ext f (s.reg f.reg i j) 0
  have hlt := Fld.ext_lt f (s.reg f.reg i j)
  rw [hw] at hbit hlt
  have hcases : f.ext (s.reg f.reg i j) = 0 ∨ f.ext (s.reg f.reg i j) = 1 := by omega
  unfold State.on State.fld
  rcases hcases with h0 | h1
  · rw [h0] at hbit ⊢
    simpa using hbit
  · rw [h1] at hbit ⊢
    simpa using hbit

/-- Setting one bit of a word leaves its other bits. -/
theorem getLsbD_setBit_other (w : Word) {b c : Nat} (h : c ≠ b) : (setBit w b).getLsbD c = w.getLsbD c := by
  have hone : ((1#40 : Word) <<< b).getLsbD c = false := by
    rw [BitVec.getLsbD_shiftLeft]
    by_cases hcb : c < b
    · simp [hcb]
    · have : c - b ≠ 0 := by omega
      simp [BitVec.getLsbD_one, this]
  simp [setBit, hone]

/-! ### What the stamp and UNCERTAIN read -/

/-- The addresses of the registers that pos_out and UNCERTAIN read; the source channel is a two-bit field. -/
def posWords : List Nat :=
  [POS_CTL.at 0, POS_STAT.at 0, POS_LATCOMP.at 0] ++ (List.range 4).flatMap fun c => [POS_ENCCFG.at c, POS_ENCSTAT.at c]

theorem encCfg_mem_posWords : ∀ c < 4, POS_ENCCFG.at c ∈ posWords := by decide

theorem encStat_mem_posWords : ∀ c < 4, POS_ENCSTAT.at c ∈ posWords := by decide

theorem State.srcCh_lt (s : State) : s.srcCh < 4 := Fld.ext_lt POS_CTL.SRC _

section
variable {s t : State} (h : ∀ a ∈ posWords, s.word a = t.word a)
include h

theorem State.srcCh_of_words : s.srcCh = t.srcCh := State.fld_of_word (f := POS_CTL.SRC) (h _ (by decide))

theorem State.follows_of_words : s.follows = t.follows :=
  congrArg (· == 2) (State.srcCh_of_words h)

theorem State.latComp_of_words : s.latComp = t.latComp := by
  have hfilt : s.fld POS_ENCCFG.FILT t.srcCh = t.fld POS_ENCCFG.FILT t.srcCh :=
    State.fld_of_word (h _ (encCfg_mem_posWords _ t.srcCh_lt))
  have hextra : s.fld POS_LATCOMP.EXTRA = t.fld POS_LATCOMP.EXTRA := State.fld_of_word (h _ (by decide))
  unfold State.latComp
  rw [State.follows_of_words h, State.srcCh_of_words h, hfilt, hextra]

/-- pos_out follows from the position unit's state and these registers. -/
theorem State.posOut_of_words (hp : s.pos = t.pos) : s.posOut = t.posOut := by
  unfold State.posOut State.posAt
  rw [State.latComp_of_words h, hp]

/-- UNCERTAIN follows from these registers. -/
theorem State.uncertain_of_words : s.uncertain = t.uncertain := by
  have hstat : s.fld POS_ENCSTAT.UNCERT t.srcCh = t.fld POS_ENCSTAT.UNCERT t.srcCh :=
    State.fld_of_word (h _ (encStat_mem_posWords _ t.srcCh_lt))
  have hon : s.on POS_STAT.UNCERTAIN = t.on POS_STAT.UNCERTAIN := State.on_of_word (h _ (by decide))
  unfold State.uncertain
  rw [State.follows_of_words h, State.srcCh_of_words h, hstat, hon]

end

/-! ### The addresses of flag registers -/

/-- No flag register is one that pos_out or UNCERTAIN reads, nor the enable register of the event queue's own flag; the
register of that flag is HLNK_FLAG's alone. -/
theorem flagRows_at_apart : ∀ r ∈ flagRows, ∀ i < max r.flag.n1 1,
    r.flag.at i ∉ posWords ∧ r.flag.at i ≠ HLNK_FLAGEN.at 0 ∧
      (r.flag.at i = HLNK_FLAG.at 0 → r = hlnkFlagRow ∧ i = 0) := by decide

/-- The registers behind the Tally's window. -/
theorem posWords_behind_tally : ∀ a ∈ posWords, TALLY_CNT.at 4000 < a := by decide

theorem hlnkFlagRow_mem : hlnkFlagRow ∈ flagRows := by decide

/-- The Tally index of a flag is below 4,000. -/
theorem flagRow_index_lt {r : FlagRow} (hr : r ∈ flagRows) {i b : Nat} (hi : i < max r.flag.n1 1) (hb : b < 40) :
    r.base + i * r.stride + b < 4000 := by
  obtain ⟨_, _, hn, hbase, _⟩ := flagRows_apart r hr
  have hle : i * r.stride ≤ 48 * r.stride := Nat.mul_le_mul_right _ (by omega)
  omega

/-- The counters of the Tally lie at successive addresses. -/
theorem tally_at (t : Nat) : TALLY_CNT.at t = TALLY_CNT.base + t := by
  show TALLY_CNT.base + t * 1 + 0 * 0 = _
  omega

theorem tally_at_inj {t u : Nat} (h : t ≠ u) : TALLY_CNT.at t ≠ TALLY_CNT.at u := by
  rw [tally_at, tally_at]
  omega

/-- A counter of the Tally below 4,000 lies before every address behind the window. -/
theorem tally_at_ne {t a : Nat} (ht : t < 4000) (ha : TALLY_CNT.at 4000 < a) : a ≠ TALLY_CNT.at t := by
  rw [tally_at] at ha ⊢
  omega

/-! ### An occurrence before its packet -/

/-- The state after an occurrence of a flag's condition, before its packet is queued: the bit set, the counter advanced,
and the stamp kept where the flag was clear. -/
def State.flagged (s : State) (r : FlagRow) (b i : Nat) (st : Option Word) (info : Word) : State :=
  if (s.reg r.flag i).getLsbD b || s.clearing (r.base + i * r.stride + b) then s.markFlag r b i
  else (s.markFlag r b i).keepEvt (r.base + i * r.stride + b) st info

section
variable (s : State) (r : FlagRow) (b i : Nat) (st : Option Word) (info : Word)

theorem State.flagged_regs : (s.flagged r b i st info).regs = (s.markFlag r b i).regs := by
  unfold State.flagged
  split <;> rfl

/-- An occurrence before its packet changes the registers and the kept stamps alone. -/
theorem State.flagged_eq : s.flagged r b i st info =
    { s with regs := (s.markFlag r b i).regs, evt := (s.flagged r b i st info).evt } := by
  unfold State.flagged
  split <;> rfl

@[simp] theorem State.flagged_hlnk : (s.flagged r b i st info).hlnk = s.hlnk := by rw [State.flagged_eq]

@[simp] theorem State.flagged_pos : (s.flagged r b i st info).pos = s.pos := by rw [State.flagged_eq]

@[simp] theorem State.flagged_clearing (t : Nat) : (s.flagged r b i st info).clearing t = s.clearing t := by
  rw [State.flagged_eq]; rfl

theorem State.flagged_evt : (s.flagged r b i st info).evt =
    if (s.reg r.flag i).getLsbD b || s.clearing (r.base + i * r.stride + b) then s.evt
    else SMap.set (0, 0, false) s.evt (r.base + i * r.stride + b) (st.getD (s.markFlag r b i).posOut, info,
      (s.markFlag r b i).uncertain) := by
  unfold State.flagged
  split <;> rfl

theorem State.flagged_word (a : Nat) : (s.flagged r b i st info).word a = (s.markFlag r b i).word a := by
  unfold State.word
  rw [State.flagged_regs]

/-- An occurrence leaves every word but its flag register and its counter. -/
theorem State.flagged_word_other {a : Nat} (h1 : a ≠ r.flag.at i)
    (h2 : a ≠ TALLY_CNT.at (r.base + i * r.stride + b)) : (s.flagged r b i st info).word a = s.word a := by
  rw [State.flagged_word]
  exact State.word_markFlag_other s r b i a h1 h2

end

section
variable (s : State) {r : FlagRow} {b i : Nat} (st : Option Word) (info : Word)
  (hr : r ∈ flagRows) (hi : i < max r.flag.n1 1) (hb : b < 40)
include hr hi hb

/-- The flag register has the bit set. -/
theorem State.flagged_flag : (s.flagged r b i st info).reg r.flag i = setBit (s.reg r.flag i) b := by
  rw [← State.reg_markFlag s r b i (flag_ne_tally hr hi hb)]
  exact s.flagged_word r b i st info _

/-- The flag's counter is one more. -/
theorem State.flagged_tally : (s.flagged r b i st info).reg TALLY_CNT (r.base + i * r.stride + b) =
    s.reg TALLY_CNT (r.base + i * r.stride + b) + 1 := by
  rw [← State.tally_markFlag s r b i (flag_ne_tally hr hi hb)]
  exact s.flagged_word r b i st info _

omit hb in
/-- Any other counter stays. -/
theorem State.flagged_tally_other {t : Nat} (ht : t < 4000) (h : t ≠ r.base + i * r.stride + b) :
    (s.flagged r b i st info).reg TALLY_CNT t = s.reg TALLY_CNT t := by
  have hflag : TALLY_CNT.at t ≠ r.flag.at i := by
    obtain ⟨hbase, _, hn, _⟩ := flagRows_apart r hr
    have hle : i * r.flag.s1 ≤ 63 * r.flag.s1 := Nat.mul_le_mul_right _ (by omega)
    rw [tally_at]
    unfold Reg.at
    omega
  exact s.flagged_word_other r b i st info hflag (tally_at_inj h)

/-- The enable register of the flag stays. -/
theorem State.flagged_en : (s.flagged r b i st info).reg r.en i = s.reg r.en i :=
  s.flagged_word_other r b i st info (en_ne_flag hr i) (en_ne_tally hr hi hb)

/-- Marking a flag leaves what pos_out and UNCERTAIN read. -/
theorem State.markFlag_posWords : ∀ a ∈ posWords, (s.markFlag r b i).word a = s.word a := fun a ha =>
  State.word_markFlag_other s r b i a (fun h => (flagRows_at_apart r hr i hi).1 (h ▸ ha))
    (tally_at_ne (flagRow_index_lt hr hi hb) (posWords_behind_tally a ha))

theorem State.markFlag_posOut : (s.markFlag r b i).posOut = s.posOut :=
  State.posOut_of_words (s.markFlag_posWords hr hi hb) rfl

theorem State.markFlag_uncertain : (s.markFlag r b i).uncertain = s.uncertain :=
  State.uncertain_of_words (s.markFlag_posWords hr hi hb)

theorem State.flagged_posOut : (s.flagged r b i st info).posOut = s.posOut :=
  State.posOut_of_words
    (fun a ha => (s.flagged_word r b i st info a).trans (s.markFlag_posWords hr hi hb a ha)) (by simp)

theorem State.flagged_uncertain : (s.flagged r b i st info).uncertain = s.uncertain :=
  State.uncertain_of_words fun a ha => (s.flagged_word r b i st info a).trans (s.markFlag_posWords hr hi hb a ha)

/-- The packet of a flag that was clear tells its occurrence. -/
theorem State.flagged_evtOf
    (hclear : ((s.reg r.flag i).getLsbD b || s.clearing (r.base + i * r.stride + b)) = false) :
    (s.flagged r b i st info).evtOf (r.base + i * r.stride + b) =
      ⟨r.base + i * r.stride + b, s.uncertain, st.getD s.posOut, info,
        s.reg TALLY_CNT (r.base + i * r.stride + b) + 1⟩ := by
  unfold State.evtOf
  rw [State.flagged_evt, hclear, s.flagged_tally st info hr hi hb, s.markFlag_posOut hr hi hb,
    s.markFlag_uncertain hr hi hb]
  simp

end

/-! ### The packet -/

/-- An occurrence: its packet is queued where the enabled flag was clear. -/
theorem State.raiseAt_of_row (s : State) (f : Fld) (i k : Nat) (st : Option Word) (info : Word) (r : FlagRow)
    (hr : flagRow? f.reg = some r) (hi : i < max r.flag.n1 1) (hb : f.lo + k < 40) :
    s.raiseAt f i k st info =
      if (s.reg r.en i).getLsbD (f.lo + k) &&
          !((s.reg r.flag i).getLsbD (f.lo + k) || s.clearing (r.base + i * r.stride + (f.lo + k))) then
        (s.flagged r (f.lo + k) i st info).queueEvent
          ((s.flagged r (f.lo + k) i st info).evtOf (r.base + i * r.stride + (f.lo + k)))
      else s.flagged r (f.lo + k) i st info := by
  obtain ⟨hmem, _⟩ := flagRow?_mem hr
  rw [← s.flagged_en st info hmem hi hb]
  unfold State.raiseAt
  rw [hr]
  rfl

/-- With room in the queue a packet is appended. -/
theorem State.queueEvent_room (s : State) (e : EvtPkt) (h : s.hlnk.evq.length < 511) :
    s.queueEvent e = { s with hlnk := { s.hlnk with evq := s.hlnk.evq ++ [e] } } := by
  unfold State.queueEvent
  rw [if_pos (Or.inl h)]

/-- The flag that the event queue itself sets, as an occurrence without a stamp of its own. -/
def State.ovfFlagged (s : State) : State := s.flagged hlnkFlagRow HLNK_FLAG.EVQ_OVF.lo 0 none 0

/-- EVQ_OVF is set, or a write of this cycle has cleared it. -/
def State.ovfWas (s : State) : Bool := s.on HLNK_FLAG.EVQ_OVF || s.clearing evqOvfIdx

theorem State.ovfWas_eq (s : State) : s.ovfWas =
    ((s.reg hlnkFlagRow.flag 0).getLsbD HLNK_FLAG.EVQ_OVF.lo ||
      s.clearing (hlnkFlagRow.base + 0 * hlnkFlagRow.stride + HLNK_FLAG.EVQ_OVF.lo)) := by
  unfold State.ovfWas
  rw [s.on_eq_bit rfl]
  rfl

/-- EVQ_OVF reads 1 after its occurrence. -/
theorem State.ovfFlagged_on (s : State) : s.ovfFlagged.on HLNK_FLAG.EVQ_OVF = true := by
  rw [s.ovfFlagged.on_eq_bit rfl]
  show (s.ovfFlagged.reg hlnkFlagRow.flag 0).getLsbD HLNK_FLAG.EVQ_OVF.lo = true
  unfold State.ovfFlagged
  rw [s.flagged_flag none 0 hlnkFlagRow_mem (by decide) (by decide)]
  exact getLsbD_setBit _ _ (by decide)

/-- Without room a packet but EVQ_OVF's own is discarded and EVQ_OVF is set; its packet takes the last entry. -/
theorem State.queueEvent_full (s : State) (e : EvtPkt) (h : 511 ≤ s.hlnk.evq.length) (he : e.idx ≠ evqOvfIdx) :
    s.queueEvent e = { s.ovfFlagged with
      hlnk := if s.on HLNK_FLAGEN.EVQ_OVF && !s.ovfWas && decide (s.hlnk.evq.length < 512) then
          { s.hlnk with evq := s.hlnk.evq ++ [⟨evqOvfIdx, s.uncertain, s.posOut, 0, s.reg TALLY_CNT evqOvfIdx + 1⟩] }
        else s.hlnk } := by
  have hen : s.ovfFlagged.on HLNK_FLAGEN.EVQ_OVF = s.on HLNK_FLAGEN.EVQ_OVF :=
    State.on_of_word (s.flagged_en none 0 hlnkFlagRow_mem (by decide) (by decide))
  have hstep : s.queueEvent e =
      if s.ovfFlagged.on HLNK_FLAGEN.EVQ_OVF && !s.ovfWas && decide (s.ovfFlagged.hlnk.evq.length < 512) then
        { s.ovfFlagged with
          hlnk := { s.ovfFlagged.hlnk with evq := s.ovfFlagged.hlnk.evq ++ [s.ovfFlagged.evtOf evqOvfIdx] } }
      else s.ovfFlagged := by
    unfold State.queueEvent State.ovfFlagged State.flagged
    rw [if_neg (by omega), ← s.ovfWas_eq]
    rfl
  have hhl : s.ovfFlagged.hlnk = s.hlnk := s.flagged_hlnk _ _ _ _ _
  rw [hstep, hen, hhl]
  by_cases hq : (s.on HLNK_FLAGEN.EVQ_OVF && !s.ovfWas && decide (s.hlnk.evq.length < 512)) = true
  · have hclear : s.ovfWas = false := by simp at hq; exact hq.1.2
    rw [s.ovfWas_eq] at hclear
    rw [if_pos hq, if_pos hq]
    rw [show s.ovfFlagged.evtOf evqOvfIdx = _ from
      s.flagged_evtOf none 0 hlnkFlagRow_mem (by decide) (by decide) hclear]
    rfl
  · rw [if_neg hq, if_neg hq, ← hhl]

/-! ### An occurrence with and without room in the queue -/

section
variable (s : State) (f : Fld) (i k : Nat) (st : Option Word) (info : Word) (r : FlagRow)
  (hr : flagRow? f.reg = some r) (hi : i < max r.flag.n1 1) (hb : f.lo + k < 40)
include hr hi hb

/-- Where the packet finds room, or none is queued, EVQ_OVF is not touched. -/
theorem State.raiseAt_fits (hroom : s.hlnk.evq.length < 511 ∨ (s.reg r.en i).getLsbD (f.lo + k) = false ∨
      (s.reg r.flag i).getLsbD (f.lo + k) = true) :
    s.raiseAt f i k st info = { s.flagged r (f.lo + k) i st info with
      hlnk := if (s.reg r.en i).getLsbD (f.lo + k) &&
            !((s.reg r.flag i).getLsbD (f.lo + k) || s.clearing (r.base + i * r.stride + (f.lo + k))) then
          { s.hlnk with evq := s.hlnk.evq ++ [⟨r.base + i * r.stride + (f.lo + k), s.uncertain, st.getD s.posOut, info,
              s.reg TALLY_CNT (r.base + i * r.stride + (f.lo + k)) + 1⟩] }
        else s.hlnk } := by
  obtain ⟨hmem, _⟩ := flagRow?_mem hr
  have hhl := s.flagged_hlnk r (f.lo + k) i st info
  rw [s.raiseAt_of_row f i k st info r hr hi hb]
  split
  · next hq =>
    simp only [Bool.and_eq_true, Bool.not_eq_true'] at hq
    obtain ⟨hen, hclear⟩ := hq
    have hlen : s.hlnk.evq.length < 511 := by
      rcases hroom with h | h | h
      · exact h
      · simp [h] at hen
      · simp [h] at hclear
    rw [State.queueEvent_room _ _ (by rw [hhl]; exact hlen), s.flagged_evtOf st info hmem hi hb hclear, hhl]
  · rw [← hhl]

/-- Where an enabled, clear flag meets a full queue, its packet is discarded and EVQ_OVF is set. -/
theorem State.raiseAt_overflows (ht : r.base + i * r.stride + (f.lo + k) ≠ evqOvfIdx) (hfull : 511 ≤ s.hlnk.evq.length)
    (hen : (s.reg r.en i).getLsbD (f.lo + k) = true)
    (hclear : ((s.reg r.flag i).getLsbD (f.lo + k) || s.clearing (r.base + i * r.stride + (f.lo + k))) = false) :
    s.raiseAt f i k st info = { (s.flagged r (f.lo + k) i st info).ovfFlagged with
      hlnk := if s.on HLNK_FLAGEN.EVQ_OVF && !s.ovfWas && decide (s.hlnk.evq.length < 512) then
          { s.hlnk with evq := s.hlnk.evq ++ [⟨evqOvfIdx, s.uncertain, s.posOut, 0, s.reg TALLY_CNT evqOvfIdx + 1⟩] }
        else s.hlnk } := by
  obtain ⟨hmem, _⟩ := flagRow?_mem hr
  obtain ⟨_, hne, hown⟩ := flagRows_at_apart r hmem i hi
  have hhl := s.flagged_hlnk r (f.lo + k) i st info
  have hon : (s.flagged r (f.lo + k) i st info).on HLNK_FLAGEN.EVQ_OVF = s.on HLNK_FLAGEN.EVQ_OVF :=
    State.on_of_word (s.flagged_word_other _ _ _ _ _ (Ne.symm hne)
      (tally_at_ne (flagRow_index_lt hmem hi hb) (by decide)))
  have hwas : (s.flagged r (f.lo + k) i st info).ovfWas = s.ovfWas := by
    unfold State.ovfWas
    rw [State.flagged_clearing, State.on_eq_bit _ rfl, State.on_eq_bit _ rfl]
    congr 1
    by_cases hreg : r.flag.at i = HLNK_FLAG.at 0
    · obtain ⟨rfl, rfl⟩ := hown hreg
      have hbit : HLNK_FLAG.EVQ_OVF.lo ≠ f.lo + k := fun h => ht (by rw [← h]; rfl)
      have hflag := s.flagged_flag st info hmem hi hb
      exact (congrArg (·.getLsbD HLNK_FLAG.EVQ_OVF.lo) hflag).trans (getLsbD_setBit_other _ hbit)
    · exact congrArg (·.getLsbD HLNK_FLAG.EVQ_OVF.lo) (s.flagged_word_other _ _ _ _ _ (Ne.symm hreg)
        (tally_at_ne (flagRow_index_lt hmem hi hb) (by decide)))
  rw [s.raiseAt_of_row f i k st info r hr hi hb, if_pos (by rw [hen, hclear]; rfl),
    s.flagged_evtOf st info hmem hi hb hclear, State.queueEvent_full _ _ (by rw [hhl]; exact hfull) ht, hhl, hon, hwas,
    s.flagged_uncertain st info hmem hi hb, s.flagged_posOut st info hmem hi hb,
    s.flagged_tally_other st info hmem hi (by decide) (Ne.symm ht)]

end

/-- Settles O9: with room, the packet is appended to the marked state (`raiseAt_fits`); without, EVQ_OVF is marked after
it (`raiseAt_overflows`, `queueEvent_full`). -/
theorem raisingAFlagMarksItAndItsCounter : Obligations.RaisingAFlagMarksItAndItsCounter := by
  refine ⟨?fits, ?overflows, ?full⟩
  case fits =>
    intro s f i k st info r hr hi hb hroom u t was
    obtain ⟨hmem, hreg⟩ := flagRow?_mem hr
    rw [← hreg] at hroom
    have hu : u = _ := s.raiseAt_fits f i k st info r hr hi hb hroom
    have hword : ∀ a, u.word a = (s.flagged r (f.lo + k) i st info).word a := fun a => by rw [hu]; rfl
    have hflag : u.reg f.reg i = setBit (s.reg f.reg i) (f.lo + k) := by
      rw [← hreg, ← s.flagged_flag st info hmem hi hb]
      exact hword _
    refine ⟨?_, ?_, fun a h1 h2 => ?_, fun b hne => ?_, ?_, ?_, ?_⟩
    · rw [hflag, getLsbD_setBit _ _ hb]
    · exact (hword _).trans (s.flagged_tally st info hmem hi hb)
    · rw [hword, s.flagged_word_other _ _ _ _ _ (by rw [hreg]; exact h1) h2]
    · rw [hflag, getLsbD_setBit_other _ hne]
    · have hevt : u.evt = (s.flagged r (f.lo + k) i st info).evt := by rw [hu]
      rw [hevt, s.flagged_evt, s.markFlag_posOut hmem hi hb, s.markFlag_uncertain hmem hi hb, hreg]
    · rw [hu, hreg]
    · exact ⟨u.regs, u.evt, u.hlnk, by rw [hu, s.flagged_eq]⟩
  case overflows =>
    intro s f i k st info r t hr hi hb htdef ht hfull hen hflag0 hclr u ovf
    subst htdef
    obtain ⟨hmem, hreg⟩ := flagRow?_mem hr
    rw [← hreg] at hflag0
    have hu : u = _ := s.raiseAt_overflows f i k st info r hr hi hb ht hfull hen (by rw [hflag0, hclr]; rfl)
    have hword : ∀ a, u.word a = (s.flagged r (f.lo + k) i st info).ovfFlagged.word a := fun a => by rw [hu]; rfl
    have hother : ∀ a, a ≠ HLNK_FLAG.at 0 → a ≠ TALLY_CNT.at evqOvfIdx →
        u.word a = (s.flagged r (f.lo + k) i st info).word a := fun a h1 h2 => by
      rw [hword]
      exact State.flagged_word_other _ hlnkFlagRow _ 0 none 0 h1 h2
    have htlt := flagRow_index_lt hmem hi hb
    refine ⟨s.raiseAt_bit f i k st info r hr hi hb, ?_, ?_, ?_, fun a h1 h2 h3 h4 => ?_, ?_, ?_⟩
    · rw [← (s.flagged r (f.lo + k) i st info).ovfFlagged_on]
      exact State.on_of_word (hword _)
    · rw [← s.flagged_tally st info hmem hi hb]
      exact hother _ (Ne.symm (tally_at_ne htlt (by decide))) (tally_at_inj ht)
    · rw [← s.flagged_tally_other st info hmem hi (by decide : evqOvfIdx < 4000) (Ne.symm ht)]
      exact (hword _).trans (State.flagged_tally _ none 0 hlnkFlagRow_mem (by decide) (by decide))
    · rw [hother a h2 h4, s.flagged_word_other _ _ _ _ _ (by rw [hreg]; exact h1) h3]
    · rw [hu]; rfl
    · refine ⟨u.regs, u.evt, u.hlnk, ?_⟩
      rw [hu]
      unfold State.ovfFlagged
      rw [State.flagged_eq, s.flagged_eq]
  case full =>
    intro s e t hlen hidx ht
    rw [s.queueEvent_full e (by omega) hidx] at ht
    subst ht
    refine ⟨?_, s.ovfFlagged_on⟩
    rw [hlen]
    simp

end Sys2Proof.Machine

/-! Proofs about the register map (R4, Table 00-3, R160): the fields of a register do not overlap, so a stored, kept or
merged word is told bit by bit. -/

namespace Sys2Proof.Machine

/-! ### The register map -/

/-- A row an address names is one of the list searched. -/
theorem findRow_mem {rows : List RegRow} {a : Nat} {row : RegRow} {i j : Nat}
    (h : findRow rows a = some (row, i, j)) : row ∈ rows ∧ row.reg.index? a = some (i, j) := by
  induction rows with
  | nil => cases h
  | cons r t ih =>
    unfold findRow at h
    split at h
    · next i' j' hidx =>
      cases h
      exact ⟨by simp, hidx⟩
    · obtain ⟨hm, hidx⟩ := ih h
      exact ⟨by simp [hm], hidx⟩

/-- The rows of a window are those of one entry of the window list. -/
theorem findBlock_mem {bs : List (Nat × List RegRow)} {a : Nat} {row : RegRow} (h : row ∈ findBlock bs a) :
    ∃ b ∈ bs, row ∈ b.2 := by
  induction bs with
  | nil => cases h
  | cons b t ih =>
    obtain ⟨hi, rows⟩ := b
    unfold findBlock at h
    split at h
    · exact ⟨(hi, rows), by simp, h⟩
    · obtain ⟨b, hb, hr⟩ := ih h
      exact ⟨b, by simp [hb], hr⟩

/-- A property of every row of the register map holds of the row that an address names. -/
theorem regRow?_all {p : RegRow → Bool} (hall : (blocks.all fun b => b.2.all p) = true) {a : Nat} {row : RegRow} {i j : Nat}
    (h : regRow? a = some (row, i, j)) : p row = true := by
  obtain ⟨b, hb, hrow⟩ := findBlock_mem (findRow_mem h).1
  exact List.all_eq_true.1 (List.all_eq_true.1 hall b hb) row hrow

/-- A field list fit for a word: every field within 40 bits, no two overlapping. -/
def fieldsApart (fields : List Fld) : Bool :=
  fields.all (fun f => decide (f.hi < 40) && decide (f.lo ≤ f.hi)) &&
    decide (fields.Pairwise fun f g => f.hi < g.lo ∨ g.hi < f.lo)

theorem fieldsApart_iff (fields : List Fld) : fieldsApart fields = true ↔
    (∀ f ∈ fields, f.hi < 40 ∧ f.lo ≤ f.hi) ∧ fields.Pairwise fun f g => f.hi < g.lo ∨ g.hi < f.lo := by
  simp [fieldsApart]

/-- The fields of every row lie apart. -/
theorem blocks_fieldsApart : (blocks.all fun b => b.2.all fun row => fieldsApart row.fields) = true := by decide

/-- The fields of every row are its own register's. -/
theorem blocks_fields_reg : (blocks.all fun b => b.2.all fun row => row.fields.all fun f => f.reg == row.reg) = true := by
  decide

/-- The fields of a row at an address are a part of its fields, in order. -/
theorem RegRow.fieldsOf_sublist (row : RegRow) (a : Nat) : (row.fieldsOf a).Sublist row.fields := by
  unfold RegRow.fieldsOf
  split
  · exact List.filter_sublist
  · exact List.Sublist.refl _

theorem fieldsApart_sublist {l m : List Fld} (h : l.Sublist m) (hm : fieldsApart m = true) : fieldsApart l = true := by
  rw [fieldsApart_iff] at hm ⊢
  exact ⟨fun f hf => hm.1 f (h.subset hf), hm.2.sublist h⟩

/-- The fields at an address lie apart. -/
theorem fieldsAt_apart (a : Nat) : fieldsApart (fieldsAt a) = true := by
  unfold fieldsAt
  split
  · next row i j hrow => exact fieldsApart_sublist (row.fieldsOf_sublist a) (regRow?_all blocks_fieldsApart hrow)
  · rfl

/-- An address that names an element of a register has its row. -/
theorem regAt_row {r : Reg} {i j : Nat} (h : regAt r i j = true) :
    ∃ row, regRow? (r.at i j) = some (row, i, j) ∧ row.reg = r := by
  unfold regAt at h
  split at h
  · next row i' j' hrow =>
    simp only [Bool.and_eq_true, beq_iff_eq] at h
    obtain ⟨⟨hreg, rfl⟩, rfl⟩ := h
    exact ⟨row, hrow, hreg⟩
  · cases h

/-- An address that names an element of a register that is not banked has its row. -/
theorem namedAt_row {r : Reg} {i j : Nat} (h : namedAt r i j = true) :
    ∃ row, regRow? (r.at i j) = some (row, i, j) ∧ row.reg = r ∧ r.s1 ≠ 2 ^ 24 := by
  unfold namedAt at h
  split at h
  · next row i' j' hrow =>
    simp only [Bool.and_eq_true, beq_iff_eq, bne_iff_ne, ne_eq] at h
    obtain ⟨⟨⟨hreg, rfl⟩, rfl⟩, hbank⟩ := h
    exact ⟨row, hrow, hreg, hreg ▸ hbank⟩
  · cases h

theorem fieldsAt_of_row {a : Nat} {row : RegRow} {i j : Nat} (h : regRow? a = some (row, i, j)) :
    fieldsAt a = row.fieldsOf a := by
  unfold fieldsAt
  rw [h]

/-- The fields at a register's address are its own. -/
theorem fieldsAt_reg {r : Reg} {i j : Nat} (h : regAt r i j = true) {f : Fld} (hf : f ∈ fieldsAt (r.at i j)) :
    f.reg = r := by
  obtain ⟨row, hrow, rfl⟩ := regAt_row h
  rw [fieldsAt_of_row hrow] at hf
  have hall := List.all_eq_true.1 (regRow?_all blocks_fields_reg hrow) f ((row.fieldsOf_sublist _).subset hf)
  exact beq_iff_eq.1 hall

/-! ### A word changed field by field -/

/-- Bit `k` lies in the field. -/
def Fld.has (f : Fld) (k : Nat) : Bool := decide (f.lo ≤ k) && decide (k ≤ f.hi)

theorem Fld.has_iff (f : Fld) (k : Nat) : f.has k = true ↔ f.lo ≤ k ∧ k ≤ f.hi := by simp [Fld.has]

/-- A change of a word that acts within one field: what it makes of each of the field's bits. -/
def ActsWithin (g : Word → Fld → Word) (val : Fld → Nat → Bool → Bool) (fields : List Fld) : Prop :=
  ∀ f ∈ fields, ∀ v k, (g v f).getLsbD k = if f.has k then val f k (v.getLsbD k) else v.getLsbD k

/-- A bit in no field stays. -/
theorem foldl_bit_outside {g : Word → Fld → Word} {val : Fld → Nat → Bool → Bool} {fields : List Fld}
    (hg : ActsWithin g val fields) {k : Nat} (hk : ∀ f ∈ fields, f.has k = false) (v : Word) :
    (fields.foldl g v).getLsbD k = v.getLsbD k := by
  induction fields generalizing v with
  | nil => rfl
  | cons f t ih =>
    rw [List.foldl_cons, ih (fun f' hf => hg f' (by simp [hf])) (fun f' hf => hk f' (by simp [hf])),
      hg f (by simp), hk f (by simp)]
    rfl

/-- A bit of a field is changed by that field's turn alone. -/
theorem foldl_bit_inside {g : Word → Fld → Word} {val : Fld → Nat → Bool → Bool} {fields : List Fld}
    (hg : ActsWithin g val fields) (ha : fieldsApart fields = true) {f : Fld} (hf : f ∈ fields) {k : Nat}
    (hk : f.has k = true) (v : Word) : (fields.foldl g v).getLsbD k = val f k (v.getLsbD k) := by
  rw [fieldsApart_iff] at ha
  obtain ⟨hbound, hapart⟩ := ha
  induction fields generalizing v with
  | nil => cases hf
  | cons e t ih =>
    have hgt : ActsWithin g val t := fun f' hf' => hg f' (by simp [hf'])
    obtain ⟨he, ht⟩ := List.pairwise_cons.1 hapart
    rw [Fld.has_iff] at hk
    rw [List.foldl_cons]
    rcases List.mem_cons.1 hf with rfl | hft
    · have hout : ∀ f' ∈ t, f'.has k = false := fun f' hf' => by
        have := he f' hf'
        rw [Bool.eq_false_iff, ne_eq, Fld.has_iff]
        omega
      rw [foldl_bit_outside hgt hout, hg f (by simp), if_pos ((Fld.has_iff f k).2 hk)]
    · have hout : e.has k = false := by
        have := he f hft
        rw [Bool.eq_false_iff, ne_eq, Fld.has_iff]
        omega
      rw [ih hgt hft _ (fun f' hf' => hbound f' (by simp [hf'])) ht, hg e (by simp), hout]
      rfl

/-- Putting a field of another word in acts within the field, and gives it that word's bits. -/
theorem Fld.getLsbD_ins_ext (f : Fld) (hb : f.hi < 40) (hl : f.lo ≤ f.hi) (v w : Word) (k : Nat) :
    (f.ins v (f.ext w)).getLsbD k = if f.has k then w.getLsbD k else v.getLsbD k := by
  by_cases hk : k < 40
  · rw [Fld.getLsbD_ins f hb hl _ _ _ hk, Fld.testBit_ext]
    by_cases h : f.lo ≤ k ∧ k ≤ f.hi
    · have hwidth : k - f.lo < f.width := by unfold Fld.width; omega
      have hsum : f.lo + (k - f.lo) = k := by omega
      rw [if_pos h, if_pos ((Fld.has_iff f k).2 h), hsum]
      simp [hwidth]
    · rw [if_neg h, if_neg (by rw [Fld.has_iff]; exact h)]
  · rw [BitVec.getLsbD_of_ge _ _ (by omega), BitVec.getLsbD_of_ge _ _ (by omega), BitVec.getLsbD_of_ge _ _ (by omega)]
    simp

/-- A field's value is told by its bits. -/
theorem Fld.ext_congr {f : Fld} {v w : Word} (h : ∀ k, f.has k = true → v.getLsbD k = w.getLsbD k) : f.ext v = f.ext w := by
  apply Nat.eq_of_testBit_eq
  intro k
  rw [Fld.testBit_ext, Fld.testBit_ext]
  by_cases hk : k < f.width
  · rw [h _ ((Fld.has_iff f _).2 (by unfold Fld.width at hk; omega))]
  · simp [hk]

/-! ### Stored and merged words -/

/-- What a store makes of a bit of a field, the written word being `w` (R4). -/
def storedBit (w : Word) (f : Fld) (k : Nat) (old : Bool) : Bool :=
  match f.acc with
  | .rw => w.getLsbD k
  | .rwl => w.getLsbD k
  | .rws => w.getLsbD k
  | .w1c => old && !w.getLsbD k
  | .ro => old
  | .wo => old

/-- The turn of one field in a store. -/
def storeTurn (w v : Word) (f : Fld) : Word :=
  match f.acc with
  | .rw => f.ins v (f.ext w)
  | .rwl => f.ins v (f.ext w)
  | .rws => f.ins v (f.ext w)
  | .w1c => v &&& ~~~ (w &&& f.mask)
  | .ro => v
  | .wo => v

theorem storeFields_eq (fields : List Fld) (old w : Word) :
    storeFields fields old w = fields.foldl (storeTurn w) old := rfl

/-- A field's turn in a store acts within the field. -/
theorem storeTurn_actsWithin {fields : List Fld} (ha : fieldsApart fields = true) (w : Word) :
    ActsWithin (storeTurn w) (storedBit w) fields := by
  intro f hf v k
  obtain ⟨hb, hl⟩ := ((fieldsApart_iff fields).1 ha).1 f hf
  unfold storeTurn storedBit
  cases f.acc with
  | rw => exact f.getLsbD_ins_ext hb hl v w k
  | rwl => exact f.getLsbD_ins_ext hb hl v w k
  | rws => exact f.getLsbD_ins_ext hb hl v w k
  | ro => exact (ite_self _).symm
  | wo => exact (ite_self _).symm
  | w1c =>
    have hmask : f.mask.getLsbD k = f.has k := Fld.getLsbD_mask f hb hl k
    by_cases hk : k < 40
    · simp only [BitVec.getLsbD_and, BitVec.getLsbD_not, hmask, hk, decide_true, Bool.true_and]
      cases f.has k <;> simp
    · simp [BitVec.getLsbD_of_ge v k (by omega)]

/-- A bit of a field after a store. -/
theorem storeFields_bit {fields : List Fld} (ha : fieldsApart fields = true) {f : Fld} (hf : f ∈ fields) {k : Nat}
    (hk : f.has k = true) (old w : Word) :
    (storeFields fields old w).getLsbD k = storedBit w f k (old.getLsbD k) :=
  by
  rw [storeFields_eq]
  exact foldl_bit_inside (storeTurn_actsWithin ha w) ha hf hk old

/-- A reserved bit after a store. -/
theorem storeFields_bit_reserved {fields : List Fld} (ha : fieldsApart fields = true) {k : Nat}
    (hk : ∀ f ∈ fields, f.has k = false) (old w : Word) : (storeFields fields old w).getLsbD k = old.getLsbD k :=
  by
  rw [storeFields_eq]
  exact foldl_bit_outside (storeTurn_actsWithin ha w) hk old

/-- The mask of a field at an address tells its bits. -/
theorem fieldsAt_mask {a : Nat} {f : Fld} (hf : f ∈ fieldsAt a) (k : Nat) : f.mask.getLsbD k = f.has k := by
  obtain ⟨hb, hl⟩ := ((fieldsApart_iff _).1 (fieldsAt_apart a)).1 f hf
  exact Fld.getLsbD_mask f hb hl k

theorem State.store_reg (s : State) (r : Reg) (i j : Nat) (w : Word) :
    (s.store r i j w).reg r i j = storeFields (fieldsAt (r.at i j)) (s.reg r i j) w := State.reg_setReg_same _ _ _ _ _

/-- A field after a store under its access code, told by its stored bits. -/
theorem State.store_fld {s : State} {r : Reg} {i j : Nat} (h : regAt r i j = true) {f : Fld}
    (hf : f ∈ fieldsAt (r.at i j)) (w v : Word)
    (hv : ∀ k < 40, storedBit w f k ((s.reg r i j).getLsbD k) = v.getLsbD k) : (s.store r i j w).fld f i j = f.ext v := by
  unfold State.fld
  rw [fieldsAt_reg h hf, State.store_reg]
  obtain ⟨hb, _⟩ := ((fieldsApart_iff _).1 (fieldsAt_apart _)).1 f hf
  refine Fld.ext_congr fun k hk => (storeFields_bit (fieldsAt_apart _) hf hk _ w).trans (hv k ?_)
  have := (Fld.has_iff f k).1 hk
  omega

/-- Settles O10: the fields of a register lie apart, so each field's bits are those of its own turn in the store. -/
theorem storeObeysTheAccessCodes : Obligations.StoreObeysTheAccessCodes := by
  intro s r i j w h u
  refine ⟨fun f hf => ?_, fun b hb => ?_, fun a ha => State.word_setReg_other s r _ i j a ha, u.regs, rfl⟩
  · have hreg := fieldsAt_reg h hf
    have hold : s.fld f i j = f.ext (s.reg r i j) := by rw [← hreg]; rfl
    rw [hold]
    split <;> next hacc => exact State.store_fld h hf w _ fun k hk => by simp [storedBit, hacc, hk]
  · have hout : ∀ f ∈ fieldsAt (r.at i j), f.has b = false := fun f hf => by rw [← fieldsAt_mask hf]; exact hb f hf
    rw [show u.reg r i j = _ from s.store_reg r i j w, storeFields_bit_reserved (fieldsAt_apart _) hout]

end Sys2Proof.Machine

/-! Proofs about register writes (R4, R154 to R156, R160): what a sender's access comes to, what delivers it, and how a
write is staged. -/

namespace Sys2Proof.Machine

/-! ### Accesses of a sender -/

/-- A sender's origin is never the loader. -/
theorem origin_ne_loader (o : Sender) : o.origin ≠ .loader := by cases o <;> decide

/-- A sender has its own copy of a banked register. -/
theorem noBank_sender (o : Sender) (row : RegRow) : noBank o.origin row = false := by
  unfold noBank
  rw [beq_eq_false_iff_ne.2 (origin_ne_loader o), Bool.and_false]

/-- A sender that can make accesses makes its access. -/
theorem State.sends_maySend {s : State} {o : Sender} (h : s.maySend o = true) (f : State → State) : s.sends o f = f s := by
  unfold State.sends
  exact if_pos h

/-- A sender's transaction is open when its staging context is. -/
theorem State.txnOpen_sender (s : State) (o : Sender) : s.txnOpen o.origin = (s.ctx (originNum o.origin)).isOpen := by
  cases o <;> rfl

/-- What a refused access leaves: counted where the register has a block wrapper (R155). -/
def State.refused (s : State) (a : Nat) : State :=
  match regBlk a with
  | some b => s.isoCount b 1
  | none => s

theorem State.refused_counted {a b : Nat} (h : regBlk a = some b) (s : State) : s.refused a = s.isoCount b 1 := by
  unfold State.refused
  rw [h]

theorem State.refused_uncounted {a : Nat} (h : regBlk a = none) (s : State) : s.refused a = s := by
  unfold State.refused
  rw [h]

section
variable (s : State) (o : Origin) (a : Nat) (w : Word) (e : Bool)

/-- A write to an unmapped address. -/
theorem State.busWriteP_unmapped (h : regRow? a = none) : s.busWriteP o a w e = (s.raise TXN_FLAG.ADDR_ERR, .unmapped) := by
  unfold State.busWriteP
  rw [h]

/-- A write to an isolated register. -/
theorem State.busWriteP_isolated (h : regRow? a ≠ none) (hi : s.regIso a = true) :
    s.busWriteP o a w e = (s.refused a, .isolated) := by
  unfold State.busWriteP
  split
  · next hnone => exact absurd hnone h
  · rw [if_pos hi]
    rfl

end

section
variable (s : State) (o : Sender) (a : Nat) (w : Word) (e : Bool) {row : RegRow} {i j : Nat}
  (hrow : regRow? a = some (row, i, j)) (hi : s.regIso a = false)
include hrow hi

/-- A write to a register with RWS fields while the sender's transaction is open is staged. -/
theorem State.busWriteP_staged (ht : s.txnOpen o.origin = true) (hs : (row.fields.any fun f => f.acc == .rws) = true) :
    s.busWriteP o.origin a w e = (s.stage (originNum o.origin) a w e, .ok) := by
  unfold State.busWriteP
  rw [hrow]
  simp only
  rw [if_neg (by simp [hi]), if_neg (by simp [noBank_sender]), if_pos (by rw [ht, hs]; rfl)]

/-- Any other write of a sender is a direct one, to its own copy of a banked register. -/
theorem State.busWriteP_direct (hd : (s.txnOpen o.origin && row.fields.any fun f => f.acc == .rws) = false) :
    s.busWriteP o.origin a w e = (s.directStore o.origin row (if row.reg.s1 = 2 ^ 24 then originNum o.origin else i) j
      (bankAddr o.origin row a) w, .ok) := by
  unfold State.busWriteP
  rw [hrow]
  simp only
  rw [if_neg (by simp [hi]), if_neg (by simp [noBank_sender]), if_neg (by simp [hd])]
  unfold bankAddr
  split <;> rfl

end

/-! ### Registers with an effect of their own -/

/-- No unit acts on a write of the register: it is no flag enable register, and no hook names it. -/
def hookless (r : Reg) : Bool :=
  (flagOfEn? r).isNone && (State.reset.hookSys .host r 0 0).isNone && (State.reset.hookPrint .host r 0 0).isNone &&
    (State.reset.hookLink r 0 0).isNone && (State.reset.hookPeri .host r 0 0 0).isNone

/-- A chain of cases ends without an effect when its first case does not hold and the rest ends so. -/
theorem isNone_ite_some {α : Type} (c : Prop) [Decidable c] (x : α) (t : Option α) :
    (if c then some x else t).isNone = (!decide c && t.isNone) := by
  by_cases h : c <;> simp [h]

/-- Whether a hook acts on a register depends on the register alone. -/
theorem State.hookSys_isNone (s s' : State) (o o' : Origin) (r : Reg) (i i' : Nat) (w w' : Word) :
    (s.hookSys o r i w).isNone = (s'.hookSys o' r i' w').isNone := by
  unfold State.hookSys
  simp only [isNone_ite_some]

theorem State.hookPrint_isNone (s s' : State) (o o' : Origin) (r : Reg) (i i' : Nat) (w w' : Word) :
    (s.hookPrint o r i w).isNone = (s'.hookPrint o' r i' w').isNone := by
  unfold State.hookPrint
  simp only [isNone_ite_some]

theorem State.hookLink_isNone (s s' : State) (r : Reg) (i i' : Nat) (w w' : Word) :
    (s.hookLink r i w).isNone = (s'.hookLink r i' w').isNone := by
  unfold State.hookLink
  simp only [isNone_ite_some]

theorem State.hookPeri_isNone (s s' : State) (o o' : Origin) (r : Reg) (i i' j j' : Nat) (w w' : Word) :
    (s.hookPeri o r i j w).isNone = (s'.hookPeri o' r i' j' w').isNone := by
  unfold State.hookPeri
  simp only [isNone_ite_some]

/-- A write that no unit acts on is stored; in a flag register the flags it clears are kept for its cycle. -/
theorem State.deliver_hookless {r : Reg} (h : hookless r = true) (s : State) (o : Origin) (i j : Nat) (w : Word) :
    (∀ fr, flagRow? r = some fr → s.deliver o r i j w = s.flagStore fr i j w) ∧
      (flagRow? r = none → s.deliver o r i j w = s.store r i j w) := by
  unfold hookless at h
  simp only [Bool.and_eq_true, Option.isNone_iff_eq_none] at h
  obtain ⟨⟨⟨⟨hen, hsys⟩, hprint⟩, hlink⟩, hperi⟩ := h
  rw [← Option.isNone_iff_eq_none, State.hookSys_isNone _ s _ o _ _ i _ w, Option.isNone_iff_eq_none] at hsys
  rw [← Option.isNone_iff_eq_none, State.hookPrint_isNone _ s _ o _ _ i _ w, Option.isNone_iff_eq_none] at hprint
  rw [← Option.isNone_iff_eq_none, State.hookLink_isNone _ s _ _ i _ w, Option.isNone_iff_eq_none] at hlink
  rw [← Option.isNone_iff_eq_none, State.hookPeri_isNone _ s _ o _ _ i _ j _ w, Option.isNone_iff_eq_none] at hperi
  unfold State.deliver
  simp only [hen, hsys, hprint, hlink, hperi]
  exact ⟨fun fr hfr => by rw [hfr], fun hnone => by rw [hnone]⟩

/-- No unit but the flags' own acts on a write of a flag register. -/
theorem flagRows_hookless : ∀ fr ∈ flagRows, hookless fr.flag = true := by decide

/-- An ordinary register stores what is delivered to it. -/
theorem State.deliver_ordinary {r : Reg} (h : ordinaryReg r = true) (s : State) (o : Origin) (i j : Nat) (w : Word) :
    s.deliver o r i j w = s.store r i j w := by
  unfold ordinaryReg at h
  simp only [Bool.and_eq_true] at h
  obtain ⟨⟨⟨⟨⟨hen, hflag⟩, hsys⟩, hprint⟩, hlink⟩, hperi⟩ := h
  have hless : hookless r = true := by
    unfold hookless
    simp only [hen, hsys, hprint, hlink, hperi, Bool.and_self]
  exact (State.deliver_hookless hless s o i j w).2 (Option.isNone_iff_eq_none.1 hflag)

/-- A flag register takes a write by `State.flagStore`. -/
theorem State.deliver_flag {r : Reg} {fr : FlagRow} (h : flagRow? r = some fr) (s : State) (o : Origin) (i j : Nat)
    (w : Word) : s.deliver o r i j w = s.flagStore fr i j w := by
  obtain ⟨hmem, rfl⟩ := flagRow?_mem h
  exact (State.deliver_hookless (flagRows_hookless fr hmem) s o i j w).1 fr h

/-- A flag enable register takes a write by `State.enableWrite`. -/
theorem State.deliver_enable {r : Reg} {fr : FlagRow} (h : flagOfEn? r = some fr) (s : State) (o : Origin) (i j : Nat)
    (w : Word) : s.deliver o r i j w = s.enableWrite fr i j w := by
  unfold State.deliver
  rw [h]

/-- Settles O11: the write's outcome is read off the bus (`busWriteP_*`), its delivery off the register (`deliver_*`). -/
theorem registerWriteActsOnEachField : Obligations.RegisterWriteActsOnEachField := by
  have hexec : ∀ (s : State) (o : Sender) (a : BitVec 24) (w : Word), s.maySend o = true →
      exec (.registerWrite o a w) s = .next (s.close (s.busWriteP o.origin a.toNat w false).1) := by
    intro s o a w hm
    show s.finish (s.sends o _) = _
    rw [State.sends_maySend hm]
    rfl
  refine ⟨?unmapped, ?isolated, ?uncounted, ?staged, ?direct, ?ordinary, ?enable, ?flag, ?cleared⟩
  case unmapped =>
    intro s o a w hm ha
    rw [hexec s o a w hm, s.busWriteP_unmapped _ _ _ _ ha]
  case isolated =>
    intro s o a w b hm ha hi hb
    rw [hexec s o a w hm, s.busWriteP_isolated _ _ _ _ ha hi, State.refused_counted hb]
  case uncounted =>
    intro s o a w hm ha hi hb
    rw [hexec s o a w hm, s.busWriteP_isolated _ _ _ _ ha hi, State.refused_uncounted hb]
  case staged =>
    intro s o a w row i j hm hrow hi ht hs
    rw [hexec s o a w hm, s.busWriteP_staged o _ _ _ hrow hi ht hs]
  case direct =>
    intro s o a w row i j hm hrow hi hd old n fs w1 t w2 u
    rw [hexec s o a w hm, s.busWriteP_direct o _ _ _ hrow hi hd]
    unfold State.directStore
    simp only [if_neg (origin_ne_loader o)]
    rfl
  case ordinary => exact fun s o r i j w h => State.deliver_ordinary h s o i j w
  case enable => exact fun s o r i j w f h => State.deliver_enable h s o i j w
  case flag =>
    intro s o r i j w f t h ht
    obtain ⟨_, rfl⟩ := flagRow?_mem h
    subst ht
    rw [State.deliver_flag h]
    unfold State.flagStore State.when
    simp only [Bool.and_eq_true, beq_iff_eq, Bool.not_eq_true']
  case cleared =>
    intro s f i gone l hl hne
    subst hl
    unfold State.noteClear
    exact if_neg hne

end Sys2Proof.Machine

/-! Proofs about staging (R160): what a staged write does to its sender's context, and what a commit makes of a register
word. -/

namespace Sys2Proof.Machine

/-! ### A staged write -/

section
variable {s : State} {o : Nat} (a : Nat) (w : Word) (chips : Nat)

/-- A doomed transaction takes nothing. -/
theorem State.stageAs_doomed {c : Nat} (h : (s.ctx o).doomed = some c) (e : Bool) : s.stageAs o a w chips e = s := by
  unfold State.stageAs
  simp [h]

variable (hd : (s.ctx o).doomed = none)
include hd

/-- A parity error dooms the transaction. -/
theorem State.stageAs_parity : s.stageAs o a w chips true = s.doom o 4 := by
  unfold State.stageAs
  simp [hd]

/-- A write to an address staged before takes its place. -/
theorem State.stageAs_again (hh : (s.ctx o).has a = true) :
    s.stageAs o a w chips false = s.setCtx o ((s.ctx o).put a w chips) := by
  unfold State.stageAs
  simp [hd, hh]

variable (hh : (s.ctx o).has a = false)
include hh

/-- The 1,025th write dooms its transaction. -/
theorem State.stageAs_long (hn : 1024 ≤ (s.ctx o).writes.length) : s.stageAs o a w chips false = s.doom o 2 := by
  unfold State.stageAs
  simp [hd, hh, hn]

/-- A write beyond the store's 4,096 entries dooms its transaction. -/
theorem State.stageAs_full (hn : (s.ctx o).writes.length < 1024) (hs : 4096 ≤ s.storeUsed) :
    s.stageAs o a w chips false = s.doom o 3 := by
  unfold State.stageAs
  simp [hd, hh, hs, Nat.not_le.2 hn]

/-- A write to a new address becomes the transaction's next. -/
theorem State.stageAs_new (hn : (s.ctx o).writes.length < 1024) (hs : s.storeUsed < 4096) :
    s.stageAs o a w chips false = (s.setCtx o ((s.ctx o).put a w chips)).txnSync := by
  unfold State.stageAs
  simp [hd, hh, Nat.not_le.2 hn, Nat.not_le.2 hs]

end

/-! ### A committed word -/

/-- The turn of one field in a commit. -/
theorem mergeTurn_actsWithin {fields : List Fld} (ha : fieldsApart fields = true) (w : Word) :
    ActsWithin (fun v f => if f.acc = .rws then f.ins v (f.ext w) else v)
      (fun f k old => if f.acc = .rws then w.getLsbD k else old) fields := by
  intro f hf v k
  obtain ⟨hb, hl⟩ := ((fieldsApart_iff fields).1 ha).1 f hf
  by_cases hacc : f.acc = .rws
  · simp only [if_pos hacc]
    exact f.getLsbD_ins_ext hb hl v w k
  · simp only [if_neg hacc]
    exact (ite_self _).symm

/-- A field of a committed word: the staged value where it is RWS, the held one otherwise. -/
theorem ext_mergeRws {fields : List Fld} (ha : fieldsApart fields = true) {f : Fld} (hf : f ∈ fields) (old w : Word) :
    f.ext (mergeRws fields old w) = if f.acc = .rws then f.ext w else f.ext old := by
  have hbit : ∀ k, f.has k = true →
      (mergeRws fields old w).getLsbD k = if f.acc = .rws then w.getLsbD k else old.getLsbD k :=
    fun k hk => foldl_bit_inside (mergeTurn_actsWithin ha w) ha hf hk old
  split
  · next hacc => exact Fld.ext_congr fun k hk => by rw [hbit k hk, if_pos hacc]
  · next hacc => exact Fld.ext_congr fun k hk => by rw [hbit k hk, if_neg hacc]

/-- A staged write of a sender with an open transaction comes to `State.stageAs`. -/
theorem exec_txnStageWrite_open {s : State} {o : Sender} {a : BitVec 24} {row : RegRow} {i j : Nat} (w : Word) (e : Bool)
    (hm : s.maySend o = true) (hi : s.regIso a.toNat = false) (hrow : regRow? a.toNat = some (row, i, j))
    (hs : (row.fields.any fun f => f.acc == .rws) = true) (hopen : (s.ctx (originNum o.origin)).isOpen = true) :
    exec (.txnStageWrite o a w e) s = .next (s.close
      (s.stageAs (originNum o.origin) a.toNat w (s.txChip (originNum o.origin)) e)) := by
  show s.finish (s.sends o _) = _
  rw [State.sends_maySend hm, s.busWriteP_staged o _ w e hrow hi (by rw [s.txnOpen_sender, hopen]) hs]
  rfl

/-- Without an open transaction a write meets no parity error of the store. -/
theorem State.busWriteP_closed (s : State) (o : Origin) (a : Nat) (w : Word) (h : s.txnOpen o = false) (e e' : Bool) :
    s.busWriteP o a w e = s.busWriteP o a w e' := by
  unfold State.busWriteP
  simp only [h, Bool.false_and, Bool.false_eq_true, if_false]

/-- A sender's access is told by what it does to the state it meets. -/
theorem State.sends_congr (s : State) (o : Sender) {f g : State → State} (h : f s = g s) : s.sends o f = s.sends o g := by
  unfold State.sends
  split
  · exact h
  · rfl

/-- Settles O34: each clause is one case of `State.stageAs`; a commit is told field by field (`ext_mergeRws`). -/
theorem stagedWritesWaitForTheirCommit : Obligations.StagedWritesWaitForTheirCommit := by
  refine ⟨?new, ?again, ?long, ?full, ?parity, ?doomed, ?direct, ?commit⟩
  case new =>
    intro s o a w row i j hm hi hrow hs hopen hd hh hn hu
    rw [exec_txnStageWrite_open w false hm hi hrow hs hopen, State.stageAs_new _ _ _ hd hh hn hu]
  case again =>
    intro s o a w row i j hm hi hrow hs hopen hd hh
    rw [exec_txnStageWrite_open w false hm hi hrow hs hopen, State.stageAs_again _ _ _ hd hh]
  case long =>
    intro s o a w row i j hm hi hrow hs hopen hd hh hn
    rw [exec_txnStageWrite_open w false hm hi hrow hs hopen, State.stageAs_long _ _ _ hd hh hn]
  case full =>
    intro s o a w row i j hm hi hrow hs hopen hd hh hn hu
    rw [exec_txnStageWrite_open w false hm hi hrow hs hopen, State.stageAs_full _ _ _ hd hh hn hu]
  case parity =>
    intro s o a w row i j hm hi hrow hs hopen hd
    rw [exec_txnStageWrite_open w true hm hi hrow hs hopen, State.stageAs_parity _ _ _ hd]
  case doomed =>
    intro s o a w row i j c e hm hi hrow hs hopen hd
    rw [exec_txnStageWrite_open w e hm hi hrow hs hopen, State.stageAs_doomed _ _ _ hd]
  case direct =>
    intro s o a w e hclosed
    exact congrArg s.finish (s.sends_congr o (congrArg Prod.fst
      (s.busWriteP_closed _ _ _ (by rw [s.txnOpen_sender, hclosed]) e false)))
  case commit =>
    intro r i j old w f _ hf
    exact ext_mergeRws (fieldsAt_apart _) hf old w

end Sys2Proof.Machine

/-! Proofs about register reads (R4, R154, R155, R158, R434, Table 08-1): unmapped, isolated, plain and banked reads, those
with an effect, the bits that read zero, and the snapshot of the Tally. -/

namespace Sys2Proof.Machine

/-! ### The outcomes of a read -/

section
variable (s : State) (o : Origin) {a : Nat}

/-- A read of an unmapped address. -/
theorem State.busRead_unmapped (h : regRow? a = none) : s.busRead o a = (s.raise TXN_FLAG.ADDR_ERR, .unmapped, 0) := by
  unfold State.busRead
  rw [h]

/-- A read of an isolated register. -/
theorem State.busRead_isolated (h : regRow? a ≠ none) (hi : s.regIso a = true) :
    s.busRead o a = (s.refused a, .isolated, 0) := by
  unfold State.busRead
  split
  · next hnone => exact absurd hnone h
  · rw [if_pos hi]
    rfl

variable {row : RegRow} {i j : Nat} (hrow : regRow? a = some (row, i, j)) (hi : s.regIso a = false)
  (hb : noBank o row = false)
include hrow hi hb

/-- A read with an effect or a value of its own. -/
theorem State.busRead_special {x : State × Word} (hx : s.readSpecial row.reg i = some x) :
    s.busRead o a = (x.1, .ok, x.2) := by
  unfold State.busRead
  rw [hrow]
  simp only
  rw [if_neg (by simp [hi]), if_neg (by simp [hb]), hx]

/-- Any other read answers the word held, of a banked register the origin's own copy. -/
theorem State.busRead_plain (hx : s.readSpecial row.reg i = none) :
    s.busRead o a = (s, .ok, if row.reg.s1 = 2 ^ 24 then s.reg row.reg (originNum o) j else s.word a) := by
  unfold State.busRead
  rw [hrow]
  simp only
  rw [if_neg (by simp [hi]), if_neg (by simp [hb]), hx]

end

/-- A register that is not banked has no copy to lack. -/
theorem noBank_unbanked (o : Origin) {row : RegRow} (h : row.reg.s1 ≠ 2 ^ 24) : noBank o row = false := by
  unfold noBank
  rw [beq_eq_false_iff_ne.2 h, Bool.false_and]

/-- A read with an effect of an element of a register that is not banked. -/
theorem State.busRead_named {s : State} {r : Reg} {i j : Nat} (o : Origin) (h : namedAt r i j = true)
    (hi : s.regIso (r.at i j) = false) {x : State × Word} (hx : s.readSpecial r i = some x) :
    s.busRead o (r.at i j) = (x.1, .ok, x.2) := by
  obtain ⟨row, hrow, rfl, hbank⟩ := namedAt_row h
  exact s.busRead_special o hrow hi (noBank_unbanked o hbank) hx

/-- Registers of one domain and block are isolated together. -/
theorem State.regIso_congr (s : State) {a b : Nat} (hd : regDomain a = regDomain b) (hb : regBlk a = regBlk b) :
    s.regIso a = s.regIso b := by
  unfold State.regIso
  rw [hd, hb]

/-! ### Banked registers -/

/-- Whether a read has an effect of its own depends on the register alone. -/
theorem State.readSpecial_isNone (s s' : State) (r : Reg) (i i' : Nat) :
    (s.readSpecial r i).isNone = (s'.readSpecial r i').isNone := by
  unfold State.readSpecial
  simp only [isNone_ite_some]

/-- No banked register has a read with an effect. -/
theorem blocks_banked_plain : (blocks.all fun b => b.2.all fun row =>
    !decide (row.reg.s1 = 2 ^ 24) || (State.reset.readSpecial row.reg 0).isNone) = true := by decide

/-- A read of a banked register has no effect. -/
theorem State.readSpecial_banked (s : State) {a : Nat} {row : RegRow} {i j : Nat} (h : regRow? a = some (row, i, j))
    (hbank : row.reg.s1 = 2 ^ 24) : s.readSpecial row.reg i = none := by
  have hnone := regRow?_all blocks_banked_plain h
  rw [decide_eq_true hbank, Bool.not_true, Bool.false_or, State.readSpecial_isNone _ s _ _ i] at hnone
  exact Option.isNone_iff_eq_none.1 hnone

/-! ### Bits that read zero -/

/-- The word of element `i` of a row's register at reset. -/
def RegRow.resetWord (row : RegRow) (i : Nat) : Word :=
  if row.reg = VIS_PIPECFG then Word.of (row.rst + i * 2 ^ 34 + (i + 4) * 2 ^ 31)
  else if row.reg = DRAM_CLI then Word.of (cliReset i)
  else Word.of row.rst

theorem regReset_of_row {a : Nat} {row : RegRow} {i j : Nat} (h : regRow? a = some (row, i, j)) :
    regReset a = row.resetWord i := by
  unfold regReset
  rw [h]
  rfl

/-- How many elements of a row's register have reset words of their own. -/
def RegRow.resetKinds (row : RegRow) : Nat := if row.reg = VIS_PIPECFG ∨ row.reg = DRAM_CLI then row.reg.n1 else 1

/-- The 1 bits of every reset word lie in fields that can be read, on both display outputs. -/
theorem blocks_reset_readable : (blocks.all fun b => b.2.all fun row => (List.range row.resetKinds).all fun i =>
    (List.range 40).all fun k => !(row.resetWord i).getLsbD k ||
      (row.fields.filter fun f => f != DISP_CTL.MAP && f != DISP_CTL.LINKS).any fun f => f.acc != .wo && f.has k) = true := by
  decide

/-- The index of an element is below its count. -/
theorem index?_lt {r : Reg} {a i j : Nat} (h : r.index? a = some (i, j)) : i < r.n1 := by
  unfold Reg.index? at h
  by_cases hbank : r.s1 = 2 ^ 24
  · simp only [if_pos hbank, Option.ite_none_left_eq_some, Option.ite_none_right_eq_some, Option.some.injEq,
      Prod.mk.injEq] at h
    obtain ⟨_, _, ⟨_, hlt⟩, rfl, _⟩ := h
    exact hlt
  · simp only [if_neg hbank, Option.ite_none_left_eq_some, Option.ite_none_right_eq_some, Option.some.injEq,
      Prod.mk.injEq] at h
    obtain ⟨_, _, ⟨_, hlt, _⟩, rfl, _⟩ := h
    exact hlt

/-- A bit of a reset word that no readable field has is 0. -/
theorem regReset_unreadable {a : Nat} {row : RegRow} {i j k : Nat} (hrow : regRow? a = some (row, i, j))
    (hk : ∀ f ∈ fieldsAt a, f.acc ≠ .wo → f.has k = false) : (regReset a).getLsbD k = false := by
  rw [fieldsAt_of_row hrow] at hk
  rw [regReset_of_row hrow]
  by_cases hk40 : k < 40
  case neg => exact BitVec.getLsbD_of_ge _ _ (by omega)
  have hall := regRow?_all blocks_reset_readable hrow
  have hkind : ∃ i' < row.resetKinds, row.resetWord i = row.resetWord i' := by
    unfold RegRow.resetKinds RegRow.resetWord
    by_cases hreg : row.reg = VIS_PIPECFG ∨ row.reg = DRAM_CLI
    · exact ⟨i, by rw [if_pos hreg]; exact index?_lt (findRow_mem hrow).2, rfl⟩
    · obtain ⟨hpipe, hcli⟩ := not_or.1 hreg
      refine ⟨0, by rw [if_neg hreg]; exact Nat.one_pos, ?_⟩
      rw [if_neg hpipe, if_neg hcli, if_neg hpipe, if_neg hcli]
  obtain ⟨i', hi', hword⟩ := hkind
  rw [hword]
  have hbit := List.all_eq_true.1 (List.all_eq_true.1 hall i' (List.mem_range.2 hi')) k (List.mem_range.2 hk40)
  rw [Bool.or_eq_true, Bool.not_eq_true', List.any_eq_true] at hbit
  rcases hbit with hzero | ⟨f, hf, hread⟩
  · exact hzero
  · simp only [Bool.and_eq_true, bne_iff_ne] at hread
    have hmem : f ∈ row.fieldsOf a := by
      unfold RegRow.fieldsOf
      split
      · exact hf
      · exact List.mem_of_mem_filter hf
    rw [hk f hmem hread.1] at hread
    exact absurd hread.2 (by decide)

/-- A bit that no readable field has keeps its 0 under every store: it is reserved, or its field is WO. -/
theorem State.store_unreadable {s : State} {r : Reg} {i j k : Nat} (w : Word)
    (hk : ∀ f ∈ fieldsAt (r.at i j), f.acc ≠ .wo → f.has k = false) (h : (s.reg r i j).getLsbD k = false) :
    ((s.store r i j w).reg r i j).getLsbD k = false := by
  rw [State.store_reg]
  by_cases hin : ∃ f ∈ fieldsAt (r.at i j), f.has k = true
  · obtain ⟨f, hf, hhas⟩ := hin
    have hwo : f.acc = .wo := by
      by_contra hne
      rw [hk f hf hne] at hhas
      cases hhas
    rw [storeFields_bit (fieldsAt_apart _) hf hhas]
    simp only [storedBit, hwo, h]
  · rw [storeFields_bit_reserved (fieldsAt_apart _) (fun f hf => ?_), h]
    by_contra hne
    exact hin ⟨f, hf, by simpa using hne⟩

/-! ### The snapshot of the Tally -/

/-- Every register of the Tally's window holds 0 at reset. -/
theorem rowsTALLY_reset : (rowsTALLY.all fun row =>
    row.rst == 0 && row.reg != VIS_PIPECFG && row.reg != DRAM_CLI) = true := by decide

/-- The counters hold 0 at reset. -/
theorem regReset_tally {i : Nat} (hi : i < 2048) : regReset (TALLY_CNT.at i) = 0 := by
  have hbase : TALLY_CNT.base = 0x30000 := rfl
  have hat := tally_at i
  have hblock : findBlock blocks (TALLY_CNT.at i % 2 ^ 24) = rowsTALLY := by
    unfold blocks
    simp only [findBlock]
    rw [if_neg (by omega), if_neg (by omega), if_neg (by omega), if_pos (by omega)]
  unfold regReset
  split
  · rfl
  · next row i' j' hrow =>
    unfold regRow? at hrow
    rw [hblock] at hrow
    have hz := List.all_eq_true.1 rowsTALLY_reset row (findRow_mem hrow).1
    simp only [Bool.and_eq_true, beq_iff_eq, bne_iff_ne, ne_eq] at hz
    obtain ⟨⟨hrst, hpipe⟩, hcli⟩ := hz
    rw [if_neg hpipe, if_neg hcli, hrst]
    rfl

/-- A snapshot holds every counter as it was. -/
theorem State.snapshot_counter (s : State) {i : Nat} (hi : i < 2048) :
    SMap.get 0 s.snapshot.txn.snap (TALLY_CNT.at i) = s.reg TALLY_CNT i := by
  have hin : (decide (TALLY_CNT.base ≤ TALLY_CNT.at i) && decide (TALLY_CNT.at i < TALLY_CNT.base + 2048)) = true := by
    rw [tally_at]
    simpa using hi
  show SMap.get 0 (s.regs.filter fun e => decide (TALLY_CNT.base ≤ e.1) && decide (e.1 < TALLY_CNT.base + 2048))
    (TALLY_CNT.at i) = SMap.get (regReset (TALLY_CNT.at i)) s.regs (TALLY_CNT.at i)
  rw [SMap.get_filter 0 (fun k => decide (TALLY_CNT.base ≤ k) && decide (k < TALLY_CNT.base + 2048)), if_pos hin,
    regReset_tally hi]

/-! ### Commands that read -/

/-- A sender whose access is delivered may send and meets no isolation. -/
theorem State.reaches_iff (s : State) (o : Sender) (r : Reg) (i : Nat) :
    s.reaches o r i = true ↔ s.maySend o = true ∧ s.regIso (r.at i) = false := by
  simp [State.reaches]

/-- SNAPDATA_READ answers the counter that the index names. -/
theorem exec_snapdataRead {s : State} {o : Sender} (h : s.reaches o TALLY_SNAPDATA = true) :
    exec (.snapdataRead o) s = .next (s.close (s.snapRead.1.emit (.regData 0 s.snapRead.2))) := by
  obtain ⟨hm, hi⟩ := (s.reaches_iff o _ 0).1 h
  have hread : s.busRead o.origin (TALLY_SNAPDATA.at 0) = (s.snapRead.1, .ok, s.snapRead.2) :=
    State.busRead_named o.origin (by decide) hi rfl
  have hloop : (o == .warden && TALLY_SNAPDATA.at 0 == VIS_HMFIFO.base) = false := by cases o <;> decide
  show s.finish (s.sends o _) = _
  rw [State.sends_maySend hm]
  unfold State.readBy
  simp only [hloop, Bool.false_and, State.when, Bool.false_eq_true, if_false, hread]
  rfl

/-- TALLY_SNAPSHOT takes the snapshot. -/
theorem exec_tallySnapshot {s : State} {o : Sender} (h : s.reaches o TALLY_SNAPCTL = true) :
    exec (.tallySnapshot o) s = .next (s.close s.snapshot) := by
  obtain ⟨hm, hi⟩ := (s.reaches_iff o _ 0).1 h
  show s.finish (s.sends o _) = _
  rw [State.sends_maySend hm, State.busWrite_plain s _ TALLY_SNAPCTL 0 0 _ (by decide) hi]
  rfl

/-- Settles O14: each read is one outcome of the bus (`busRead_*`); the bits that read zero are 0 at reset and no store
sets them; the snapshot and its window are read off `State.snapshot` and `State.snapRead`. -/
theorem registerReadsAnswerAndTheSnapshotHolds : Obligations.RegisterReadsAnswerAndTheSnapshotHolds := by
  refine ⟨?unmapped, ?isolated, ?uncounted, ?count, ?plain, ?banked, ?zero, ?pos, ?fifo, ?time, ?snapshot, ?advance, ?stay⟩
  case unmapped => exact fun s o a h => ⟨s.busRead_unmapped o h, rfl⟩
  case isolated =>
    intro s o a b h hi hb
    exact ⟨by rw [s.busRead_isolated o h hi, State.refused_counted hb], rfl⟩
  case uncounted =>
    intro s o a h hi hb
    rw [s.busRead_isolated o h hi, State.refused_uncounted hb]
  case count => exact fun s b => rfl
  case plain =>
    intro s o r i j h hi hx
    obtain ⟨row, hrow, rfl, hbank⟩ := namedAt_row h
    rw [s.busRead_plain o hrow hi (noBank_unbanked o hbank) hx, if_neg hbank]
    exact ⟨rfl, rfl⟩
  case banked =>
    intro s o a row i j hrow hbank hi
    rw [s.busRead_plain o.origin hrow hi (noBank_sender o row) (s.readSpecial_banked hrow hbank), if_pos hbank]
  case zero =>
    intro r i j b h hb
    have hhas : ∀ f ∈ fieldsAt (r.at i j), f.acc ≠ .wo → f.has b = false := fun f hf hne => by
      rw [← fieldsAt_mask hf]
      exact hb f hf hne
    obtain ⟨row, hrow, _⟩ := regAt_row h
    exact ⟨regReset_unreadable hrow hhas, fun s w hz => State.store_unreadable w hhas hz⟩
  case pos =>
    intro s o hi
    have hi' : s.regIso (POS_FWD.at 0) = false := by rw [← hi]; exact s.regIso_congr rfl rfl
    exact ⟨State.busRead_named o.origin (by decide) hi rfl, State.busRead_named o.origin (by decide) hi' rfl⟩
  case fifo =>
    intro s o p w e l hi hl
    have hx : s.readSpecial POS_PROBEFIFO p = some ((s.probePop p).2, (s.probePop p).1) := rfl
    have hpop : s.probePop p = (w, s.setProbeFifo p l) := by
      unfold State.probePop
      rw [hl]
    have hnamed : ∀ p : Fin 2, namedAt POS_PROBEFIFO p 0 = true := by decide
    rw [State.busRead_named o.origin (hnamed p) hi hx, hpop]
  case time =>
    intro s o hi
    have hi' : s.regIso (ETH_TIME_NS.at 0) = false := by rw [← hi]; exact s.regIso_congr rfl rfl
    exact ⟨State.busRead_named o.origin (by decide) hi rfl, State.busRead_named o.origin (by decide) hi' rfl⟩
  case snapshot =>
    intro s o h
    exact ⟨s.snapshot, exec_tallySnapshot h, fun i hi => s.snapshot_counter hi, State.reg_setReg_same _ _ _ _ _,
      fun a ha => State.word_setReg_other _ _ _ _ _ _ ha, rfl⟩
  case advance =>
    intro s o h hauto
    rw [exec_snapdataRead h]
    unfold State.snapRead State.when
    rw [if_pos hauto]
    rfl
  case stay =>
    intro s o h hauto
    rw [exec_snapdataRead h]
    unfold State.snapRead State.when
    rw [if_neg (by rw [hauto]; decide)]

end Sys2Proof.Machine

/-! What no access to memory and no display scan changes: the frame of the memory controller's reads and of the displays
(spec/13_dram_controller.md, spec/20_display.md). -/

namespace Sys2Proof.Machine

/-- The state without what a read of memory or a display scan may change: the outbox, the registers, the free values
drawn, the event queue and the kept stamps, the memory controller and the displays. -/
def State.rest (s : State) : State :=
  { s with out := [], regs := [], freeCtr := 0, evt := [], hlnk := HlnkSt.reset, dram := DramSt.reset, disp := [] }

/-! ### The operations that all of them use -/

@[simp] theorem State.setReg_rest (s : State) (r : Reg) (w : Word) (i j : Nat) : (s.setReg r w i j).rest = s.rest := rfl

@[simp] theorem State.setFld_rest (s : State) (f : Fld) (v i j : Nat) : (s.setFld f v i j).rest = s.rest := rfl

@[simp] theorem State.addFld_rest (s : State) (f : Fld) (v i j : Nat) : (s.addFld f v i j).rest = s.rest := rfl

@[simp] theorem State.emit_rest (s : State) (o : Out) : (s.emit o).rest = s.rest := rfl

@[simp] theorem State.draw_rest (s : State) : s.draw.2.rest = s.rest := rfl

@[simp] theorem State.setDout_rest (s : State) (o : Nat) (d : DOut) : (s.setDout o d).rest = s.rest := rfl

@[simp] theorem State.raiseAt_rest (s : State) (f : Fld) (i k : Nat) (st : Option Word) (w : Word) :
    (s.raiseAt f i k st w).rest = s.rest := by
  rw [State.raiseAt_eq]
  rfl

@[simp] theorem State.raise_rest (s : State) (f : Fld) (i : Nat) : (s.raise f i).rest = s.rest :=
  s.raiseAt_rest f i 0 none 0

/-- A change of the memory controller's own state. -/
theorem State.dram_rest (s : State) (d : DramSt) : ({ s with dram := d } : State).rest = s.rest := rfl

/-- A conditional effect. -/
theorem State.when_rest (s : State) (c : Bool) (f : State → State) (h : ∀ s, (f s).rest = s.rest) :
    (s.when c f).rest = s.rest :=
  State.when_keeps (fun t => t.rest = s.rest) f c s (fun t ht => (h t).trans ht) rfl

/-- A fold over a list. -/
theorem forIn'_rest {α : Type} (l : List α) (f : α → State → State) (h : ∀ a s, (f a s).rest = s.rest) (s : State) :
    (forIn' l f s).rest = s.rest :=
  forIn'_keeps (fun t => t.rest = s.rest) f (fun a t ht => (h a t).trans ht) l s rfl

/-- A counted fold. -/
theorem forTo_rest (n : Nat) (f : Nat → State → State) (h : ∀ i s, (f i s).rest = s.rest) (s : State) :
    (forTo n f s).rest = s.rest := forIn'_rest (List.range n) f h s

/-- A fold that carries a result along. -/
theorem foldl_rest {α β : Type} (g : State × β → α → State × β) (h : ∀ p a, (g p a).1.rest = p.1.rest) (l : List α)
    (p : State × β) : (l.foldl g p).1.rest = p.1.rest := by
  induction l generalizing p with
  | nil => rfl
  | cons a t ih => exact (ih (g p a)).trans (h p a)

/-! ### Code words, banks and queues -/

@[simp] theorem State.learn_rest (s : State) (cw v : Nat) : (s.learn cw v).rest = s.rest := by
  unfold State.learn
  split <;> rfl

@[simp] theorem State.noteCw_rest (s : State) (c cw n : Nat) : (s.noteCw c cw n).rest = s.rest := by
  unfold State.noteCw
  simp only
  split
  · rfl
  · split
    · simp
    · rw [State.when_rest _ _ _ fun s => by simp, State.raise_rest]

@[simp] theorem State.putErr_rest (s : State) (cw n : Nat) : (s.putErr cw n).rest = s.rest :=
  State.when_rest (s.setDamage cw n) _ _ fun s => by simp

@[simp] theorem State.healCw_rest (s : State) (cw n : Nat) : (s.healCw cw n).rest = s.rest :=
  State.when_rest s _ _ fun s => by simp

@[simp] theorem State.touch_rest (s : State) (a : Nat) : (s.touch a).rest = s.rest := rfl

@[simp] theorem State.spend_rest (c : Nat) (s : State) : (State.spend c s).rest = s.rest := rfl

@[simp] theorem State.issueWrite_rest (w : DWr) (s : State) : (State.issueWrite w s).rest = s.rest := by
  unfold State.issueWrite
  simp only
  rw [State.touch_rest, forIn'_rest _ _ (fun e s => by simp), State.when_rest _ _ _ fun s => by simp]
  rfl

@[simp] theorem State.issueWrites_rest (s : State) (q n : Nat) : (s.issueWrites q n).rest = s.rest :=
  forIn'_rest _ _ (fun w s => s.issueWrite_rest w) s

@[simp] theorem State.wqDrain_rest (s : State) (q : Nat) : (s.wqDrain q).rest = s.rest := by
  unfold State.wqDrain
  simp only
  split
  · simp
  · rfl

@[simp] theorem State.drainFor_rest (s : State) (b ser : Nat) : (s.drainFor b ser).rest = s.rest := s.issueWrites_rest _ _

@[simp] theorem State.isoCount_rest (s : State) (b n : Nat) : (s.isoCount b n).rest = s.rest :=
  forTo_rest n _ (fun _ s => s.raise_rest _ _) _

@[simp] theorem State.gateFlag_rest (s : State) (g : DGate) : (s.gateFlag g).rest = s.rest := by
  cases g <;> simp [State.gateFlag]

@[simp] theorem State.decodeCw_rest (s : State) (c cw : Nat) : (s.decodeCw c cw).1.rest = s.rest := by
  simp [State.decodeCw]

@[simp] theorem State.decodeBurst_rest (s : State) (c b : Nat) : (s.decodeBurst c b).1.rest = s.rest :=
  foldl_rest _ (fun p i => by simp) _ _

@[simp] theorem State.readBurst_rest (s : State) (c b : Nat) : (s.readBurst c b).1.rest = s.rest := by
  simp [State.readBurst]

/-! ### The read queues -/

@[simp] theorem State.updRead_rest (s : State) (i : Nat) (f : DRead → DRead) : (s.updRead i f).rest = s.rest := rfl

@[simp] theorem State.poisonLine_rest (a n o y : Nat) (s : State) : (State.poisonLine a n o y s).rest = s.rest := by
  unfold State.poisonLine
  simp only
  rw [State.when_rest _ _ _ fun s => by simp]
  simp

@[simp] theorem State.dispPoison_rest (a n : Nat) (s : State) : (State.dispPoison a n s).rest = s.rest := by
  unfold State.dispPoison
  simp only
  split
  · simp
  · simp
  · rfl

@[simp] theorem State.answerPoison_rest (s : State) (c a n : Nat) : (s.answerPoison c a n).rest = s.rest := by
  unfold State.answerPoison
  rw [State.when_rest _ _ _ fun s => by simp, State.when_rest _ _ _ fun s => by simp, State.emit_rest]

@[simp] theorem State.enterRead_rest (i : Nat) (s : State) : (State.enterRead i s).rest = s.rest := by
  unfold State.enterRead
  split
  · rfl
  · split
    · rfl
    · split <;> simp

@[simp] theorem State.enterReads_rest (s : State) : s.enterReads.rest = s.rest :=
  forTo_rest _ _ (fun i s => s.enterRead_rest i) s

@[simp] theorem State.askReads_rest (s : State) (l : List DRead) : (s.askReads l).rest = s.rest :=
  (State.enterReads_rest _).trans (forIn'_rest l State.pushRead (fun _ _ => rfl) s)

@[simp] theorem State.turnTaken_rest (s : State) (q i : Nat) : (s.turnTaken q i).rest = s.rest := by
  have hpass (l : List Nat) :
      (forIn' l (fun j s => s.updRead j fun d => { d with passed := d.passed + 1 }) s).rest = s.rest :=
    forIn'_rest _ _ (fun j s => s.updRead_rest j _) s
  unfold State.turnTaken
  simp only
  split
  · exact hpass _
  · exact hpass _

@[simp] theorem State.serveCw_rest (d : DRead) (errs : List (Nat × Nat)) (p : State × List (Nat × Nat)) (j : Nat) :
    (State.serveCw d errs p j).1.rest = p.1.rest := by
  unfold State.serveCw
  simp only
  rw [State.when_rest _ _ _ fun s => by simp, State.when_rest _ _ _ fun s => by simp]

@[simp] theorem State.scrubEnd_rest (s : State) (b : Nat) : (s.scrubEnd b).rest = s.rest :=
  State.when_rest _ _ _ fun s => by simp

@[simp] theorem State.deliverOne_rest (c : Nat) (s : State) : (State.deliverOne c s).rest = s.rest := by
  have hmarks (u : State) (l : List (Nat × Nat)) : (forIn' l (fun m s => s.noteCw c m.1 m.2) u).rest = u.rest :=
    forIn'_rest _ _ (fun m s => by simp) u
  unfold State.deliverOne
  split
  · rfl
  · split
    · simp only
      split
      · exact hmarks _ _
      · split
        · exact (State.scrubEnd_rest _ _).trans (hmarks _ _)
        · split
          · exact hmarks _ _
          · exact (State.answerPoison_rest _ _ _ _).trans (hmarks _ _)
    · rfl

@[simp] theorem State.deliverReads_rest (s : State) (c : Nat) : (s.deliverReads c).rest = s.rest :=
  forTo_rest _ _ (fun _ s => s.deliverOne_rest c) s

@[simp] theorem State.closeBank_rest (s : State) (k : Nat) : (s.closeBank k).rest = s.rest := by
  unfold State.closeBank
  simp only
  split <;> rfl

@[simp] theorem State.refreshOnce_rest (q r : Nat) (s : State) : (State.refreshOnce q r s).rest = s.rest := by
  unfold State.refreshOnce
  simp only
  rw [State.emit_rest, State.dram_rest, forTo_rest _ _ fun g s => s.closeBank_rest _]

@[simp] theorem State.makeUp_rest (q r : Nat) (s : State) : (State.makeUp q r s).rest = s.rest := by
  refine forTo_rest _ _ (fun i s => ?_) s
  split
  · exact State.refreshOnce_rest q r _
  · rfl

@[simp] theorem State.drainAgain_rest (s : State) (b : Nat) : (s.drainAgain b).rest = s.rest :=
  forIn'_rest _ _ (fun d s => by simp) s

@[simp] theorem State.serveRead_rest (s : State) (q i : Nat) (errs : List (Nat × Nat)) :
    (s.serveRead q i errs).rest = s.rest := by
  unfold State.serveRead
  split
  · rfl
  · simp only
    rw [forTo_rest _ _ (fun r s => by simp), State.enterReads_rest, State.deliverReads_rest, State.wqDrain_rest,
      State.when_rest _ _ _ (fun s => by simp), State.touch_rest, State.drainAgain_rest, State.updRead_rest,
      foldl_rest _ (fun p j => by simp), State.turnTaken_rest]

@[simp] theorem State.runReads_rest (c : Nat) (s : State) : (State.runReads c s).rest = s.rest := by
  refine forTo_rest _ _ (fun i s => ?_) s
  split
  · unfold State.serveNext
    split
    · rfl
    · simp
  · rfl

/-- A read of memory leaves everything else. -/
@[simp] theorem State.dramRead_rest (s : State) (c a n : Nat) : (s.dramRead c a n).1.rest = s.rest := by
  unfold State.dramRead
  split
  · split
    · exact foldl_rest _ (fun p b => by simp) _ _
    · simp only
      rw [State.dram_rest, State.runReads_rest, State.askReads_rest]
  · simp

/-! ### The displays -/

@[simp] theorem State.frameLatch_rest (s : State) (o : Nat) : (s.frameLatch o).rest = s.rest := by
  unfold State.frameLatch
  simp only
  split
  · simp only [State.raise_rest, State.setFld_rest, State.addFld_rest]
    rw [forTo_rest _ _ (fun l s => by simp), State.setDout_rest]
  · rfl

@[simp] theorem State.fetchRow_rest (o y : Nat) (e : DLayer × Nat) (s : State) :
    (State.fetchRow o y e s).rest = s.rest := by
  unfold State.fetchRow
  simp only
  split
  · rfl
  · rw [State.setDout_rest]
    refine foldl_rest _ (fun p b => ?_) _ _
    split
    · simp
    · simp

@[simp] theorem State.fetchLine_rest (o : Nat) (s : State) : (State.fetchLine o s).rest = s.rest :=
  (State.setDout_rest _ _ _).trans (forIn'_rest _ _ (fun e s => s.fetchRow_rest o _ e) s)

@[simp] theorem State.fetchTo_rest (s : State) (o y : Nat) : (s.fetchTo o y).rest = s.rest :=
  forTo_rest _ _ (fun _ s => s.fetchLine_rest o) s

@[simp] theorem State.showLine_rest (o : Nat) (s : State) : (State.showLine o s).rest = s.rest :=
  (State.setDout_rest _ _ _).trans (s.fetchTo_rest o _)

@[simp] theorem State.showTo_rest (s : State) (o y : Nat) : (s.showTo o y).rest = s.rest :=
  forTo_rest _ _ (fun _ s => s.showLine_rest o) s

@[simp] theorem State.rectCrc_rest (s : State) (o k : Nat) (r : DRect) (x y : Nat) :
    (s.rectCrc o k r x y).1.rest = s.rest := by
  unfold State.rectCrc
  split
  · exact s.draw_rest
  · rfl

@[simp] theorem State.rectEnd_rest (s : State) (o k : Nat) : (s.rectEnd o k).rest = s.rest := by
  unfold State.rectEnd
  simp only
  split
  · rfl
  · split
    · rfl
    · split
      · simp
      · rw [State.when_rest _ _ _ fun s => by simp]
        simp

@[simp] theorem State.dispNewLine_rest (s : State) (o line : Nat) : (s.dispNewLine o line).rest = s.rest := by
  unfold State.dispNewLine
  simp only [apply_ite State.rest, State.fetchTo_rest, ite_self]
  refine (forTo_rest 4 _ (fun k s => ?_) _).trans (by simp)
  split
  · split
    · split
      · exact s.rectEnd_rest o k
      · rfl
    · rfl
  · rfl

/-- One cycle of a display output leaves everything else. -/
@[simp] theorem State.dispTick_rest (s : State) (o : Nat) : (s.dispTick o).rest = s.rest := by
  unfold State.dispTick
  simp only
  split
  · split
    · simp
    · split <;> simp
  · split <;> simp

end Sys2Proof.Machine

/-! Proofs about the idle cycle (R7, R38, R238, R240, R323, R378): the hold count, the position's projection, network
time, the display scans and the queued Ethernet frames. -/

namespace Sys2Proof.Machine

/-! ### The hold count -/

/-- The words of the register file tell nothing else. -/
theorem State.word_of_regs {s t : State} (h : s.regs = t.regs) (a : Nat) : s.word a = t.word a := by
  unfold State.word
  rw [h]

/-- The hold count's turn changes SYS_HOLD and its own remainder alone. -/
theorem State.holdTick_eq (s : State) :
    s.holdTick = { s with regs := s.holdTick.regs, holdAcc := s.holdTick.holdAcc } := by
  unfold State.holdTick
  simp only
  split
  · split <;> rfl
  · rfl

theorem State.holdTick_word (s : State) {a : Nat} (h : a ≠ SYS_HOLD.at 0) : s.holdTick.word a = s.word a := by
  unfold State.holdTick
  simp only
  split
  · split
    · rfl
    · rw [State.word_setReg_other _ _ _ 0 0 a h]
      exact State.word_of_regs (by rfl) a
  · rfl

section
variable {s : State} (hok : s.on SYS_CLKSTAT.OSC_OK = true) (hen : s.on SYS_AONCTL.OSC_EN = true)
include hok hen

/-- Within a period of 32.768 kHz the remainder grows. -/
theorem State.holdTick_within (h : s.holdAcc + 32768 < 1200000000) :
    s.holdTick = { s with holdAcc := s.holdAcc + 32768 } := by
  unfold State.holdTick
  rw [if_pos (by rw [hok, hen]; rfl)]
  exact if_pos h

/-- At the end of a period SYS_HOLD counts. -/
theorem State.holdTick_counts (h : 1200000000 ≤ s.holdAcc + 32768) :
    s.holdTick = { s with regs := (s.setReg SYS_HOLD (s.reg SYS_HOLD + 1)).regs,
                          holdAcc := s.holdAcc + 32768 - 1200000000 } := by
  unfold State.holdTick
  rw [if_pos (by rw [hok, hen]; rfl)]
  exact if_neg (by omega)

end

/-! ### The forward position -/

/-- The forward position's turn changes it, its latch, and what REVERSE sets. -/
theorem State.updateFwd_eq (s : State) : s.updateFwd =
    { s with regs := s.updateFwd.regs, evt := s.updateFwd.evt, hlnk := s.updateFwd.hlnk,
             pos := { s.pos with fwd := s.updateFwd.pos.fwd, revLatch := s.updateFwd.pos.revLatch } } := by
  unfold State.updateFwd
  simp only
  split
  · rfl
  · split
    · rfl
    · split
      · unfold State.raise
        rw [State.raiseAt_eq]
        rfl
      · rfl

/-- REVERSE sets its bit and its counter, with the event queue's own flag at most. -/
theorem State.updateFwd_word (s : State) {a : Nat} (hp : a ≠ POS_FLAG.at 0) (hh : a ≠ HLNK_FLAG.at 0)
    (ht : ∀ i < 4000, a ≠ TALLY_CNT.at i) : s.updateFwd.word a = s.word a := by
  unfold State.updateFwd
  simp only
  split
  · rfl
  · split
    · rfl
    · split
      · exact State.raiseAt_word _ POS_FLAG.REVERSE 0 0 none 0 _ rfl a hp (ht _ (by decide)) hh (ht _ (by decide))
      · rfl

/-- Out of OFF the forward position follows pos_out forwards. -/
theorem State.updateFwd_fwd (s : State) (h : s.posState ≠ 0) : s.updateFwd.pos.fwd =
    if after (s.fwdCoord s.posOut) (s.fwdCoord s.pos.fwd) then s.posOut else s.pos.fwd := by
  unfold State.updateFwd
  rw [if_neg h]
  simp only
  split
  · rfl
  · split
    · rw [State.raise_pos]
      rfl
    · rfl

/-! ### The cycle's parts -/

/-- The cycle counted, what it projected kept, and the projection moved on. -/
def State.projectTick (s : State) : State :=
  let s := { s with cycle := s.cycle + 1, pos := { s.pos with was := (s.pos.est, s.pos.vel, s.pos.k) } }
  if s.pos.k < 63 ∧ s.posState ≠ 0 then ({ s with pos := { s.pos with k := s.pos.k + 1 } } : State).updateFwd else s

/-- Network time moved on, outside a system reset. -/
def State.timeTick (s : State) : State :=
  if s.sys.held then s else s.setTime (s.net.time + (s.reg ETH_TADDEND).toNat)

/-- The root lock does not hang on the hold count. -/
theorem State.holdTick_lock (s : State) : s.holdTick.on SYS_CLKSTAT.ROOT_LOCK = s.on SYS_CLKSTAT.ROOT_LOCK :=
  State.on_of_word (s.holdTick_word (by decide))

theorem State.tick_unlocked {s : State} (h : s.on SYS_CLKSTAT.ROOT_LOCK = false) : s.tick = s.holdTick := by
  unfold State.tick
  simp only
  rw [s.holdTick_lock, h]
  rfl

theorem State.tick_locked {s : State} (h : s.on SYS_CLKSTAT.ROOT_LOCK = true) :
    s.tick = (s.holdTick.projectTick.timeTick.dispTick 0).dispTick 1 := by
  unfold State.tick
  simp only
  rw [s.holdTick_lock, h]
  rfl

theorem State.projectTick_eq (s : State) : s.projectTick =
    { s with regs := s.projectTick.regs, evt := s.projectTick.evt, hlnk := s.projectTick.hlnk, cycle := s.cycle + 1,
             pos := { s.pos with was := (s.pos.est, s.pos.vel, s.pos.k),
                                 k := if s.pos.k < 63 ∧ s.posState ≠ 0 then s.pos.k + 1 else s.pos.k,
                                 fwd := s.projectTick.pos.fwd, revLatch := s.projectTick.pos.revLatch } } := by
  have hst : ∀ c p, ({ s with cycle := c, pos := p } : State).posState = s.posState := fun _ _ => rfl
  unfold State.projectTick
  simp only [hst]
  split
  · rw [State.updateFwd_eq]
  · rfl

theorem State.projectTick_word (s : State) {a : Nat} (hp : a ≠ POS_FLAG.at 0) (hh : a ≠ HLNK_FLAG.at 0)
    (ht : ∀ i < 4000, a ≠ TALLY_CNT.at i) : s.projectTick.word a = s.word a := by
  unfold State.projectTick
  simp only
  split
  · exact State.updateFwd_word _ hp hh ht
  · rfl

/-- The forward position after the cycle's projection. -/
theorem State.projectTick_fwd (s : State) (hk : s.pos.k < 63) (hst : s.posState ≠ 0) : s.projectTick.pos.fwd =
    if after (s.fwdCoord (projected s.pos.est s.pos.vel (s.pos.k + 1 + s.latComp))) (s.fwdCoord s.pos.fwd) then
      projected s.pos.est s.pos.vel (s.pos.k + 1 + s.latComp)
    else s.pos.fwd := by
  unfold State.projectTick
  simp only
  rw [if_pos ⟨hk, hst⟩]
  exact State.updateFwd_fwd _ hst

theorem State.timeTick_eq (s : State) : s.timeTick = { s with net := s.timeTick.net } := by
  unfold State.timeTick
  split <;> rfl

theorem State.timeTick_net (s : State) : s.timeTick.net = if s.sys.held then s.net
    else { s.net with time := timeMod (s.net.time + (s.reg ETH_TADDEND).toNat) } := by
  unfold State.timeTick
  split <;> rfl

/-! ### The displays -/

/-- A display that neither scans nor drives its balls stays. -/
theorem State.dispTick_blanked {s : State} {o : Nat} (h : (s.dout o).scanning = false) :
    s.dispTick o =
      if (s.dout o).driven then s.setDout o { s.dout o with tick := ((s.dout o).tick + 1) % s.pixTicks o } else s := by
  unfold State.dispTick
  simp only
  rw [if_neg (by rw [h]; decide)]

theorem State.dispTick_off {s : State} {o : Nat} (h : (s.dout o).scanning = false) (hd : (s.dout o).driven = false) :
    s.dispTick o = s := by
  rw [State.dispTick_blanked h, if_neg (by rw [hd]; decide)]

/-- After the last pixel of a frame the next one starts. -/
theorem State.dispTick_frame {s : State} {o : Nat} (h : (s.dout o).scanning = true)
    (ht : s.pixTicks o * s.htot o * s.vtot o ≤ (s.dout o).tick + 1) : s.dispTick o = s.frameLatch o := by
  unfold State.dispTick
  simp only
  rw [if_pos h, if_pos ht]

/-- Within a frame a new line is begun where the pixel's line changes. -/
theorem State.dispTick_pixel {s : State} {o : Nat} (h : (s.dout o).scanning = true)
    (ht : (s.dout o).tick + 1 < s.pixTicks o * s.htot o * s.vtot o) {t : State}
    (hdef : t = s.setDout o { s.dout o with tick := (s.dout o).tick + 1 }) :
    s.dispTick o = if t.dispLine o = s.dispLine o then t else t.dispNewLine o (t.dispLine o) := by
  subst hdef
  unfold State.dispTick
  simp only
  rw [if_pos h, if_neg (Nat.not_le.2 ht)]

/-! ### The queued frames -/

/-- Messages sent in order stand in order in the outbox. -/
theorem forIn'_emit {α : Type} (g : α → Out) (l : List α) (s : State) :
    forIn' l (fun x s => s.emit (g x)) s = { s with out := s.out ++ l.map g } := by
  induction l generalizing s with
  | nil => simp [forIn']
  | cons x t ih =>
    have hstep : forIn' (x :: t) (fun x s => s.emit (g x)) s = forIn' t (fun x s => s.emit (g x)) (s.emit (g x)) := rfl
    rw [hstep, ih]
    simp [State.emit]

/-- The frames whose time has come leave, and the others stay queued. -/
theorem State.launchFrames_eq {s : State} (h : s.macRuns = true) : s.launchFrames =
    { s with out := s.out ++ (s.net.txq.filter fun x => decide (x.1 ≤ s.net.time)).map (fun x => Out.ethFrame x.2),
             net := { s.net with txq := s.net.txq.filter fun x => decide (s.net.time < x.1) } } := by
  unfold State.launchFrames
  simp only [h, Bool.not_true, Bool.false_eq_true, if_false]
  split
  · next hnone =>
    have hall : (s.net.txq.filter fun x => decide (s.net.time < x.1)) = s.net.txq := by
      rw [List.filter_eq_self]
      intro x hx
      have hlate := List.filter_eq_nil_iff.1 hnone x hx
      simpa using hlate
    rw [hnone, hall]
    simp
  · exact forIn'_emit _ _ _

theorem State.launchFrames_stopped {s : State} (h : s.macRuns = false) : s.launchFrames = s := by
  unfold State.launchFrames
  rw [if_pos (by rw [h]; rfl)]

/-! ### The whole cycle -/

section
variable (s : State)

/-- The state after the parts of the cycle that come before the display scans. -/
def State.beforeScans : State := s.holdTick.projectTick.timeTick

theorem State.beforeScans_eq : s.beforeScans =
    { s with regs := s.beforeScans.regs, evt := s.beforeScans.evt, hlnk := s.beforeScans.hlnk, cycle := s.cycle + 1,
             holdAcc := s.beforeScans.holdAcc, pos := s.beforeScans.pos, net := s.beforeScans.net } := by
  unfold State.beforeScans
  rw [State.timeTick_eq, State.projectTick_eq, State.holdTick_eq]

theorem State.beforeScans_word {a : Nat} (hs : a ≠ SYS_HOLD.at 0) (hp : a ≠ POS_FLAG.at 0) (hh : a ≠ HLNK_FLAG.at 0)
    (ht : ∀ i < 4000, a ≠ TALLY_CNT.at i) : s.beforeScans.word a = s.word a := by
  unfold State.beforeScans
  rw [State.timeTick_eq]
  exact (State.projectTick_word _ hp hh ht).trans (s.holdTick_word hs)

theorem State.holdTick_posState : s.holdTick.posState = s.posState := State.fld_of_word (s.holdTick_word (by decide))

theorem State.holdTick_pos : s.holdTick.pos = s.pos := by rw [State.holdTick_eq]

theorem State.holdTick_latComp : s.holdTick.latComp = s.latComp :=
  State.latComp_of_words fun a ha => s.holdTick_word (fun h => absurd (h ▸ ha) (by decide))

theorem State.holdTick_fwdCoord (p : Word) : s.holdTick.fwdCoord p = s.fwdCoord p := by
  have hss : s.holdTick.on FIRE_SCANSTAT.SSTATE = s.on FIRE_SCANSTAT.SSTATE := State.on_of_word (s.holdTick_word (by decide))
  have hjq : s.holdTick.jq = s.jq := by rw [State.holdTick_eq]
  have hscan : s.holdTick.scan = s.scan := by rw [State.holdTick_eq]
  unfold State.fwdCoord State.inScan
  rw [hss, hjq, hscan]

/-- The projection moves on by one cycle, at most 63, while the unit is not OFF. -/
theorem State.beforeScans_k :
    s.beforeScans.pos.k = if s.pos.k < 63 ∧ s.posState ≠ 0 then s.pos.k + 1 else s.pos.k := by
  unfold State.beforeScans
  rw [State.timeTick_eq, State.projectTick_eq, s.holdTick_pos, s.holdTick_posState]

/-- The estimate and the velocity stay, and what they projected is kept. -/
theorem State.beforeScans_estimate : s.beforeScans.pos.est = s.pos.est ∧ s.beforeScans.pos.vel = s.pos.vel ∧
    s.beforeScans.pos.was = (s.pos.est, s.pos.vel, s.pos.k) := by
  unfold State.beforeScans
  rw [State.timeTick_eq, State.projectTick_eq, s.holdTick_pos]
  exact ⟨rfl, rfl, rfl⟩

/-- Network time advances by its addend outside a system reset. -/
theorem State.beforeScans_net : s.beforeScans.net = if s.sys.held then s.net
    else { s.net with time := timeMod (s.net.time + (s.reg ETH_TADDEND).toNat) } := by
  have hadd : s.holdTick.projectTick.reg ETH_TADDEND = s.reg ETH_TADDEND :=
    (State.projectTick_word _ (by decide) (by decide) fun _ hi => tally_at_ne hi (by decide)).trans
      (s.holdTick_word (by decide))
  have hnet : s.holdTick.projectTick.net = s.net := by rw [State.projectTick_eq, State.holdTick_eq]
  have hsys : s.holdTick.projectTick.sys = s.sys := by rw [State.projectTick_eq, State.holdTick_eq]
  unfold State.beforeScans
  rw [State.timeTick_net, hnet, hsys, hadd]

/-- POS_FWD follows pos_out forwards. -/
theorem State.beforeScans_fwd (hk : s.pos.k < 63) (hst : s.posState ≠ 0) : s.beforeScans.pos.fwd =
    if after (s.fwdCoord (projected s.pos.est s.pos.vel (s.pos.k + 1 + s.latComp))) (s.fwdCoord s.pos.fwd) then
      projected s.pos.est s.pos.vel (s.pos.k + 1 + s.latComp)
    else s.pos.fwd := by
  have hfwd := s.holdTick.projectTick_fwd (by rw [s.holdTick_pos]; exact hk) (by rw [s.holdTick_posState]; exact hst)
  rw [s.holdTick_pos, s.holdTick_latComp, s.holdTick_fwdCoord, s.holdTick_fwdCoord] at hfwd
  unfold State.beforeScans
  rw [State.timeTick_eq]
  exact hfwd

/-- The display scans leave the cycle, the position, network time and every other part that is not theirs. -/
theorem State.tick_rest (h : s.on SYS_CLKSTAT.ROOT_LOCK = true) : s.tick.rest = s.beforeScans.rest := by
  rw [State.tick_locked h, State.dispTick_rest, State.dispTick_rest]
  rfl

theorem State.tick_beforeScans (h : s.on SYS_CLKSTAT.ROOT_LOCK = true) : s.tick.cycle = s.beforeScans.cycle ∧
    s.tick.pos = s.beforeScans.pos ∧ s.tick.net = s.beforeScans.net := by
  have hcycle := congrArg State.cycle (s.tick_rest h)
  have hpos := congrArg State.pos (s.tick_rest h)
  have hnet := congrArg State.net (s.tick_rest h)
  exact ⟨hcycle, hpos, hnet⟩

/-- Without a driven display nothing follows the cycle's other parts. -/
theorem State.tick_undriven (h : s.on SYS_CLKSTAT.ROOT_LOCK = true)
    (hoff : ∀ o < 2, (s.dout o).scanning = false ∧ (s.dout o).driven = false) : s.tick = s.beforeScans := by
  have hout : ∀ o, s.beforeScans.dout o = s.dout o := fun o => by
    unfold State.dout
    rw [State.beforeScans_eq]
  have hstay : ∀ o < 2, s.beforeScans.dispTick o = s.beforeScans := fun o ho =>
    State.dispTick_off (by rw [hout]; exact (hoff o ho).1) (by rw [hout]; exact (hoff o ho).2)
  rw [State.tick_locked h]
  show (s.beforeScans.dispTick 0).dispTick 1 = _
  rw [hstay 0 (by decide), hstay 1 (by decide)]

end

/-- Settles O8: the cycle's parts one by one (`holdTick`, `projectTick`, `timeTick`, `dispTick`, `launchFrames`), and that
the display scans leave the parts before them (`tick_rest`). -/
theorem idleCycleAdvancesWhatTimeDrives : Obligations.IdleCycleAdvancesWhatTimeDrives := by
  refine ⟨?step, ?unlocked, ?hold, ?stopped, ?locked, ?forward, ?undriven, ?blanked, ?frame, ?pixel, ?launch, ?quiet⟩
  case step =>
    intro s t h
    cases h
    rfl
  case unlocked => exact fun s h => State.tick_unlocked h
  case hold => exact fun s hok hen => ⟨State.holdTick_within hok hen, State.holdTick_counts hok hen⟩
  case stopped =>
    intro s h
    unfold State.holdTick
    rw [if_neg (by simp [h])]
  case locked =>
    intro s h t
    obtain ⟨hcycle, hpos, hnet⟩ : t.cycle = _ ∧ t.pos = _ ∧ t.net = _ := s.tick_beforeScans h
    obtain ⟨hest, hvel, hwas⟩ := s.beforeScans_estimate
    rw [hpos, hcycle, hnet]
    exact ⟨by rw [State.beforeScans_eq], hest, hvel, hwas, s.beforeScans_k, s.beforeScans_net⟩
  case forward =>
    intro s h hk hst p
    obtain ⟨_, hpos, _⟩ := s.tick_beforeScans h
    rw [hpos]
    exact s.beforeScans_fwd hk hst
  case undriven =>
    intro s hs0 hd0 hs1 hd1
    by_cases h : s.on SYS_CLKSTAT.ROOT_LOCK = true
    case neg =>
      rw [State.tick_unlocked (by simpa using h)]
      exact ⟨⟨_, s.cycle, _, s.pos, s.net, s.evt, s.hlnk, s.holdTick_eq⟩,
        fun a ha _ => s.holdTick_word (ha SYS_HOLD (by simp))⟩
    case pos =>
      rw [s.tick_undriven h fun o ho => by
        rcases o with _ | _ | o
        · exact ⟨hs0, hd0⟩
        · exact ⟨hs1, hd1⟩
        · omega]
      exact ⟨⟨_, _, _, _, _, _, _, s.beforeScans_eq⟩, fun a ha ht => s.beforeScans_word (ha SYS_HOLD (by simp))
        (ha POS_FLAG (by simp)) (ha HLNK_FLAG (by simp)) fun i _ => ht i⟩
  case blanked => exact fun s o h => State.dispTick_blanked h
  case frame =>
    intro s o d hd hscan ht
    subst hd
    exact State.dispTick_frame hscan ht
  case pixel =>
    intro s o d t hd hscan hlt ht
    subst hd
    exact State.dispTick_pixel hscan hlt ht
  case launch => exact fun s h => State.launchFrames_eq h
  case quiet => exact fun s h => State.launchFrames_stopped h

end Sys2Proof.Machine

/-! Proofs about the job queue (R16 to R24, R256): a descriptor's arrival, release, flush and ENABLE. -/

namespace Sys2Proof.Machine

/-! ### Fields of one register -/

/-- Two fields of a register that share no bit. -/
abbrev Fld.disjoint (f g : Fld) : Prop :=
  g.reg = f.reg ∧ f.hi < 40 ∧ f.lo ≤ f.hi ∧ g.hi < 40 ∧ (f.hi < g.lo ∨ g.hi < f.lo)

/-- Setting a field leaves a disjoint field of its register as it is. -/
theorem State.fld_setFld_disjoint (s : State) {f g : Fld} (v : Nat) (h : f.disjoint g) :
    (s.setFld f v).fld g = s.fld g := by
  obtain ⟨hr, hf, hl, hg, hfg⟩ := h
  exact s.fld_setFld_beside f g v 0 0 hr hf hl hg hfg

/-! ### A write that is delivered to a plain register -/

/-- A one-bit field of a written word, as a flag and back. -/
theorem bit_wbit {f : Fld} (h : f.width = 1) (w : Word) : bit (wbit f w) = f.ext w := by
  have hlt := Fld.ext_lt f w
  rw [h] at hlt
  have hcases : f.ext w = 0 ∨ f.ext w = 1 := by omega
  unfold wbit
  rcases hcases with h0 | h1
  · rw [h0]; rfl
  · rw [h1]; rfl

/-- A sender's write that reaches a register without guarded fields is delivered. -/
theorem State.regCmd_reaches {s : State} {o : Sender} {r : Reg} {i : Nat} (w : Word) (h : s.reaches o r i = true)
    (hp : plainAt r i 0 = true) : s.regCmd o r i 0 w = s.deliver o.origin r i 0 w := by
  obtain ⟨hm, hi⟩ := (s.reaches_iff o r i).1 h
  unfold State.regCmd
  rw [State.sends_maySend hm, s.busWrite_plain _ r i 0 w hp hi]

/-- JOBQ_RELEASE that reaches SYS_JOBQ_REL. -/
theorem exec_jobqRelease {s : State} {o : Sender} (w : Word) (h : s.reaches o SYS_JOBQ_REL = true) :
    exec (.jobqRelease o w) s = .next (s.close (s.jobqRelease (SYS_JOBQ_REL.REL_IDX.ext w))) :=
  congrArg s.finish (State.regCmd_reaches w h (by decide))

/-- JOBQ_FLUSH that reaches SYS_JOBQ_CTL: FLUSH is 1 whatever the word holds there. -/
theorem exec_jobqFlush {s : State} {o : Sender} (w : Word) (h : s.reaches o SYS_JOBQ_CTL = true) :
    exec (.jobqFlush o w) s = .next (s.close (s.jobqCtl true (wbit SYS_JOBQ_CTL.ENABLE w))) := by
  have hflush : SYS_JOBQ_CTL.FLUSH.ext (SYS_JOBQ_CTL.FLUSH.ins w 1) = 1 :=
    Fld.ext_ins_same _ _ _ (by decide) (by decide)
  have hen : SYS_JOBQ_CTL.ENABLE.ext (SYS_JOBQ_CTL.FLUSH.ins w 1) = SYS_JOBQ_CTL.ENABLE.ext w :=
    Fld.ext_ins_other _ _ _ _ (by decide) (by decide) (by decide) (by decide)
  show s.finish (s.regCmd o SYS_JOBQ_CTL 0 0 (SYS_JOBQ_CTL.FLUSH.ins w 1)) = _
  rw [State.regCmd_reaches _ h (by decide)]
  show s.finish (s.jobqCtl (SYS_JOBQ_CTL.FLUSH.ext _ == 1) (SYS_JOBQ_CTL.ENABLE.ext _ == 1)) = _
  rw [hflush, hen]
  rfl

/-- JOBQ_ENABLE that reaches SYS_JOBQ_CTL. -/
theorem exec_jobqEnable {s : State} {o : Sender} (w : Word) (h : s.reaches o SYS_JOBQ_CTL = true)
    (hflush : SYS_JOBQ_CTL.FLUSH.ext w = 0) :
    exec (.jobqEnable o w) s = .next (s.close (s.jobqCtl false (wbit SYS_JOBQ_CTL.ENABLE w))) := by
  show s.finish (s.regCmd o SYS_JOBQ_CTL 0 0 w) = _
  rw [State.regCmd_reaches _ h (by decide)]
  show s.finish (s.jobqCtl (SYS_JOBQ_CTL.FLUSH.ext w == 1) _) = _
  rw [hflush]
  rfl

/-! ### The queue's registers -/

section
variable (s : State) (q : List QEnt)

@[simp] theorem State.setQueue_jq : (s.setQueue q).jq = { s.jq with q := q } := rfl

/-- Replacing the queue writes SYS_JOBQ_STAT alone. -/
theorem State.setQueue_word {a : Nat} (h : a ≠ SYS_JOBQ_STAT.at 0) : (s.setQueue q).word a = s.word a := by
  unfold State.setQueue State.jqSync
  rw [State.word_setFld_other _ _ _ _ _ _ h, State.word_setFld_other _ _ _ _ _ _ h]
  rfl

/-- A field of SYS_JOBQ_STAT apart from FILL and RD_IDX stays. -/
theorem State.setQueue_stat {f : Fld} (hfill : SYS_JOBQ_STAT.FILL.disjoint f) (hrd : SYS_JOBQ_STAT.RD_IDX.disjoint f) :
    (s.setQueue q).fld f = s.fld f := by
  unfold State.setQueue State.jqSync
  rw [State.fld_setFld_disjoint _ _ hrd, State.fld_setFld_disjoint _ _ hfill]
  rfl

@[simp] theorem State.setQueue_jobState : (s.setQueue q).jobState = s.jobState :=
  s.setQueue_stat q (by decide) (by decide)

@[simp] theorem State.setQueue_enable : (s.setQueue q).on SYS_JOBQ_CTL.ENABLE = s.on SYS_JOBQ_CTL.ENABLE :=
  State.on_of_word (s.setQueue_word q (by decide))

/-- FILL is the number of entries, which its width holds. -/
theorem State.setQueue_fill (h : q.length ≤ 64) : (s.setQueue q).fld SYS_JOBQ_STAT.FILL = q.length := by
  unfold State.setQueue State.jqSync
  rw [State.fld_setFld_disjoint _ _ (by decide), State.fld_setFld_same _ _ _ _ _ (by decide) (by decide)]
  exact Nat.mod_eq_of_lt (Nat.lt_of_le_of_lt h (by decide))

end

/-! ### A descriptor's arrival (R16, R19) -/

section
variable (s : State) (mk : Nat → QEnt)

theorem State.enqueue_queue : (s.enqueue mk).jq.q = s.jq.q ++ [mk (s.fld SYS_JOBQ_STAT.WR_IDX)] := rfl

theorem State.enqueue_wrIdx :
    (s.enqueue mk).fld SYS_JOBQ_STAT.WR_IDX = (s.fld SYS_JOBQ_STAT.WR_IDX + 1) % 128 := by
  unfold State.enqueue
  rw [State.setQueue_stat _ _ (by decide) (by decide),
    State.fld_setFld_same _ _ _ _ _ (by decide) (by decide)]
  exact Nat.mod_mod _ _

theorem State.enqueue_fill (h : s.jq.q.length < 64) : (s.enqueue mk).fld SYS_JOBQ_STAT.FILL = s.jq.q.length + 1 := by
  unfold State.enqueue
  rw [State.setQueue_fill _ _ (by simpa using h)]
  simp

end

section
variable {s : State} {w0 w1 w2 w3 : Word}

/-- A full queue takes no descriptor. -/
theorem State.jobdesc_full (h : 64 ≤ s.jq.q.length) : s.jobdesc w0 w1 w2 w3 = s.raise SYS_JOBQ_FLAG.OVERRUN := if_pos h

section
variable (h : s.jq.q.length < 64)
include h

/-- With room, a descriptor whose TYPE is neither is invalid. -/
theorem State.jobdesc_bad (hd : parseDesc w0 w1 w2 w3 = .bad) : s.jobdesc w0 w1 w2 w3 = s.descInvalid none := by
  unfold State.jobdesc
  rw [if_neg (by omega), hd]

/-- With room, a job descriptor takes an entry when it is valid. -/
theorem State.jobdesc_job {d : JobDesc} (hd : parseDesc w0 w1 w2 w3 = .job d) : s.jobdesc w0 w1 w2 w3 =
    if s.jobDescOk d w0 w1 w2 w3 then s.enqueue fun i => .job i d false else s.descInvalid none := by
  unfold State.jobdesc
  rw [if_neg (by omega), hd]

/-- With room, a page descriptor takes an entry when it is valid, and is released where no job descriptor waits. -/
theorem State.jobdesc_page {d : PageDesc} (hd : parseDesc w0 w1 w2 w3 = .page d) : s.jobdesc w0 w1 w2 w3 =
    if s.pageDescOk d w3 then
      if (lastJob s.jq.q).isSome then s.enqueue fun i => .page i d else (s.enqueue fun i => .page i d).releasePage d
    else s.descInvalid (some d.jobId) := by
  unfold State.jobdesc
  rw [if_neg (by omega), hd]

end
end

/-! ### A packet that is accepted (R256) -/

/-- An undamaged packet in order, within its credit and without a fault of its own, is counted, taken and performed. -/
theorem State.downPkt_taken {s : State} {type seq cls : Nat} {words : List Word} (perform : State → State)
    (hup : s.hlState = 3) (hcls : cls < 2) (hseq : seq = s.fld HLNK_SEQ.RX_NEXT)
    (hcredit : (s.countIn cls (pktBlocks words .none)).overCredit cls 0 = false) :
    s.downPkt type seq cls words .none 0 perform =
      (perform ((s.countIn cls (pktBlocks words .none)).setFld HLNK_SEQ.RX_NEXT ((seq + 1) % 256))).tookPkt cls
        (pktBlocks words .none) := by
  have hwhen : s.when (s.hlState == 3 && decide (cls < 2)) (·.countIn cls (pktBlocks words .none)) =
      s.countIn cls (pktBlocks words .none) := by
    unfold State.when
    rw [if_pos (by simp [hup, hcls])]
  have hup' : (s.countIn cls (pktBlocks words .none)).hlState = 3 := hup
  have hnext : (s.countIn cls (pktBlocks words .none)).fld HLNK_SEQ.RX_NEXT = seq := hseq.symm
  have hover : ∀ v, ((s.countIn cls (pktBlocks words .none)).setFld HLNK_SEQ.RX_NEXT v).overCredit cls
      (pktBehind .none) = false := fun _ => hcredit
  unfold State.downPkt
  simp only [hwhen, hup', hnext, hover, ne_eq, not_true_eq_false, reduceCtorEq, Bool.false_eq_true, if_false]

/-- A JOBDESC packet of four words that is accepted: its descriptor is taken, and the packet takes six blocks. -/
theorem State.jobdescPkt_taken {s : State} {seq : Nat} {words : List Word} (hup : s.hlState = 3)
    (hlen : words.length = 4) (hseq : seq = s.fld HLNK_SEQ.RX_NEXT) (hcredit : (s.countIn 1 6).overCredit 1 0 = false) :
    s.jobdescPkt seq words .none =
      (((s.countIn 1 6).setFld HLNK_SEQ.RX_NEXT ((seq + 1) % 256)).jobdesc (words.getD 0 0) (words.getD 1 0)
        (words.getD 2 0) (words.getD 3 0)).tookPkt 1 6 := by
  have hbody : pktBody words .none = words := List.take_of_length_le (by omega)
  have hblocks : pktBlocks words .none = 6 := by
    unfold pktBlocks
    rw [hbody, hlen]
    rfl
  unfold State.jobdescPkt
  rw [hbody]
  simp only [hlen, ne_eq, not_true_eq_false, if_false]
  rw [State.downPkt_taken _ hup (by decide) hseq (by rw [hblocks]; exact hcredit), hblocks]

/-! ### Release, flush and ENABLE (R20, R24) -/

/-- A queue entry after a write of REL_IDX: the job descriptor that it is one past is released (R20). -/
def QEnt.releasedBy (rel : Nat) : QEnt → QEnt
  | .job i d r => if (i + 1) % 128 = rel then .job i d true else .job i d r
  | .page i d => .page i d

/-- An index one past a job descriptor releases that job, and the front job starts where it may. -/
theorem State.jobqRelease_hit {s : State} {rel : Nat} {e : QEnt} (he : e ∈ s.jq.q) (hjob : e.isJob = true)
    (hidx : (e.idx + 1) % 128 = rel) :
    s.jobqRelease rel = ((s.setFld SYS_JOBQ_REL.REL_IDX rel).setQueue (s.jq.q.map (QEnt.releasedBy rel))).tryStart := by
  have hany : (s.jq.q.any fun e => e.isJob && (e.idx + 1) % 128 == rel) = true :=
    List.any_eq_true.2 ⟨e, he, by simp [hjob, hidx]⟩
  unfold State.jobqRelease
  rw [if_pos hany]
  refine congrArg (fun q => ((s.setFld SYS_JOBQ_REL.REL_IDX rel).setQueue q).tryStart)
    (List.map_congr_left fun x _ => ?_)
  cases x <;> rfl

/-- An index that is not one past a job descriptor releases nothing. -/
theorem State.jobqRelease_miss {s : State} {rel : Nat}
    (h : s.jq.q.all (fun e => !e.isJob || (e.idx + 1) % 128 != rel) = true) : s.jobqRelease rel = s := by
  have hany : ¬ (s.jq.q.any fun e => e.isJob && (e.idx + 1) % 128 == rel) = true := by
    rw [Bool.not_eq_true, ← Bool.not_eq_true', List.not_any_eq_all_not, ← h]
    simp only [Bool.not_and, bne]
  exact if_neg hany

/-- A flush with a job in progress fails the job and leaves ENABLE to the failure. -/
theorem State.jobqCtl_flush_runs {s : State} (h : s.jobRuns = true) (e : Bool) :
    s.jobqCtl true e = (s.failNow 10).setQueue [] := by
  unfold State.jobqCtl State.when
  simp only [h, Bool.and_self, if_true]

/-- A flush without a job empties the queue before it writes ENABLE. -/
theorem State.jobqCtl_flush_idle {s : State} (hjob : s.jq.job = none) (h : s.jobRuns = false) (e : Bool) :
    s.jobqCtl true e = (s.setQueue []).jobqCtl false e := by
  have hfail : s.failNow 10 = s := by
    unfold State.failNow State.failJob
    rw [hjob]
  unfold State.jobqCtl State.when
  simp only [h, hfail, Bool.and_false, Bool.false_and, Bool.false_eq_true, if_true, if_false]

/-- A write of ENABLE alone: FAILED ends when ENABLE rises, and a released job at the front starts where it may. -/
theorem State.jobqCtl_enable (s : State) (w : Word) :
    s.jobqCtl false (wbit SYS_JOBQ_CTL.ENABLE w) =
      ((s.setFld SYS_JOBQ_CTL.ENABLE (SYS_JOBQ_CTL.ENABLE.ext w)).when
        ((SYS_JOBQ_CTL.ENABLE.ext w == 1) && !s.on SYS_JOBQ_CTL.ENABLE && s.jobState == 4)
        (·.setJobState 0)).tryStart := by
  have hstate : ∀ v, (s.setFld SYS_JOBQ_CTL.ENABLE v).jobState = s.jobState := fun v =>
    s.fld_setFld_other _ _ _ _ _ _ _ (by decide)
  have hwrite : s.jobqCtl false (wbit SYS_JOBQ_CTL.ENABLE w) =
      ((s.setFld SYS_JOBQ_CTL.ENABLE (bit (wbit SYS_JOBQ_CTL.ENABLE w))).when
        (wbit SYS_JOBQ_CTL.ENABLE w && !s.on SYS_JOBQ_CTL.ENABLE &&
          (s.setFld SYS_JOBQ_CTL.ENABLE (bit (wbit SYS_JOBQ_CTL.ENABLE w))).jobState == 4)
        (·.setJobState 0)).tryStart := rfl
  rw [hwrite, bit_wbit rfl, hstate]
  rfl

/-- Settles O12: the packet is taken by `downPkt_taken`, its descriptor by the case of `State.jobdesc`; the registers'
writes come to `State.jobqRelease` and `State.jobqCtl`. -/
theorem jobDescriptorIsQueuedAndReleased : Obligations.JobDescriptorIsQueuedAndReleased := by
  refine ⟨?packet, ?job, ?page, ?full, ?bad, ?badJob, ?badPage, ?release, ?ignored, ?flushRuns, ?flushIdle, ?enable⟩
  case packet =>
    intro s seq words ha hup hlen hseq hcredit
    show s.finish (s.live _) = _
    rw [s.live_awake _ ha, State.jobdescPkt_taken hup hlen hseq hcredit]
    rfl
  case job =>
    intro s w0 w1 w2 w3 d hroom hd hok t
    have ht : t = s.enqueue fun i => .job i d false := by
      show s.jobdesc w0 w1 w2 w3 = _
      rw [State.jobdesc_job hroom hd, if_pos hok]
    rw [ht]
    exact ⟨rfl, s.enqueue_queue _, s.enqueue_wrIdx _, s.enqueue_fill _ hroom⟩
  case page =>
    intro s w0 w1 w2 w3 d hroom hd hok t
    exact ⟨s.enqueue_queue _, by rw [State.jobdesc_page hroom hd, if_pos hok]⟩
  case full => exact fun s w0 w1 w2 w3 h => State.jobdesc_full h
  case bad => exact fun s w0 w1 w2 w3 hroom hd => State.jobdesc_bad hroom hd
  case badJob =>
    intro s w0 w1 w2 w3 d hroom hd hok
    rw [State.jobdesc_job hroom hd, hok]
    rfl
  case badPage =>
    intro s w0 w1 w2 w3 d hroom hd hok
    rw [State.jobdesc_page hroom hd, hok]
    rfl
  case release =>
    intro s o w e h he hjob hidx
    rw [exec_jobqRelease w h, State.jobqRelease_hit he hjob hidx]
    rfl
  case ignored =>
    intro s o w h hall
    rw [exec_jobqRelease w h, State.jobqRelease_miss hall]
  case flushRuns =>
    intro s o w h hruns
    rw [exec_jobqFlush w h, State.jobqCtl_flush_runs hruns]
  case flushIdle =>
    intro s o w h hjob hruns u
    rw [exec_jobqFlush w h, State.jobqCtl_flush_idle hjob hruns, State.jobqCtl_enable, State.setQueue_enable,
      State.setQueue_jobState]
  case enable =>
    intro s o w h hflush u
    rw [exec_jobqEnable w h hflush, State.jobqCtl_enable]

end Sys2Proof.Machine

/-! Proofs about the events of a job (R22, R23, R46, R92): its failure, UNDERRUN, PM_MISSING and ROW_CLEAR. -/

namespace Sys2Proof.Machine

/-! ### The record of a failure (R23) -/

/-- A field that spans the word is the word that is put in it. -/
theorem Fld.ins_whole {f : Fld} (hlo : f.lo = 0) (hhi : f.hi = 39) (w v : Word) : f.ins w v.toNat = v := by
  refine BitVec.eq_of_getLsbD_eq fun k hk => ?_
  rw [f.getLsbD_ins (by omega) (by omega) w _ k hk, if_pos (by omega), hlo]
  rfl

/-- The four fields of a failure's record (R23 step 2). -/
def State.failRecord (s : State) (cause jobId pageNo : Nat) (stamp : Word) : State :=
  (((s.setFld SYS_JOBQ_FAIL.CAUSE cause).setFld SYS_JOBQ_FAIL.JOB_ID jobId).setFld SYS_JOBQ_FAIL.PAGE_NO pageNo).setFld
    SYS_JOBQ_FAILPOS.STAMP stamp.toNat

section
variable (s : State) (cause jobId pageNo : Nat) (stamp : Word)

theorem State.failRecord_cause :
    (s.failRecord cause jobId pageNo stamp).fld SYS_JOBQ_FAIL.CAUSE = cause % 2 ^ SYS_JOBQ_FAIL.CAUSE.width := by
  unfold State.failRecord
  rw [State.fld_setFld_other _ _ _ _ _ _ _ _ (by decide), State.fld_setFld_disjoint _ _ (by decide),
    State.fld_setFld_disjoint _ _ (by decide), State.fld_setFld_same _ _ _ _ _ (by decide) (by decide)]

theorem State.failRecord_jobId :
    (s.failRecord cause jobId pageNo stamp).fld SYS_JOBQ_FAIL.JOB_ID = jobId % 2 ^ 16 := by
  unfold State.failRecord
  rw [State.fld_setFld_other _ _ _ _ _ _ _ _ (by decide), State.fld_setFld_disjoint _ _ (by decide),
    State.fld_setFld_same _ _ _ _ _ (by decide) (by decide)]
  rfl

theorem State.failRecord_pageNo :
    (s.failRecord cause jobId pageNo stamp).fld SYS_JOBQ_FAIL.PAGE_NO = pageNo % 2 ^ 16 := by
  unfold State.failRecord
  rw [State.fld_setFld_other _ _ _ _ _ _ _ _ (by decide), State.fld_setFld_same _ _ _ _ _ (by decide) (by decide)]
  rfl

theorem State.failRecord_stamp : (s.failRecord cause jobId pageNo stamp).reg SYS_JOBQ_FAILPOS = stamp := by
  unfold State.failRecord State.setFld
  exact (State.reg_setReg_same _ _ _ _ _).trans (Fld.ins_whole rfl rfl _ _)

end

/-- The row of SYS_JOBQ_FLAG in the flag table. -/
def jobFlagRow : FlagRow := ⟨SYS_JOBQ_FLAG, SYS_JOBQ_FLAGEN, 16, 0⟩

/-- What follows the record: the flag is raised and ENABLE cleared (R23 steps 3 and 5). -/
def State.failFlagged (s : State) (jobId pageNo : Nat) (stamp : Word) : State :=
  (s.raiseAt SYS_JOBQ_FLAG.JOB_FAILED 0 0 (some stamp) (jobInfo jobId pageNo)).setFld SYS_JOBQ_CTL.ENABLE 0

/-- A failure makes its record where JOB_FAILED is clear. -/
theorem State.recordFail_eq (s : State) (cause jobId pageNo : Nat) (stamp : Word) :
    s.recordFail cause jobId pageNo stamp =
      (s.when (!s.on SYS_JOBQ_FLAG.JOB_FAILED) (·.failRecord cause jobId pageNo stamp)).failFlagged jobId pageNo stamp :=
  rfl

section
variable (s : State) (jobId pageNo : Nat) (stamp : Word)

/-- Raising the flag and clearing ENABLE leave the record as it is. -/
theorem State.failFlagged_word {a : Nat} (h : a = SYS_JOBQ_FAIL.at 0 ∨ a = SYS_JOBQ_FAILPOS.at 0) :
    (s.failFlagged jobId pageNo stamp).word a = s.word a := by
  obtain ⟨hctl, hflag, htally, hlink, hovf⟩ : a ≠ SYS_JOBQ_CTL.at 0 ∧ a ≠ SYS_JOBQ_FLAG.at 0 ∧
      a ≠ TALLY_CNT.at (16 + 0 * 0 + (SYS_JOBQ_FLAG.JOB_FAILED.lo + 0)) ∧ a ≠ HLNK_FLAG.at 0 ∧ a ≠ ovfTally := by
    rcases h with rfl | rfl <;> decide
  unfold State.failFlagged
  rw [State.word_setFld_other _ _ _ _ _ _ hctl]
  exact s.raiseAt_word _ 0 0 _ _ jobFlagRow (by decide) a hflag htally hlink hovf

theorem State.failFlagged_on : (s.failFlagged jobId pageNo stamp).on SYS_JOBQ_FLAG.JOB_FAILED = true := by
  rw [State.on_eq_bit _ rfl]
  unfold State.failFlagged
  rw [State.reg_setFld_other _ _ _ _ _ _ _ _ (by decide)]
  exact s.raiseAt_bit SYS_JOBQ_FLAG.JOB_FAILED 0 0 _ _ jobFlagRow (by decide) (by decide) (by decide)

theorem State.failFlagged_enable : (s.failFlagged jobId pageNo stamp).fld SYS_JOBQ_CTL.ENABLE = 0 := by
  unfold State.failFlagged
  rw [State.fld_setFld_same _ _ _ _ _ (by decide) (by decide)]
  rfl

end

/-! ### The state a failed job leaves (R23) -/

@[simp] theorem State.setJobState_jq (s : State) (v : Nat) : (s.setJobState v).jq = s.jq := rfl

/-- STATE reads as it is set. -/
theorem State.setJobState_jobState (s : State) {v : Nat} (h : v < 8) : (s.setJobState v).jobState = v := by
  unfold State.setJobState State.jobState
  rw [State.fld_setFld_same _ _ _ _ _ (by decide) (by decide)]
  exact Nat.mod_eq_of_lt h

/-- The failure of the job in force leaves no job and no drain span, and STATE FAILED. -/
theorem State.failJob_ends {s : State} {j : Job} (hjob : s.jq.job = some j) (cause n : Nat) :
    (s.failJob cause n).jq.job = none ∧ (s.failJob cause n).jq.drain = none ∧ (s.failJob cause n).jobState = 4 := by
  unfold State.failJob
  rw [hjob]
  simp only [State.setJobState_jq]
  refine and_assoc.1 ⟨?_, State.setJobState_jobState _ (by decide)⟩
  exact State.when_keeps (fun t => t.jq.job = none ∧ t.jq.drain = none) _ _ _ (fun t h => h) ⟨rfl, rfl⟩

/-! ### The first row clear (R29, R92) -/

/-- By R29 at most one of two lines comes after the other. -/
theorem lineAfter_asymm {a b : Nat} (h : lineAfter a b = true) : lineAfter b a = false := by
  unfold lineAfter lineAtOrAfter at *
  simp only [Bool.and_eq_true, decide_eq_true_eq, Bool.and_eq_false_iff, decide_eq_false_iff_not] at *
  omega

theorem firstClr_pair (a b : RowClr) : firstClr [a, b] = if lineAfter a.line b.line then some b else some a := rfl

/-- Of two row clears the first is one of them, and its line does not come after the other's. -/
theorem firstClr_pair_least {a b x y : RowClr} (hx : firstClr [a, b] = some x) (hy : y = a ∨ y = b) :
    (x = a ∨ x = b) ∧ (y = x ∨ lineAfter x.line y.line = false) := by
  rw [firstClr_pair] at hx
  by_cases hab : lineAfter a.line b.line = true
  · rw [if_pos hab] at hx
    cases hx
    rcases hy with rfl | rfl
    · exact ⟨.inr rfl, .inr (lineAfter_asymm hab)⟩
    · exact ⟨.inr rfl, .inl rfl⟩
  · rw [if_neg hab] at hx
    cases hx
    rcases hy with rfl | rfl
    · exact ⟨.inl rfl, .inl rfl⟩
    · exact ⟨.inl rfl, .inr (Bool.eq_false_of_not_eq_true hab)⟩

/-! ### The events -/

/-- UNDERRUN where the deadline stands fails the job. -/
theorem State.underrun_fails {s : State} {j : Job} {p : JPage} (hjob : s.jq.job = some j) (hp : s.currentPage = some p)
    (hlast : j.lastSeen = false) (hstart : p.start.isSome = true) (hleft : s.swathLeft = false) :
    s.underrun = (s.raise SYS_JOBQ_FLAG.UNDERRUN).failNow 7 := by
  unfold State.underrun
  rw [hjob, hp]
  simp only [hlast, hstart, hleft, Bool.not_false, Bool.and_self, if_true]

/-- PM_MISSING is set once while a page that is next to open waits for its mark. -/
theorem State.pmMissing_sets {s : State} {w : JPage} (hw : w ∈ s.planPages.jobPages) (hph : w.ph = .waiting)
    (hmark : w.d.mark = 2) (hstart : w.start = none) (hnext : s.planPages.nextToOpen w = true)
    (hprev : (s.planPages.prevEnd w).any (·.isSome) = true) (hwin : s.planPages.on POS_PM.WIN = true)
    (hmissed : s.planPages.jq.pmMissed = false) :
    s.pmMissing = (s.planPages.raise POS_FLAG.PM_MISSING).jqUpd fun q => { q with pmMissed := true } := by
  have hwaits : (s.planPages.jobPages.any fun w => w.ph == .waiting && w.d.mark == 2 && w.start.isNone &&
      s.planPages.nextToOpen w && (s.planPages.prevEnd w).any fun e => e.isSome) = true :=
    List.any_eq_true.2 ⟨w, hw, by simp [hph, hmark, hstart, hnext, hprev]⟩
  unfold State.pmMissing
  exact if_pos (by rw [hwaits, hwin, hmissed]; rfl)

/-- Settles O13: a failure is its record (`failRecord`), its flag (`failFlagged`) and what `failJob_ends` says; of two
row clears the first is told by `firstClr_pair_least`. -/
theorem jobEventsFailAndClear : Obligations.JobEventsFailAndClear := by
  refine ⟨?underrun, ?missing, ?clear, ?first, ?fails, ?record, ?flag⟩
  case underrun =>
    intro s j p ha hjob hp hlast hstart hleft
    show s.finish (s.live _) = _
    rw [s.live_awake _ ha, State.underrun_fails hjob hp hlast hstart hleft]
    rfl
  case missing =>
    intro s w ha hw hph hmark hstart hnext hprev hwin hmissed
    show s.finish (s.live _) = _
    rw [s.live_awake _ ha, State.pmMissing_sets hw hph hmark hstart hnext hprev hwin hmissed]
    rfl
  case clear =>
    intro s x ha hx
    show s.finish (s.live _) = _
    rw [s.live_awake _ ha]
    unfold State.rowClear
    rw [hx]
    rfl
  case first =>
    intro l x y hx hlen hy
    obtain ⟨a, b, rfl⟩ := List.length_eq_two.1 hlen
    simp only [List.mem_cons, List.not_mem_nil, or_false] at hy ⊢
    exact firstClr_pair_least hx hy
  case fails => exact fun s j cause n hjob => State.failJob_ends hjob cause n
  case record =>
    intro s cause jobId pageNo stamp hclear t
    have ht : t = (s.failRecord cause jobId pageNo stamp).failFlagged jobId pageNo stamp := by
      show s.recordFail cause jobId pageNo stamp = _
      rw [State.recordFail_eq, hclear]
      rfl
    have hfld : ∀ f : Fld, f.reg = SYS_JOBQ_FAIL → t.fld f = (s.failRecord cause jobId pageNo stamp).fld f :=
      fun f hf => State.fld_of_word (by rw [ht, State.failFlagged_word _ _ _ _ (.inl (by rw [hf]))])
    refine ⟨?_, ?_, ?_, ?_⟩
    · rw [hfld _ rfl, State.failRecord_cause]
    · rw [hfld _ rfl, State.failRecord_jobId]
    · rw [hfld _ rfl, State.failRecord_pageNo]
    · rw [ht]
      exact (State.failFlagged_word _ _ _ _ (.inr rfl)).trans (s.failRecord_stamp cause jobId pageNo stamp)
  case flag =>
    intro s cause jobId pageNo stamp t
    have ht : t = (s.when (!s.on SYS_JOBQ_FLAG.JOB_FAILED) (·.failRecord cause jobId pageNo stamp)).failFlagged jobId
      pageNo stamp := s.recordFail_eq cause jobId pageNo stamp
    rw [ht]
    exact ⟨State.failFlagged_on _ _ _ _, State.failFlagged_enable _ _ _ _⟩

end Sys2Proof.Machine

/-! What a command of a unit comes to while its domain is on, and what a flag leaves of the registers. -/

namespace Sys2Proof.Machine

/-! ### Commands of a unit whose domain is on -/

/-- A block that is awake, with the unit's domain on, takes the unit's event. -/
theorem State.live_when_on {s : State} {d : Nat} (f : State → State) (ha : s.awake = true) (hd : s.pdOn d = true) :
    s.live (fun t => t.when (t.pdOn d) f) = f s := by
  rw [s.live_awake _ ha]
  exact if_pos hd

/-- An event that changes nothing leaves the state, whether the block takes it or not. -/
theorem State.live_when_unchanged {s : State} {f : State → State} (d : Nat) (h : f s = s) :
    s.live (fun t => t.when (t.pdOn d) f) = s := by
  by_cases hc : s.clocked = true
  case neg => exact if_neg hc
  case pos =>
    rw [s.live_awake _ hc]
    show (if s.pdOn d then f s else s) = s
    rw [h, ite_self]

/-! ### Registers that a flag leaves -/

/-- Setting a flag leaves the registers outside the Tally's window but its own and that of the event queue. -/
theorem State.raiseAt_word_outside (s : State) {f : Fld} {i k : Nat} (st : Option Word) (info : Word) {r : FlagRow}
    (hr : flagRow? f.reg = some r) (hi : i < max r.flag.n1 1) (hb : f.lo + k < 40) {a : Nat}
    (hout : a < TALLY_CNT.base ∨ TALLY_CNT.at 4000 < a) (hflag : a ≠ r.flag.at i) (hlink : a ≠ HLNK_FLAG.at 0) :
    (s.raiseAt f i k st info).word a = s.word a := by
  have htally : ∀ t < 4000, a ≠ TALLY_CNT.at t := fun t ht => by
    rw [tally_at] at hout ⊢
    omega
  exact s.raiseAt_word f i k st info r hr a hflag (htally _ (flagRow_index_lt (flagRow?_mem hr).1 hi hb)) hlink
    (htally evqOvfIdx (by decide))

end Sys2Proof.Machine

/-! Proofs about the encoder channels (R31 to R38): edges, teeth, the index and wire disagreements. -/

namespace Sys2Proof.Machine

/-! ### An encoder channel -/

@[simp] theorem State.enc_setEnc_same (s : State) (n : Nat) (e : EncCh) : (s.setEnc n e).enc n = e :=
  SMap.get_set_same _ _ _ _

@[simp] theorem State.enc_updEnc_same (s : State) (n : Nat) (f : EncCh → EncCh) : (s.updEnc n f).enc n = f (s.enc n) :=
  s.enc_setEnc_same n _

/-! ### Quadrature (R34, R35) -/

section
variable {s : State} {n : Nat} {a0 b0 a1 b1 : Bool}

theorem State.quadEdge_still (ha : a0 = a1) (hb : b0 = b1) : s.quadEdge n a0 b0 a1 b1 = s :=
  if_pos (by simp [ha, hb])

theorem State.quadEdge_illegal (ha : a0 ≠ a1) (hb : b0 ≠ b1) : s.quadEdge n a0 b0 a1 b1 = s.quadIllegal n := by
  unfold State.quadEdge
  rw [if_neg (by simp [ha]), if_pos (by simp [ha, hb])]

/-- One changed level is one count, with a speed sample when the direction stays. -/
theorem State.quadEdge_counts (h : ((a0 == a1) != (b0 == b1)) = true) :
    let rev := quadRev a0 a1 b1 != s.on POS_ENCCFG.INVERT n
    s.quadEdge n a0 b0 a1 b1 = ((s.setEnc n { s.enc n with acc := 0, lastRev := some rev }).count n 1 rev).when
      ((s.enc n).lastRev == some rev) (·.speedSample n (s.enc n).acc) := by
  have hone : (a0 == a1 && b0 == b1) = false ∧ (a0 != a1 && b0 != b1) = false := by
    revert h
    unfold bne
    cases a0 == a1 <;> cases b0 == b1 <;> decide
  unfold State.quadEdge
  rw [if_neg (by rw [hone.1]; decide), if_neg (by rw [hone.2]; decide)]

end

/-! ### The accepted levels (R31, R34) -/

/-- The level of A that an edge brings: a held input, and one of a lost rail, keeps its level. -/
def State.levelA (s : State) (n : Nat) (a : Bool) : Bool :=
  if (s.enc n).wireA || !s.railOk 1 then (s.enc n).lvlA else a

/-- The level of B that an edge brings. -/
def State.levelB (s : State) (n : Nat) (b : Bool) : Bool :=
  if (s.enc n).wireB || !s.railOk 1 then (s.enc n).lvlB else b

/-- The channel with an edge's levels taken and the time to it counted. -/
def State.edgeTaken (s : State) (n : Nat) (a b : Bool) (dt : Nat) : State :=
  s.setEnc n { s.enc n with lvlA := s.levelA n a, lvlB := s.levelB n b, acc := (s.enc n).acc + dt }

section
variable (s : State) (n : Nat) (a b : Bool) (dt : Nat)

/-- Taking the levels keeps the direction of the count before. -/
theorem State.edgeTaken_lastRev : ((s.edgeTaken n a b dt).enc n).lastRev = (s.enc n).lastRev := by
  rw [State.edgeTaken, State.enc_setEnc_same]

/-- Taking the levels counts the time to the edge. -/
theorem State.edgeTaken_acc : ((s.edgeTaken n a b dt).enc n).acc = (s.enc n).acc + dt := by
  rw [State.edgeTaken, State.enc_setEnc_same]

end

/-- What an edge does is told by the mode: quadrature is decoded, on a tooth wheel a rise of A is a tooth, in other
modes nothing is counted. -/
theorem State.encoderEdge_eq (s : State) (n : Nat) (a b : Bool) (dt : Nat) : s.encoderEdge n a b dt =
    if s.fld POS_ENCCFG.MODE n = 1 then
      (s.edgeTaken n a b dt).quadEdge n (s.enc n).lvlA (s.enc n).lvlB (s.levelA n a) (s.levelB n b)
    else if s.fld POS_ENCCFG.MODE n = 2 then
      if !(s.enc n).lvlA && s.levelA n a then (s.edgeTaken n a b dt).toothEdge n (s.levelB n b)
      else s.edgeTaken n a b dt
    else s.edgeTaken n a b dt := by
  have hmode : s.fld POS_ENCCFG.MODE n = (s.edgeTaken n a b dt).fld POS_ENCCFG.MODE n := rfl
  rw [hmode]
  unfold State.encoderEdge
  extract_lets e a1 b1 t
  split
  case h_1 h1 => exact (if_pos h1).symm
  case h_2 h2 => exact ((if_neg fun h1 => absurd (h2.symm.trans h1) (by decide)).trans (if_pos h2)).symm
  case h_3 h1 h2 => exact ((if_neg h1).trans (if_neg h2)).symm

section
variable {s : State} {n : Nat} {a b : Bool} {dt : Nat}

section
variable (hmode : s.fld POS_ENCCFG.MODE n = 1)
include hmode

/-- One changed level is one count. -/
theorem State.encoderEdge_counts (h : (((s.enc n).lvlA == s.levelA n a) != ((s.enc n).lvlB == s.levelB n b)) = true) :
    let t := s.edgeTaken n a b dt
    let rev := quadRev (s.enc n).lvlA (s.levelA n a) (s.levelB n b) != t.on POS_ENCCFG.INVERT n
    s.encoderEdge n a b dt = ((t.setEnc n { t.enc n with acc := 0, lastRev := some rev }).count n 1 rev).when
      ((s.enc n).lastRev == some rev) (·.speedSample n ((s.enc n).acc + dt)) := by
  rw [s.encoderEdge_eq, if_pos hmode, State.quadEdge_counts h, s.edgeTaken_lastRev, s.edgeTaken_acc]

/-- Both levels changed is no count. -/
theorem State.encoderEdge_illegal (hA : (s.enc n).lvlA ≠ s.levelA n a) (hB : (s.enc n).lvlB ≠ s.levelB n b) :
    s.encoderEdge n a b dt = (s.edgeTaken n a b dt).quadIllegal n := by
  rw [s.encoderEdge_eq, if_pos hmode, State.quadEdge_illegal hA hB]

/-- No level changed is no count. -/
theorem State.encoderEdge_still (hA : (s.enc n).lvlA = s.levelA n a) (hB : (s.enc n).lvlB = s.levelB n b) :
    s.encoderEdge n a b dt = s.edgeTaken n a b dt := by
  rw [s.encoderEdge_eq, if_pos hmode, State.quadEdge_still hA hB]

end

/-- On a tooth wheel a rise of A is a tooth. -/
theorem State.encoderEdge_tooth (hmode : s.fld POS_ENCCFG.MODE n = 2) (hlow : (s.enc n).lvlA = false)
    (hhigh : s.levelA n a = true) :
    s.encoderEdge n a b dt = (s.edgeTaken n a b dt).toothEdge n (s.levelB n b) := by
  rw [s.encoderEdge_eq, if_neg (by omega), if_pos hmode, if_pos (by rw [hlow, hhigh]; decide)]

/-- Nothing else is counted. -/
theorem State.encoderEdge_uncounted (hmode : s.fld POS_ENCCFG.MODE n ≠ 1)
    (hno : s.fld POS_ENCCFG.MODE n ≠ 2 ∨ (s.enc n).lvlA = true ∨ s.levelA n a = false) :
    s.encoderEdge n a b dt = s.edgeTaken n a b dt := by
  rw [s.encoderEdge_eq, if_neg hmode]
  by_cases htooth : s.fld POS_ENCCFG.MODE n = 2
  case neg => rw [if_neg htooth]
  case pos =>
    have hflat : (!(s.enc n).lvlA && s.levelA n a) = false := by
      rcases hno.resolve_left (not_not.2 htooth) with h | h
      · rw [h, Bool.not_true, Bool.false_and]
      · rw [h, Bool.and_false]
    rw [if_pos htooth, hflat, if_neg Bool.false_ne_true]

end

/-! ### Counts (R34, R38) -/

/-- A signed number's bits at 40, as a word. -/
theorem Word.of_unsigned (x : Int) : Word.of (unsigned 40 x) = BitVec.ofInt 40 x := by
  apply BitVec.eq_of_toNat_eq
  have h0 : 0 ≤ x % 2 ^ 40 := Int.emod_nonneg _ (by decide)
  have hlt : x % 2 ^ 40 < 2 ^ 40 := Int.emod_lt_of_pos _ (by decide)
  simp only [Word.of, unsigned, BitVec.toNat_ofNat, BitVec.toNat_ofInt]
  rw [Nat.mod_eq_of_lt (by omega)]
  rfl

/-- The counter's word moves by the signed count, modulo 2^40. -/
theorem encCnt_moves (w : Word) (m : Nat) (rev : Bool) :
    Word.of (unsigned 40 (w.toNat + (if rev then -(m : Int) else m))) =
      if rev then w - Word.of m else w + Word.of m := by
  rw [Word.of_unsigned, BitVec.ofInt_add, BitVec.ofInt_natCast, BitVec.ofNat_toNat, BitVec.setWidth_eq]
  cases rev
  · rw [if_neg (by decide), if_neg (by decide), BitVec.ofInt_natCast]
  · rw [if_pos rfl, if_pos rfl, BitVec.ofInt_neg, BitVec.ofInt_natCast]
    exact (BitVec.sub_eq_add_neg _ _).symm

section
variable (s : State) (n m : Nat) (rev : Bool)

theorem encCnt_at : POS_ENCCNT.at n = 0x040011 + n * 0x10 := rfl

/-- A channel's counter lies behind the registers that say which channel is the source, and at what ratio. -/
theorem State.setReg_encCnt_word (w : Word) {a : Nat} (h : a ≤ 0x040010) :
    (s.setReg POS_ENCCNT w n).word a = s.word a :=
  s.word_setReg_other _ _ _ _ _ (by rw [encCnt_at]; omega)

theorem State.setReg_encCnt_isSource (w : Word) : (s.setReg POS_ENCCNT w n).isSource n = s.isSource n := by
  have hsrc : (s.setReg POS_ENCCNT w n).fld POS_CTL.SRC = s.fld POS_CTL.SRC :=
    State.fld_of_word (s.setReg_encCnt_word n w (by decide))
  unfold State.isSource State.follows State.srcCh
  rw [hsrc]

/-- A count's two moves: the counter's word and the channel, whose reference moves when it is the source. -/
def State.counted : State :=
  let d : Int := if rev then -(m : Int) else m
  let t := s.setReg POS_ENCCNT (Word.of (unsigned 40 ((s.reg POS_ENCCNT n).toNat + d))) n
  t.updEnc n fun e => { e with
    ref := if t.isSource n then e.ref + BitVec.ofInt 56 (d * (t.reg POS_RATIO).toNat) else e.ref
    since := e.since + d, valid := (e.valid + m) % 4096 }

/-- After its two moves a count leaves QI_LEVEL's and DIR's registers to write. -/
theorem State.count_eq : s.count n m rev =
    ((s.counted n m rev).when (decide (4096 ≤ (s.enc n).valid + m))
      (·.setFld POS_ENCSTAT.QI_LEVEL ((s.counted n m rev).fld POS_ENCSTAT.QI_LEVEL n - 1) n)).when
      ((s.counted n m rev).isSource n) (·.setFld POS_STAT.DIR (bit rev)) := rfl

/-- QI_LEVEL's and DIR's registers are not the counter's. -/
theorem State.count_reg : (s.count n m rev).reg POS_ENCCNT n =
    if rev then s.reg POS_ENCCNT n - Word.of m else s.reg POS_ENCCNT n + Word.of m := by
  have hqi : POS_ENCCNT.at n ≠ POS_ENCSTAT.QI_LEVEL.reg.at n := by
    show 0x040011 + n * 0x10 ≠ 0x040012 + n * 0x10
    omega
  have hdir : POS_ENCCNT.at n ≠ POS_STAT.DIR.reg.at 0 := by
    show 0x040011 + n * 0x10 ≠ 0x040001
    omega
  rw [← encCnt_moves, s.count_eq]
  exact State.when_keeps (fun t => t.reg POS_ENCCNT n = _) _ _ _
    (fun t h => (State.word_setFld_other _ _ _ _ _ _ hdir).trans h)
    (State.when_keeps (fun t => t.reg POS_ENCCNT n = _) _ _ _
      (fun t h => (State.word_setFld_other _ _ _ _ _ _ hqi).trans h) (State.reg_setReg_same _ _ _ _ _))

theorem State.count_enc : (s.count n m rev).enc n = (s.counted n m rev).enc n := by
  rw [s.count_eq]
  exact State.when_keeps (fun t => t.enc n = _) _ _ _ (fun _ h => h)
    (State.when_keeps (fun t => t.enc n = _) _ _ _ (fun _ h => h) rfl)

/-- The reference of the source moves by the signed count times POS_RATIO. -/
theorem State.count_ref : ((s.count n m rev).enc n).ref = if s.isSource n then
    (s.enc n).ref + BitVec.ofInt 56 ((if rev then -(m : Int) else m) * (s.reg POS_RATIO).toNat) else (s.enc n).ref := by
  have hratio : ∀ w, (s.setReg POS_ENCCNT w n).reg POS_RATIO = s.reg POS_RATIO := fun w =>
    s.setReg_encCnt_word n w (by decide)
  rw [s.count_enc]
  unfold State.counted
  simp only [State.enc_updEnc_same, State.setReg_encCnt_isSource, hratio]
  rfl

end

/-! ### Teeth (R36) -/

section
variable {s : State} {n : Nat} {b : Bool}

/-- The channel at a tooth: the interval ended, its direction kept. -/
def State.toothTaken (s : State) (n : Nat) (b : Bool) : State :=
  s.setEnc n { s.enc n with acc := 0, lastRev := some (s.toothRev n b), skipNext := false }

/-- A tooth in another direction than the one before counts, and tells no interval. -/
theorem State.toothEdge_turns (h : (s.enc n).lastRev ≠ some (s.toothRev n b)) :
    s.toothEdge n b = (s.toothTaken n b).count n 1 (s.toothRev n b) := if_pos (by simpa using h)

section
variable (h : (s.enc n).lastRev = some (s.toothRev n b))
include h

/-- In the direction of the tooth before the interval is judged against the one before it. -/
theorem State.toothEdge_same : s.toothEdge n b =
    let t := s.toothTaken n b
    let sampled := (t.count n 1 (s.toothRev n b)).when (!(s.enc n).skipNext) (·.speedSample n (s.enc n).acc)
    if (s.enc n).lastP = 0 then sampled
    else if (s.enc n).lastP * s.fld POS_TOOTH.GAP_NUM n < (s.enc n).acc * 8 then
      (t.count n (1 + t.fld POS_TOOTH.MISS n) (s.toothRev n b)).indexCheck n
    else if s.fld POS_TOOTH.MISS n = 0 ∧ (s.enc n).acc * 8 < (s.enc n).lastP * s.fld POS_TOOTH.EXTRA_NUM n then
      (t.updEnc n fun e => { e with skipNext := true }).indexCheck n
    else sampled := if_neg (by simp [h])

/-- An interval beyond GAP_NUM is a gap. -/
theorem State.toothEdge_gap (hp : (s.enc n).lastP ≠ 0)
    (hgap : (s.enc n).lastP * s.fld POS_TOOTH.GAP_NUM n < (s.enc n).acc * 8) : s.toothEdge n b =
      ((s.toothTaken n b).count n (1 + (s.toothTaken n b).fld POS_TOOTH.MISS n) (s.toothRev n b)).indexCheck n := by
  rw [State.toothEdge_same h]
  exact (if_neg hp).trans (if_pos hgap)

/-- On a wheel without missing teeth an interval below EXTRA_NUM is an extra tooth. -/
theorem State.toothEdge_extra (hp : (s.enc n).lastP ≠ 0)
    (hgap : (s.enc n).acc * 8 ≤ (s.enc n).lastP * s.fld POS_TOOTH.GAP_NUM n) (hmiss : s.fld POS_TOOTH.MISS n = 0)
    (hextra : (s.enc n).acc * 8 < (s.enc n).lastP * s.fld POS_TOOTH.EXTRA_NUM n) :
    s.toothEdge n b = ((s.toothTaken n b).updEnc n fun e => { e with skipNext := true }).indexCheck n := by
  rw [State.toothEdge_same h]
  exact (if_neg hp).trans ((if_neg (by omega)).trans (if_pos ⟨hmiss, hextra⟩))

/-- Any other tooth counts, with a speed sample but after an extra tooth. -/
theorem State.toothEdge_plain (hplain : (s.enc n).lastP = 0 ∨
      ((s.enc n).acc * 8 ≤ (s.enc n).lastP * s.fld POS_TOOTH.GAP_NUM n ∧
        (s.fld POS_TOOTH.MISS n ≠ 0 ∨ (s.enc n).lastP * s.fld POS_TOOTH.EXTRA_NUM n ≤ (s.enc n).acc * 8))) :
    s.toothEdge n b = ((s.toothTaken n b).count n 1 (s.toothRev n b)).when (!(s.enc n).skipNext)
      (·.speedSample n (s.enc n).acc) := by
  rw [State.toothEdge_same h]
  by_cases hp : (s.enc n).lastP = 0
  case pos => exact if_pos hp
  case neg =>
    obtain ⟨hgap, hextra⟩ := hplain.resolve_left hp
    exact (if_neg hp).trans ((if_neg (by omega)).trans (if_neg (by omega)))

end
end

/-! ### The index (R37) -/

section
variable {s : State} {n : Nat}

/-- The count between two index events: TEETH of a tooth wheel, PERIOD otherwise. -/
def State.idxPeriod (s : State) (n : Nat) : Nat :=
  if s.fld POS_ENCCFG.MODE n = 2 then s.fld POS_TOOTH.TEETH n else s.fld POS_IDXCFG.PERIOD n

/-- The first index event sets the reference. -/
theorem State.indexCheck_first (h : (s.enc n).idxRef = false) :
    s.indexCheck n = s.setEnc n { s.enc n with idxRef := true, since := 0 } := if_pos (by simp [h])

section
variable (h : (s.enc n).idxRef = true)
include h

/-- What a mismatch records before IDX_ACT acts. -/
def State.idxMismatch (s : State) (n : Nat) : State :=
  let d : Int := (s.enc n).since - s.idxPeriod n
  let u := s.updEnc n fun e => { e with since := 0 }
  let v := ((u.setFld POS_IDXSTAT.DIFF (unsigned 24 d) n).setReg POS_IDXPOS u.posOut n).raise
    POS_ENCFLAG.INDEX_MISMATCH n
  (v.updEnc n fun e => { e with held := 0 }).setFld POS_ENCSTAT.CORR_PEND 0 n

/-- An exact interval applies a pending correction. -/
theorem State.indexCheck_exact (hexact : (s.enc n).since = (s.idxPeriod n : Int)) :
    let u := s.updEnc n fun e => { e with since := 0 }
    let v := u.when (u.on POS_ENCSTAT.CORR_PEND n) fun t => (t.updEnc n fun e =>
      { e with ref := e.ref - BitVec.ofInt 56 (e.held * (t.reg POS_RATIO).toNat), held := 0 }).setFld
      POS_ENCSTAT.CORR_PEND 0 n
    s.indexCheck n = v.setFld POS_ENCSTAT.UNCERT 0 n :=
  (if_neg (by simp [h])).trans (if_pos (by rw [← State.idxPeriod, hexact, Int.sub_self]))

/-- A mismatch is recorded and acts on the source as IDX_ACT says. -/
theorem State.indexCheck_mismatch (hne : (s.enc n).since ≠ (s.idxPeriod n : Int)) :
    let w := s.idxMismatch n
    s.indexCheck n = if !w.isSource n then w
      else if w.fld POS_POLICY.IDX_ACT = 1 then
        (w.updEnc n fun e => { e with held := (s.enc n).since - s.idxPeriod n }).setFld POS_ENCSTAT.CORR_PEND 1 n
      else if w.fld POS_POLICY.IDX_ACT = 2 then w.encFault 3 else w := by
  have hd : (s.enc n).since - (s.idxPeriod n : Int) ≠ 0 := by omega
  intro w
  refine (if_neg (by simp [h])).trans ((if_neg hd).trans (ite_congr rfl (fun _ => rfl) fun _ => ?_))
  split
  case h_1 h1 => exact (if_pos h1).symm
  case h_2 h2 => exact ((if_neg fun h1 => absurd (h2.symm.trans h1) (by decide)).trans (if_pos h2)).symm
  case h_3 h1 h2 => exact ((if_neg h1).trans (if_neg h2)).symm

end
end

/-! ### Events of the channels -/

/-- INDEX_EVENT counts in quadrature mode with Z_EN, the pair not held and its rail good. -/
theorem State.indexEvent_checked {s : State} {n : Nat} (hmode : s.fld POS_ENCCFG.MODE n = 1)
    (hz : s.on POS_ENCCFG.Z_EN n = true) (hw : (s.enc n).wireZ = false) (hrail : s.railOk 1 = true) :
    s.indexEvent n = s.indexCheck n := if_pos ⟨hmode, hz, by simp [hw], hrail⟩

theorem State.indexEvent_ignored {s : State} {n : Nat} (h : s.fld POS_ENCCFG.MODE n ≠ 1 ∨
      s.on POS_ENCCFG.Z_EN n = false ∨ (s.enc n).wireZ = true ∨ s.railOk 1 = false) : s.indexEvent n = s := by
  refine if_neg fun ⟨hmode, hz, hw, hrail⟩ => ?_
  rcases h with h | h | h | h
  · exact h hmode
  · exact absurd (h.symm.trans hz) (by decide)
  · simp [h] at hw
  · exact absurd (h.symm.trans hrail) (by decide)

section
variable {s : State} (ha : s.awake = true) (hd : s.pdOn 4 = true)
include ha hd

theorem exec_encoderEdge (n : Fin 2) (a b : Bool) (dt : Nat) :
    exec (.encoderEdge n a b dt) s = .next (s.close (s.encoderEdge n a b dt)) :=
  congrArg s.finish (State.live_when_on _ ha hd)

theorem exec_indexEvent (n : Fin 2) : exec (.indexEvent n) s = .next (s.close (s.indexEvent n)) :=
  congrArg s.finish (State.live_when_on _ ha hd)

theorem exec_wireDisagreement (n : Fin 2) (k : Fin 3) :
    exec (.wireDisagreement n k) s = .next (s.close (s.wireDisagreement n k)) :=
  congrArg s.finish (State.live_when_on _ ha hd)

theorem exec_wireDisagreementEnd (n : Fin 2) (k : Fin 3) (l : Bool) :
    exec (.wireDisagreementEnd n k l) s = .next (s.close (s.wireEnd n k l)) :=
  congrArg s.finish (State.live_when_on _ ha hd)

end

/-- While the rail is lost no pair agrees again. -/
theorem State.wireEnd_lost {s : State} (n k : Nat) (l : Bool) (h : s.railOk 1 = false) : s.wireEnd n k l = s :=
  if_pos (by simp [h])

/-- A pair that agrees again. -/
theorem State.wireEnd_good {s : State} (n k : Nat) (l : Bool) (h : s.railOk 1 = true) : s.wireEnd n k l =
    if k = 0 then s.setEnc n { s.enc n with wireA := false, lvlA := l }
    else if k = 1 then s.setEnc n { s.enc n with wireB := false, lvlB := l }
    else s.setEnc n { s.enc n with wireZ := false } := if_neg (by simp [h])

/-- Settles O23: an edge is told by the mode (`encoderEdge_eq`) and the levels (`quadEdge_*`), a tooth by its interval
(`toothEdge_*`), a count by its two moves (`counted`), an index event by its interval (`indexCheck_*`). -/
theorem encoderEdgesAreCounted : Obligations.EncoderEdgesAreCounted := by
  refine ⟨?counts, ?illegal, ?still, ?tooth, ?uncounted, ?turns, ?gap, ?extra, ?plain, ?count, ?index, ?noIndex, ?first,
    ?exact, ?mismatch, ?wireA, ?wireB, ?wireZ, ?endA, ?endB, ?endZ, ?lost⟩
  case counts =>
    exact fun s n a b dt ha hd hmode hone =>
      (exec_encoderEdge ha hd n a b dt).trans (congrArg s.finish (State.encoderEdge_counts hmode hone))
  case illegal =>
    exact fun s n a b dt ha hd hmode hA hB =>
      (exec_encoderEdge ha hd n a b dt).trans (congrArg s.finish (State.encoderEdge_illegal hmode hA hB))
  case still =>
    exact fun s n a b dt ha hd hmode hA hB =>
      (exec_encoderEdge ha hd n a b dt).trans (congrArg s.finish (State.encoderEdge_still hmode hA hB))
  case tooth =>
    exact fun s n a b dt ha hd hmode hlow hhigh =>
      (exec_encoderEdge ha hd n a b dt).trans (congrArg s.finish (State.encoderEdge_tooth hmode hlow hhigh))
  case uncounted =>
    exact fun s n a b dt ha hd hmode hno =>
      (exec_encoderEdge ha hd n a b dt).trans (congrArg s.finish (State.encoderEdge_uncounted hmode hno))
  case turns => exact fun s n b h => State.toothEdge_turns h
  case gap => exact fun s n b h hp hgap => State.toothEdge_gap h hp hgap
  case extra => exact fun s n b h hp hgap hmiss hextra => State.toothEdge_extra h hp hgap hmiss hextra
  case plain => exact fun s n b h hplain => State.toothEdge_plain h hplain
  case count =>
    intro s n m rev
    refine ⟨s.count_reg n m rev, fun hsrc => ?_, fun hsrc => ?_⟩
    · rw [s.count_ref, if_pos hsrc]
    · rw [s.count_ref, if_neg (by simp [hsrc])]
  case index =>
    intro s n ha hd hmode hz hw hrail
    rw [exec_indexEvent ha hd, State.indexEvent_checked hmode hz hw hrail]
  case noIndex =>
    intro s n ha hd h
    rw [exec_indexEvent ha hd, State.indexEvent_ignored h]
  case first => exact fun s n h => State.indexCheck_first h
  case exact => exact fun s n h hexact => State.indexCheck_exact h hexact
  case mismatch => exact fun s n h hne => State.indexCheck_mismatch h hne
  case wireA => exact fun s n ha hd => exec_wireDisagreement ha hd n 0
  case wireB => exact fun s n ha hd => exec_wireDisagreement ha hd n 1
  case wireZ => exact fun s n ha hd => exec_wireDisagreement ha hd n 2
  case endA =>
    intro s n l ha hd hrail
    rw [exec_wireDisagreementEnd ha hd, State.wireEnd_good _ _ _ hrail]
    rfl
  case endB =>
    intro s n l ha hd hrail
    rw [exec_wireDisagreementEnd ha hd, State.wireEnd_good _ _ _ hrail]
    rfl
  case endZ =>
    intro s n l ha hd hrail
    rw [exec_wireDisagreementEnd ha hd, State.wireEnd_good _ _ _ hrail]
    rfl
  case lost =>
    exact fun s n k l h => congrArg s.finish (State.live_when_unchanged 4 (State.wireEnd_lost _ _ _ h))

end Sys2Proof.Machine

/-! Proofs about the position unit's tracking loop (R38, R41, R223). -/

namespace Sys2Proof.Machine

/-- LOOP_UPDATE comes to `State.loopUpdate`. -/
theorem exec_loopUpdate {s : State} (ha : s.awake = true) (hd : s.pdOn 4 = true) :
    exec .loopUpdate s = .next (s.close s.loopUpdate) := congrArg s.finish (State.live_when_on _ ha hd)

/-! ### The loop's step in each state of the unit (R38, R223) -/

section
variable {s : State}

theorem State.loopUpdate_off (h : s.posState = 0) : s.loopUpdate = s := if_pos h

theorem State.loopUpdate_faulty (h : s.posState = 3) : s.loopUpdate = s.posUpd fun p => { p with k := 0 } := by
  unfold State.loopUpdate
  rw [if_neg (by omega), if_pos h]

section
variable (h0 : s.posState ≠ 0) (h3 : s.posState ≠ 3)
include h0 h3

theorem State.loopUpdate_follower (hf : s.follows = true) : s.loopUpdate =
    (((s.posUpd fun p => { p with est := p.est + p.vel, k := 0 }).setFld POS_SPEED.LINE_RATE
      (lineRate s.pos.vel)).ovspWarn).updateFwd := by
  unfold State.loopUpdate
  rw [if_neg h0, if_neg h3, if_pos hf]
  rfl

theorem State.loopUpdate_tracks (hf : s.follows = false) :
    let e := ((s.enc s.srcCh).ref - s.pos.est).toInt
    let vel := s.pos.vel + BitVec.ofInt 56 (e * loopKi s.loopBw / 2 ^ 48)
    let est := s.pos.est + vel + BitVec.ofInt 56 (e * loopKp s.loopBw / 2 ^ 48)
    s.loopUpdate = ((((s.posUpd fun p => { p with est := est, vel := vel, k := 0 }).setFld POS_SPEED.LINE_RATE
      (lineRate vel)).lockTest e).ovspWarn).updateFwd := by
  unfold State.loopUpdate
  rw [if_neg h0, if_neg h3, if_neg (by simp [hf])]

end
end

/-- Settles O24: each state of the position unit is one case of `State.loopUpdate`. -/
theorem loopUpdateFollowsTheEncoder : Obligations.LoopUpdateFollowsTheEncoder := by
  refine ⟨?off, ?faulty, ?tracks, ?follower⟩
  case off =>
    intro s ha hd h
    rw [exec_loopUpdate ha hd, State.loopUpdate_off h]
  case faulty =>
    intro s ha hd h
    rw [exec_loopUpdate ha hd, State.loopUpdate_faulty h]
  case tracks =>
    intro s ha hd h0 h3 hf e vel est
    rw [exec_loopUpdate ha hd, State.loopUpdate_tracks h0 h3 hf]
  case follower =>
    intro s ha hd h0 h3 hf
    rw [exec_loopUpdate ha hd, State.loopUpdate_follower h0 h3 hf]

end Sys2Proof.Machine

/-! Proofs about probes and page marks (R44, R46, R48, R225). -/

namespace Sys2Proof.Machine

/-! ### Probe edges (R44) -/

/-- What an edge does to its probe's FIFO: its stamp and kind enter, with eight held PROBE_OVF is set. -/
def State.probePush (s : State) (p : Nat) (falling : Bool) : State :=
  if 8 ≤ (s.probeFifo p).length then s.raiseAt POS_FLAG.PROBE_OVF 0 p none 0
  else s.setProbeFifo p (s.probeFifo p ++ [(s.probeStamp p, falling)])

/-- Filling a FIFO does not move the page mark's probe. -/
theorem State.probePush_pm (s : State) {p : Nat} (hp : p < 4) (falling : Bool) :
    (s.probePush p falling).fld POS_PM.PROBE = s.fld POS_PM.PROBE := by
  unfold State.probePush
  split
  case isFalse => rfl
  case isTrue =>
    have hlo : POS_FLAG.PROBE_OVF.lo < 36 := by decide
    exact State.fld_of_word (s.raiseAt_word_outside (r := ⟨POS_FLAG, POS_FLAGEN, 96, 0⟩) _ _ (by decide) (by decide)
      (by omega) (by decide) (by decide) (by decide))

section
variable {s : State} {p : Nat} {falling : Bool}

/-- An edge that EDGE does not select, or of a lost rail. -/
theorem State.probeEdge_ignored (h : s.probeTakes p falling = false ∨ s.railOk 1 = false) :
    s.probeEdge p falling = s := if_pos (by simpa using h)

section
variable (hp : p < 4) (hrail : s.railOk 1 = true) (htakes : s.probeTakes p falling = true)
include hp hrail htakes

/-- An edge of another probe than the page mark's enters its FIFO alone. -/
theorem State.probeEdge_plain (hpm : s.fld POS_PM.PROBE ≠ p) : s.probeEdge p falling = s.probePush p falling := by
  have hpm' : (s.probePush p falling).fld POS_PM.PROBE ≠ p := by rwa [s.probePush_pm hp]
  unfold State.probeEdge
  rw [if_neg (by simp [hrail, htakes])]
  exact if_neg hpm'

/-- An edge of the page mark's probe goes to the bar too, and to the page-mark logic (R46, R225). -/
theorem State.probeEdge_mark (hpm : s.fld POS_PM.PROBE = p) :
    let u := s.probePush p falling
    let v := u.when (u.bstate == 1) (·.flood 2 [s.probeStamp p])
    s.probeEdge p falling = if v.follows then v else v.pmStamp (s.probeStamp p) := by
  have hpm' : (s.probePush p falling).fld POS_PM.PROBE = p := by rwa [s.probePush_pm hp]
  unfold State.probeEdge
  rw [if_neg (by simp [hrail, htakes])]
  exact if_pos hpm'

end
end

/-- PROBE_EDGE comes to `State.probeEdge`. -/
theorem exec_probeEdge {s : State} (p : Fin 4) (falling : Bool) (ha : s.awake = true) (hd : s.pdOn 4 = true) :
    exec (.probeEdge p falling) s = .next (s.close (s.probeEdge p falling)) :=
  congrArg s.finish (State.live_when_on _ ha hd)

/-! ### Reads with an effect (R48) -/

/-- A sender's read that reaches a register with a read of its own, other than the health map's queue. -/
theorem State.regRead_special {s : State} {o : Sender} {r : Reg} {i : Nat} {x : State × Word}
    (h : s.reaches o r i = true) (hn : namedAt r i 0 = true) (hr : r.at i ≠ VIS_HMFIFO.base)
    (hx : s.readSpecial r i = some x) : s.regRead o r i = x.1.emit (.regData 0 x.2) := by
  obtain ⟨hm, hi⟩ := (s.reaches_iff o r i).1 h
  have hloop : (o == .warden && r.at i == VIS_HMFIFO.base) = false := by simp [hr]
  unfold State.regRead
  rw [State.sends_maySend hm]
  unfold State.readBy
  simp only [hloop, Bool.false_and, State.when, Bool.false_eq_true, if_false, State.busRead_named o.origin hn hi hx]
  rfl

/-- PROBE_FIFO_POP answers what `State.probePop` takes. -/
theorem exec_probeFifoPop {s : State} {o : Sender} {p : Fin 4} (h : s.reaches o POS_PROBEFIFO p = true) :
    exec (.probeFifoPop o p) s = .next (s.close ((s.probePop p).2.emit (.regData 0 (s.probePop p).1))) := by
  have hnamed : ∀ p : Fin 4, namedAt POS_PROBEFIFO p 0 = true ∧ POS_PROBEFIFO.at p ≠ VIS_HMFIFO.base := by decide
  exact congrArg s.finish (State.regRead_special h (hnamed p).1 (hnamed p).2 rfl)

/-- Settles O26: an edge is ignored, enters its FIFO (`State.probePush`), or is the page mark's too; a read of the FIFO
is `State.probePop`. -/
theorem probeEdgesAreStamped : Obligations.ProbeEdgesAreStamped := by
  refine ⟨?ignored, ?plain, ?mark, ?full, ?room, ?pop, ?empty⟩
  case ignored =>
    exact fun s p f h => congrArg s.finish (State.live_when_unchanged 4 (State.probeEdge_ignored h))
  case plain =>
    intro s p f ha hd hrail htakes hpm
    rw [exec_probeEdge p f ha hd, State.probeEdge_plain p.isLt hrail htakes hpm]
    rfl
  case mark =>
    intro s p f ha hd hrail htakes hpm u v
    rw [exec_probeEdge p f ha hd, State.probeEdge_mark p.isLt hrail htakes hpm]
    rfl
  case full => exact fun s t h => if_pos h
  case room => exact fun s t h => if_neg (by omega)
  case pop =>
    intro s o p t f rest h hfifo
    have hpop : s.probePop p = (t, s.setProbeFifo p rest) := by
      unfold State.probePop
      rw [hfifo]
    rw [exec_probeFifoPop h, hpop]
  case empty =>
    intro s o p h hfifo
    have hpop : s.probePop p = (0, s) := by
      unfold State.probePop
      rw [hfifo]
    rw [exec_probeFifoPop h, hpop]

end Sys2Proof.Machine

/-! Proofs about the line decision (R97, Table 01-3, Table 06-2): its steps, and that preparing transactions for a line
leaves what check 1 looks at. -/

namespace Sys2Proof.Machine

/-! ### What check 1 looks at -/

/-- What check 1 of Table 05-2 looks at: the job queue, its state, and the state of the swath. -/
def State.lineView (s : State) : JobQSt × Word × Word :=
  (s.jq, s.word (SYS_JOBQ_STAT.at 0), s.word (FIRE_SCANSTAT.at 0))

theorem State.check1_of_view {s t : State} (h : s.lineView = t.lineView) (n : Nat) : s.check1 n = t.check1 n := by
  obtain ⟨hjq, hrest⟩ := Prod.mk.inj h
  obtain ⟨hjob, hscan⟩ := Prod.mk.inj hrest
  have hstate : s.jobState = t.jobState := State.fld_of_word hjob
  have hss : s.fld FIRE_SCANSTAT.SSTATE = t.fld FIRE_SCANSTAT.SSTATE := State.fld_of_word hscan
  unfold State.check1 State.inScan State.on State.qEnd State.openPage State.drainLine State.inDrain
  rw [hjq, hstate, hss]

/-- An address that none of `State.lineView`'s registers has. -/
abbrev offView (a : Nat) : Prop := SYS_JOBQ_STAT.at 0 ≠ a ∧ FIRE_SCANSTAT.at 0 ≠ a

/-! ### What preparing leaves of it -/

section
variable (s : State)

theorem State.setFld_view {f : Fld} (v : Nat) {i j : Nat} (h : offView (f.reg.at i j)) :
    (s.setFld f v i j).lineView = s.lineView := by
  unfold State.lineView
  rw [s.word_setFld_other _ _ _ _ _ h.1, s.word_setFld_other _ _ _ _ _ h.2, State.setFld_jq]

/-- Setting a flag leaves the view when neither the flag nor its counter has an address of it. -/
theorem State.raiseAt_view {f : Fld} {i k : Nat} (st : Option Word) (info : Word) {r : FlagRow}
    (hr : flagRow? f.reg = some r) (hflag : offView (r.flag.at i))
    (htally : offView (TALLY_CNT.at (r.base + i * r.stride + (f.lo + k)))) :
    (s.raiseAt f i k st info).lineView = s.lineView := by
  unfold State.lineView
  rw [s.raiseAt_word f i k st info r hr _ hflag.1 htally.1 (by decide) (by decide),
    s.raiseAt_word f i k st info r hr _ hflag.2 htally.2 (by decide) (by decide), State.raiseAt_jq]

theorem State.trimLate_view : (s.raise FIRE_GFLAG.TRIM_LATE).lineView = s.lineView :=
  s.raiseAt_view (r := ⟨FIRE_GFLAG, FIRE_GFLAGEN, 144, 0⟩) _ _ (by decide) (by decide) (by decide)

/-- The ports' registers, whatever the port, are none of the view's. -/
theorem State.trimRange_view (p : Nat) : (s.raise FIRE_PORTFLAG.TRIM_RANGE p).lineView = s.lineView := by
  have hflag : offView (FIRE_PORTFLAG.at p) := by
    show (0x42 ≠ 0x080002 + p * 0x400) ∧ (0x08C023 ≠ 0x080002 + p * 0x400)
    omega
  have htally : offView (TALLY_CNT.at (368 + p * 16 + (FIRE_PORTFLAG.TRIM_RANGE.lo + 0))) := by
    show (0x42 ≠ 0x030000 + (368 + p * 16 + 10) * 1) ∧ (0x08C023 ≠ 0x030000 + (368 + p * 16 + 10) * 1)
    omega
  exact s.raiseAt_view (r := ⟨FIRE_PORTFLAG, FIRE_PORTFLAGEN, 368, 16⟩) _ _ (by decide) hflag htally

theorem State.when_view (c : Bool) (f : State → State) (h : ∀ s : State, (f s).lineView = s.lineView) :
    (s.when c f).lineView = s.lineView :=
  State.when_keeps (fun t => t.lineView = s.lineView) f c s (fun t ht => (h t).trans ht) rfl

/-! ### Banks (R436) -/

theorem State.updPort_view (p : Nat) (f : Port → Port) : (s.updPort p f).lineView = s.lineView := rfl

theorem State.emit_view (o : Out) : (s.emit o).lineView = s.lineView := rfl

theorem State.sendTable_view (p : Nat) (b : BankLoad) (code : Nat) : (s.sendTable p b code).lineView = s.lineView :=
  s.emit_view _

theorem State.sendBank_view (p : Nat) (b : BankLoad) : (s.sendBank p b).lineView = s.lineView := by
  have hport : offView (FIRE_PORTSTAT.at p) := by
    show (0x42 ≠ 0x080001 + p * 0x400) ∧ (0x08C023 ≠ 0x080001 + p * 0x400)
    omega
  unfold State.sendBank
  rw [State.setFld_view (f := FIRE_PORTSTAT.BANK_PEND) _ _ hport, State.updPort_view]
  refine forIn'_keeps (fun t => t.lineView = s.lineView) _ (fun e t h => ?_) _ _ rfl
  rw [State.sendTable_view]
  exact h

theorem State.buildBank_view (p : Nat) (due : Option Nat) (late quiet held : Bool) :
    (s.buildBank p due late quiet held).lineView = s.lineView := by
  unfold State.buildBank
  rw [State.sendBank_view, State.when_view _ _ _ fun t => t.trimRange_view p]

theorem State.takeHeld_view (p n : Nat) (b : BankLoad) (late quiet : Bool) :
    (s.takeHeld p n b late quiet).lineView = s.lineView := by
  unfold State.takeHeld
  extract_lets c
  split
  · rfl
  · exact s.buildBank_view ..

theorem State.waitBank_view (p : Nat) (w : BankWait) : (s.waitBank p w).lineView = s.lineView :=
  forTo_keeps (fun t => t.lineView = s.lineView) _ (fun _ t h => t.trimLate_view.trans h) _ _ rfl

theorem State.bankChange_view (p n : Nat) (late quiet : Bool) :
    (s.bankChange p n late quiet).lineView = s.lineView := by
  unfold State.bankChange
  extract_lets x t
  have ht : t.lineView = s.lineView := s.when_view _ _ State.trimLate_view
  split
  · rfl
  · split
    · rw [State.buildBank_view, ht]
    · split
      · rw [State.waitBank_view, ht]
      · split
        · rw [State.takeHeld_view, ht]
        · split
          · rw [State.buildBank_view, ht]
          · split
            · rw [State.waitBank_view, State.buildBank_view, ht]
            · rw [State.waitBank_view, ht]

theorem State.bankChanges_view (t : Slot) (n : Nat) (late quiet : Bool) :
    (s.bankChanges t n late quiet).lineView = s.lineView :=
  forIn'_keeps (fun u => u.lineView = s.lineView) _ (fun _ u h => (u.bankChange_view ..).trans h) _ _ rfl

/-! ### Slots (R164) -/

theorem State.txnSync_view : s.txnSync.lineView = s.lineView := by
  unfold State.txnSync
  simp (disch := decide) only [State.setFld_view]

/-- A slot's registers, whatever the slot, are none of the view's. -/
theorem State.setSlot_view (k : Nat) (t : Slot) : (s.setSlot k (some t)).lineView = s.lineView := by
  have hstat : ∀ (u : State) (f : Fld) (v : Nat), f.reg = TXN_SLOTSTAT → (u.setFld f v k).lineView = u.lineView := by
    intro u f v hf
    refine u.setFld_view v ?_
    rw [hf]
    show (0x42 ≠ 0x020040 + k * 4) ∧ (0x08C023 ≠ 0x020040 + k * 4)
    omega
  have htgt : offView (TXN_SLOTTGT.at k) := by
    show (0x42 ≠ 0x020041 + k * 4) ∧ (0x08C023 ≠ 0x020041 + k * 4)
    omega
  unfold State.setSlot
  rw [State.txnSync_view, State.setFld_view _ _ htgt]
  rw [hstat _ TXN_SLOTSTAT.NWR _ rfl, hstat _ TXN_SLOTSTAT.ORIGIN _ rfl, hstat _ TXN_SLOTSTAT.DIST _ rfl,
    hstat _ TXN_SLOTSTAT.GEN _ rfl, hstat _ TXN_SLOTSTAT.MODE _ rfl, hstat _ TXN_SLOTSTAT.SEQ _ rfl,
    hstat _ TXN_SLOTSTAT.STATE _ rfl]
  rfl

theorem State.calLate_view (n : Nat) : (s.calMark CAL_FLAG.LATE n).lineView = s.lineView := by
  unfold State.calMark State.raiseS
  rw [State.raiseAt_view (r := ⟨CAL_FLAG, CAL_FLAGEN, 192, 0⟩) _ _ _ (by decide) (by decide) (by decide)]
  exact s.when_view _ _ fun t => t.setFld_view _ (by decide)

theorem State.markSlot_view (n k : Nat) (t : Slot) : (s.markSlot n k t).lineView = s.lineView := by
  unfold State.markSlot
  rw [State.bankChanges_view, State.setSlot_view]
  exact s.when_view _ _ fun u => u.calLate_view n

/-- Preparing the transactions of a line leaves what check 1 looks at. -/
theorem State.prepareFor_view (n : Nat) (opens : Bool) : (s.prepareFor n opens).lineView = s.lineView := by
  refine forTo_keeps (fun t => t.lineView = s.lineView) _ (fun k t ht => ?_) _ _ rfl
  split
  · exact ht
  · next u _ =>
    split
    · exact ht
    · split
      · exact ((State.when_view _ _ _ fun v => v.bankChanges_view u n true false).trans (t.setSlot_view k _)).trans ht
      · split
        · exact (t.markSlot_view n k u).trans ht
        · exact ht

theorem State.prepareFor_check1 (m : Nat) (opens : Bool) (n : Nat) : (s.prepareFor m opens).check1 n = s.check1 n :=
  State.check1_of_view (s.prepareFor_view m opens) n

end

/-! ### The decision -/

section
variable {s : State} (dt : Nat) (f : LineFaults)

/-- While the position stands still no line is decided (R41, R43). -/
theorem State.lineDecision_still (h : s.moves = false) : s.lineDecision dt f = s := if_pos (by simp [h])

/-- The cycles since the last launched line counted on. -/
def State.sinceDecision (s : State) (dt : Nat) : State :=
  { s with fire := { s.fire with sinceLaunch := s.fire.sinceLaunch.map (· + dt) } }

section
variable (h : s.moves = true)
include h

/-- Outside a swath the decision is that of the web line. -/
theorem State.lineDecision_web (hscan : s.inScan = false) : s.lineDecision dt f =
    ((s.sinceDecision dt).decideWeb s.pos.nextDec f).when f.bankEcc (·.bankEcc) := by
  have hscan' : (s.sinceDecision dt).inScan = false := hscan
  unfold State.lineDecision
  rw [if_neg (by simp [h])]
  show ((if (s.sinceDecision dt).inScan then _ else _ : State)).when _ _ = _
  rw [if_neg (by simp [hscan'])]
  rfl

/-- In a swath the decision is that of the swath line. -/
theorem State.lineDecision_swath (hscan : s.inScan = true) : s.lineDecision dt f =
    ((s.sinceDecision dt).decideSwath s.scan.swathLine f).when f.bankEcc (·.bankEcc) := by
  have hscan' : (s.sinceDecision dt).inScan = true := hscan
  unfold State.lineDecision
  rw [if_neg (by simp [h])]
  show ((if (s.sinceDecision dt).inScan then _ else _ : State)).when _ _ = _
  rw [if_pos hscan']
  rfl

end
end

/-- LINE_DECISION comes to `State.lineDecision`. -/
theorem exec_lineDecision {s : State} (dt : Nat) (f : LineFaults) (ha : s.awake = true) (hd : s.pdOn 4 = true) :
    exec (.lineDecision dt f) s = .next (s.close (s.lineDecision dt f)) :=
  congrArg s.finish (State.live_when_on _ ha hd)

section
variable (s : State) (f : LineFaults)

/-- The web line's decision up to the preparation for the line after it. -/
def State.decidedWeb (s : State) (n : Nat) : State :=
  ((((((((s.drainOver n).snapAt n).markLate n).commitAt n).boundary n).thermal n).lineChecks n).bumpLine false
    n).jobDoneAt n

/-- The next line is assembled as check 1 finds it after the preparation, which changes nothing of that check. -/
theorem State.decideWeb_eq (n : Nat) :
    let v := s.decidedWeb n
    let w := v.prepareFor (lineMod (n + 1)) (v.opening (lineMod (n + 1))).isSome
    s.decideWeb n f =
      w.assemble (lineMod (n + 1)) (w.check1 (lineMod (n + 1)) || (v.opening (lineMod (n + 1))).isSome) f := by
  intro v w
  rw [v.prepareFor_check1]
  rfl

/-- In FEED and HELD no decision acts. -/
theorem State.decideSwath_idle {q : Nat} (h1 : s.fld FIRE_SCANSTAT.SSTATE ≠ 1) (h2 : s.fld FIRE_SCANSTAT.SSTATE ≠ 2) :
    s.decideSwath q f = s := if_pos ⟨h1, h2⟩

end

/-- Settles O15: outside a swath the steps are `State.decideWeb`'s, of which only check 1 of the line to be assembled is
read after the preparation (`prepareFor_check1`); in a swath they are `State.decideSwath`'s. -/
theorem lineDecisionRunsTheStepsOfTheTable : Obligations.LineDecisionRunsTheStepsOfTheTable := by
  refine ⟨?web, ?idle, ?swath, ?still⟩
  case web =>
    intro s dt f ha hd hmoves hscan n u v w
    rw [exec_lineDecision dt f ha hd, State.lineDecision_web dt f hmoves hscan, State.decideWeb_eq]
    rfl
  case idle =>
    intro s dt f ha hd hmoves hscan h1 h2 u
    rw [exec_lineDecision dt f ha hd, State.lineDecision_swath dt f hmoves hscan,
      (s.sinceDecision dt).decideSwath_idle f h1 h2]
    rfl
  case swath =>
    intro s dt f ha hd hmoves hscan hst u q t x v
    have hruns : ¬((s.sinceDecision dt).fld FIRE_SCANSTAT.SSTATE ≠ 1 ∧
        (s.sinceDecision dt).fld FIRE_SCANSTAT.SSTATE ≠ 2) :=
      fun h => hst.elim h.1 h.2
    have hdecide : (s.sinceDecision dt).decideSwath q f = v := if_neg hruns
    rw [exec_lineDecision dt f ha hd, State.lineDecision_swath dt f hmoves hscan, hdecide]
  case still =>
    exact fun s dt f _ h => congrArg s.finish (State.live_when_unchanged 4 (State.lineDecision_still dt f h))

end Sys2Proof.Machine

/-! What no access to memory changes, a write's included: every part that `State.rest` keeps, and every register but
those of the memory controller's own events and of their watchers (spec/13_dram_controller.md). -/

namespace Sys2Proof.Machine

/-- The addresses that an access to memory may write: the captures and flags of the controller, of a watching display,
of the Warden and of an isolated wrapper, the event queue's own flag, and the Tally. -/
def memWord (a : Nat) : Bool :=
  (decide (TALLY_CNT.base ≤ a) && decide (a < TALLY_CNT.base + 4096)) ||
    decide (a ∈ [DRAM_FLAG.at 0, DRAM_CEADDR.at 0, DRAM_CEINFO.at 0, DRAM_ERRADDR.at 0, DRAM_ERRINFO.at 0,
      DRAM_SCRUBPOS.at 0, DISP_FLAG.at 0, DISP_FLAG.at 1, DISP_EARLYINFO.at 0, DISP_EARLYINFO.at 1, DISP_ERRINFO.at 0,
      DISP_ERRINFO.at 1, WARD_FLAG.at 0, SYS_FLAG.at 0, SYS_ISOCNT.at 54, HLNK_FLAG.at 0])

/-- The state without what an access to memory may change. -/
def State.offMem (s : State) : State × (Nat → Word) := (s.rest, fun a => if memWord a then 0 else s.word a)

theorem State.word_of_offMem {s t : State} (h : s.offMem = t.offMem) {a : Nat} (ha : memWord a = false) :
    s.word a = t.word a := by
  have hword := congrFun (congrArg Prod.snd h) a
  simpa only [State.offMem, ha, Bool.false_eq_true, if_false] using hword

theorem State.rest_of_offMem {s t : State} (h : s.offMem = t.offMem) : s.rest = t.rest := congrArg Prod.fst h

/-! ### The operations that all of them use -/

/-- What the two components of the frame come to. -/
theorem State.offMem_ext {s t : State} (hrest : s.rest = t.rest)
    (hword : ∀ a, memWord a = false → s.word a = t.word a) :
    s.offMem = t.offMem := by
  refine Prod.ext hrest (funext fun a => ?_)
  show (if memWord a then 0 else s.word a) = if memWord a then 0 else t.word a
  cases ha : memWord a
  · rw [hword a ha]
  · rfl

theorem State.setReg_offMem (s : State) {r : Reg} (w : Word) {i j : Nat} (h : memWord (r.at i j) = true) :
    (s.setReg r w i j).offMem = s.offMem :=
  State.offMem_ext rfl fun a ha => s.word_setReg_other _ _ _ _ _ fun e => by
    rw [e, h] at ha
    cases ha

theorem State.setFld_offMem (s : State) {f : Fld} (v : Nat) {i j : Nat} (h : memWord (f.reg.at i j) = true) :
    (s.setFld f v i j).offMem = s.offMem := s.setReg_offMem _ h

/-- The flag and its counter are of memory's own. -/
def memFlag (f : Fld) (i : Nat) : Bool :=
  match flagRow? f.reg with
  | none => true
  | some r => memWord (r.flag.at i) && memWord (TALLY_CNT.at (r.base + i * r.stride + (f.lo + 0)))

theorem State.raise_offMem (s : State) {f : Fld} {i : Nat} (h : memFlag f i = true) :
    (s.raise f i).offMem = s.offMem := by
  refine State.offMem_ext (s.raise_rest f i) fun a ha => ?_
  have hne : ∀ {b}, memWord b = true → a ≠ b := fun hb e => by
    rw [← e, ha] at hb
    cases hb
  unfold memFlag at h
  split at h
  · next hnone =>
    unfold State.raise State.raiseAt
    rw [hnone]
  · next r hr =>
    obtain ⟨hflag, htally⟩ := Bool.and_eq_true_iff.1 h
    exact s.raiseAt_word f i 0 none 0 r hr a (hne hflag) (hne htally) (hne (by decide)) (hne (by decide))

theorem State.emit_offMem (s : State) (o : Out) : (s.emit o).offMem = s.offMem := rfl

theorem State.setDout_offMem (s : State) (o : Nat) (d : DOut) : (s.setDout o d).offMem = s.offMem := rfl

/-- A change of the memory controller's own state. -/
theorem State.dram_offMem (s : State) (d : DramSt) : ({ s with dram := d } : State).offMem = s.offMem := rfl

/-- A conditional effect. -/
theorem State.when_offMem (s : State) (c : Bool) (f : State → State) (h : ∀ s : State, (f s).offMem = s.offMem) :
    (s.when c f).offMem = s.offMem :=
  State.when_keeps (fun t => t.offMem = s.offMem) f c s (fun t ht => (h t).trans ht) rfl

/-- A fold over a list. -/
theorem forIn'_offMem {α : Type} (l : List α) (f : α → State → State) (h : ∀ a s, (f a s).offMem = s.offMem)
    (s : State) : (forIn' l f s).offMem = s.offMem :=
  forIn'_keeps (fun t => t.offMem = s.offMem) f (fun a t ht => (h a t).trans ht) l s rfl

/-- A counted fold. -/
theorem forTo_offMem (n : Nat) (f : Nat → State → State) (h : ∀ i s, (f i s).offMem = s.offMem) (s : State) :
    (forTo n f s).offMem = s.offMem := forIn'_offMem (List.range n) f h s

/-- A fold that carries a result along. -/
theorem foldl_offMem {α β : Type} (g : State × β → α → State × β) (h : ∀ p a, (g p a).1.offMem = p.1.offMem)
    (l : List α) (p : State × β) : (l.foldl g p).1.offMem = p.1.offMem := by
  induction l generalizing p with
  | nil => rfl
  | cons a t ih => exact (ih (g p a)).trans (h p a)

/-! ### Code words, banks and queues -/

section
variable (s : State)

theorem State.learn_offMem (cw v : Nat) : (s.learn cw v).offMem = s.offMem := by
  unfold State.learn
  split <;> rfl

theorem State.noteCw_offMem (c cw n : Nat) : (s.noteCw c cw n).offMem = s.offMem := by
  unfold State.noteCw
  simp only
  split
  · rfl
  · split
    · simp (disch := decide) only [State.setFld_offMem, State.raise_offMem]
    · rw [State.when_offMem _ _ _ fun v => by simp (disch := decide) only [State.setFld_offMem],
        s.raise_offMem (by decide)]

theorem State.putErr_offMem (cw n : Nat) : (s.putErr cw n).offMem = s.offMem :=
  State.when_offMem (s.setDamage cw n) _ _ fun s => s.learn_offMem _ _

theorem State.healCw_offMem (cw n : Nat) : (s.healCw cw n).offMem = s.offMem :=
  s.when_offMem _ _ fun s => s.putErr_offMem _ _

theorem State.touch_offMem (a : Nat) : (s.touch a).offMem = s.offMem := rfl

theorem State.spend_offMem (c : Nat) : (State.spend c s).offMem = s.offMem := rfl

theorem State.issueWrite_offMem (w : DWr) : (State.issueWrite w s).offMem = s.offMem := by
  unfold State.issueWrite
  rw [State.touch_offMem, forIn'_offMem _ _ (fun e s => s.noteCw_offMem _ _ _),
    State.when_offMem _ _ _ fun s => s.touch_offMem _]
  rfl

theorem State.issueWrites_offMem (q n : Nat) : (s.issueWrites q n).offMem = s.offMem :=
  forIn'_offMem _ _ (fun w s => s.issueWrite_offMem w) s

theorem State.wqDrain_offMem (q : Nat) : (s.wqDrain q).offMem = s.offMem := by
  unfold State.wqDrain
  extract_lets n
  split
  · exact s.issueWrites_offMem _ _
  · rfl

theorem State.isoCount_offMem (n : Nat) : (s.isoCount 54 n).offMem = s.offMem :=
  (forTo_offMem n _ (fun _ t => t.raise_offMem (by decide)) _).trans (s.setReg_offMem _ (by decide))

/-- A request that is not sent leaves its gate's flag. -/
theorem State.gateFlag_offMem (g : DGate) : (s.gateFlag g).offMem = s.offMem := by
  cases g with
  | go => rfl
  | notReady => exact s.raise_offMem (by decide)
  | lost => exact (State.isoCount_offMem _ 1).trans (s.raise_offMem (by decide))
  | range => exact s.raise_offMem (by decide)
  | dark => rfl

/-! ### The read queues -/

/-- A poisoned line of a display output, of which there are two. -/
theorem State.poisonLine_offMem (a n y : Nat) {o : Nat} (ho : o = 0 ∨ o = 1) :
    (State.poisonLine a n o y s).offMem = s.offMem := by
  obtain ⟨hflag, hinfo⟩ : memFlag DISP_FLAG.POISON o = true ∧ memWord (DISP_ERRINFO.at o) = true := by
    rcases ho with rfl | rfl <;> decide
  unfold State.poisonLine
  rw [State.when_offMem _ _ _ fun u => (State.setFld_offMem _ (f := DISP_ERRINFO.FRAME) _ hinfo).trans
    (u.setFld_offMem (f := DISP_ERRINFO.LINE) _ hinfo), State.setDout_offMem, s.raise_offMem hflag]

theorem State.dispPoison_offMem (a n : Nat) : (State.dispPoison a n s).offMem = s.offMem := by
  unfold State.dispPoison
  extract_lets of
  split
  · exact s.poisonLine_offMem _ _ _ (.inl rfl)
  · exact s.poisonLine_offMem _ _ _ (.inr rfl)
  · rfl

theorem State.answerPoison_offMem (c a n : Nat) : (s.answerPoison c a n).offMem = s.offMem := by
  unfold State.answerPoison
  rw [State.when_offMem _ _ _ fun t => t.raise_offMem (by decide),
    State.when_offMem _ _ _ fun t => t.dispPoison_offMem a n, State.emit_offMem]

theorem State.enterRead_offMem (i : Nat) : (State.enterRead i s).offMem = s.offMem := by
  unfold State.enterRead
  split
  · rfl
  · split
    · rfl
    · split
      · rfl
      · exact s.issueWrites_offMem _ _

theorem State.updRead_offMem (i : Nat) (f : DRead → DRead) : (s.updRead i f).offMem = s.offMem := rfl

theorem State.drainAgain_offMem (b : Nat) : (s.drainAgain b).offMem = s.offMem :=
  forIn'_offMem _ _ (fun _ t => t.issueWrites_offMem _ _) s

theorem State.turnTaken_offMem (q i : Nat) : (s.turnTaken q i).offMem = s.offMem := by
  have hpass (l : List Nat) :
      (forIn' l (fun j s => s.updRead j fun d => { d with passed := d.passed + 1 }) s).offMem = s.offMem :=
    forIn'_offMem _ _ (fun j t => t.updRead_offMem j _) s
  unfold State.turnTaken
  extract_lets c k t
  split
  · exact hpass _
  · exact hpass _

theorem State.serveCw_offMem (d : DRead) (errs : List (Nat × Nat)) (p : State × List (Nat × Nat)) (j : Nat) :
    (State.serveCw d errs p j).1.offMem = p.1.offMem := by
  unfold State.serveCw
  extract_lets cw old n t
  exact (State.when_offMem _ _ _ fun s => s.healCw_offMem _ _).trans
    (State.when_offMem _ _ _ fun s => s.putErr_offMem _ _)

theorem State.scrubEnd_offMem (b : Nat) : (s.scrubEnd b).offMem = s.offMem :=
  s.when_offMem _ _ fun t => (State.raise_offMem _ (by decide)).trans (t.setFld_offMem _ (by decide))

theorem State.deliverOne_offMem (c : Nat) : (State.deliverOne c s).offMem = s.offMem := by
  have hmarks (u : State) (l : List (Nat × Nat)) : (forIn' l (fun m s => s.noteCw c m.1 m.2) u).offMem = u.offMem :=
    forIn'_offMem l _ (fun m t => t.noteCw_offMem c m.1 m.2) u
  unfold State.deliverOne
  split
  · rfl
  · split
    · simp only
      split
      · exact hmarks _ _
      · split
        · exact (State.scrubEnd_offMem _ _).trans (hmarks _ _)
        · split
          · exact hmarks _ _
          · exact (State.answerPoison_offMem _ _ _ _).trans (hmarks _ _)
    · rfl

theorem State.closeBank_offMem (k : Nat) : (s.closeBank k).offMem = s.offMem := by
  unfold State.closeBank
  extract_lets b
  split <;> rfl

theorem State.refreshOnce_offMem (q r : Nat) : (State.refreshOnce q r s).offMem = s.offMem := by
  unfold State.refreshOnce
  rw [State.emit_offMem, State.dram_offMem, forTo_offMem _ _ fun g s => s.closeBank_offMem _]

theorem State.makeUp_offMem (q r : Nat) : (State.makeUp q r s).offMem = s.offMem := by
  refine forTo_offMem _ _ (fun i t => ?_) s
  split
  · exact State.refreshOnce_offMem _ q r
  · rfl

theorem State.serveRead_offMem (q i : Nat) (errs : List (Nat × Nat)) : (s.serveRead q i errs).offMem = s.offMem := by
  unfold State.serveRead
  split
  · rfl
  · simp only
    rw [forTo_offMem _ _ (fun r s => s.makeUp_offMem q r), State.enterReads,
      forTo_offMem _ _ (fun i s => s.enterRead_offMem i), State.deliverReads,
      forTo_offMem _ _ (fun _ s => s.deliverOne_offMem _), State.wqDrain_offMem,
      State.when_offMem _ _ _ (fun t => t.spend_offMem _), State.touch_offMem, State.drainAgain_offMem,
      State.updRead_offMem, foldl_offMem _ (fun p j => State.serveCw_offMem _ _ p j), State.turnTaken_offMem]

theorem State.serveNext_offMem (q : Nat) (busy : List Nat) (errs : List (Nat × Nat)) :
    (s.serveNext q busy errs).offMem = s.offMem := by
  unfold State.serveNext
  split
  · rfl
  · exact s.serveRead_offMem _ _ _

/-! ### Writes (R270, R272) -/

theorem State.rmwWords_offMem (a n b : Nat) : (State.rmwWords a n b s).1.offMem = s.offMem := by
  have hword : ∀ (cw : Nat) (t : State), ((State.ageReads cw t).healCw cw (t.cwErr cw)).offMem = t.offMem :=
    fun cw t => State.healCw_offMem _ _ _
  unfold State.rmwWords
  split
  · rfl
  · exact forIn'_offMem _ _ hword s

theorem State.writeBurst_offMem (c a n b : Nat) : (State.writeBurst c a n b s).offMem = s.offMem := by
  have hroom : ∀ t : State, (t.makeRoom (b % 4)).offMem = t.offMem := fun t => by
    refine forTo_offMem _ _ (fun i u => ?_) t
    split
    · rfl
    · exact u.serveNext_offMem _ _ _
  unfold State.writeBurst State.serial State.setWq
  rw [State.wqDrain_offMem, State.dram_offMem, State.dram_offMem, hroom, State.spend_offMem, State.rmwWords_offMem]

theorem State.putDram_offMem (a : Nat) (bytes : List Byte) : (s.putDram a bytes).offMem = s.offMem :=
  forIn'_offMem _ State.renewCw (fun cw t => (t.setDamage cw 0).learn_offMem cw 1) s

/-- The range watch of a display output, of which there are two. -/
theorem State.watchRange_offMem (c a n : Nat) {o : Nat} (ho : o = 0 ∨ o = 1) :
    (State.watchRange c a n o s).offMem = s.offMem := by
  obtain ⟨hflag, hinfo⟩ : memFlag DISP_FLAG.LAYER_EARLY o = true ∧ memWord (DISP_EARLYINFO.at o) = true := by
    rcases ho with rfl | rfl <;> decide
  have hset : ∀ (t : State) (f : Fld) (v : Nat), f.reg = DISP_EARLYINFO → (t.setFld f v o).offMem = t.offMem :=
    fun t f v hf => t.setFld_offMem v (by rw [hf]; exact hinfo)
  unfold State.watchRange
  extract_lets d
  split
  · rfl
  · rw [State.when_offMem _ _ _ fun t => by
      rw [hset _ DISP_EARLYINFO.ADDR _ rfl, hset _ DISP_EARLYINFO.CLIENT _ rfl, hset _ DISP_EARLYINFO.LAYER _ rfl],
      State.setDout_offMem, s.raise_offMem hflag]

/-- A write of memory leaves everything else. -/
theorem State.dramWrite_offMem (c a : Nat) (bytes : List Byte) : (s.dramWrite c a bytes).1.offMem = s.offMem := by
  unfold State.dramWrite
  split
  · simp only
    rw [State.watchRange_offMem _ _ _ _ (.inr rfl), State.watchRange_offMem _ _ _ _ (.inl rfl), State.putDram_offMem,
      forIn'_offMem _ _ fun b t => t.writeBurst_offMem c a _ b]
  · exact s.gateFlag_offMem _

end

end Sys2Proof.Machine

/-! What the end of a job and the planning of its pages leave of the position unit (R23, R46). -/

namespace Sys2Proof.Machine

/-- The addresses of the position unit's own registers, without its channels and probes. -/
abbrev posReg (a : Nat) : Prop := 0x040000 ≤ a ∧ a < 0x040010

/-- A register's word with the estimate, its velocity and the encoder channels. -/
def State.posView (s : State) (a : Nat) : Word × BitVec 56 × BitVec 56 × SMap EncCh :=
  (s.word a, s.pos.est, s.pos.vel, s.pos.enc)

theorem State.posView_congr {s t : State} {a : Nat} (hregs : s.regs = t.regs) (hpos : s.pos = t.pos) :
    s.posView a = t.posView a := by
  unfold State.posView
  rw [State.word_of_regs hregs, hpos]

theorem memWord_posReg {a : Nat} (ha : posReg a) : memWord a = false := by
  have hall : ∀ k < 16, memWord (0x040000 + k) = false := by decide
  obtain ⟨k, rfl⟩ := Nat.exists_eq_add_of_le ha.1
  exact hall k (by omega)

section
variable (s : State) {a : Nat} (ha : posReg a)
include ha

theorem State.setFld_posView {f : Fld} (v : Nat) {i j : Nat} (h : ¬ posReg (f.reg.at i j)) :
    (s.setFld f v i j).posView a = s.posView a := by
  unfold State.posView
  rw [s.word_setFld_other _ _ _ _ _ fun e => h (e ▸ ha), State.setFld_pos]

/-- A flag of another register. -/
theorem State.raiseAt_posView {f : Fld} {i k : Nat} (st : Option Word) (info : Word) {r : FlagRow}
    (hr : flagRow? f.reg = some r) (hi : i < max r.flag.n1 1) (hb : f.lo + k < 40) (hflag : a ≠ r.flag.at i) :
    (s.raiseAt f i k st info).posView a = s.posView a := by
  have htally : TALLY_CNT.at 4000 < 0x040000 := by decide
  have hlink : HLNK_FLAG.at 0 = 0x200003 := rfl
  unfold State.posView
  rw [s.raiseAt_word_outside _ _ hr hi hb (by omega) hflag (by omega), State.raiseAt_pos]

theorem State.dramWrite_posView (c b : Nat) (bytes : List Byte) :
    (s.dramWrite c b bytes).1.posView a = s.posView a := by
  have hframe := s.dramWrite_offMem c b bytes
  have hpos : (s.dramWrite c b bytes).1.rest.pos = s.rest.pos := congrArg State.pos (State.rest_of_offMem hframe)
  unfold State.posView
  rw [State.word_of_offMem hframe (memWord_posReg ha), show (s.dramWrite c b bytes).1.pos = s.pos from hpos]

omit ha in
theorem State.when_posView (c : Bool) (f : State → State) (h : ∀ s : State, (f s).posView a = s.posView a) :
    (s.when c f).posView a = s.posView a :=
  State.when_keeps (fun t => t.posView a = s.posView a) f c s (fun t ht => (h t).trans ht) rfl

omit ha in
theorem forIn'_posView {α : Type} (l : List α) (f : α → State → State) (h : ∀ x s, (f x s).posView a = s.posView a) :
    (forIn' l f s).posView a = s.posView a :=
  forIn'_keeps (fun t => t.posView a = s.posView a) f (fun x t ht => (h x t).trans ht) l s rfl

/-! ### A job's streams (R78, R437) -/

theorem State.writeBack_posView (d : SkDesc) (st : Nat) : (s.writeBack d st).posView a = s.posView a := by
  have hflag : a ≠ SKID_FLAG.at 0 := by
    have : SKID_FLAG.at 0 = 0x0C0002 := rfl
    omega
  unfold State.writeBack
  extract_lets b w t u
  refine (State.when_posView u _ _ fun v => ?_).trans ?_
  · exact v.raiseAt_posView ha (r := ⟨SKID_FLAG, SKID_FLAGEN, 128, 0⟩) _ _ (by decide) (by decide) (by decide) hflag
  exact (t.dramWrite_posView ha _ _ _).trans (s.dramWrite_posView ha _ _ _)

theorem State.flushDescs_posView (ser st : Nat) (all : Bool) : (s.flushDescs ser st all).posView a = s.posView a := by
  unfold State.flushDescs
  extract_lets x mine out rest t
  exact forIn'_posView s _ _ fun d u => u.writeBack_posView ha d _

theorem State.engSync_posView : s.engSync.posView a = s.posView a := by
  unfold State.engSync
  extract_lets had offers r c t
  exact t.setFld_posView ha _ (by decide)

/-- The streams' registers, whatever the stream, are none of the position unit's. -/
theorem State.skidSync_posView (st : Nat) : (s.skidSync st).posView a = s.posView a := by
  have hstat : ¬ posReg (SKID_SSTAT.at st) := by
    show ¬ (0x040000 ≤ 0x0C0103 + st * 4 ∧ 0x0C0103 + st * 4 < 0x040010)
    omega
  have hset : ∀ (t : State) (f : Fld) (v : Nat), f.reg = SKID_SSTAT → (t.setFld f v st).posView a = t.posView a :=
    fun t f v hf => t.setFld_posView ha v (by rw [hf]; exact hstat)
  unfold State.skidSync
  extract_lets x t
  have ht : t.posView a = s.posView a := (State.engSync_posView _ ha).trans (hset s SKID_SSTAT.PREF _ rfl)
  split
  · exact (hset t SKID_SSTAT.NEXT_BLK _ rfl).trans ht
  · exact (hset t SKID_SSTAT.NEXT_BLK _ rfl).trans ht
  · exact ht

theorem State.abandonJob_posView (ser : Nat) : (s.abandonJob ser).posView a = s.posView a :=
  forIn'_posView s (List.range 56) _ fun st t =>
    (State.skidSync_posView _ ha st).trans (t.flushDescs_posView ha ser st true)

/-! ### The failure of a job (R23) -/

theorem State.recordFail_posView (cause jobId pageNo : Nat) (stamp : Word) :
    (s.recordFail cause jobId pageNo stamp).posView a = s.posView a := by
  have hflag : a ≠ SYS_JOBQ_FLAG.at 0 := by
    have : SYS_JOBQ_FLAG.at 0 < 0x040000 := by decide
    omega
  unfold State.recordFail
  extract_lets t
  rw [State.setFld_posView _ ha _ (by decide),
    State.raiseAt_posView _ ha (r := jobFlagRow) _ _ (by decide) (by decide) (by decide) hflag]
  exact s.when_posView _ _ fun u => by simp (disch := decide) only [State.setFld_posView _ ha]

theorem State.setQueue_posView (q : List QEnt) : (s.setQueue q).posView a = s.posView a := by
  unfold State.setQueue State.jqSync
  simp (disch := decide) only [State.setFld_posView _ ha]
  rfl

omit ha in
/-- Restarting the decisions moves neither the estimate nor a register. -/
theorem State.restartDecisions_posView : s.restartDecisions.posView a = s.posView a := rfl

omit ha in
theorem State.jqUpd_posView (f : JobQSt → JobQSt) : (s.jqUpd f).posView a = s.posView a := rfl

omit ha in
theorem State.emptyPorts_posView (p n : Nat) : (s.emptyPorts p n).posView a = s.posView a := rfl

theorem State.setJobState_posView (v : Nat) : (s.setJobState v).posView a = s.posView a :=
  s.setFld_posView (f := SYS_JOBQ_STAT.STATE) ha v (by decide)

theorem State.failJob_posView (cause n : Nat) : (s.failJob cause n).posView a = s.posView a := by
  unfold State.failJob
  split
  · rfl
  · next j _ =>
    extract_lets scan prev e c cut scaler t1 t2 t3 t4 t5 src fire swath t6 t7
    have h2 : t2.posView a = s.posView a := t1.recordFail_posView ha _ _ _ _
    have h4 : t4.posView a = s.posView a :=
      (t3.setQueue_posView ha _).trans ((t2.abandonJob_posView ha j.ser).trans h2)
    clear_value t4
    have h7 : t7.posView a = t6.posView a := t6.when_posView _ _ fun u => by
      rw [State.restartDecisions_posView, State.jqUpd_posView, State.setFld_posView _ ha _ (by decide),
        State.emptyPorts_posView]
    have h6 : t6.posView a = t4.posView a := State.posView_congr rfl rfl
    rw [t7.setJobState_posView ha, h7, h6, h4]

theorem State.failNow_posView (cause : Nat) : (s.failNow cause).posView a = s.posView a := s.failJob_posView ha cause _

end

/-! ### The planning of page starts (R46) -/

section
variable (s : State) {a : Nat} (ha : posReg a) (hflag : a ≠ POS_FLAG.at 0)

include ha in
theorem State.setStart_posView (w : JPage) (n : Nat) : (s.setStart w n).posView a = s.posView a := by
  have hskid : a ≠ SKID_FLAG.at 0 := by
    have : SKID_FLAG.at 0 = 0x0C0002 := rfl
    omega
  have hheld : (s.raise SKID_FLAG.JOB_HELD).posView a = s.posView a :=
    s.raiseAt_posView ha (r := ⟨SKID_FLAG, SKID_FLAGEN, 128, 0⟩) _ _ (by decide) (by decide) (by decide) hskid
  unfold State.setStart
  extract_lets c
  split
  · extract_lets m
    split
    · exact hheld
    · rfl
  · rfl

include ha hflag

theorem State.takeMarks_posView (w : JPage) (prev : Option Nat) (marks : List Word) :
    (State.takeMarks w prev marks s).posView a = s.posView a := by
  have hraise : ∀ (t : State) (f : Fld), f.reg = POS_FLAG → f.lo < 40 → (t.raise f).posView a = t.posView a :=
    fun t f hf hlo => t.raiseAt_posView ha (r := ⟨POS_FLAG, POS_FLAGEN, 96, 0⟩) _ _ (by rw [hf]; decide) (by decide)
      hlo hflag
  induction marks generalizing s with
  | nil => rfl
  | cons t rest ih =>
    unfold State.takeMarks
    split
    · exact (ih _).trans (hraise s POS_FLAG.PM_EARLY rfl (by decide))
    · exact ih s
    · exact (ih _).trans (hraise s POS_FLAG.PM_LATE rfl (by decide))
    · exact State.setStart_posView _ ha w _

theorem State.planPage_posView (ser : Nat) : (s.planPage ser).posView a = s.posView a := by
  have hinvalid : (s.raise SYS_JOBQ_FLAG.DESC_INVALID).posView a = s.posView a := by
    refine s.raiseAt_posView ha (r := jobFlagRow) _ _ (by decide) (by decide) (by decide) ?_
    have : SYS_JOBQ_FLAG.at 0 < 0x040000 := by decide
    show a ≠ SYS_JOBQ_FLAG.at 0
    omega
  unfold State.planPage
  split
  · rfl
  · split
    · rfl
    · split
      · rfl
      · split
        · extract_lets n
          split
          · exact (State.failNow_posView _ ha 5).trans hinvalid
          · exact s.setStart_posView ha _ _
        · split
          · split
            · split
              · rfl
              · exact s.setStart_posView ha _ _
            · split
              · exact s.setStart_posView ha _ _
              · rfl
          · split
            · exact s.takeMarks_posView ha hflag _ _ _
            · rfl

/-- Planning the pages of the job in force moves neither the estimate nor a register but POS_FLAG. -/
theorem State.planPages_posView : s.planPages.posView a = s.posView a :=
  forIn'_posView s _ _ fun ser t => t.planPage_posView ha hflag ser

end

end Sys2Proof.Machine

/-! Proofs about the position unit's enabling, its faults and REARM (R41 to R43, Tables 02-3 and 02-4). -/

namespace Sys2Proof.Machine

/-! ### A direct write of POS_CTL (R41) -/

/-- A sender's write that reaches a register of the plain address space and meets no guard is delivered. -/
theorem State.regCmd_unguarded {s : State} {o : Sender} {r : Reg} {i : Nat} {w : Word} (h : s.reaches o r i = true)
    (hu : s.unguarded o r i w = true) (hn : namedAt r i 0 = true) (hr : r.at i % 2 ^ 24 = r.at i) :
    s.regCmd o r i 0 w = s.deliver o.origin r i 0 w := by
  obtain ⟨hm, hi⟩ := (s.reaches_iff o r i).1 h
  unfold State.unguarded at hu
  simp only [Bool.and_eq_true, Bool.not_eq_true', beq_iff_eq, Bool.or_eq_true] at hu
  obtain ⟨⟨htxn, hrws⟩, hrwl⟩ := hu
  unfold State.regCmd
  rw [State.sends_maySend hm, s.busWrite_free o.origin r i 0 w hn hi htxn hrws (by rw [hr]; exact hrwl)]

/-- What POS_CTL holds before ENABLE acts: the other fields stored. -/
def State.posCtlStored (s : State) (w : Word) : State :=
  (s.store POS_CTL 0 0 w).setFld POS_CTL.ENABLE (s.fld POS_CTL.ENABLE)

section
variable {s : State} {o : Sender} {w : Word} (h : s.reaches o POS_CTL = true)
include h

/-- POS_ENABLE is a write of POS_CTL: ENABLE acts, then REARM. -/
theorem exec_posEnable (hu : s.unguarded o POS_CTL 0 w = true) : exec (.posEnable o w) s = .next (s.close
    (((s.posCtlStored w).posEnable (POS_CTL.ENABLE.ext w == 1)).when (wbit POS_CTL.REARM w) (·.rearm))) :=
  congrArg s.finish (State.regCmd_unguarded h hu (by decide) (by decide))

/-- REARM is a write of POS_CTL with REARM 1. -/
theorem exec_rearm (hu : s.unguarded o POS_CTL 0 (putFields w [(POS_CTL.REARM, 1)]) = true) :
    exec (.rearm o w) s = .next (s.close
      (((s.posCtlStored (putFields w [(POS_CTL.REARM, 1)])).posEnable (POS_CTL.ENABLE.ext w == 1)).rearm)) := by
  have hrearm : wbit POS_CTL.REARM (POS_CTL.REARM.ins w 1) = true := by
    unfold wbit
    rw [Fld.ext_ins_same _ _ _ (by decide) (by decide)]
    decide
  have hen : POS_CTL.ENABLE.ext (POS_CTL.REARM.ins w 1) = POS_CTL.ENABLE.ext w :=
    Fld.ext_ins_other _ _ _ _ (by decide) (by decide) (by decide) (by decide)
  refine (congrArg s.finish (State.regCmd_unguarded h hu (by decide) (by decide))).trans ?_
  show s.finish (((s.posCtlStored (POS_CTL.REARM.ins w 1)).posEnable
    (POS_CTL.ENABLE.ext (POS_CTL.REARM.ins w 1) == 1)).when (wbit POS_CTL.REARM (POS_CTL.REARM.ins w 1)) (·.rearm)) = _
  rw [hen, hrearm]
  rfl

end

/-! ### ENABLE (R41, R42) -/

section
variable (s : State)

/-- ENABLE's register tells neither the unit's state nor the job's. -/
theorem State.setEnable_posState (v : Nat) : (s.setFld POS_CTL.ENABLE v).posState = s.posState :=
  s.fld_setFld_other _ _ _ _ _ _ _ (by decide)

theorem State.setEnable_jobRuns (v : Nat) : (s.setFld POS_CTL.ENABLE v).jobRuns = s.jobRuns := by
  have hstate : (s.setFld POS_CTL.ENABLE v).jobState = s.jobState := s.fld_setFld_other _ _ _ _ _ _ _ (by decide)
  unfold State.jobRuns
  rw [hstate]

/-- The unit in OFF: STATE, LOCKED and FAULTY clear. -/
def State.posOff : State := ((s.setFld POS_STAT.STATE 0).setFld POS_STAT.LOCKED 0).setFld POS_STAT.FAULTY 0

theorem State.posOff_posState : s.posOff.posState = 0 := by
  unfold State.posOff State.posState
  rw [State.fld_setFld_disjoint _ _ (by decide), State.fld_setFld_disjoint _ _ (by decide),
    State.fld_setFld_same _ _ _ _ _ (by decide) (by decide)]
  rfl

variable {s}

/-- In OFF, ENABLE starts the unit or leaves it. -/
theorem State.posEnable_off (h : s.posState = 0) : s.posEnable true = (s.setFld POS_CTL.ENABLE 1).posStart ∧
    s.posEnable false = s.setFld POS_CTL.ENABLE 0 := by
  have hoff : ∀ v, (s.setFld POS_CTL.ENABLE v).posState = 0 := fun v => (s.setEnable_posState v).trans h
  exact ⟨if_pos (hoff 1), if_pos (hoff 0)⟩

/-- In another state ENABLE = 1 changes nothing. -/
theorem State.posEnable_on (h : s.posState ≠ 0) : s.posEnable true = s.setFld POS_CTL.ENABLE 1 :=
  if_neg (by rwa [s.setEnable_posState])

/-- Outside OFF, ENABLE = 0 stops the unit; in a job the encoder is declared faulty first (R42). -/
theorem State.posEnable_stop (h : s.posState ≠ 0) : s.posEnable false =
    ((s.setFld POS_CTL.ENABLE 0).when s.jobRuns (·.declareFault 5)).posOff := by
  rw [← s.setEnable_jobRuns 0]
  exact if_neg (by rwa [s.setEnable_posState])

/-- REARM acts in FAULTY alone. -/
theorem State.rearm_elsewhere (h : s.posState ≠ 3) : s.rearm = s := if_pos (.inl h)

/-- The unit in OFF takes no REARM. -/
theorem State.posOff_rearm (c : Bool) : s.posOff.when c (·.rearm) = s.posOff := by
  show (if c then s.posOff.rearm else s.posOff) = s.posOff
  rw [State.rearm_elsewhere (by rw [s.posOff_posState]; decide), ite_self]

end

/-! ### What the start, a fault and REARM set -/

theorem posStat_posReg : posReg (POS_STAT.at 0) := by decide

theorem posFlag_posReg : posReg (POS_FLAG.at 0) := by decide

theorem posStat_ne_posFlag : POS_STAT.at 0 ≠ POS_FLAG.at 0 := by decide

/-- A field of POS_STAT reads the same in states with the same view. -/
theorem State.fld_of_posView {s t : State} {f : Fld} (h : s.posView (f.reg.at 0) = t.posView (f.reg.at 0)) :
    s.fld f = t.fld f := State.fld_of_word (congrArg Prod.fst h)

/-- Estimate and velocity are the same in states with the same view. -/
theorem State.estimate_of_posView {s t : State} {a : Nat} (h : s.posView a = t.posView a) :
    s.pos.est = t.pos.est ∧ s.pos.vel = t.pos.vel := by
  obtain ⟨_, hrest⟩ := Prod.mk.inj h
  obtain ⟨hest, hrest⟩ := Prod.mk.inj hrest
  exact ⟨hest, (Prod.mk.inj hrest).1⟩

/-- An encoder channel is the same in states with the same view. -/
theorem State.enc_of_posView {s t : State} {a : Nat} (h : s.posView a = t.posView a) (n : Nat) : s.enc n = t.enc n := by
  have henc : s.pos.enc = t.pos.enc := congrArg (·.2.2.2) h
  unfold State.enc
  rw [henc]

section
variable (s : State)

/-- The start of the unit, before the decisions restart and the pages are planned. -/
def State.posStarted : State :=
  let t := s.posUpd fun p =>
    { p with est := if s.follows then p.est else (s.enc s.srcCh).ref, vel := 0, k := 0, lockCnt := 0 }
  ((((t.clearEnc 0).clearEnc 1).setFld POS_STAT.STATE 1).setFld POS_STAT.FAULTY 0).setFld POS_SPEED.LINE_RATE 0

theorem State.posStart_eq : s.posStart =
    ((s.posStarted.restartDecisions).jqUpd fun q => { q with prevLast := none }).planPages := rfl

theorem State.posStart_view : s.posStart.posView (POS_STAT.at 0) = s.posStarted.posView (POS_STAT.at 0) := by
  rw [s.posStart_eq, State.planPages_posView _ posStat_posReg posStat_ne_posFlag, State.jqUpd_posView,
    State.restartDecisions_posView]

theorem State.posStarted_posState : s.posStarted.posState = 1 := by
  unfold State.posStarted State.posState
  rw [State.fld_setFld_other _ _ _ _ _ _ _ _ (by decide), State.fld_setFld_disjoint _ _ (by decide),
    State.fld_setFld_same _ _ _ _ _ (by decide) (by decide)]
  rfl

theorem State.posStart_posState : s.posStart.posState = 1 := by
  unfold State.posState
  rw [State.fld_of_posView (f := POS_STAT.STATE) s.posStart_view]
  exact s.posStarted_posState

/-- The estimate starts at the reference of the source, with the velocity 0. -/
theorem State.posStart_estimate (h : s.follows = false) :
    s.posStart.pos.est = (s.enc s.srcCh).ref ∧ s.posStart.pos.vel = 0 := by
  have hest : s.posStarted.pos.est = (s.enc s.srcCh).ref := if_neg (by rw [h]; decide)
  obtain ⟨hest', hvel⟩ := State.estimate_of_posView s.posStart_view
  exact ⟨hest'.trans hest, hvel⟩

/-- What a fault shows in POS_STAT, with the velocity 0 (R43). -/
def State.faultShown (cause : Nat) : State :=
  let t := (s.posUpd fun p => { p with vel := 0 }).updBar fun b => { b with beaconOk := false }
  ((((t.setFld POS_SPEED.LINE_RATE 0).setFld POS_STAT.STATE 3).setFld POS_STAT.LOCKED 0).setFld POS_STAT.FAULTY
    1).setFld POS_STAT.FCAUSE cause

theorem State.declareFault_eq (cause : Nat) : ∃ stamp, s.declareFault cause =
    (((s.faultShown cause).setReg POS_EVTPOS stamp).raiseS POS_FLAG.ENC_FAULT 0 stamp).failNow 9 := ⟨_, rfl⟩

/-- Neither the flag nor the job's failure touches POS_STAT and the estimate. -/
theorem State.declareFault_view (cause : Nat) :
    (s.declareFault cause).posView (POS_STAT.at 0) = (s.faultShown cause).posView (POS_STAT.at 0) := by
  obtain ⟨stamp, h⟩ := s.declareFault_eq cause
  rw [h, State.failNow_posView _ posStat_posReg]
  unfold State.raiseS
  rw [State.raiseAt_posView _ posStat_posReg (r := ⟨POS_FLAG, POS_FLAGEN, 96, 0⟩) _ _ (by decide) (by decide)
    (by decide) posStat_ne_posFlag]
  unfold State.posView
  rw [State.word_setReg_other _ _ _ _ _ _ (by decide), State.setReg_pos]

theorem State.declareFault_flag (cause : Nat) : (s.declareFault cause).on POS_FLAG.ENC_FAULT = true := by
  obtain ⟨stamp, h⟩ := s.declareFault_eq cause
  have hflag := State.failNow_posView (((s.faultShown cause).setReg POS_EVTPOS stamp).raiseS POS_FLAG.ENC_FAULT 0 stamp)
    posFlag_posReg 9
  rw [h, State.on_of_word (f := POS_FLAG.ENC_FAULT) (i := 0) (j := 0) (congrArg Prod.fst hflag), State.on_eq_bit _ rfl]
  exact State.raiseAt_bit _ POS_FLAG.ENC_FAULT 0 0 _ _ ⟨POS_FLAG, POS_FLAGEN, 96, 0⟩ (by decide) (by decide) (by decide)

theorem State.declareFault_posState (cause : Nat) : (s.declareFault cause).posState = 3 := by
  unfold State.posState
  rw [State.fld_of_posView (f := POS_STAT.STATE) (s.declareFault_view cause)]
  unfold State.faultShown
  rw [State.fld_setFld_disjoint _ _ (by decide), State.fld_setFld_disjoint _ _ (by decide),
    State.fld_setFld_disjoint _ _ (by decide), State.fld_setFld_same _ _ _ _ _ (by decide) (by decide)]
  rfl

theorem State.declareFault_faulty (cause : Nat) : (s.declareFault cause).on POS_STAT.FAULTY = true := by
  unfold State.on
  rw [State.fld_of_posView (f := POS_STAT.FAULTY) (s.declareFault_view cause)]
  unfold State.faultShown
  rw [State.fld_setFld_disjoint _ _ (by decide), State.fld_setFld_same _ _ _ _ _ (by decide) (by decide)]
  rfl

theorem State.declareFault_fcause {cause : Nat} (hc : cause < 8) :
    (s.declareFault cause).fld POS_STAT.FCAUSE = cause := by
  rw [State.fld_of_posView (f := POS_STAT.FCAUSE) (s.declareFault_view cause)]
  unfold State.faultShown
  rw [State.fld_setFld_same _ _ _ _ _ (by decide) (by decide)]
  exact Nat.mod_eq_of_lt hc

/-- The estimate stays and the velocity is 0. -/
theorem State.declareFault_estimate (cause : Nat) :
    (s.declareFault cause).pos.est = s.pos.est ∧ (s.declareFault cause).pos.vel = 0 :=
  State.estimate_of_posView (s.declareFault_view cause)

end

/-! ### REARM (R41) -/

/-- A change of a channel that keeps its reference keeps every channel's. -/
theorem State.updEnc_ref (s : State) (k : Nat) {f : EncCh → EncCh} (hf : ∀ e, (f e).ref = e.ref) (n : Nat) :
    ((s.updEnc k f).enc n).ref = (s.enc n).ref := by
  by_cases hn : n = k
  case pos => rw [hn, State.enc_updEnc_same, hf]
  case neg => exact congrArg EncCh.ref (SMap.get_set_other _ _ _ _ hn)

section
variable (s : State)

/-- REARM's turn of the loop: the reference of the source is the estimate, the velocity 0. -/
def State.rearmLoop : State :=
  let t := s.when (!s.follows) fun s => s.updEnc s.srcCh fun e => { e with ref := s.pos.est, held := 0 }
  (t.posUpd fun p => { p with vel := 0, k := 0, lockCnt := 0 }).setFld POS_SPEED.LINE_RATE 0

/-- REARM's turn of the index check: the source's uncertainty and the channels' index references cleared. -/
def State.rearmIndex : State :=
  let t := s.when (!s.follows) fun s =>
    ((s.setFld POS_ENCSTAT.QI_LEVEL 0 s.srcCh).setFld POS_ENCSTAT.UNCERT 0 s.srcCh).setFld POS_ENCSTAT.CORR_PEND 0
      s.srcCh
  (t.updEnc 0 fun e => { e with idxRef := false }).updEnc 1 fun e => { e with idxRef := false }

/-- REARM's turn of POS_STAT: ACQUIRE, no fault. -/
def State.rearmShown : State :=
  ((s.setFld POS_STAT.STATE 1).setFld POS_STAT.FAULTY 0).setFld POS_STAT.FCAUSE 0

theorem State.rearmShown_enc (n : Nat) : s.rearmShown.enc n = s.enc n := rfl

theorem State.rearmIndex_ref (n : Nat) : (s.rearmIndex.enc n).ref = (s.enc n).ref := by
  unfold State.rearmIndex
  rw [State.updEnc_ref, State.updEnc_ref]
  · exact State.when_keeps (fun t => (t.enc n).ref = (s.enc n).ref) _ _ s (fun _ ht => ht) rfl
  · exact fun _ => rfl
  · exact fun _ => rfl

theorem State.rearmIndex_estimate : s.rearmIndex.pos.est = s.pos.est ∧ s.rearmIndex.pos.vel = s.pos.vel :=
  State.when_keeps (fun t => t.pos.est = s.pos.est ∧ t.pos.vel = s.pos.vel) _ _ s (fun _ ht => ht) ⟨rfl, rfl⟩

variable {s}

/-- REARM that acts on a chip with its own source. -/
theorem State.rearm_eq (h : s.posState = 3) (hw : s.wireHeld = false) (hf : s.follows = false) :
    s.rearm = s.rearmLoop.rearmIndex.rearmShown.restartDecisions.planPages :=
  if_neg (by simp [h, hw, hf])

variable (h : s.posState = 3) (hw : s.wireHeld = false) (hf : s.follows = false)

include hf in
theorem State.rearmLoop_ref : (s.rearmLoop.enc s.srcCh).ref = s.pos.est := by
  have hturn : s.rearmLoop.enc s.srcCh = { s.enc s.srcCh with ref := s.pos.est, held := 0 } := by
    unfold State.rearmLoop
    rw [hf]
    exact s.enc_updEnc_same s.srcCh fun e => { e with ref := s.pos.est, held := 0 }
  rw [hturn]

theorem State.rearmLoop_estimate : s.rearmLoop.pos.est = s.pos.est ∧ s.rearmLoop.pos.vel = 0 :=
  ⟨State.when_keeps (fun t => t.pos.est = s.pos.est) _ _ s (fun _ ht => ht) rfl, rfl⟩

include h hw hf

theorem State.rearm_view :
    s.rearm.posView (POS_STAT.at 0) = s.rearmLoop.rearmIndex.rearmShown.posView (POS_STAT.at 0) := by
  rw [State.rearm_eq h hw hf, State.planPages_posView _ posStat_posReg posStat_ne_posFlag,
    State.restartDecisions_posView]

theorem State.rearm_posState : s.rearm.posState = 1 := by
  unfold State.posState
  rw [State.fld_of_posView (f := POS_STAT.STATE) (State.rearm_view h hw hf)]
  unfold State.rearmShown
  rw [State.fld_setFld_disjoint _ _ (by decide), State.fld_setFld_disjoint _ _ (by decide),
    State.fld_setFld_same _ _ _ _ _ (by decide) (by decide)]
  rfl

theorem State.rearm_faulty : s.rearm.fld POS_STAT.FAULTY = 0 := by
  rw [State.fld_of_posView (f := POS_STAT.FAULTY) (State.rearm_view h hw hf)]
  unfold State.rearmShown
  rw [State.fld_setFld_disjoint _ _ (by decide), State.fld_setFld_same _ _ _ _ _ (by decide) (by decide)]
  rfl

theorem State.rearm_fcause : s.rearm.fld POS_STAT.FCAUSE = 0 := by
  rw [State.fld_of_posView (f := POS_STAT.FCAUSE) (State.rearm_view h hw hf)]
  unfold State.rearmShown
  rw [State.fld_setFld_same _ _ _ _ _ (by decide) (by decide)]
  rfl

theorem State.rearm_estimate : s.rearm.pos.est = s.pos.est ∧ s.rearm.pos.vel = 0 := by
  obtain ⟨hest, hvel⟩ := State.estimate_of_posView (State.rearm_view h hw hf)
  obtain ⟨hest', hvel'⟩ := s.rearmLoop.rearmIndex_estimate
  obtain ⟨hest'', hvel''⟩ := s.rearmLoop_estimate
  exact ⟨hest.trans (hest'.trans hest''), hvel.trans (hvel'.trans hvel'')⟩

theorem State.rearm_ref : (s.rearm.enc s.srcCh).ref = s.pos.est := by
  rw [State.enc_of_posView (State.rearm_view h hw hf), State.rearmShown_enc, State.rearmIndex_ref,
    State.rearmLoop_ref hf]

end

/-! ### The statement -/

/-- Storing POS_CTL tells neither the unit's state nor the job's. -/
theorem State.posCtlStored_states (s : State) (w : Word) :
    (s.posCtlStored w).posState = s.posState ∧ (s.posCtlStored w).jobRuns = s.jobRuns := by
  have hword : ∀ a, a ≠ POS_CTL.at 0 → (s.posCtlStored w).word a = s.word a := fun a ha =>
    ((s.store POS_CTL 0 0 w).word_setFld_other _ _ _ _ _ ha).trans (s.word_setReg_other _ _ _ _ _ ha)
  have hjob : (s.posCtlStored w).jobState = s.jobState :=
    State.fld_of_word (f := SYS_JOBQ_STAT.STATE) (hword _ (by decide))
  refine ⟨State.fld_of_word (f := POS_STAT.STATE) (hword _ (by decide)), ?_⟩
  unfold State.jobRuns
  rw [hjob]

/-- STATE 1, 2 or 3 is a job in progress. -/
theorem State.jobRuns_of_mem {s : State} (h : s.fld SYS_JOBQ_STAT.STATE ∈ [1, 2, 3]) : s.jobRuns = true := by
  have hstate : s.jobState ∈ [1, 2, 3] := h
  simpa [State.jobRuns, or_assoc] using hstate

/-- ENABLE cleared in a job: the encoder is declared faulty, then the unit enters OFF, where REARM does nothing. -/
theorem exec_posEnable_inJob {s : State} {o : Sender} {w : Word} (h : s.reaches o POS_CTL = true)
    (hu : s.unguarded o POS_CTL 0 w = true) (hen : POS_CTL.ENABLE.ext w = 0) (hs : s.posState ≠ 0)
    (hj : s.jobRuns = true) : exec (.posEnable o w) s =
      .next (s.close (((s.posCtlStored w).setFld POS_CTL.ENABLE 0).declareFault 5).posOff) := by
  obtain ⟨hstate, hruns⟩ := s.posCtlStored_states w
  have hstop := State.posEnable_stop (s := s.posCtlStored w) (by rwa [hstate])
  rw [hruns, hj] at hstop
  rw [exec_posEnable h hu, hen]
  show Host.Outcome.next (s.close (((s.posCtlStored w).posEnable false).when _ (·.rearm))) = _
  rw [hstop, State.posOff_rearm]
  rfl

/-- Settles O25: a write of POS_CTL is ENABLE's effect and then REARM's; what they and a fault set is read off POS_STAT
and the estimate, which neither the failing of a job nor the planning of its pages touches. -/
theorem positionUnitIsEnabledAndRearmed : Obligations.PositionUnitIsEnabledAndRearmed := by
  refine ⟨fun s o w h hu hw => ?_, fun s o w h hu => exec_rearm h hu, fun s => State.posEnable_off,
    fun s => State.posEnable_on, fun s hs hj => ?_, fun s hf _ => ⟨s.posStart_posState, s.posStart_estimate hf⟩,
    fun s hs hw hf => ?_, fun s c => ?_, fun s o w h hu hen hs hj => ?_, fun s => ?_⟩
  · have hrearm : wbit POS_CTL.REARM w = false := by
      unfold wbit
      rw [hw]
      rfl
    refine (exec_posEnable h hu).trans ?_
    rw [hrearm]
    rfl
  · rw [State.posEnable_stop hs, hj]
    rfl
  · obtain ⟨hest, hvel⟩ := State.rearm_estimate hs hw hf
    exact ⟨State.rearm_posState hs hw hf, hest, hvel, State.rearm_faulty hs hw hf, State.rearm_fcause hs hw hf,
      State.rearm_ref hs hw hf⟩
  · obtain ⟨hest, hvel⟩ := s.declareFault_estimate c
    exact ⟨hest, hvel, s.declareFault_posState c, s.declareFault_flag c⟩
  · exact exec_posEnable_inJob h hu hen hs (State.jobRuns_of_mem hj)
  · exact ⟨s.declareFault_posState 5, s.declareFault_faulty 5, s.declareFault_fcause (by decide), s.declareFault_flag 5⟩

end Sys2Proof.Machine

/-! Proofs about the codec's context transfers (R66) and its encode streams (R58, R68, R69, Table 03-12). -/

namespace Sys2Proof.Machine

/-! ### The start of a context transfer (R66) -/

/-- A transfer that CODEC_CTXXFER asks for cannot start: one is in progress, the stream to load has a block or lines
queued, or the record would end beyond the Landing. -/
def State.xferBarred (s : State) (load : Bool) (i : Nat) : Bool :=
  s.codec.xfer.isSome || (load && s.streamBusy i) ||
    (s.on CODEC_CTXADDR.SPACE && decide (262144 - 1088 < s.fld CODEC_CTXADDR.ADDR * 16))

/-- CODEC_CTXXFER with the transfer's kind and stream written. -/
def State.xferAsked (s : State) (load : Bool) (i : Nat) : State :=
  (s.setFld CODEC_CTXXFER.DIR (bit load)).setFld CODEC_CTXXFER.STREAM i

section
variable (s : State) (load : Bool) (i : Nat)

/-- What CODEC_CTXXFER holds does not tell where the record stands. -/
theorem State.xferAsked_fld {f : Fld} (h : f.reg.at 0 ≠ CODEC_CTXXFER.at 0) :
    (s.xferAsked load i).fld f = s.fld f :=
  (State.fld_setFld_other _ _ _ _ _ _ _ _ h).trans (s.fld_setFld_other _ _ _ _ _ _ _ h)

/-- The place of the record, as SPACE and ADDR. -/
theorem State.xferAsked_place : (s.xferAsked load i).on CODEC_CTXADDR.SPACE = s.on CODEC_CTXADDR.SPACE ∧
    (s.xferAsked load i).fld CODEC_CTXADDR.ADDR = s.fld CODEC_CTXADDR.ADDR :=
  ⟨congrArg (· != 0) (s.xferAsked_fld load i (by decide)), s.xferAsked_fld load i (by decide)⟩

/-- Nor does it bar the transfer. -/
theorem State.xferAsked_barred : (s.xferAsked load i).xferBarred load i = s.xferBarred load i := by
  obtain ⟨hspace, haddr⟩ := s.xferAsked_place load i
  unfold State.xferBarred
  rw [hspace, haddr]
  rfl

/-- A barred transfer sets CTX_BUSY. -/
theorem State.ctxXferGo_barred (h : s.xferBarred load i = true) :
    s.ctxXferGo load i = (s.xferAsked load i).raise CODEC_FLAG.CTX_BUSY :=
  if_pos ((s.xferAsked_barred load i).trans h)

/-- Any other transfer starts, with the stream's record as a save finds it. -/
theorem State.ctxXferGo_starts (h : s.xferBarred load i = false) :
    s.ctxXferGo load i = ((s.xferAsked load i).codecUpd fun k => { k with xfer := some {
      load := load, stream := i, landing := s.on CODEC_CTXADDR.SPACE, addr := s.fld CODEC_CTXADDR.ADDR
      record := if load then [] else (s.codecCtx i).bytes } }).setFld CODEC_STAT.XFER_BUSY 1 := by
  have hfree : ¬ (s.xferAsked load i).xferBarred load i = true := by simp [s.xferAsked_barred load i, h]
  obtain ⟨hspace, haddr⟩ := s.xferAsked_place load i
  rw [← hspace, ← haddr]
  exact if_neg hfree

end

section
variable {s : State} {o : Sender} (w : Word) (h : s.reaches o CODEC_CTXXFER = true)
include h

/-- CTX_XFER_GO is a write of CODEC_CTXXFER with GO 1. -/
theorem exec_ctxXferGo :
    exec (.ctxXferGo o w) s = .next (s.close (s.ctxxferWrite (putFields w [(CODEC_CTXXFER.GO, 1)]))) :=
  congrArg s.finish (State.regCmd_reaches _ h (by decide))

/-- While the codec is held the fields are stored. -/
theorem exec_ctxXferGo_held (hb : s.blkHeld 49 = true) : exec (.ctxXferGo o w) s =
    .next (s.close (s.store CODEC_CTXXFER 0 0 (putFields w [(CODEC_CTXXFER.GO, 1)]))) := by
  have hstays : ¬ (wbit CODEC_CTXXFER.GO (putFields w [(CODEC_CTXXFER.GO, 1)]) && !s.blkHeld 49) = true := by simp [hb]
  rw [exec_ctxXferGo w h]
  unfold State.ctxxferWrite
  rw [if_neg hstays]

/-- While the codec runs the transfer of DIR and STREAM is asked for. -/
theorem exec_ctxXferGo_running (hb : s.blkHeld 49 = false) : exec (.ctxXferGo o w) s =
    .next (s.close (s.ctxXferGo (CODEC_CTXXFER.DIR.ext w == 1) (CODEC_CTXXFER.STREAM.ext w))) := by
  have hgo : wbit CODEC_CTXXFER.GO (CODEC_CTXXFER.GO.ins w 1) = true :=
    beq_iff_eq.2 (Fld.ext_ins_same _ _ _ (by decide) (by decide))
  have hdir : CODEC_CTXXFER.DIR.ext (CODEC_CTXXFER.GO.ins w 1) = CODEC_CTXXFER.DIR.ext w :=
    Fld.ext_ins_other _ _ _ _ (by decide) (by decide) (by decide) (by decide)
  have hstream : CODEC_CTXXFER.STREAM.ext (CODEC_CTXXFER.GO.ins w 1) = CODEC_CTXXFER.STREAM.ext w :=
    Fld.ext_ins_other _ _ _ _ (by decide) (by decide) (by decide) (by decide)
  have hruns : (wbit CODEC_CTXXFER.GO (CODEC_CTXXFER.GO.ins w 1) && !s.blkHeld 49) = true := by rw [hgo, hb]; rfl
  rw [exec_ctxXferGo w h]
  show Host.Outcome.next (s.close (s.ctxxferWrite (CODEC_CTXXFER.GO.ins w 1))) = _
  unfold State.ctxxferWrite
  rw [if_pos hruns, hstream]
  unfold wbit
  rw [hdir]

end

/-! ### The end of a context transfer (R66) -/

/-- CTX_XFER_DONE comes to `State.ctxXferDone`. -/
theorem exec_ctxXferDone {s : State} (ha : s.awake = true) :
    exec .ctxXferDone s = .next (s.close s.ctxXferDone) :=
  congrArg s.finish (s.live_awake _ ha)

/-- No transfer is in progress any more. -/
def State.xferEnded (s : State) : State :=
  (s.codecUpd fun k => { k with xfer := none }).setFld CODEC_STAT.XFER_BUSY 0

theorem State.ctxXferDone_none {s : State} (h : s.codec.xfer = none) : s.ctxXferDone = s := by
  unfold State.ctxXferDone
  rw [h]

section
variable {s : State} {x : Xfer} (hx : s.codec.xfer = some x)
include hx

/-- A load from the Landing. -/
theorem State.ctxXferDone_loadLanding (hl : x.load = true) (hs : x.landing = true) : s.ctxXferDone =
    s.xferEnded.setCodecCtx x.stream (Ctx.ofBytes (s.xferEnded.landingBytes (x.addr * 16) 1088)) := by
  unfold State.ctxXferDone
  simp only [hx, hl, hs]
  rfl

/-- A load from DRAM, which may answer poisoned (Table 13-3). -/
theorem State.ctxXferDone_loadDram (hl : x.load = true) (hs : x.landing = false) : s.ctxXferDone =
    match (s.xferEnded.dramRead 5 (x.addr * 16) 1088).2 with
    | some bs => (s.xferEnded.dramRead 5 (x.addr * 16) 1088).1.setCodecCtx x.stream (Ctx.ofBytes bs)
    | none => (s.xferEnded.dramRead 5 (x.addr * 16) 1088).1.raise CODEC_FLAG.CTX_ECC := by
  unfold State.ctxXferDone
  simp only [hx, hl, hs]
  rfl

/-- A save to the Landing. -/
theorem State.ctxXferDone_saveLanding (hl : x.load = false) (hs : x.landing = true) :
    s.ctxXferDone = s.xferEnded.setLanding (x.addr * 16) x.record := by
  unfold State.ctxXferDone
  simp only [hx, hl, hs]
  rfl

/-- A save to DRAM. -/
theorem State.ctxXferDone_saveDram (hl : x.load = false) (hs : x.landing = false) :
    s.ctxXferDone = (s.xferEnded.dramWrite 5 (x.addr * 16) x.record).1 := by
  unfold State.ctxXferDone
  simp only [hx, hl, hs]
  rfl

end

/-- Settles O28: a start is barred or not (`State.xferBarred`), and the registers it is judged by are not those it
writes; an end moves the record by its direction and its place (`State.ctxXferDone_*`). -/
theorem contextTransfersRun : Obligations.ContextTransfersRun := by
  refine ⟨?barred, ?starts, fun s o w h hb => exec_ctxXferGo_held w h hb, ?loadLanding, ?loadDram, ?saveLanding,
    ?saveDram, ?idle⟩
  case barred =>
    intro s o w h hb hbar i load u
    rw [exec_ctxXferGo_running w h hb, State.ctxXferGo_barred s _ _ hbar]
    rfl
  case starts =>
    intro s o w h hb hbar i load u
    rw [exec_ctxXferGo_running w h hb, State.ctxXferGo_starts s _ _ hbar]
    rfl
  case loadLanding =>
    intro s x ha hx hl hs u
    rw [exec_ctxXferDone ha, State.ctxXferDone_loadLanding hx hl hs]
    rfl
  case loadDram =>
    intro s x ha hx hl hs u r
    rw [exec_ctxXferDone ha, State.ctxXferDone_loadDram hx hl hs]
    rfl
  case saveLanding =>
    intro s x ha hx hl hs u
    rw [exec_ctxXferDone ha, State.ctxXferDone_saveLanding hx hl hs]
    rfl
  case saveDram =>
    intro s x ha hx hl hs u
    rw [exec_ctxXferDone ha, State.ctxXferDone_saveDram hx hl hs]
    rfl
  case idle =>
    intro s ha hx
    rw [exec_ctxXferDone ha, State.ctxXferDone_none hx]

/-! ### The configuration of an encode stream (R69, Table 03-12) -/

/-- What a write of CODEC_ENCCFG that is not refused stores: the four fields, and an empty pool with ENABLE 1. -/
def State.encCfgStored (s : State) (e : Nat) (w : Word) : State :=
  ((((s.setFld CODEC_ENCCFG.ENABLE (CODEC_ENCCFG.ENABLE.ext w) e).setFld CODEC_ENCCFG.RATIO
    (CODEC_ENCCFG.RATIO.ext w) e).setFld CODEC_ENCCFG.TAG (CODEC_ENCCFG.TAG.ext w) e).setFld CODEC_ENCCFG.SRC
    (CODEC_ENCCFG.SRC.ext w) e).when (CODEC_ENCCFG.ENABLE.ext w == 1) (·.setFld CODEC_ENCSTAT.POOL_USED 0 e)

section
variable (s : State) (e : Nat) (w : Word)

theorem State.encCfgWrite_refused (h : CODEC_ENCCFG.RATIO.ext w = 0) :
    s.encCfgWrite e w = s.raise CODEC_FLAG.ENC_REJ := if_pos h

theorem State.encCfgWrite_taken (h : CODEC_ENCCFG.RATIO.ext w ≠ 0) : s.encCfgWrite e w =
    (s.encCfgStored e w).when (CODEC_ENCCFG.ENABLE.ext w == 1 || CODEC_ENCCFG.BAND_NEXT.ext w == 1) (·.bandNext e) :=
  if_neg h

/-- BAND_NEXT is none of the fields stored. -/
theorem State.encCfgStored_congr {v : Word} (h : ∀ f ∈ [CODEC_ENCCFG.ENABLE, CODEC_ENCCFG.RATIO, CODEC_ENCCFG.TAG,
    CODEC_ENCCFG.SRC], f.ext v = f.ext w) : s.encCfgStored e v = s.encCfgStored e w := by
  unfold State.encCfgStored
  rw [h CODEC_ENCCFG.ENABLE (by simp), h CODEC_ENCCFG.RATIO (by simp), h CODEC_ENCCFG.TAG (by simp),
    h CODEC_ENCCFG.SRC (by simp)]

end

/-- Every element of CODEC_ENCCFG is a register without guarded fields. -/
theorem encCfg_plainAt : ∀ e : Fin 8, plainAt CODEC_ENCCFG e 0 = true := by decide

/-- Writing BAND_NEXT leaves the other fields of CODEC_ENCCFG. -/
theorem ext_ins_bandNext (w : Word) : ∀ f ∈ [CODEC_ENCCFG.ENABLE, CODEC_ENCCFG.RATIO, CODEC_ENCCFG.TAG,
    CODEC_ENCCFG.SRC], f.ext (CODEC_ENCCFG.BAND_NEXT.ins w 1) = f.ext w := by
  have happart : ∀ f ∈ [CODEC_ENCCFG.ENABLE, CODEC_ENCCFG.RATIO, CODEC_ENCCFG.TAG, CODEC_ENCCFG.SRC],
      f.hi < 40 ∧ (CODEC_ENCCFG.BAND_NEXT.hi < f.lo ∨ f.hi < CODEC_ENCCFG.BAND_NEXT.lo) := by decide
  intro f hf
  obtain ⟨hhi, hdisjoint⟩ := happart f hf
  exact Fld.ext_ins_other _ _ _ _ (by decide) (by decide) hhi hdisjoint

section
variable {s : State} {o : Sender} {e : Fin 8} (w : Word) (h : s.reaches o CODEC_ENCCFG e = true)
include h

/-- ENC_CFG_WRITE is a write of CODEC_ENCCFG. -/
theorem exec_encCfgWrite : exec (.encCfgWrite o e w) s = .next (s.close (s.encCfgWrite e w)) :=
  congrArg s.finish (State.regCmd_reaches w h (encCfg_plainAt e))

/-- BAND_NEXT is a write of CODEC_ENCCFG with BAND_NEXT 1. -/
theorem exec_bandNext :
    exec (.bandNext o e w) s = .next (s.close (s.encCfgWrite e (CODEC_ENCCFG.BAND_NEXT.ins w 1))) :=
  congrArg s.finish (State.regCmd_reaches _ h (encCfg_plainAt e))

theorem exec_bandNext_refused (hr : CODEC_ENCCFG.RATIO.ext w = 0) :
    exec (.bandNext o e w) s = .next (s.close (s.raise CODEC_FLAG.ENC_REJ)) := by
  have hratio := ext_ins_bandNext w CODEC_ENCCFG.RATIO (by simp)
  rw [exec_bandNext w h, State.encCfgWrite_refused _ _ _ (hratio.trans hr)]

/-- BAND_NEXT opens a band whether ENABLE is written 1 or not. -/
theorem exec_bandNext_taken (hr : CODEC_ENCCFG.RATIO.ext w ≠ 0) :
    exec (.bandNext o e w) s = .next (s.close ((s.encCfgStored e w).bandNext e)) := by
  have hratio := ext_ins_bandNext w CODEC_ENCCFG.RATIO (by simp)
  have hnext : CODEC_ENCCFG.BAND_NEXT.ext (CODEC_ENCCFG.BAND_NEXT.ins w 1) = 1 :=
    Fld.ext_ins_same _ _ _ (by decide) (by decide)
  rw [exec_bandNext w h, State.encCfgWrite_taken _ _ _ (hratio ▸ hr), hnext, beq_self_eq_true, Bool.or_true,
    s.encCfgStored_congr e w (ext_ins_bandNext w)]
  rfl

end

/-! ### The blocks of an encode stream (R58, R68) -/

/-- ENC_BLOCK comes to `State.encBlock`. -/
theorem exec_encBlock {s : State} (e : Fin 8) (ha : s.awake = true) :
    exec (.encBlock e) s = .next (s.close (s.encBlock e)) :=
  congrArg s.finish (s.live_awake _ ha)

/-- An encode stream has no block to code: the codec is down, the stream is off, or fewer than eight lines came. -/
def State.encIdle (s : State) (e : Nat) : Bool :=
  !s.codecUp || !s.on CODEC_ENCCFG.ENABLE e || decide ((s.encStream e).lines.length < 8)

theorem State.encBlock_idle {s : State} {e : Nat} (h : s.encIdle e = true) : s.encBlock e = s := if_pos h

theorem State.encIdle_eq_false {s : State} {e : Nat} (hup : s.codecUp = true) (hen : s.on CODEC_ENCCFG.ENABLE e = true)
    (hlines : 8 ≤ (s.encStream e).lines.length) : s.encIdle e = false := by
  unfold State.encIdle
  rw [hup, hen, decide_eq_false (by omega)]
  rfl

/-- Settles O29: a write of CODEC_ENCCFG is refused or taken (`State.encCfgWrite_*`), BAND_NEXT being one that leaves
the other fields as written (`ext_ins_bandNext`); ENC_BLOCK codes a block unless the stream is idle (`State.encIdle`). -/
theorem encodeStreamsAreConfiguredAndFilled : Obligations.EncodeStreamsAreConfiguredAndFilled := by
  refine ⟨?refused, ?taken, fun s o e w h hr => exec_bandNext_refused w h hr,
    fun s o e w h hr => exec_bandNext_taken w h hr, ?idle, ?codes⟩
  case refused =>
    intro s o e w h hr
    rw [exec_encCfgWrite w h, State.encCfgWrite_refused _ _ _ hr]
  case taken =>
    intro s o e w h hr u
    rw [exec_encCfgWrite w h, State.encCfgWrite_taken _ _ _ hr]
    rfl
  case idle =>
    intro s e ha hidle
    rw [exec_encBlock e ha, State.encBlock_idle hidle]
  case codes =>
    intro s e ha hup hen hlines
    have hready : ¬ s.encIdle e = true := by simp [State.encIdle_eq_false hup hen hlines]
    exact (exec_encBlock e ha).trans (congrArg (fun t => Host.Outcome.next (s.close t)) (if_neg hready))

end Sys2Proof.Machine

/-! Proofs about the Skidder's descriptor rings (R74 to R78, Table 04-4). -/

namespace Sys2Proof.Machine

/-! ### When a descriptor is read (R75) -/

section
variable {s : State} {st : Fin 56}

/-- DESCRIPTOR_READ comes to `State.descRead`. -/
theorem exec_descriptorRead (ha : s.awake = true) :
    exec (.descriptorRead st) s = .next (s.close (s.descRead st)) := congrArg s.finish (s.live_awake _ ha)

/-- DESCRIPTOR_POLL comes to `State.descRead`. -/
theorem exec_descriptorPoll (ha : s.awake = true) :
    exec (.descriptorPoll st) s = .next (s.close (s.descRead st)) := congrArg s.finish (s.live_awake _ ha)

end

section
variable {s : State} {st : Nat}

/-- A running stream with a page that awaits descriptors reads the next one. -/
theorem State.descRead_awaited {pg : JPage} (hup : s.skidUp = true) (hen : s.on SKID_CTL.ENABLE = true)
    (hrun : (s.stream st).stopped = false) (hpg : s.descPage st = some pg) :
    s.descRead st = (s.readDesc st pg).1.skidSync st := by
  have hreads : ¬ (!s.skidUp || !s.on SKID_CTL.ENABLE || (s.stream st).stopped) = true := by simp [hup, hen, hrun]
  unfold State.descRead
  rw [if_neg hreads, hpg]

/-- A stopped stream, a Skidder down or disabled, and a stream whose pages await nothing read none. -/
theorem State.descRead_idle (h : (s.stream st).stopped = true ∨ s.skidUp = false ∨ s.on SKID_CTL.ENABLE = false ∨
    s.descPage st = none) : s.descRead st = s := by
  unfold State.descRead
  rcases h with hstop | hdown | hoff | hnone
  · exact if_pos (by simp [hstop])
  · exact if_pos (by simp [hdown])
  · exact if_pos (by simp [hoff])
  · rw [hnone]
    exact ite_self s

end

/-! ### What a descriptor read finds (R75 to R77, Table 04-4) -/

/-- The read of a stream's next descriptor for a page: sixteen bytes of the page's ring. -/
def State.descFetch (s : State) (st : Nat) (pg : JPage) : State × Option (List Byte) :=
  s.dramRead 0 (dringAddr (copyReg (s.copyOf pg) SKID_DRING st) (s.fld SKID_DHEAD.IDX st)) 16

/-- The two words of a descriptor as its bytes give them. -/
def RawDesc.ofBytes (bs : List Byte) : RawDesc := { w0 := ofBytesBE (bs.take 8), w1 := ofBytesBE (bs.drop 8) }

/-- The record of a descriptor just read for a page. -/
def State.descEntry (s : State) (st : Nat) (pg : JPage) (d : RawDesc) : SkDesc :=
  d.entry (s.fld SKID_DHEAD.IDX st) pg.ser (copyReg (s.copyOf pg) SKID_DRING st)

/-- The state in which an owned descriptor of a page is judged: it is read, and the head stands behind it. -/
def State.descPassed (s : State) (st : Nat) (pg : JPage) : State :=
  (s.descFetch st pg).1.setFld SKID_DHEAD.IDX (s.fld SKID_DHEAD.IDX st + 1) st

/-- Outside a page a stream skips a descriptor that is no FIRST one of the page's tag (R76). -/
def RawDesc.strays (d : RawDesc) (x : Stream) (pg : JPage) : Bool :=
  !x.inPage && !(d.flag 61 && d.tag == pg.d.tag)

/-- WHY of the descriptor just read for a page. -/
def State.descWhyOf (s : State) (st : Nat) (pg : JPage) (d : RawDesc) : Nat :=
  descWhy d ((s.descFetch st pg).1.stream st) pg (SKID_RING.RING_LOG2.ext (copyReg (s.copyOf pg) SKID_RING st))

/-- A stray descriptor: written back as stale. -/
def State.descStale (s : State) (st : Nat) (pg : JPage) (d : RawDesc) : State × ReadRes :=
  (((s.descPassed st pg).writeBack (s.descEntry st pg d) 1).raise SKID_FLAG.STALE, .stale)

/-- A descriptor that fails a check: written back at once, the first one recorded, the stream stopped (R77). -/
def State.descBad (s : State) (st : Nat) (pg : JPage) (d : RawDesc) (why : Nat) : State × ReadRes :=
  let t := (s.descPassed st pg).writeBack (s.descEntry st pg d) 3
  let u := t.when (!t.on SKID_FLAG.DESC_BAD) fun t => ((t.setFld SKID_DBADINFO.STREAM st).setFld SKID_DBADINFO.DIDX
    (s.fld SKID_DHEAD.IDX st)).setFld SKID_DBADINFO.WHY why
  ((u.raise SKID_FLAG.DESC_BAD).updStream st fun x => { x with stopped := true }, .bad)

/-- A descriptor that passes the checks: taken for its page, with the block the next one begins with. -/
def State.descTaken (s : State) (st : Nat) (pg : JPage) (d : RawDesc) : State × ReadRes :=
  ((s.descPassed st pg).updStream st fun x =>
    { x with
      descs := x.descs ++ [s.descEntry st pg d]
      inPage := !d.flag 60
      pageLo := if d.flag 60 then pg.ser + 1 else pg.ser
      expBlk := if pg.rev then d.blk else d.blk + d.nblk }, .good)

section
variable {s : State} {st : Nat} {pg : JPage}

/-- DRAM answers poisoned. -/
theorem State.readDesc_ecc (h : (s.descFetch st pg).2 = none) : s.readDesc st pg =
    (((s.descFetch st pg).1.skidFault SKID_FLAG.DESC_ECC 4 st (((s.descFetch st pg).1.stream st).awaits pg)
      (s.descFetch st pg).1.posOut).failFor pg 12 (s.descFetch st pg).1.nextLine, .ecc) := by
  unfold State.descFetch at h ⊢
  unfold State.readDesc
  simp only [h]

section
variable {bs : List Byte} (h : (s.descFetch st pg).2 = some bs)
include h

/-- A descriptor that DRAM delivers is unowned, stray, bad or good. -/
theorem State.readDesc_delivered : s.readDesc st pg =
    let d := RawDesc.ofBytes bs
    let why := s.descWhyOf st pg d
    if !d.flag 63 then ((s.descFetch st pg).1, .unowned)
    else if d.strays ((s.descFetch st pg).1.stream st) pg then s.descStale st pg d
    else if why ≠ 0 then s.descBad st pg d why
    else s.descTaken st pg d := by
  unfold State.descFetch at h
  unfold State.readDesc
  simp only [h]
  rfl

theorem State.readDesc_unowned (hown : (RawDesc.ofBytes bs).flag 63 = false) :
    s.readDesc st pg = ((s.descFetch st pg).1, .unowned) :=
  (State.readDesc_delivered h).trans (if_pos (congrArg not hown))

variable (hown : (RawDesc.ofBytes bs).flag 63 = true)
include hown

/-- Outside its page an owned descriptor that does not begin it is stale. -/
theorem State.readDesc_stale (hout : ((s.descFetch st pg).1.stream st).inPage = false)
    (hother : ((RawDesc.ofBytes bs).flag 61 && (RawDesc.ofBytes bs).tag == pg.d.tag) = false) :
    s.readDesc st pg = s.descStale st pg (.ofBytes bs) := by
  have hstray : (RawDesc.ofBytes bs).strays ((s.descFetch st pg).1.stream st) pg = true := by
    unfold RawDesc.strays
    rw [hout, hother]
    rfl
  rw [State.readDesc_delivered h, if_neg (by simp [hown]), if_pos hstray]

variable (hmine : (((s.descFetch st pg).1.stream st).inPage ||
  ((RawDesc.ofBytes bs).flag 61 && (RawDesc.ofBytes bs).tag == pg.d.tag)) = true)
include hmine

/-- An owned descriptor of the page is judged by its checks. -/
theorem State.readDesc_checked : s.readDesc st pg =
    if s.descWhyOf st pg (.ofBytes bs) ≠ 0 then s.descBad st pg (.ofBytes bs) (s.descWhyOf st pg (.ofBytes bs))
    else s.descTaken st pg (.ofBytes bs) := by
  have hstays : ¬ (RawDesc.ofBytes bs).strays ((s.descFetch st pg).1.stream st) pg = true := by
    unfold RawDesc.strays
    rw [← Bool.not_or, hmine]
    decide
  rw [State.readDesc_delivered h, if_neg (by simp [hown]), if_neg hstays]

end

end

/-! ### The write-back (R74) -/

/-- DESC_WRITEBACK comes to `State.descWriteback`. -/
theorem exec_descWriteback {s : State} {st : Fin 56} (ha : s.awake = true) :
    exec (.descWriteback st) s = .next (s.close (s.descWriteback st)) := congrArg s.finish (s.live_awake _ ha)

section
variable {s : State} {st : Nat}

/-- The oldest descriptor that is ready is written back and dropped. -/
theorem State.descWriteback_ready {d : SkDesc} (h : (s.stream st).descs.find? (s.wbReady st) = some d) :
    s.descWriteback st = (s.writeBack d 0).updStream st fun x => { x with descs := x.descs.erase d } := by
  unfold State.descWriteback
  rw [h]

/-- With none ready nothing is written back. -/
theorem State.descWriteback_none (h : (s.stream st).descs.all (fun d => !s.wbReady st d) = true) :
    s.descWriteback st = s := by
  have hnone : (s.stream st).descs.find? (s.wbReady st) = none := by simpa using h
  unfold State.descWriteback
  rw [hnone]

end

/-- Settles O30: a descriptor is read where one is awaited (`State.descRead_*`); what DRAM delivers is
unowned, stray, bad or good (`State.readDesc_delivered`); a write-back takes the oldest descriptor that is ready. -/
theorem skidderReadsDescriptors : Obligations.SkidderReadsDescriptors := by
  refine ⟨?read, ?poll, ?readIdle, ?pollIdle, fun s st pg h => State.readDesc_ecc h,
    fun s st pg bs h hown => State.readDesc_unowned h hown,
    fun s st pg bs h hown hout hother => State.readDesc_stale h hown hout hother,
    fun s st pg bs h hown hmine hwhy => (State.readDesc_checked h hown hmine).trans (if_pos hwhy),
    fun s st pg bs h hown hmine hwhy => (State.readDesc_checked h hown hmine).trans (if_neg (not_not.2 hwhy)),
    ?ready, ?noneReady, fun s d st => rfl⟩
  case read =>
    intro s st pg ha hup hen hrun hpg
    rw [exec_descriptorRead ha, State.descRead_awaited hup hen hrun hpg]
  case poll =>
    intro s st pg ha hup hen hrun hpg
    rw [exec_descriptorPoll ha, State.descRead_awaited hup hen hrun hpg]
  case readIdle =>
    intro s st ha hidle
    rw [exec_descriptorRead ha, State.descRead_idle hidle]
  case pollIdle =>
    intro s st ha hidle
    rw [exec_descriptorPoll ha, State.descRead_idle hidle]
  case ready =>
    intro s st d ha hd
    rw [exec_descWriteback ha, State.descWriteback_ready hd]
  case noneReady =>
    intro s st ha hnone
    rw [exec_descWriteback ha, State.descWriteback_none hnone]

end Sys2Proof.Machine

/-! Proofs about the Skidder's deadlines and fetches (R72, R81, R82, R233) and about its remap window (R84, R87,
R434). -/

namespace Sys2Proof.Machine

/-! ### The next line under the Skidder's faults -/

/-- The next line is told by the position, the scan, the job queue and FIRE_SCANSTAT. -/
theorem State.nextLine_congr {s t : State} (hpos : s.pos = t.pos) (hscan : s.scan = t.scan) (hjq : s.jq = t.jq)
    (hstat : s.word (FIRE_SCANSTAT.at 0) = t.word (FIRE_SCANSTAT.at 0)) : s.nextLine = t.nextLine := by
  have hon : s.on FIRE_SCANSTAT.SSTATE = t.on FIRE_SCANSTAT.SSTATE := State.on_of_word hstat
  unfold State.nextLine State.inScan
  rw [hpos, hscan, hjq, hon]

section
variable (s : State)

theorem State.setFld_nextLine {f : Fld} (v : Nat) {i j : Nat} (h : FIRE_SCANSTAT.at 0 ≠ f.reg.at i j) :
    (s.setFld f v i j).nextLine = s.nextLine :=
  State.nextLine_congr rfl rfl rfl (s.word_setFld_other _ _ _ _ _ h)

/-- A flag outside FIRE_SCANSTAT leaves the next line. -/
theorem State.raiseAt_nextLine {f : Fld} {i k : Nat} (st : Option Word) (info : Word) {r : FlagRow}
    (hr : flagRow? f.reg = some r) (hi : i < max r.flag.n1 1) (hb : f.lo + k < 40)
    (hflag : FIRE_SCANSTAT.at 0 ≠ r.flag.at i) : (s.raiseAt f i k st info).nextLine = s.nextLine :=
  State.nextLine_congr (s.raiseAt_pos ..) (s.raiseAt_scan ..) (s.raiseAt_jq ..)
    (s.raiseAt_word_outside st info hr hi hb (by decide) hflag (by decide))

theorem State.barrierLate_nextLine : (s.raise BAR_FLAG.BARRIER_LATE).nextLine = s.nextLine :=
  s.raiseAt_nextLine (r := ⟨BAR_FLAG, BAR_FLAGEN, 224, 0⟩) none 0 (by decide) (by decide) (by decide) (by decide)

theorem State.skidFault_nextLine {f : Fld} (code st blk : Nat) (stamp : Word) (hf : f.reg = SKID_FLAG)
    (hb : f.lo < 40) : (s.skidFault f code st blk stamp).nextLine = s.nextLine := by
  have hcapture : ∀ (c : Bool) (g : State → State), (∀ t, (g t).nextLine = t.nextLine) →
      (s.when c g).nextLine = s.nextLine := fun c g hg =>
    State.when_keeps (fun t => t.nextLine = s.nextLine) g c s (fun t ht => (hg t).trans ht) rfl
  have hflag : flagRow? f.reg = some ⟨SKID_FLAG, SKID_FLAGEN, 128, 0⟩ := by rw [hf]; decide
  unfold State.skidFault State.raiseS
  rw [State.raiseAt_nextLine _ _ _ hflag (by decide) hb (by decide)]
  exact hcapture _ _ fun t => by simp (disch := decide) only [State.setFld_nextLine]

/-- A fault leaves the line a failure takes effect from. -/
theorem State.skidFault_failLine {f : Fld} (code st blk : Nat) (stamp : Word) (hf : f.reg = SKID_FLAG)
    (hb : f.lo < 40) (b : Nat) : (s.skidFault f code st blk stamp).failLine b = s.failLine b := by
  unfold State.failLine
  rw [s.skidFault_nextLine code st blk stamp hf hb]

end

/-! ### Fetch deadlines (R81, R82, R233) -/

/-- FETCH_DEADLINE comes to `State.fetchDeadline`. -/
theorem exec_fetchDeadline {s : State} (st : Fin 56) (ha : s.awake = true) :
    exec (.fetchDeadline st) s = .next (s.close (s.fetchDeadline st)) := congrArg s.finish (s.live_awake _ ha)

section
variable {s : State} {st : Nat} {pg : JPage} {i l : Nat} (hup : s.skidUp = true) (hdl : s.dlBlock st = some (pg, i))
  (hl : s.blockLine pg st i = some l)
include hup hdl hl

/-- A page that waits for its barrier fails with cause 0x0B. -/
theorem State.fetchDeadline_barrier (hwait : (pg.ph == .waiting && !s.barrierOk pg.d) = true) :
    s.fetchDeadline st = (s.raise BAR_FLAG.BARRIER_LATE).failFor pg 11
      (if lineAfter s.nextLine (s.deadlineOf pg l).1 then s.nextLine else (s.deadlineOf pg l).1) := by
  unfold State.fetchDeadline
  simp only [hup, hdl, hl, hwait]
  rfl

variable (hfree : (pg.ph == .waiting && !s.barrierOk pg.d) = false)
include hfree

/-- A disabled Skidder starves. -/
theorem State.fetchDeadline_disabled (hoff : s.on SKID_CTL.ENABLE = false) :
    s.fetchDeadline st = (s.skidFault SKID_FLAG.STARVE 3 st (pg.blkAt i) (s.deadlineOf pg l).2).failFor pg 1
      (s.failLine (s.deadlineOf pg l).1) := by
  unfold State.fetchDeadline
  simp only [hup, hdl, hl, hfree, hoff]
  rfl

variable (hen : s.on SKID_CTL.ENABLE = true) {u : State} (hu : State.deadlineRead pg st (pg.blkAt i) 65536 s = u)
  {q : JPage} (hq : u.page? pg.ser = some q)
include hen hu hq

/-- A block that a descriptor covers becomes due, and the next deadline is that of the block behind it. -/
theorem State.fetchDeadline_covered {d : SkDesc} (hd : u.covering st pg (pg.blkAt i) = some d) :
    s.fetchDeadline st = (u.updStream st fun x =>
      { x with
        dlPage := if i + 1 = pg.d.blocks then pg.ser + 1 else pg.ser
        dlCnt := if i + 1 = pg.d.blocks then 0 else i + 1
        toFetch := x.toFetch ++ [{ page := pg.ser, blk := pg.blkAt i, addr := u.slotAddr st pg d (pg.blkAt i),
                                   slot := [], spill := [], poison := false }] }).skidSync st := by
  unfold State.fetchDeadline
  simp only [hup, hdl, hl, hfree, hen, hu, hd, hq]
  rfl

/-- A block that no descriptor covers starves. -/
theorem State.fetchDeadline_uncovered (hd : u.covering st pg (pg.blkAt i) = none) :
    s.fetchDeadline st = (u.skidFault SKID_FLAG.STARVE 1 st (pg.blkAt i) (s.deadlineOf pg l).2).failFor pg 1
      (u.failLine (s.deadlineOf pg l).1) := by
  unfold State.fetchDeadline
  simp only [hup, hdl, hl, hfree, hen, hu, hd, hq]
  rfl

end

/-! ### Fetches (R72, R81) -/

/-- SLOT_FETCH_DONE comes to `State.slotFetchDone`. -/
theorem exec_slotFetchDone {s : State} (st : Fin 56) (ha : s.awake = true) :
    exec (.slotFetchDone st) s = .next (s.close (s.slotFetchDone st)) := congrArg s.finish (s.live_awake _ ha)

/-- What the fetch of a block brings: nothing from a ring without a slot size, a poisoned block, or its slot with the
spill area its checks let it request. -/
def State.blockFetch (s : State) (st : Nat) (pg : JPage) (b : Blk) : State × Blk :=
  let n := slotBytes (s.ringRatio st pg)
  let r := s.dramRead 0 b.addr n
  if n = 0 then (s, b) else match r.2 with
    | none => (r.1, { b with poison := true })
    | some slot => r.1.fetchSpill pg (r.1.fetchCtx st pg b.blk) { b with slot := slot }

/-- A fetched block is held for its release, and NEXT_BLK follows it. -/
def State.holdFetched (s : State) (st : Nat) (rest : List Blk) (b : Blk) : State :=
  ((s.updStream st fun x => { x with toFetch := rest, prefetched := x.prefetched ++ [b] }).setFld SKID_SSTAT.NEXT_BLK
    (b.blk + 1) st).skidSync st

section
variable {s : State} {st : Nat} {b : Blk} {rest : List Blk} (h : (s.stream st).toFetch = b :: rest)
include h

/-- While the wrapper drains, the block's data is discarded. -/
theorem State.slotFetchDone_drained (hb : s.blkHeld 48 = true) : s.slotFetchDone st =
    ((s.updStream st fun x => { x with toFetch := rest }).isoCount 48 1).skidSync st := by
  unfold State.slotFetchDone
  simp only [h]
  exact if_pos hb

/-- The oldest block due is fetched for its page. -/
theorem State.slotFetchDone_fetches {pg : JPage} (hb : s.blkHeld 48 = false) (hpg : s.page? b.page = some pg) :
    s.slotFetchDone st = (s.blockFetch st pg b).1.holdFetched st rest (s.blockFetch st pg b).2 := by
  unfold State.slotFetchDone State.blockFetch
  by_cases hsize : slotBytes (s.ringRatio st pg) = 0
  case pos =>
    simp only [h, hb, hpg, hsize]
    rfl
  case neg =>
    cases hr : (s.dramRead 0 b.addr (slotBytes (s.ringRatio st pg))).2 with
    | none =>
      simp only [h, hb, hpg, hsize, hr]
      rfl
    | some slot =>
      simp only [h, hb, hpg, hsize, hr]
      rfl

end

/-! ### Late blocks (R82) -/

/-- LATE comes to `State.lateBlock`. -/
theorem exec_late {s : State} (st : Fin 56) (ha : s.awake = true) :
    exec (.late st) s = .next (s.close (s.lateBlock st)) := congrArg s.finish (s.live_awake _ ha)

/-- The oldest block held is late at its base launch line. -/
theorem State.lateBlock_held {s : State} {st : Nat} {b : Blk} {rest : List Blk} {pg : JPage} {l : Nat}
    (h : (s.stream st).released ++ (s.stream st).prefetched ++ (s.stream st).toFetch = b :: rest)
    (hpg : s.page? b.page = some pg) (hl : s.blockLine pg st (pg.placeOf b.blk) = some l) :
    s.lateBlock st = (s.skidFault SKID_FLAG.LATE 2 st b.blk (s.stampOf l)).failFor pg 1 (s.failLine l) := by
  unfold State.lateBlock
  simp only [h, hpg, hl]

/-- Settles O31: a deadline finds a barrier, a disabled Skidder, a covered or an uncovered block
(`State.fetchDeadline_*`); the faults it and LATE set leave the line their failure takes effect from
(`State.skidFault_failLine`). -/
theorem skidderFetchesByItsDeadlines : Obligations.SkidderFetchesByItsDeadlines := by
  refine ⟨?barrier, ?disabled, ?covered, ?uncovered, ?drained, ?fetches, ?late, fun s b => rfl⟩
  case barrier =>
    intro s st pg i l ha hup hdl hl hwait u
    rw [exec_fetchDeadline st ha, State.fetchDeadline_barrier hup hdl hl hwait, ← s.barrierLate_nextLine]
  case disabled =>
    intro s st pg i l ha hup hdl hl hfree hoff u
    rw [exec_fetchDeadline st ha, State.fetchDeadline_disabled hup hdl hl hfree hoff,
      s.skidFault_failLine _ _ _ _ rfl (by decide)]
  case covered =>
    intro s st pg i l d q ha hup hdl hl hfree hen hd hq u
    rw [exec_fetchDeadline st ha, State.fetchDeadline_covered hup hdl hl hfree hen rfl hq hd]
  case uncovered =>
    intro s st pg i l q ha hup hdl hl hfree hen hd hq u v
    rw [exec_fetchDeadline st ha, State.fetchDeadline_uncovered hup hdl hl hfree hen rfl hq hd,
      u.skidFault_failLine _ _ _ _ rfl (by decide)]
  case drained =>
    intro s st b rest ha hb h
    rw [exec_slotFetchDone st ha, State.slotFetchDone_drained h hb]
  case fetches =>
    intro s st b rest pg ha hb h hpg n r q
    rw [exec_slotFetchDone st ha, State.slotFetchDone_fetches h hb hpg]
    rfl
  case late =>
    intro s st b rest pg l ha h hpg hl u
    rw [exec_late st ha, State.lateBlock_held h hpg hl, s.skidFault_failLine _ _ _ _ rfl (by decide)]

/-! ### The remap window (R84, R87, R434) -/

/-- RMAP_WRITE that reaches SKID_RMAPDATA. -/
theorem exec_rmapWrite {s : State} {o : Sender} (w : Word) (h : s.reaches o SKID_RMAPDATA = true) :
    exec (.rmapWrite o w) s = .next (s.close (s.rmapWrite w)) :=
  congrArg s.finish (State.regCmd_reaches w h (by decide))

/-- The entry at the index keeps its rules with `w` in the indexed word. -/
def State.rmapKeepsRules (s : State) (w : Word) : Bool :=
  if s.fld SKID_RMAPIDX.WORD = 0 then rmapOk w (s.rmapWord (s.rmapIdx + 1)) w 0
  else rmapOk (s.rmapWord (s.rmapIdx - 1)) w w (s.fld SKID_RMAPIDX.WORD)

section
variable {s : State} {w : Word}

/-- Outside the table nothing is indexed, so nothing advances. -/
theorem State.rmapWrite_outside (h : s.rmapIdxOk = false) : s.rmapWrite w = s.raise SKID_FLAG.RMAP_RANGE :=
  if_pos (congrArg not h)

/-- At an indexed word a write is refused during a job, then for its value. -/
theorem State.rmapWrite_indexed (h : s.rmapIdxOk = true) : s.rmapWrite w =
    (if !s.betweenJobs then s.raise SKID_FLAG.RMAP_REJ
      else if !s.rmapKeepsRules w then s.raise SKID_FLAG.RMAP_RANGE
      else s.setRmapWord s.rmapIdx w).rmapAdvance := by
  unfold State.rmapWrite State.rmapKeepsRules
  rw [if_neg (by simp [h])]
  by_cases hword : s.fld SKID_RMAPIDX.WORD = 0
  case pos => simp only [hword, if_true]
  case neg => simp only [hword, if_false]

end

/-- Settles O32: a write at an index of the table is refused in a job or for its value, or it is made; in each case the
index advances (`State.rmapWrite_indexed`). -/
theorem remapTableIsWrittenBetweenJobs : Obligations.RemapTableIsWrittenBetweenJobs := by
  refine ⟨?written, ?breaks, ?inJob, ?outside⟩
  case written =>
    intro s o w h hidx hfree hok
    have hkeeps : s.rmapKeepsRules w = true := hok
    rw [exec_rmapWrite w h, State.rmapWrite_indexed hidx, hfree, hkeeps]
    rfl
  case breaks =>
    intro s o w h hidx hfree hbad
    have hbreaks : s.rmapKeepsRules w = false := hbad
    rw [exec_rmapWrite w h, State.rmapWrite_indexed hidx, hfree, hbreaks]
    rfl
  case inJob =>
    intro s o w h hidx hjob
    rw [exec_rmapWrite w h, State.rmapWrite_indexed hidx, hjob]
    rfl
  case outside =>
    intro s o w h hidx
    rw [exec_rmapWrite w h, State.rmapWrite_outside hidx]

end Sys2Proof.Machine

/-! Proofs about the checks of a line (Table 05-2, R98, R99) and about what a port sends for it (R97, R99, R100). -/

namespace Sys2Proof.Machine

/-! ### Commands of a port -/

/-- An event that a block awake takes ends with its effect. -/
theorem State.finish_live {s t : State} {f : State → State} (ha : s.awake = true) (h : f s = t) :
    s.finish (s.live f) = .next (s.close t) := by
  rw [s.live_awake _ ha, h]
  rfl

/-- The registers of a port that its commands write have no guarded fields. -/
theorem firePort_plainAt : ∀ r ∈ [FIRE_PORTCTL, FIRE_WLOAD, FIRE_DLYDATA, FIRE_TEST], ∀ p : Fin 48,
    plainAt r p 0 = true := by decide

/-! ### The checks of Table 05-2 (R98, R99) -/

/-- Check 3 fails at port `p`: the line is lost. -/
def State.lineLost (s : State) (n p : Nat) : State :=
  (((s.gRecord 3 p 0 n).raiseS FIRE_GFLAG.PORT_LOST 0 (s.stampOf n)).discardLine n).failOn 12 n

/-- What check 4 sets at every port of the line without its acknowledgement or without a valid waveform set. -/
def State.ackFlags (s : State) (n : Nat) : State :=
  forIn' (s.linePorts n) (fun p t =>
    let u := t.when (!s.acked p n) (·.portErr FIRE_PORTFLAG.NAK p (t.stampOf n))
    u.when (!s.wsetOk p) (·.raiseS FIRE_PORTFLAG.WSET_INVALID p (u.stampOf n))) s

/-- The stamp of WSET_INVALID is that of the state the flag is set in. -/
theorem State.ackFlags_eq (s : State) (n : Nat) : s.ackFlags n =
    forIn' (s.linePorts n) (fun p t => (t.when (!s.acked p n) (·.portErr FIRE_PORTFLAG.NAK p (t.stampOf n))).when
      (!s.wsetOk p) fun t => t.raiseS FIRE_PORTFLAG.WSET_INVALID p (t.stampOf n)) s := by
  unfold State.ackFlags State.when
  rfl

/-- Check 4 fails first at port `p`: the line is not acknowledged. -/
def State.lineNak (s : State) (n p : Nat) : State :=
  let u := s.ackFlags n
  let v := ((u.gRecord 4 p 0 n).raiseS FIRE_GFLAG.LINE_NAK 0 (u.stampOf n)).discardLine n
  if v.on FIRE_GCTL.NAK_ACT then v.failOn 12 n else v

/-- Check 5, and the launch. -/
def State.rateCheck (s : State) (n : Nat) : State :=
  if s.fire.sinceLaunch.any (fun c => decide (c < s.iMin)) then (s.discardLine n).suppress n else s.launch n

/-- Checks 3 to 5: those of a line that is assembled. -/
def State.portChecks (s : State) (n : Nat) : State :=
  match (s.linePorts n).find? fun p => !s.portRuns p with
  | some p => s.lineLost n p
  | none =>
    match (s.linePorts n).find? fun p => !s.acked p n || !s.wsetOk p with
    | some p => s.lineNak n p
    | none => s.rateCheck n

section
variable {s : State} {n : Nat}

/-- A line that check 1 does not select is not tested. -/
theorem State.lineChecks_untested (h : s.check1 n = false) : s.lineChecks n = s := if_pos (by simp [h])

section
variable (h : s.check1 n = true)
include h

/-- Check 2 fails: the line is discarded, and its cause fails the job. -/
theorem State.lineChecks_notAssembled {c : Nat} (hfail : s.fire.asmFail = some (n, c)) :
    s.lineChecks n = (s.discardLine n).failOn c n := by
  unfold State.lineChecks
  simp [h, hfail]

/-- With its assembly done, a line goes on to its ports' checks. -/
theorem State.lineChecks_assembled (hasm : s.fire.asmFail.all (fun e => e.1 != n) = true) :
    s.lineChecks n = s.portChecks n := by
  unfold State.lineChecks
  rw [if_neg (by simp [h])]
  cases hfail : s.fire.asmFail with
  | none => rfl
  | some e =>
    have hother : ¬ e.1 = n := by simpa [hfail] using hasm
    simp only [if_neg hother]
    rfl

end

theorem State.portChecks_lost {p : Nat} (h : (s.linePorts n).find? (fun p => !s.portRuns p) = some p) :
    s.portChecks n = s.lineLost n p := by
  unfold State.portChecks
  rw [h]

section
variable (hruns : (s.linePorts n).all s.portRuns = true)
include hruns

/-- No port fails check 3. -/
theorem State.find_notRunning : (s.linePorts n).find? (fun p => !s.portRuns p) = none := by
  simpa using hruns

theorem State.portChecks_nak {p : Nat} (h : (s.linePorts n).find? (fun p => !s.acked p n || !s.wsetOk p) = some p) :
    s.portChecks n = s.lineNak n p := by
  unfold State.portChecks
  rw [State.find_notRunning hruns, h]

theorem State.portChecks_acked (h : (s.linePorts n).find? (fun p => !s.acked p n || !s.wsetOk p) = none) :
    s.portChecks n = s.rateCheck n := by
  unfold State.portChecks
  rw [State.find_notRunning hruns, h]

end

/-- Ports that all run, all with the acknowledgement and a valid waveform set, leave check 5. -/
theorem State.portChecks_pass
    (h : (s.linePorts n).all (fun p => s.portRuns p && s.acked p n && s.wsetOk p) = true) :
    s.portChecks n = s.rateCheck n := by
  simp only [List.all_eq_true, Bool.and_eq_true] at h
  refine State.portChecks_acked (List.all_eq_true.2 fun p hp => (h p hp).1.1) (List.find?_eq_none.2 fun p hp => ?_)
  obtain ⟨⟨_, hack⟩, hset⟩ := h p hp
  simp [hack, hset]

end

/-- Settles O16: a tested line is not assembled, or it comes to the first of its ports' checks that fails
(`State.portChecks_*`), or to the test of the rate. -/
theorem lineChecksFollowTheTable : Obligations.LineChecksFollowTheTable := by
  refine ⟨fun s n h => State.lineChecks_untested h, fun s n c h hfail => State.lineChecks_notAssembled h hfail, ?lost,
    ?nak, ?early, ?launched⟩
  case lost =>
    intro s n p h hasm hlost
    rw [State.lineChecks_assembled h hasm, State.portChecks_lost hlost]
    rfl
  case nak =>
    intro s n p h hasm hruns hnak u v
    have hu : s.ackFlags n = u := s.ackFlags_eq n
    rw [State.lineChecks_assembled h hasm, State.portChecks_nak hruns hnak]
    unfold State.lineNak
    rw [hu]
    rfl
  case early =>
    intro s n h hasm hpass hrate
    rw [State.lineChecks_assembled h hasm, State.portChecks_pass hpass]
    exact if_pos hrate
  case launched =>
    intro s n h hasm hpass hrate
    rw [State.lineChecks_assembled h hasm, State.portChecks_pass hpass]
    exact if_neg (by simp [hrate])

/-! ### GO (R97, R99) -/

/-- The oldest GO that is due is taken. -/
def State.goTaken (s : State) (p : Nat) (rest : List GoDue) : State := s.updPort p fun x => { x with goDue := rest }

/-- The GO `g` goes out, with the bank that is in force at its line, and its strobes become due. -/
def State.goSent (s : State) (p : Nat) (g : GoDue) : State :=
  let u := s.bankGo p g.line g.strobes
  let v := (u.emit (.go p g.fire g.wset (u.fld FIRE_PORTSTAT.BANK p) (g.line % 2))).setFld FIRE_PORTSTAT.WSET g.wset p
  (v.when g.fire (·.addFld FIRE_LSTAT.LINES 1 p)).when g.strobes (·.updPort p fun x =>
    { x with strobes := x.strobes ++ [(g.line, 0)] })

/-- The GO taken goes out where the port sends GO, and is dropped elsewhere. -/
theorem State.portGo_due {s : State} {p : Nat} {g : GoDue} {rest : List GoDue} (hdue : (s.port p).goDue = g :: rest) :
    s.portGo p = if s.sendsGo p then (s.goTaken p rest).goSent p g else s.goTaken p rest := by
  have hsends : (s.goTaken p rest).sendsGo p = s.sendsGo p := rfl
  unfold State.portGo
  rw [hdue]
  show (if !(s.goTaken p rest).sendsGo p then s.goTaken p rest else (s.goTaken p rest).goSent p g) = _
  rw [hsends]
  cases s.sendsGo p <;> rfl

/-! ### The end of RUN (R110) -/

section
variable {s : State} {p : Nat}

theorem State.runEnd_ends (h : s.lstate p = 3) (hrun : s.on FIRE_PORTCTL.RUN p = false)
    (hst : (s.port p).strobes = []) : s.runEnd p = (s.setFld FIRE_PORTSTAT.LSTATE 2 p).henSync p :=
  if_pos ⟨h, by simp [hrun], hst⟩

theorem State.runEnd_waits (h : s.on FIRE_PORTCTL.RUN p = true ∨ (s.port p).strobes ≠ []) : s.runEnd p = s := by
  refine if_neg fun ⟨_, hrun, hst⟩ => ?_
  rcases h with hon | hdue
  · simp [hon] at hrun
  · exact hdue hst

theorem State.runEnd_elsewhere (h : s.lstate p ≠ 3) : s.runEnd p = s := if_neg fun hall => h hall.1

end

/-! ### Strobes (R100) -/

/-- Phase `k` of line `n`, the oldest with strobes due, is taken; with phase 15 the line is done. -/
def State.strobeTaken (s : State) (p n k : Nat) (rest : List (Nat × Nat)) : State :=
  s.updPort p fun x => { x with strobes := if k = 15 then rest else (n, k + 1) :: rest }

section
variable {s : State} {p n k : Nat} {rest : List (Nat × Nat)} (hdue : (s.port p).strobes = (n, k) :: rest)
include hdue

/-- The phase taken goes out in RUN. -/
theorem State.strobeIssue_due : s.strobeIssue p =
    ((s.strobeTaken p n k rest).when (s.lstate p == 3) (·.emit (.strobe p k))).runEnd p := by
  unfold State.strobeIssue
  rw [hdue]
  rfl

theorem State.strobeIssue_run (h : s.lstate p = 3) :
    s.strobeIssue p = ((s.strobeTaken p n k rest).emit (.strobe p k)).runEnd p := by
  rw [State.strobeIssue_due hdue, h]
  rfl

/-- Outside RUN no strobe goes out. -/
theorem State.strobeIssue_elsewhere (h : s.lstate p ≠ 3) : s.strobeIssue p = s.strobeTaken p n k rest := by
  have hstays : (s.strobeTaken p n k rest).lstate p ≠ 3 := h
  rw [State.strobeIssue_due hdue, beq_eq_false_iff_ne.2 h]
  exact State.runEnd_elsewhere hstays

end

/-- Settles O17: a GO that is due is taken and then sent or dropped (`State.portGo_due`), a strobe likewise
(`State.strobeIssue_due`), and the last strobe may end RUN (`State.runEnd_*`). -/
theorem portSendsGoAndStrobes : Obligations.PortSendsGoAndStrobes := by
  refine ⟨?sent, ?dropped, ?strobe, ?noStrobe, fun s p h hrun hst => State.runEnd_ends h hrun hst,
    fun s p h => State.runEnd_waits h⟩
  case sent =>
    intro s p g rest ha hsends hdue u v
    exact State.finish_live ha ((State.portGo_due hdue).trans (if_pos hsends))
  case dropped =>
    intro s p g rest ha hsends hdue
    exact State.finish_live ha ((State.portGo_due hdue).trans (if_neg (by simp [hsends])))
  case strobe => exact fun s p n k rest ha h hdue => State.finish_live ha (State.strobeIssue_run hdue h)
  case noStrobe => exact fun s p n k rest ha h hdue => State.finish_live ha (State.strobeIssue_elsewhere hdue h)

end Sys2Proof.Machine

/-! Proofs about what the heads answer: acknowledgements (R98, R103, R107, R108), telemetry (R110, R111, R133) and the
self-test (R112). -/

namespace Sys2Proof.Machine

/-! ### Acknowledgements and missing ones (R98, R103, R107, R108) -/

section
variable {s : State} {p : Nat} (hup : 2 ≤ s.lstate p) (ref st : Nat)
include hup

theorem State.kerfAck_line :
    s.kerfAck p 1 ref st = if st = 0 then s.updPort p fun x => { x with ackOk := some ref } else s :=
  if_neg (Nat.not_lt.2 hup)

theorem State.kerfAck_table :
    s.kerfAck p 2 ref st = if st = 0 then s.tableOk p (ref / 65536) else s.tableFail p (ref / 65536) :=
  if_neg (Nat.not_lt.2 hup)

theorem State.kerfAck_wave : s.kerfAck p 3 ref st = s.waveAck p (ref / 65536) (ref / 256 % 256) (st == 0) :=
  if_neg (Nat.not_lt.2 hup)

theorem State.kerfAck_cmd : s.kerfAck p 4 ref st = s := if_neg (Nat.not_lt.2 hup)

end

/-- A status other than OK is not 0 as a number either. -/
theorem status_toNat_ne {st : BitVec 8} (h : st ≠ 0) : st.toNat ≠ 0 := fun h0 => h (BitVec.eq_of_toNat_eq h0)

/-- A load of a bank with one more attempt at a packet counted. -/
def BankLoad.retried (b : BankLoad) (code : Nat) : BankLoad :=
  { b with left := b.left.map fun e => if e.1 = code then (e.1, e.2 + 1) else e }

/-- A failed attempt at a packet of the pending bank: sent again up to the third, which is TBL_ERR. -/
theorem State.tableFail_pending {s : State} {p code k : Nat} {b : BankLoad} (hb : (s.port p).bank = some b)
    (hk : b.left.find? (fun e => e.1 == code) = some (code, k)) : s.tableFail p code =
      if 2 ≤ k then s.tblErr p b
      else (s.updPort p fun x => { x with bank := some (b.retried code) }).sendTable p (b.retried code) code := by
  unfold State.tableFail
  simp only [hb, hk]
  rfl

/-- Settles O18: an acknowledgement is taken by its packet's type (`State.kerfAck_*`), a missing one of a table is a
failed attempt (`State.tableFail_pending`), and a missing one of a segment ends the load. -/
theorem headAcknowledgementsAreTaken : Obligations.HeadAcknowledgementsAreTaken := by
  refine ⟨?line, ?lineNak, ?cmd, ?table, ?tableNak, ?wave, ?retry, ?third, ?waveLost⟩
  case line => exact fun s p ref ha hup => State.finish_live ha (State.kerfAck_line hup ref.toNat 0)
  case lineNak =>
    intro s p ref st ha hup hst
    exact State.finish_live ha ((State.kerfAck_line hup ref.toNat st.toNat).trans (if_neg (status_toNat_ne hst)))
  case cmd => exact fun s p ref st ha hup => State.finish_live ha (State.kerfAck_cmd hup ref.toNat st.toNat)
  case table => exact fun s p ref ha hup => State.finish_live ha (State.kerfAck_table hup ref.toNat 0)
  case tableNak =>
    intro s p ref st ha hup hst
    exact State.finish_live ha ((State.kerfAck_table hup ref.toNat st.toNat).trans (if_neg (status_toNat_ne hst)))
  case wave => exact fun s p ref st ha hup => State.finish_live ha (State.kerfAck_wave hup ref.toNat st.toNat)
  case retry =>
    intro s p code b k ha hb hk hlow u
    exact State.finish_live ha ((State.tableFail_pending hb hk).trans (if_neg (Nat.not_le.2 hlow)))
  case third =>
    intro s p code b k ha hb hk hlast
    exact State.finish_live ha ((State.tableFail_pending hb hk).trans (if_pos hlast))
  case waveLost => exact fun s p ha hload => State.finish_live ha (if_pos hload)

/-! ### Telemetry (R110, R111, R133) -/

/-- What a TEMP packet records, whatever the port's state: temperatures, READY, valid sets, and the limit when the greater
temperature reaches HI. -/
def State.tempRecorded (s : State) (p : Nat) (t0 t1 : Int) (ready : Bool) (wvalid : Nat) : State :=
  let m := max t0 t1
  let u := s.updPort p fun x =>
    { x with t0 := t0, t1 := t1, lost := false, tempCycle := some s.cycle
             winMin := some (match x.winMin with | some w => min w m | none => m) }
  let v := ((u.setFld FIRE_TEMP.T0 (unsigned 12 t0) p).setFld FIRE_TEMP.T1 (unsigned 12 t1) p).setFld FIRE_THSTAT.TMAX
    (unsigned 12 m) p
  let x := (v.setFld FIRE_PORTSTAT.READY (bit ready) p).setFld FIRE_PORTSTAT.WVALID wvalid p
  x.when (decide (x.sfld FIRE_THCFG.HI p ≤ m)) (·.limitReached p)

/-- The head reports a supply fault or an over-temperature: HEAD_FAULT, and nothing due any more. -/
def State.headFault (s : State) (p : Nat) : State :=
  (((s.portErr FIRE_PORTFLAG.HEAD_FAULT p s.posOut).updPort p fun x =>
    { x with faultLatch := true, goDue := [], strobes := [] }).setFld FIRE_PORTSTAT.LSTATE 2 p).henSync p

section
variable {s : State} {p : Nat} {t0 t1 : Int} {ready supply hot : Bool} {wvalid : Nat}

/-- In TRAIN the first packet brings the port to IDLE. -/
theorem State.tempPacket_train (h : s.lstate p = 1) :
    s.tempPacket p t0 t1 ready supply hot wvalid = (s.tempRecorded p t0 t1 ready wvalid).trainDone p := by
  unfold State.tempPacket
  rw [if_neg (by omega), if_pos h]
  rfl

/-- In IDLE and RUN the head's faults are judged. -/
theorem State.tempPacket_up (h : 2 ≤ s.lstate p) : s.tempPacket p t0 t1 ready supply hot wvalid =
    if supply || hot then (s.tempRecorded p t0 t1 ready wvalid).headFault p
    else s.tempRecorded p t0 t1 ready wvalid := by
  unfold State.tempPacket
  rw [if_neg (by omega), if_neg (by omega)]
  rfl

end

/-- The first loss of the telemetry of a port in IDLE or RUN. -/
theorem State.telLost_first {s : State} {p : Nat} (hup : s.portUp p = true) (hnew : (s.port p).lost = false) :
    let u := (s.portErr FIRE_PORTFLAG.TEL_LOST p s.posOut).updPort p fun x => { x with lost := true }
    s.telLost p = u.when (u.on FIRE_PORTCTL.TEL_ACT p) (·.limitReached p) := if_pos (by simp [hup, hnew])

/-- Settles O19: a TEMP packet records (`State.tempRecorded`) and then acts by the port's state (`State.tempPacket_*`);
TEL_CRC and TEL_LOST are one case each. -/
theorem headTelemetryIsRecorded : Obligations.HeadTelemetryIsRecorded := by
  refine ⟨?well, ?fault, ?train, ?crc, fun s p ha hup hnew => State.finish_live ha (State.telLost_first hup hnew)⟩
  case well =>
    intro s p t0 t1 ready sup hot wv ha hup hok m u x y
    exact State.finish_live ha ((State.tempPacket_up hup).trans (if_neg (by simp [hok])))
  case fault =>
    intro s p t0 t1 ready sup hot wv ha hup hbad m u x y v
    exact State.finish_live ha ((State.tempPacket_up hup).trans (if_pos hbad))
  case train =>
    intro s p t0 t1 ready sup hot wv ha htrain m u x y
    exact State.finish_live ha (State.tempPacket_train htrain)
  case crc => exact fun s p ha hon => State.finish_live ha (if_pos (bne_iff_ne.2 hon))

/-! ### The head self-test (R112) -/

/-- A write of FIRE_TEST with GO 1 that reaches it. -/
theorem exec_fireTestGo {s : State} {o : Sender} {p : Fin 48} (h : s.reaches o FIRE_TEST p = true) :
    exec (.fireTestGo o p) s = .next (s.close (s.fireTestGo p)) :=
  congrArg s.finish (State.regCmd_reaches _ h (firePort_plainAt FIRE_TEST (by decide) p))

/-- A segment of the bitmap is written, bits [3:0] of its last byte as 0. -/
def State.testWritten (s : State) (p seg : Nat) (bytes : List Byte) : State :=
  (s.dramWrite 6 (s.fld FIRE_TADDR.ADDR p * 16 + 63 * seg) (bytes.set 62 (bytes.getD 62 0 &&& 0xF0))).1

/-- The test ends complete: bytes 504 to 511 are written 0. -/
def State.testEnded (s : State) (p a : Nat) : State :=
  ((s.dramWrite 6 (a + 504) (List.replicate 8 0)).1.updPort p fun x =>
    { x with testSegs := none, tested := true }).raise FIRE_PORTFLAG.TEST_DONE p

section
variable {s : State} {p seg : Nat} {bytes : List Byte}

/-- A segment of a running test: the eighth distinct one ends it. -/
theorem State.testPacket_running {got : List Nat} (h : (s.port p).testSegs = some got) : s.testPacket p seg bytes =
    if 8 ≤ (seg :: got).eraseDups.length then
      (s.testWritten p seg bytes).testEnded p (s.fld FIRE_TADDR.ADDR p * 16)
    else (s.testWritten p seg bytes).updPort p fun x => { x with testSegs := some (seg :: got).eraseDups } := by
  unfold State.testPacket
  rw [h]
  rfl

theorem State.testPacket_idle (h : (s.port p).testSegs = none) : s.testPacket p seg bytes = s := by
  unfold State.testPacket
  rw [h]

end

/-- Settles O20: the test starts in IDLE alone, each segment is written, and the eighth ends it
(`State.testPacket_running`). -/
theorem headSelfTestIsRun : Obligations.HeadSelfTestIsRun := by
  refine ⟨?starts, ?refused, ?segment, ?last, ?none, fun s p ha h => State.finish_live ha (if_pos h)⟩
  case starts => exact fun s o p h hidle => (exec_fireTestGo h).trans (congrArg s.finish (if_pos hidle))
  case refused => exact fun s o p h hbusy => (exec_fireTestGo h).trans (congrArg s.finish (if_neg hbusy))
  case segment =>
    intro s p seg bytes got ha h hmore a u
    exact State.finish_live ha ((State.testPacket_running h).trans (if_neg (Nat.not_le.2 hmore)))
  case last =>
    intro s p seg bytes got ha h hall a u
    exact State.finish_live ha ((State.testPacket_running h).trans (if_pos hall))
  case none => exact fun s p seg bytes ha h => State.finish_live ha (State.testPacket_idle h)

end Sys2Proof.Machine

/-! Proofs about a port's control (R109, R110, R113, R114) and about its windows: the delay table, waveform images and the
FIFO of suppressed lines (R94, R103, R131, R434). -/

namespace Sys2Proof.Machine

/-! ### What FIRE_PORTCTL does not tell -/

/-- Registers of one stride with bases apart do not meet at one index. -/
theorem Reg.at_ne_of_base {r q : Reg} (hs : r.s1 = q.s1) (hb : r.base ≠ q.base) (i : Nat) : r.at i ≠ q.at i := by
  unfold Reg.at
  rw [hs]
  omega

/-- The words that tell a block's reset and a domain's state. -/
def heldWords : List Nat :=
  [SYS_BLKRST0.at 0, SYS_BLKRST1.at 0, SYS_RSTPEND0.at 0, SYS_RSTPEND1.at 0, SYS_PDSTAT.at 0, BIST_STAT.at 0]

theorem portCtl_notHeld : ∀ p : Fin 48, ∀ a ∈ heldWords, a ≠ FIRE_PORTCTL.at p := by decide

section
variable {s t : State} (h : ∀ a ∈ heldWords, s.word a = t.word a)
include h

theorem State.blkHeld_of_words (b : Nat) : s.blkHeld b = t.blkHeld b := by
  have hreg : ∀ r : Reg, r.at 0 ∈ heldWords → s.reg r = t.reg r := fun r hr => h _ hr
  unfold State.blkHeld State.blkPend State.blkBit
  rw [hreg SYS_BLKRST0 (by decide), hreg SYS_BLKRST1 (by decide), hreg SYS_RSTPEND0 (by decide),
    hreg SYS_RSTPEND1 (by decide)]

theorem State.pdOn_of_words (d : Nat) : s.pdOn d = t.pdOn d := by
  have hfld : ∀ f : Fld, f.reg.at 0 ∈ heldWords → s.fld f = t.fld f := fun f hf => State.fld_of_word (h _ hf)
  unfold State.pdOn State.pdState State.on
  rw [hfld SYS_PDSTAT.STATE (by decide), hfld BIST_STAT.STATE (by decide), hfld BIST_STAT.DOM (by decide)]

end

/-- FIRE_PORTCTL does not tell the state of the link. -/
theorem State.setPortCtl_lstate (s : State) {f : Fld} (hf : f.reg = FIRE_PORTCTL) (v p : Nat) :
    (s.setFld f v p).lstate p = s.lstate p := by
  have hne : FIRE_PORTSTAT.at p ≠ FIRE_PORTCTL.at p :=
    Reg.at_ne_of_base (r := FIRE_PORTSTAT) (q := FIRE_PORTCTL) rfl (by decide) p
  exact s.fld_setFld_other _ _ _ _ _ _ _ (hf ▸ hne)

/-- Nor does it tell what is held or off. -/
theorem State.setPortCtl_heldWords (s : State) {f : Fld} (hf : f.reg = FIRE_PORTCTL) (v : Nat) (p : Fin 48) :
    ∀ a ∈ heldWords, (s.setFld f v p).word a = s.word a := fun a ha =>
  s.word_setFld_other _ _ _ _ _ (hf ▸ portCtl_notHeld p a ha)

/-! ### LINK_EN (R110) -/

/-- Training can start: the link is in OFF, the port's block released, PD8 on. -/
def State.canTrain (s : State) (p : Nat) : Bool := s.lstate p == 0 && !s.blkHeld p && s.pdOn 8

/-- A field of FIRE_PORTCTL does not bar training. -/
theorem State.setPortCtl_canTrain (s : State) {f : Fld} (hf : f.reg = FIRE_PORTCTL) (v : Nat) (p : Fin 48) :
    (s.setFld f v p).canTrain p = s.canTrain p := by
  have hwords := s.setPortCtl_heldWords hf v p
  unfold State.canTrain
  rw [s.setPortCtl_lstate hf, State.blkHeld_of_words hwords, State.pdOn_of_words hwords]

/-- LINK_EN = 1 starts training where it can start. -/
theorem State.linkEn_on (s : State) (p : Fin 48) : s.linkEn p true =
    (s.setFld FIRE_PORTCTL.LINK_EN 1 p).when (s.canTrain p) (·.setFld FIRE_PORTSTAT.LSTATE 1 p) := by
  rw [← s.setPortCtl_canTrain (f := FIRE_PORTCTL.LINK_EN) rfl 1 p]
  unfold State.linkEn State.canTrain State.when
  simp only [Bool.not_true, Bool.false_eq_true, if_false, Bool.and_eq_true, beq_iff_eq, and_assoc]
  rfl

theorem State.linkEn_off (s : State) (p : Nat) : s.linkEn p false = (s.setFld FIRE_PORTCTL.LINK_EN 0 p).portOff p := rfl

/-! ### A write of FIRE_PORTCTL -/

/-- TEL_ACT, stored before the other fields act. -/
def State.telActStored (s : State) (p : Nat) (w : Word) : State :=
  s.setFld FIRE_PORTCTL.TEL_ACT (FIRE_PORTCTL.TEL_ACT.ext w) p

/-- The fields of a written word that act after LINK_EN. -/
def State.henRunWritten (s : State) (p : Nat) (w : Word) : State :=
  (s.hen p (FIRE_PORTCTL.HEN.ext w == 1)).kerfRun p (FIRE_PORTCTL.RUN.ext w == 1)

section
variable (s : State) {p : Nat} {w : Word}

theorem State.telActStored_linkEn : (s.telActStored p w).fld FIRE_PORTCTL.LINK_EN p = s.fld FIRE_PORTCTL.LINK_EN p :=
  s.fld_setFld_beside _ _ _ _ _ rfl (by decide) (by decide) (by decide) (by decide)

/-- LINK_EN acts when it changes. -/
theorem State.portCtlWrite_changed (h : FIRE_PORTCTL.LINK_EN.ext w ≠ s.fld FIRE_PORTCTL.LINK_EN p) : s.portCtlWrite p w =
    ((s.telActStored p w).linkEn p (FIRE_PORTCTL.LINK_EN.ext w == 1)).henRunWritten p w := by
  have hchange : (FIRE_PORTCTL.LINK_EN.ext w != (s.telActStored p w).fld FIRE_PORTCTL.LINK_EN p) = true := by
    rw [s.telActStored_linkEn]
    exact bne_iff_ne.2 h
  exact congrArg (State.henRunWritten · p w) (if_pos hchange)

theorem State.portCtlWrite_same (h : FIRE_PORTCTL.LINK_EN.ext w = s.fld FIRE_PORTCTL.LINK_EN p) :
    s.portCtlWrite p w = (s.telActStored p w).henRunWritten p w := by
  have hsame : ¬ (FIRE_PORTCTL.LINK_EN.ext w != (s.telActStored p w).fld FIRE_PORTCTL.LINK_EN p) = true := by
    rw [s.telActStored_linkEn, h]
    simp
  exact congrArg (State.henRunWritten · p w) (if_neg hsame)

end

section
variable {s : State} {p : Fin 48} {w : Word}

/-- LINK_EN written 1 over 0. -/
theorem State.portCtlWrite_rises (hw : FIRE_PORTCTL.LINK_EN.ext w = 1) (h : s.fld FIRE_PORTCTL.LINK_EN p = 0) :
    s.portCtlWrite p w = ((((s.telActStored p w).setFld FIRE_PORTCTL.LINK_EN 1 p).when (s.canTrain p)
      (·.setFld FIRE_PORTSTAT.LSTATE 1 p))).henRunWritten p w := by
  have htrain : (s.telActStored p w).canTrain p = s.canTrain p :=
    s.setPortCtl_canTrain (f := FIRE_PORTCTL.TEL_ACT) rfl _ p
  rw [s.portCtlWrite_changed (by omega), hw, beq_self_eq_true, State.linkEn_on, htrain]

/-- LINK_EN written 0 over 1. -/
theorem State.portCtlWrite_falls (hw : FIRE_PORTCTL.LINK_EN.ext w = 0) (h : s.fld FIRE_PORTCTL.LINK_EN p = 1) :
    s.portCtlWrite p w =
      (((s.telActStored p w).setFld FIRE_PORTCTL.LINK_EN 0 p).portOff p).henRunWritten p w := by
  rw [s.portCtlWrite_changed (by omega), hw]
  rfl

/-- A sender's write that reaches FIRE_PORTCTL; LINK_EN, KERF_RUN and HEN are all one. -/
theorem State.finish_portCtl {t : State} {o : Sender} (h : s.reaches o FIRE_PORTCTL p = true)
    (ht : s.portCtlWrite p w = t) : s.finish (s.regCmd o FIRE_PORTCTL p 0 w) = .next (s.close t) :=
  congrArg s.finish ((State.regCmd_reaches w h (firePort_plainAt _ (by decide) p)).trans ht)

end

/-! ### RUN (R110) -/

section
variable {s : State} {p : Nat}

/-- RUN cleared in RUN drops the GOs due and may end RUN at once. -/
theorem State.kerfRun_clears (h : s.lstate p = 3) : s.kerfRun p false =
    ((s.setFld FIRE_PORTCTL.RUN 0 p).updPort p fun x => { x with goDue := [] }).runEnd p := by
  have hstate : (s.setFld FIRE_PORTCTL.RUN (bit false) p).lstate p = 3 := (s.setPortCtl_lstate rfl _ p).trans h
  exact if_pos (by simp [hstate])

/-- RUN set, or cleared elsewhere, is stored alone. -/
theorem State.kerfRun_stores {run : Bool} (h : run = true ∨ s.lstate p ≠ 3) :
    s.kerfRun p run = s.setFld FIRE_PORTCTL.RUN (bit run) p := by
  have hstate : (s.setFld FIRE_PORTCTL.RUN (bit run) p).lstate p = s.lstate p := s.setPortCtl_lstate rfl _ p
  refine if_neg ?_
  rw [hstate]
  rcases h with hset | hout
  · simp [hset]
  · simp [hout]

/-- The link settled, with the head ready and no bank to load: the port enters RUN. -/
theorem State.kerfRunEnter_enters (h : s.lstate p = 2) (hrun : s.on FIRE_PORTCTL.RUN p = true)
    (hhen : s.on FIRE_PORTSTAT.HEN_OUT p = true) (hready : s.on FIRE_PORTSTAT.READY p = true)
    (hbank : s.on FIRE_PORTSTAT.BANK_PEND p = false) : s.kerfRunEnter p = s.setFld FIRE_PORTSTAT.LSTATE 3 p :=
  if_pos ⟨h, hrun, hhen, hready, by simp [hbank]⟩

end

/-- Settles O21: a write of FIRE_PORTCTL acts on LINK_EN when it changes (`State.portCtlWrite_*`), then on HEN and RUN
(`State.kerfRun_*`); the fields of FIRE_PORTCTL do not tell where the link stands (`State.setPortCtl_canTrain`). -/
theorem portControlDrivesTheLinkState : Obligations.PortControlDrivesTheLinkState := by
  refine ⟨?trains, ?waits, ?off, ?linkSame, ?runSame, ?henSame, fun s p en => rfl, fun s p h => State.kerfRun_clears h,
    fun s p run h => State.kerfRun_stores h, ?enters, ?trainFail,
    fun s p ha hup => State.finish_live ha (if_pos hup)⟩
  case trains =>
    intro s o p w h hw hen hoff hfree hpd u
    have hcan : s.canTrain p = true := by simp [State.canTrain, hoff, hfree, hpd]
    refine State.finish_portCtl h ((State.portCtlWrite_rises hw hen).trans ?_)
    rw [hcan]
    rfl
  case waits =>
    intro s o p w h hw hen hbar u
    have hcan : s.canTrain p = false := by
      unfold State.canTrain
      rcases hbar with hoff | hheld | hpd
      · simp [hoff]
      · simp [hheld]
      · simp [hpd]
    refine State.finish_portCtl h ((State.portCtlWrite_rises hw hen).trans ?_)
    rw [hcan]
    rfl
  case off => exact fun s o p w h hw hen => State.finish_portCtl h (State.portCtlWrite_falls hw hen)
  case linkSame => exact fun s o p w h hsame => State.finish_portCtl h (s.portCtlWrite_same hsame)
  case runSame => exact fun s o p w h hsame => State.finish_portCtl h (s.portCtlWrite_same hsame)
  case henSame => exact fun s o p w h hsame => State.finish_portCtl h (s.portCtlWrite_same hsame)
  case enters =>
    exact fun s p ha h hrun hhen hready hbank =>
      State.finish_live ha (State.kerfRunEnter_enters h hrun hhen hready hbank)
  case trainFail => exact fun s p ha h => State.finish_live ha (if_pos (beq_iff_eq.2 h))

/-! ### The delay table (R94, R434) -/

/-- DLY_WRITE that reaches FIRE_DLYDATA. -/
theorem exec_dlyWrite {s : State} {o : Sender} {p : Fin 48} (w : Word) (h : s.reaches o FIRE_DLYDATA p = true) :
    exec (.dlyWrite o p w) s = .next (s.close (s.dlyWrite p w)) :=
  congrArg s.finish (State.regCmd_reaches w h (firePort_plainAt _ (by decide) p))

/-- The three entries of word `i`. -/
def State.dlyEntered (s : State) (p i : Nat) (w : Word) : State :=
  ((s.setDly p (3 * i) (FIRE_DLYDATA.ENT0.ext w)).setDly p (3 * i + 1) (FIRE_DLYDATA.ENT1.ext w)).setDly p (3 * i + 2)
    (FIRE_DLYDATA.ENT2.ext w)

section
variable {s : State} {p : Nat} {w : Word}

/-- The index advances from where it stands, wrapping after the last word. -/
theorem State.dlyAdvance_eq (s : State) (p : Nat) : s.dlyAdvance p = s.when (s.on FIRE_DLYIDX.AUTOINC p) fun t =>
    t.setFld FIRE_DLYIDX.WORD ((s.fld FIRE_DLYIDX.WORD p + 1) % 1334) p := by
  unfold State.dlyAdvance State.when
  rfl

/-- At a word of the table a write enters it between jobs and is refused in one; the index advances in both cases. -/
theorem State.dlyWrite_indexed (h : s.fld FIRE_DLYIDX.WORD p ≤ 1333) : s.dlyWrite p w =
    (if s.betweenJobs then s.dlyEntered p (s.fld FIRE_DLYIDX.WORD p) w else s.raise FIRE_GFLAG.DLY_REJ).dlyAdvance p :=
  if_neg (Nat.not_lt.2 h)

theorem State.dlyWrite_outside (h : 1333 < s.fld FIRE_DLYIDX.WORD p) : s.dlyWrite p w = s.raise FIRE_GFLAG.DLY_REJ :=
  if_pos h

end

/-! ### Waveform images (R103) -/

/-- FIRE_WLOAD with the set and the number of segments written. -/
def State.wloadAsked (s : State) (p set nseg : Nat) : State :=
  (s.setFld FIRE_WLOAD.TARGET set p).setFld FIRE_WLOAD.NSEG nseg p

/-- A waveform load that cannot start: its length is out of range, the port is down or loading, or the set is in use. -/
def State.wloadBarred (s : State) (p set nseg : Nat) : Bool :=
  nseg == 0 || decide (64 < nseg) || !s.portUp p || (s.port p).wload.isSome ||
    s.fld FIRE_WAVE.SET p == set || s.fld FIRE_WAVE.COOL p == set || s.waveStaged p set

/-- The load of an image that was read: in progress, with every segment sent. -/
def State.wloadStarted (s : State) (p set nseg : Nat) (image : List Byte) : State :=
  let x : WLoad := { set := set, left := (List.range nseg).map fun g => (g, 0), image := image }
  forTo nseg (fun g t => t.sendWave p x g)
    ((s.updPort p fun y => { y with wload := some x }).setFld FIRE_PORTSTAT.WLOAD_BUSY 1 p)

section
variable (s : State) (p set nseg : Nat)

/-- What FIRE_WLOAD holds tells no other register of the port. -/
theorem State.wloadAsked_fld {f : Fld} (hs : f.reg.s1 = FIRE_WLOAD.s1) (hb : f.reg.base ≠ FIRE_WLOAD.base) :
    (s.wloadAsked p set nseg).fld f p = s.fld f p :=
  (State.fld_setFld_other _ _ _ _ _ _ _ _ (Reg.at_ne_of_base hs hb p)).trans
    (s.fld_setFld_other _ _ _ _ _ _ _ (Reg.at_ne_of_base hs hb p))

/-- Nor does it bar the load. -/
theorem State.wloadAsked_barred : (s.wloadAsked p set nseg).wloadBarred p set nseg = s.wloadBarred p set nseg := by
  unfold State.wloadBarred State.portUp
  rw [s.wloadAsked_fld p set nseg (f := FIRE_WAVE.SET) rfl (by decide),
    s.wloadAsked_fld p set nseg (f := FIRE_WAVE.COOL) rfl (by decide),
    s.wloadAsked_fld p set nseg (f := FIRE_PORTSTAT.LSTATE) rfl (by decide)]
  rfl

theorem State.wloadGo_barred (h : s.wloadBarred p set nseg = true) :
    s.wloadGo p set nseg = (s.wloadAsked p set nseg).raise FIRE_PORTFLAG.WLOAD_REJ p :=
  if_pos ((s.wloadAsked_barred p set nseg).trans h)

/-- Any other load reads its image, which may be answered poisoned (Table 13-3). -/
theorem State.wloadGo_reads (h : s.wloadBarred p set nseg = false) :
    let r := (s.wloadAsked p set nseg).dramRead 6 (s.fld FIRE_WADDR.ADDR p * 16) (256 * nseg)
    s.wloadGo p set nseg = match r.2 with
      | none => r.1.wloadEnd p FIRE_PORTFLAG.WLOAD_ERR
      | some image => r.1.wloadStarted p set nseg image := by
  have hfree : ¬ (s.wloadAsked p set nseg).wloadBarred p set nseg = true := by simp [s.wloadAsked_barred, h]
  rw [← s.wloadAsked_fld p set nseg (f := FIRE_WADDR.ADDR) rfl (by decide)]
  exact if_neg hfree

end

/-- WLOAD_GO is a write of FIRE_WLOAD with GO 1: the load of TARGET and NSEG is asked for. -/
theorem exec_wloadGo {s : State} {o : Sender} {p : Fin 48} (w : Word) (h : s.reaches o FIRE_WLOAD p = true) :
    exec (.wloadGo o p w) s =
      .next (s.close (s.wloadGo p (FIRE_WLOAD.TARGET.ext w) (FIRE_WLOAD.NSEG.ext w))) := by
  have hgo : wbit FIRE_WLOAD.GO (FIRE_WLOAD.GO.ins w 1) = true :=
    beq_iff_eq.2 (Fld.ext_ins_same _ _ _ (by decide) (by decide))
  have hset : FIRE_WLOAD.TARGET.ext (FIRE_WLOAD.GO.ins w 1) = FIRE_WLOAD.TARGET.ext w :=
    Fld.ext_ins_other _ _ _ _ (by decide) (by decide) (by decide) (by decide)
  have hnseg : FIRE_WLOAD.NSEG.ext (FIRE_WLOAD.GO.ins w 1) = FIRE_WLOAD.NSEG.ext w :=
    Fld.ext_ins_other _ _ _ _ (by decide) (by decide) (by decide) (by decide)
  rw [← hset, ← hnseg]
  exact congrArg s.finish
    ((State.regCmd_reaches _ h (firePort_plainAt _ (by decide) p)).trans (if_pos hgo))

/-! ### Suppressed lines (R131) -/

/-- OVSP_FIFO_POP answers what `State.ovspPop` takes. -/
theorem exec_ovspFifoPop {s : State} {o : Sender} (h : s.reaches o FIRE_OVSP_FIFO = true) :
    exec (.ovspFifoPop o) s = .next (s.close (s.ovspPop.1.emit (.regData 0 s.ovspPop.2))) :=
  congrArg s.finish (State.regRead_special h (by decide) (by decide) rfl)

section
variable {s : State}

theorem State.ovspPop_cons {t : Word} {rest : List Word} (h : s.fire.ovspFifo = t :: rest) : s.ovspPop =
    (({ s with fire := { s.fire with ovspFifo := rest } } : State).setFld FIRE_OVSP_STAT.LEVEL rest.length, t) := by
  unfold State.ovspPop
  rw [h]

theorem State.ovspPop_nil (h : s.fire.ovspFifo = []) : s.ovspPop = (s, 0) := by
  unfold State.ovspPop
  rw [h]

end

/-- Settles O22: a write of the delay table falls at a word or outside (`State.dlyWrite_*`); a load is barred or reads its
image (`State.wloadGo_*`), by registers other than the one it writes; a read of the FIFO is `State.ovspPop`. -/
theorem headTablesAndFifoAreAccessed : Obligations.HeadTablesAndFifoAreAccessed := by
  refine ⟨?entered, fun s p ch v h => if_pos h, fun s p ch v h => if_neg (Nat.not_lt.2 h), ?inJob, ?outside, ?barred,
    ?loads, ?poisoned, ?oldest, ?empty⟩
  case entered =>
    intro s o p w h hidx hfree i u
    rw [exec_dlyWrite w h, State.dlyWrite_indexed hidx, if_pos hfree, State.dlyAdvance_eq]
    rfl
  case inJob =>
    intro s o p w h hidx hjob u
    rw [exec_dlyWrite w h, State.dlyWrite_indexed hidx, if_neg (by simp [hjob]), State.dlyAdvance_eq]
  case outside =>
    intro s o p w h hidx
    rw [exec_dlyWrite w h, State.dlyWrite_outside hidx]
  case barred =>
    intro s o p w h hbar u
    rw [exec_wloadGo w h, s.wloadGo_barred _ _ _ hbar]
    rfl
  case loads =>
    intro s o p w bs h hbar hread u x
    have hbytes : ((s.wloadAsked p (FIRE_WLOAD.TARGET.ext w) (FIRE_WLOAD.NSEG.ext w)).dramRead 6
      (s.fld FIRE_WADDR.ADDR p * 16) (256 * FIRE_WLOAD.NSEG.ext w)).2 = some bs := hread
    rw [exec_wloadGo w h, s.wloadGo_reads _ _ _ hbar, hbytes]
    rfl
  case poisoned =>
    intro s o p w h hbar hread u
    have hnone : ((s.wloadAsked p (FIRE_WLOAD.TARGET.ext w) (FIRE_WLOAD.NSEG.ext w)).dramRead 6
      (s.fld FIRE_WADDR.ADDR p * 16) (256 * FIRE_WLOAD.NSEG.ext w)).2 = none := hread
    rw [exec_wloadGo w h, s.wloadGo_reads _ _ _ hbar, hnone]
    rfl
  case oldest =>
    intro s o t rest h hfifo
    rw [exec_ovspFifoPop h, State.ovspPop_cons hfifo]
  case empty =>
    intro s o h hfifo
    rw [exec_ovspFifoPop h, State.ovspPop_nil hfifo]

end Sys2Proof.Machine

/-! Proofs about the motion axes' currents, senses and chopper (R355, R357, R359, R362) and about the swaths and their
tables (R124, R127). -/

namespace Sys2Proof.Machine

/-- An event that changes nothing ends as it began, whether the block takes it or not. -/
theorem State.finish_live_unchanged {s : State} {f : State → State} (h : f s = s) :
    s.finish (s.live f) = .next (s.close s) := by
  unfold State.live
  rw [h, ite_self]
  rfl

/-! ### What an axis's own state and its flags leave -/

/-- The words that tell whether an axis's inputs act. -/
def senseWords : List Nat := SYS_SUPSTAT.at 0 :: heldWords

theorem motStat_notSense : ∀ n : Fin 8, ∀ a ∈ senseWords, a ≠ MOT_STAT.at n := by decide

section
variable (s : State) (n : Nat) (x : Axis)

@[simp] theorem State.setAxis_axis : (s.setAxis n x).axis n = x := SMap.get_set_same _ _ _ _

/-- Setting an axis leaves every register but its MOT_STAT. -/
theorem State.setAxis_word {a : Nat} (h : a ≠ MOT_STAT.at n) : (s.setAxis n x).word a = s.word a :=
  State.word_setFld_other _ _ _ _ _ _ h

/-- Of its MOT_STAT it sets QLEVEL alone. -/
@[simp] theorem State.setAxis_astate : (s.setAxis n x).astate n = s.astate n :=
  State.fld_setFld_beside _ MOT_STAT.QLEVEL MOT_STAT.ASTATE _ _ _ rfl (by decide) (by decide) (by decide) (by decide)

@[simp] theorem State.setAxis_axisUp : (s.setAxis n x).axisUp n = s.axisUp n := by
  unfold State.axisUp
  rw [State.setAxis_astate]

end

section
variable (s : State) (n : Fin 8) (x : Axis)

@[simp] theorem State.setAxis_blkHeld (b : Nat) : (s.setAxis n x).blkHeld b = s.blkHeld b :=
  State.blkHeld_of_words (fun _ ha => s.setAxis_word n x (motStat_notSense n _ (List.mem_cons_of_mem _ ha))) b

/-- An axis's own state does not tell whether its inputs act. -/
@[simp] theorem State.setAxis_axisSenses : (s.setAxis n x).axisSenses n = s.axisSenses n := by
  have hrail : (s.setAxis n x).fld SYS_SUPSTAT.RAIL_OK = s.fld SYS_SUPSTAT.RAIL_OK :=
    State.fld_of_word (s.setAxis_word n x (motStat_notSense n _ List.mem_cons_self))
  have hpd : (s.setAxis n x).pdOn 9 = s.pdOn 9 :=
    State.pdOn_of_words (fun _ ha => s.setAxis_word n x (motStat_notSense n _ (List.mem_cons_of_mem _ ha))) 9
  unfold State.axisSenses State.railOk
  rw [s.setAxis_blkHeld n x, hpd, hrail]

/-- A flag of the axis leaves its state. -/
theorem State.raise_axisUp {f : Fld} (hf : f.reg = MOT_FLAG) (hb : f.lo < 40) : (s.raise f n).axisUp n = s.axisUp n := by
  have hrow : flagRow? f.reg = some ⟨MOT_FLAG, MOT_FLAGEN, 1568, 16⟩ := by rw [hf]; decide
  have hout : ∀ m : Fin 8, TALLY_CNT.at 4000 < MOT_STAT.at m ∧ MOT_STAT.at m ≠ MOT_FLAG.at m ∧
      MOT_STAT.at m ≠ HLNK_FLAG.at 0 := by decide
  obtain ⟨htally, hflag, hlink⟩ := hout n
  have hstate : (s.raise f n).astate n = s.astate n :=
    State.fld_of_word (s.raiseAt_word_outside none 0 hrow n.isLt hb (Or.inr htally) hflag hlink)
  unfold State.axisUp
  rw [hstate]

end

/-- An axis whose inputs act has its rail. -/
theorem State.axisSenses_railOk {s : State} {n : Nat} (h : s.axisSenses n = true) : s.railOk 1 = true := by
  unfold State.axisSenses at h
  simp only [Bool.and_eq_true] at h
  exact h.2

/-! ### The current in force (R355) -/

theorem State.setCur_eq (s : State) (n c : Nat) :
    s.setCur n c = (s.updAxis n fun x => { x with cur := c, ramp := none }).setFld MOT_STAT.REDUCED
      (if c < s.fld MOT_CUR.RUN n then 1 else 0) n := by
  unfold State.setCur bit
  simp only [decide_eq_true_eq]

section
variable {s : State} {n : Nat}

theorem State.currentReduce_starts (h : s.astate n = 1 ∨ s.astate n = 2) (hramp : (s.axis n).ramp = none) :
    s.currentReduce n = s.updAxis n fun x => { x with ramp := some (s.cycle, s.fld MOT_CUR.HOLD n) } :=
  if_pos (by simpa [hramp] using h)

theorem State.currentReduce_idle (h : (s.astate n ≠ 1 ∧ s.astate n ≠ 2) ∨ (s.axis n).ramp ≠ none) :
    s.currentReduce n = s := by
  refine if_neg ?_
  rcases h with ⟨h1, h2⟩ | hramp
  · simp [h1, h2]
  · simp [hramp]

section
variable {a g : Nat} (h : (s.axis n).ramp = some (a, g))
include h

theorem State.curNow_ramp : s.curNow n = (((s.axis n).cur : Int) +
    Int.tdiv (((g : Int) - (s.axis n).cur) * (min 1200000 (s.cycle - a) : Nat)) 1200000).toNat := by
  unfold State.curNow
  simp only [h]

/-- The ramp up adds its share of the difference. -/
theorem State.curNow_rises (hle : (s.axis n).cur ≤ g) : s.curNow n =
    (s.axis n).cur + (g - (s.axis n).cur) * min 1200000 (s.cycle - a) / 1200000 := by
  rw [State.curNow_ramp h, ← Int.ofNat_sub hle]
  exact Int.toNat_natCast _

/-- The ramp down takes its share of the difference, which truncation rounds down as well. -/
theorem State.curNow_falls (hle : g ≤ (s.axis n).cur) : s.curNow n =
    (s.axis n).cur - ((s.axis n).cur - g) * min 1200000 (s.cycle - a) / 1200000 := by
  rw [State.curNow_ramp h, ← Int.neg_sub, ← Int.ofNat_sub hle, Int.neg_mul, Int.neg_tdiv, ← sub_eq_add_neg]
  exact Int.toNat_sub _ _

end

end

/-! ### Faults (R362, Table 18-3) -/

/-- What a fault does to an axis that is on, after its flag. -/
def State.faultTaken (s : State) (f : Fld) (n : Nat) : State :=
  (((((s.when (!s.on MOT_FLAG.FAULT n) (·.setFld MOT_FAULTINFO.BIT f.lo n)).motStop n).raise MOT_FLAG.FAULT n).setAstate
    n 4).motEnOut n).bridgesOff n

section
variable {s : State} {n : Fin 8} {f : Fld} (hf : f.reg = MOT_FLAG) (hb : f.lo < 40)
include hf hb

/-- A fault sets its flag; an axis that is on takes it. -/
theorem State.motFault_up (hup : s.axisUp n = true) : s.motFault f n = (s.raise f n).faultTaken f n :=
  if_pos ((s.raise_axisUp n hf hb).trans hup)

theorem State.motFault_down (hup : s.axisUp n = false) : s.motFault f n = s.raise f n :=
  if_neg (by rw [s.raise_axisUp n hf hb, hup]; decide)

end

section
variable {s : State} {n : Fin 8}

theorem State.overCur_up (hs : s.axisSenses n = true) (hup : s.axisUp n = true) :
    s.overCur n = (s.raise MOT_FLAG.OVERCUR n).faultTaken MOT_FLAG.OVERCUR n :=
  (if_pos (by rw [hs, hup]; rfl)).trans (State.motFault_up rfl (by decide) hup)

theorem State.overCur_off (h : s.axisUp n = false ∨ s.axisSenses n = false) : s.overCur n = s :=
  if_neg (by rcases h with h | h <;> simp [h])

theorem State.openMotor_up (hs : s.axisSenses n = true) (hup : s.axisUp n = true) (hm : s.fld MOT_AXCFG.MODE n = 1)
    (h : s.openChecked n 0 = true ∨ s.openChecked n 1 = true) :
    s.openMotor n = (s.raise MOT_FLAG.OPEN n).faultTaken MOT_FLAG.OPEN n :=
  (if_pos (by simpa [hs, hup, hm] using h)).trans (State.motFault_up rfl (by decide) hup)

theorem State.openMotor_off (h : s.axisUp n = false ∨ s.axisSenses n = false) : s.openMotor n = s :=
  if_neg (by rcases h with h | h <;> simp [h])

/-- Outside BRIDGE mode, or with both phases driven to less than a quarter of RUN, nothing is checked. -/
theorem State.openMotor_unchecked
    (h : s.fld MOT_AXCFG.MODE n ≠ 1 ∨ (s.openChecked n 0 = false ∧ s.openChecked n 1 = false)) : s.openMotor n = s := by
  refine if_neg ?_
  rcases h with hm | ⟨ha, hb⟩
  · simp [hm]
  · simp [ha, hb]

end

/-! ### The bridge fault and the limit (R362, R401) -/

/-- The level of the fault input, taken. -/
def State.fltTaken (s : State) (n : Nat) (low : Bool) : State := s.updAxis n fun x => { x with fltLow := low }

/-- The level of the limit input, taken. -/
def State.limitTaken (s : State) (n : Nat) (high : Bool) : State := s.updAxis n fun x => { x with limHigh := high }

/-- The move in progress. -/
def State.running (s : State) (n : Nat) : Option MoveRun := if s.astate n = 3 then (s.axis n).run else none

/-- The limit stops a move in progress with steps left that runs into it. -/
def State.limitActs (s : State) (n : Nat) : Option MoveRun → State
  | some r => if s.atLimit n r.m.dir && decide (0 < r.left) then s.limitStop n else s
  | none => s

section
variable {s : State} {n : Fin 8}

theorem State.bridgeFlt_low (hs : s.axisSenses n = true) :
    s.bridgeFlt n true = (s.fltTaken n true).motFault MOT_FLAG.BRIDGE_FLT n := by
  have hsense : (s.fltTaken n true).axisSenses n = true := (s.setAxis_axisSenses n _).trans hs
  exact (if_neg (by simp [State.axisSenses_railOk hs])).trans (if_pos hsense)

theorem State.bridgeFlt_high (hr : s.railOk 1 = true) : s.bridgeFlt n false = s.fltTaken n false :=
  if_neg (by simp [hr])

theorem State.limitTaken_atLimit (high dir : Bool) : (s.limitTaken n high).atLimit n dir =
    (high == s.on MOT_STALL.LIM_POL n && s.on MOT_STALL.LIM_DIR n == dir) := by
  have hword : (s.limitTaken n high).word (MOT_STALL.at n) = s.word (MOT_STALL.at n) :=
    s.setAxis_word n _ (Reg.at_ne_of_base (r := MOT_STALL) (q := MOT_STAT) rfl (by decide) n)
  have hpol : (s.limitTaken n high).on MOT_STALL.LIM_POL n = s.on MOT_STALL.LIM_POL n := State.on_of_word hword
  have hdir : (s.limitTaken n high).on MOT_STALL.LIM_DIR n = s.on MOT_STALL.LIM_DIR n := State.on_of_word hword
  have haxis : ((s.limitTaken n high).axis n).limHigh = high := congrArg Axis.limHigh (s.setAxis_axis n _)
  unfold State.atLimit State.limActive
  rw [haxis, hpol, hdir]

theorem State.limitTaken_running (high : Bool) : (s.limitTaken n high).running n = s.running n := by
  have hstate : (s.limitTaken n high).astate n = s.astate n := s.setAxis_astate n _
  have haxis : (s.limitTaken n high).axis n = { s.axis n with limHigh := high } := s.setAxis_axis n _
  unfold State.running
  rw [hstate, haxis]

/-- The level is taken; it acts on the move in progress. -/
theorem State.motLimit_eq (high : Bool) (hr : s.railOk 1 = true) :
    s.motLimit n high = (s.limitTaken n high).limitActs n (s.running n) := by
  rw [← State.limitTaken_running high]
  exact if_neg (by simp [hr])

/-- While no move is in progress the level is taken alone. -/
theorem State.motLimit_stands (high : Bool) (hr : s.railOk 1 = true) (h : s.running n = none) :
    s.motLimit n high = s.limitTaken n high := by
  rw [State.motLimit_eq high hr, h]
  rfl

section
variable (high : Bool) {r : MoveRun} (hr : s.railOk 1 = true) (hrun : s.running n = some r)
include hr hrun

/-- A move with steps left is stopped where the level is active and the limit lies in its direction. -/
theorem State.motLimit_stops (hhigh : high = s.on MOT_STALL.LIM_POL n) (hdir : s.on MOT_STALL.LIM_DIR n = r.m.dir)
    (hleft : 0 < r.left) : s.motLimit n high = (s.limitTaken n high).limitStop n := by
  rw [State.motLimit_eq high hr, hrun]
  exact if_pos (by simp [State.limitTaken_atLimit, hhigh, hdir, hleft])

theorem State.motLimit_passes (h : r.left = 0 ∨ high ≠ s.on MOT_STALL.LIM_POL n ∨
    s.on MOT_STALL.LIM_DIR n ≠ r.m.dir) : s.motLimit n high = s.limitTaken n high := by
  rw [State.motLimit_eq high hr, hrun]
  refine if_neg ?_
  rw [State.limitTaken_atLimit]
  rcases h with h | h | h
  · simp [h]
  · simp [h]
  · simp [h]

end

end

/-! ### The stall check and the encoder (R359) -/

section
variable {s : State} {n : Fin 8}

theorem State.motStall_flags (hs : s.axisSenses n = true) (hen : s.on MOT_STALL.STALL_EN n = true)
    (hdev : s.fld MOT_STALL.WINDOW n < (s.motDev n).natAbs) :
    let u := (s.raise MOT_FLAG.STALL n).setFld MOT_STAT.SUSPECT 1 n
    s.motStall n = if u.on MOT_STALL.STALL_ACT n ∧ u.axisUp n then (u.motStop n).setAstate n 1 else u := by
  intro u
  rw [ite_and]
  exact if_pos (by simp [hs, hen, hdev])

theorem State.motStall_within (h : s.axisSenses n = false ∨ s.on MOT_STALL.STALL_EN n = false ∨
    (s.motDev n).natAbs ≤ s.fld MOT_STALL.WINDOW n) : s.motStall n = s := by
  refine if_neg ?_
  rcases h with hs | hen | hdev
  · simp [hs]
  · simp [hen]
  · simp [Nat.not_lt.2 hdev]

/-- The encoder's levels, taken. -/
def State.encTaken (s : State) (n : Nat) (a b : Bool) : State := s.setAxis n { s.axis n with qa := a, qb := b }

/-- A change of one level counts by its direction, out of block reset. -/
theorem State.motEncoderEdge_counts {a b : Bool} (hr : s.railOk 1 = true) (hheld : s.blkHeld (60 + n) = false)
    (h : ((s.axis n).qa == a) ≠ ((s.axis n).qb == b)) : s.motEncoderEdge n a b =
      (s.encTaken n a b).setReg MOT_ENCCNT (if quadRev (s.axis n).qa a b then (s.encTaken n a b).reg MOT_ENCCNT n - 1
        else (s.encTaken n a b).reg MOT_ENCCNT n + 1) n := by
  have hfree : (s.encTaken n a b).blkHeld (60 + n) = false := (s.setAxis_blkHeld n _ _).trans hheld
  have hcounts : (((s.axis n).qa == a) == ((s.axis n).qb == b) || (s.encTaken n a b).blkHeld (60 + n)) = false := by
    rw [hfree, beq_eq_false_iff_ne.2 h]
    rfl
  exact (if_neg (by simp [hr])).trans (if_neg (Bool.eq_false_iff.1 hcounts))

theorem State.motEncoderEdge_counts_none {a b : Bool} (hr : s.railOk 1 = true)
    (h : ((s.axis n).qa = a ↔ (s.axis n).qb = b) ∨ s.blkHeld (60 + n) = true) :
    s.motEncoderEdge n a b = s.encTaken n a b := by
  have hheld : (s.encTaken n a b).blkHeld (60 + n) = s.blkHeld (60 + n) := s.setAxis_blkHeld n _ _
  have hskip : (((s.axis n).qa == a) == ((s.axis n).qb == b) || (s.encTaken n a b).blkHeld (60 + n)) = true := by
    rw [hheld]
    rcases h with hsame | hheld
    · rw [Bool.or_eq_true, beq_iff_eq, Bool.eq_iff_iff, beq_iff_eq, beq_iff_eq]
      exact Or.inl hsame
    · simp [hheld]
  exact (if_neg (by simp [hr])).trans (if_pos hskip)

end

/-! ### The chopper (R357) -/

/-- A phase of the axis's chopper. -/
def State.chopPhase (s : State) (n k : Nat) : ChopPhase := if k = 0 then (s.axis n).chA else (s.axis n).chB

/-- The phase after a threshold that ends its drive (upper) or its decay, `t` cycles into it. -/
def State.chopNext (s : State) (n k : Nat) (upper : Bool) (t : Nat) : ChopPhase :=
  let c := s.chopPhase n k
  if upper then { c with drive := false, tOn := t } else { c with drive := true, ofs := s.chopOfs n c.tOn t c.ofs }

/-- A threshold taken: the phase switches, and its bridge unless the hot-plug logic holds it. -/
def State.chopTaken (s : State) (n k : Nat) (upper : Bool) (t : Nat) : State :=
  let c := s.chopNext n k upper t
  let u := s.setAxis n (if k = 0 then { s.axis n with chA := c } else { s.axis n with chB := c })
  u.when (!u.hpGates) (·.emit (.bridge n k c.drive (u.phaseNeg n k) (u.chopDecay n) (u.fld MOT_CHOP.FASTT n)
    (u.chopThr n k c)))

section
variable {s : State} {n k t : Nat} {upper : Bool}

/-- The threshold in turn, past the blanking and TOFF_MIN, is taken. -/
theorem State.chopper_switches (hm : s.fld MOT_AXCFG.MODE n = 1) (hup : s.axisUp n = true) (hs : s.axisSenses n = true)
    (hturn : (s.chopPhase n k).drive = upper) (htoff : upper = true ∨ s.fld MOT_CHOP.TOFF_MIN n ≤ max 1 t)
    (hblank : s.blanked n upper (max 1 t) = false) : s.chopper n k upper t = s.chopTaken n k upper (max 1 t) := by
  have htoff : (!upper && decide (max 1 t < s.fld MOT_CHOP.TOFF_MIN n)) = false := by
    rcases htoff with h | h
    · simp [h]
    · simp [Nat.not_lt.2 h]
  have hopen : ((s.chopPhase n k).drive != upper || !upper && decide (max 1 t < s.fld MOT_CHOP.TOFF_MIN n) ||
      s.blanked n (s.chopPhase n k).drive (max 1 t)) = false := by
    rw [hturn, htoff, hblank, bne_self_eq_false]
    rfl
  exact (if_neg (by simp [hm, hup, hs])).trans (if_neg (Bool.eq_false_iff.1 hopen))

theorem State.chopper_ignores (h : s.fld MOT_AXCFG.MODE n ≠ 1 ∨ s.axisUp n = false ∨ s.axisSenses n = false ∨
    s.blanked n upper (max 1 t) = true ∨ (s.chopPhase n k).drive ≠ upper ∨
    (upper = false ∧ max 1 t < s.fld MOT_CHOP.TOFF_MIN n)) : s.chopper n k upper t = s := by
  by_cases hoff : s.fld MOT_AXCFG.MODE n ≠ 1 ∨ (!s.axisUp n) = true ∨ (!s.axisSenses n) = true
  case pos => exact if_pos hoff
  case neg =>
    have hbarred : ((s.chopPhase n k).drive != upper || !upper && decide (max 1 t < s.fld MOT_CHOP.TOFF_MIN n) ||
        s.blanked n (s.chopPhase n k).drive (max 1 t)) = true := by
      by_cases hturn : (s.chopPhase n k).drive = upper
      case neg => simp [hturn]
      case pos =>
        simp only [Bool.not_eq_true', not_or] at hoff
        obtain ⟨hm, hup, hs⟩ := hoff
        rcases h with h | h | h | h | h | ⟨h, htoff⟩
        · exact absurd h hm
        · exact absurd h hup
        · exact absurd h hs
        · rw [hturn, h, Bool.or_true]
        · exact absurd hturn h
        · simp [h, htoff]
    exact (if_neg hoff).trans (if_pos hbarred)

end

section
variable (s : State) (n t : Nat)

theorem State.blanked_drive : s.blanked n true t = decide (t < s.fld MOT_CHOP.BLANK n) := by
  unfold State.blanked
  simp

/-- A mixed decay is blanked from its start and from its switch to slow decay. -/
theorem State.blanked_mixed (h : s.fld MOT_CHOP.DECAY n = 2) : s.blanked n false t = true ↔ t < s.fld MOT_CHOP.BLANK n ∨
    (s.fld MOT_CHOP.FASTT n ≤ t ∧ t < s.fld MOT_CHOP.FASTT n + s.fld MOT_CHOP.BLANK n) := by
  unfold State.blanked State.chopDecay
  simp [h]

end

theorem State.chopOfs_fixed {s : State} {n : Nat} (h : s.on MOT_CHOP.ADAPT n = false) (a b : Nat) (x : Int) :
    s.chopOfs n a b x = 0 :=
  if_neg (by simp [h])

/-! ### Swaths, passes and masks (R124, R127) -/

/-- A word of the pass table set. -/
def State.setPass (s : State) (i : Nat) (w : Word) : State :=
  { s with scan := { s.scan with pass := SMap.set 0 s.scan.pass i w } }

section
variable {s : State} {o : Sender} (w : Word)

/-- SWATH_RESUME without a guard is a write of FIRE_SCANCTL with RESUME 1. -/
theorem exec_swathResume (h : s.reaches o FIRE_SCANCTL = true)
    (hu : s.unguarded o FIRE_SCANCTL 0 (putFields (s.reg FIRE_SCANCTL) [(FIRE_SCANCTL.RESUME, 1)]) = true) :
    exec (.swathResume o) s = .next (s.close
      (s.store FIRE_SCANCTL 0 0 (putFields (s.reg FIRE_SCANCTL) [(FIRE_SCANCTL.RESUME, 1)])).swathResume) := by
  have hresume : wbit FIRE_SCANCTL.RESUME (FIRE_SCANCTL.RESUME.ins (s.reg FIRE_SCANCTL) 1) = true :=
    beq_iff_eq.2 (Fld.ext_ins_same _ _ _ (by decide) (by decide))
  exact congrArg s.finish
    ((State.regCmd_unguarded h hu (by decide) (by decide)).trans (if_pos hresume))

theorem exec_passWrite (h : s.reaches o FIRE_PASSDATA = true) :
    exec (.passWrite o w) s = .next (s.close (s.passWrite w)) :=
  congrArg s.finish (State.regCmd_reaches w h (by decide))

theorem exec_maskWrite (h : s.reaches o FIRE_MASKDATA = true) :
    exec (.maskWrite o w) s = .next (s.close (s.maskWrite w)) :=
  congrArg s.finish (State.regCmd_reaches w h (by decide))

/-- A pass entry that no swath in hand can use is written, and the index advances. -/
theorem State.passWrite_free (h : s.fld FIRE_SCANSTAT.SSTATE = 0 ∨
    s.passLocked (s.fld FIRE_SCANSTAT.PASS) (s.fld FIRE_PASSIDX.ENTRY) 256 = false) :
    s.passWrite w = (s.setPass (2 * s.fld FIRE_PASSIDX.ENTRY + s.fld FIRE_PASSIDX.WORD) w).passAdvance := by
  refine congrArg State.passAdvance (if_neg ?_)
  unfold State.on
  rcases h with h | h
  · simp [h]
  · simp [h]

theorem State.passWrite_locked (hs : s.fld FIRE_SCANSTAT.SSTATE ≠ 0)
    (h : s.passLocked (s.fld FIRE_SCANSTAT.PASS) (s.fld FIRE_PASSIDX.ENTRY) 256 = true) :
    s.passWrite w = (s.raise FIRE_SCANFLAG.PASS_REJ).passAdvance :=
  congrArg State.passAdvance (if_pos (by simp [State.on, hs, h]))

end

/-- Settles O56: an input acts on an axis by the words and levels that setting the axis or its flag leaves
(`State.setAxis_axisSenses`, `State.raise_axisUp`); each event is taken or changes nothing (`finish_live_unchanged`). -/
theorem axesAreSensedAndSwathsArmed : Obligations.AxesAreSensedAndSwathsArmed := by
  refine ⟨?reduces, fun s n a g h hle => State.curNow_rises h hle, fun s n a g h hle => State.curNow_falls h hle,
    ?reducesNot, State.setCur_eq, ?stalls, ?stallsNot, ?overcur, ?openMotor, ?openUnchecked, ?off, ?bridgeUp,
    ?bridgeDown, ?bridgeHigh, ?railLost, ?limitStands, ?limitStops, ?limitPasses, ?countsA, ?countsB, by decide,
    ?countsNone, ?upperA, ?upperB, ?lowerA, ?lowerB, ?ignored, State.blanked_drive, State.blanked_mixed,
    fun s n a b x h => State.chopOfs_fixed h a b x, ?resumeWrites, ?resumes, ?passFree, ?passLocked, ?maskFree,
    ?maskLocked⟩
  case reduces => exact fun s n ha h hramp => State.finish_live ha (State.currentReduce_starts h hramp)
  case reducesNot => exact fun s n h => State.finish_live_unchanged (State.currentReduce_idle h)
  case stalls => exact fun s n ha hs hen hdev => State.finish_live ha (State.motStall_flags hs hen hdev)
  case stallsNot => exact fun s n h => State.finish_live_unchanged (State.motStall_within h)
  case overcur => exact fun s n ha hs hup => State.finish_live ha (State.overCur_up hs hup)
  case openMotor =>
    intro s n ha hs hup hm h
    exact State.finish_live ha (State.openMotor_up hs hup hm (h.imp decide_eq_true decide_eq_true))
  case openUnchecked =>
    intro s n hup h
    refine State.finish_live_unchanged (State.openMotor_unchecked (h.imp_right fun hlt => ?_))
    exact ⟨decide_eq_false (Nat.not_le.2 hlt.1), decide_eq_false (Nat.not_le.2 hlt.2)⟩
  case off =>
    exact fun s n h => ⟨State.finish_live_unchanged (State.overCur_off h),
      State.finish_live_unchanged (State.openMotor_off h)⟩
  case bridgeUp =>
    intro s n ha hs hup
    have hup : (s.fltTaken n true).axisUp n = true := (s.setAxis_axisUp n _).trans hup
    exact State.finish_live ha ((State.bridgeFlt_low hs).trans (State.motFault_up rfl (by decide) hup))
  case bridgeDown =>
    intro s n ha hs hup
    have hup : (s.fltTaken n true).axisUp n = false := (s.setAxis_axisUp n _).trans hup
    exact State.finish_live ha ((State.bridgeFlt_low hs).trans (State.motFault_down rfl (by decide) hup))
  case bridgeHigh => exact fun s n ha hr => State.finish_live ha (State.bridgeFlt_high hr)
  case railLost =>
    intro s n a b hr
    have hlost : (!s.railOk 1) = true := by rw [hr]; rfl
    exact ⟨State.finish_live_unchanged (if_pos hlost), State.finish_live_unchanged (if_pos hlost),
      State.finish_live_unchanged (if_pos hlost)⟩
  case limitStands =>
    intro s n high ha hr h
    have hnone : s.running n = none := h.elim (fun h3 => if_neg h3) fun hrun => by rw [State.running, hrun, ite_self]
    exact State.finish_live ha (State.motLimit_stands high hr hnone)
  case limitStops =>
    intro s n high r ha h3 hrun hr hleft hhigh hdir u
    exact State.finish_live ha (State.motLimit_stops high hr ((if_pos h3).trans hrun) hhigh hdir hleft)
  case limitPasses =>
    intro s n high r ha hr hrun h
    refine State.finish_live ha ?_
    by_cases h3 : s.astate n = 3
    case neg => exact State.motLimit_stands high hr (if_neg h3)
    case pos => exact State.motLimit_passes high hr ((if_pos h3).trans hrun) h
  case countsA =>
    intro s n a ha hr hne hfree
    exact State.finish_live ha (State.motEncoderEdge_counts hr hfree (by simpa using hne))
  case countsB =>
    intro s n b ha hr hne hfree
    exact State.finish_live ha (State.motEncoderEdge_counts hr hfree (by simpa using hne))
  case countsNone => exact fun s n a b ha hr h => State.finish_live ha (State.motEncoderEdge_counts_none hr h)
  case upperA =>
    exact fun s n t ha hs hup hm hturn hblank =>
      State.finish_live ha (State.chopper_switches (k := 0) hm hup hs hturn (Or.inl rfl) hblank)
  case upperB =>
    exact fun s n t ha hs hup hm hturn hblank =>
      State.finish_live ha (State.chopper_switches (k := 1) hm hup hs hturn (Or.inl rfl) hblank)
  case lowerA =>
    exact fun s n t ha hs hup hm hturn htoff hblank =>
      State.finish_live ha (State.chopper_switches (k := 0) hm hup hs hturn (Or.inr htoff) hblank)
  case lowerB =>
    exact fun s n t ha hs hup hm hturn htoff hblank =>
      State.finish_live ha (State.chopper_switches (k := 1) hm hup hs hturn (Or.inr htoff) hblank)
  case ignored => exact fun s n k u t h => State.finish_live_unchanged (State.chopper_ignores h)
  case resumeWrites =>
    intro s o h
    exact congrArg s.finish (State.sends_maySend ((s.reaches_iff o FIRE_SCANCTL 0).1 h).1 _)
  case resumes => exact fun s o h hu => exec_swathResume h hu
  case passFree =>
    intro s o w h hfree
    rw [exec_passWrite w h, State.passWrite_free w hfree]
    rfl
  case passLocked =>
    intro s o w h hs hlocked
    rw [exec_passWrite w h, State.passWrite_locked w hs hlocked]
  case maskFree =>
    intro s o w h hfree
    exact (exec_maskWrite w h).trans (congrArg (fun t => s.finish (State.maskAdvance t)) (if_pos hfree))
  case maskLocked =>
    intro s o w h hjob
    exact (exec_maskWrite w h).trans
      (congrArg (fun t => s.finish (State.maskAdvance t)) (if_neg (by rw [hjob]; decide)))

end Sys2Proof.Machine

/-! Proofs about the calibration banks and the logs kept in DRAM (R145, R150, R151, R174, R175): what a write of their
registers comes to, and what an entry's way to its ring leaves. -/

namespace Sys2Proof.Machine

/-! ### The banks (R145) -/

section
variable {s : State} {o : Sender} (w : Word)

/-- Neither sender is the loader, so a write of CAL_BANKDATA meets the tests of R145. -/
theorem exec_calBankWrite (h : s.reaches o CAL_BANKDATA = true) :
    exec (.calBankWrite o w) s = .next (s.close (s.calBankWrite w)) := by
  refine congrArg s.finish ((State.regCmd_reaches w h (by decide)).trans ?_)
  cases o with
  | host => rfl
  | warden => rfl

theorem State.calBankWrite_outside (hidx : s.calIdxOk = false) :
    s.calBankWrite w = s.raise CAL_FLAG.BANK_REJ :=
  if_pos (by simp [hidx])

section
variable (hidx : s.calIdxOk = true)
include hidx

theorem State.calBankWrite_puts (hopen : s.calClosed (s.fld CAL_BANKIDX.BANK) = false)
    (hword : calDataOk (s.fld CAL_BANKIDX.TABLE) (s.fld CAL_BANKIDX.WORD) w = true) :
    s.calBankWrite w = (s.putCalWord (s.fld CAL_BANKIDX.BANK) (s.fld CAL_BANKIDX.PORT) (s.fld CAL_BANKIDX.TABLE)
      (s.fld CAL_BANKIDX.WORD) w).calAdvance :=
  (if_neg (by simp [hidx])).trans (congrArg State.calAdvance (if_neg (by simp [hopen, hword])))

theorem State.calBankWrite_rejects (hbarred : (s.calClosed (s.fld CAL_BANKIDX.BANK) ||
    !calDataOk (s.fld CAL_BANKIDX.TABLE) (s.fld CAL_BANKIDX.WORD) w) = true) :
    s.calBankWrite w = (s.raise CAL_FLAG.BANK_REJ).calAdvance :=
  (if_neg (by simp [hidx])).trans (congrArg State.calAdvance (if_pos hbarred))

end

end

/-- Settles O37: the index, then the bank and the word, decide a delivered write (`State.calBankWrite_puts`,
`State.calBankWrite_rejects`, `State.calBankWrite_outside`). -/
theorem calibrationBankIsWrittenWhileClosedToUse : Obligations.CalibrationBankIsWrittenWhileClosedToUse := by
  refine ⟨?puts, ?rejects, ?outside⟩
  case puts =>
    intro s o w h hidx hopen hword
    rw [exec_calBankWrite w h, State.calBankWrite_puts w hidx hopen hword]
  case rejects =>
    intro s o w h hidx hbarred
    rw [exec_calBankWrite w h, State.calBankWrite_rejects w hidx hbarred]
  case outside =>
    intro s o w h hidx
    rw [exec_calBankWrite w h, State.calBankWrite_outside w hidx]

/-! ### Entries on their way to a ring (R150, R174) -/

section
variable {s : State} {r : List (BitVec 64)} {rest : List (List (BitVec 64))}

/-- The oldest record leaves the queue when DRAM took all its units. -/
theorem State.recordWrite_cons (h : s.txn.records = r :: rest) : s.recordWrite =
    let ring := s.ringWrite (s.fld TXN_RLOGBASE.ADDR) s.recLog2 (s.fld TXN_RLOGWR.IDX) r
    if ring.2 then ((ring.1.txnUpd fun x => { x with records := rest }).setFld TXN_RLOGWR.IDX
      (lineMod (s.fld TXN_RLOGWR.IDX + r.length / 2))).txnSync else ring.1 := by
  unfold State.recordWrite
  rw [h]

theorem State.recordWrite_nil (h : s.txn.records = []) : s.recordWrite = s := by
  unfold State.recordWrite
  rw [h]

/-- The entries of the oldest change get their numbers, and leave the queue when DRAM took them all. -/
theorem State.substLogWrite_cons (h : s.txn.logQ = r :: rest) : s.substLogWrite =
    let ring := s.ringWrite (s.fld CAL_LOGBASE.ADDR) s.calLog2 (s.fld CAL_LOGWR.IDX) (logSeq (s.fld CAL_LOGWR.IDX) r)
    if ring.2 then ((ring.1.txnUpd fun x => { x with logQ := rest }).setFld CAL_LOGWR.IDX
      (lineMod (s.fld CAL_LOGWR.IDX + r.length / 2))).txnSync else ring.1 := by
  unfold State.substLogWrite
  rw [h]

theorem State.substLogWrite_nil (h : s.txn.logQ = []) : s.substLogWrite = s := by
  unfold State.substLogWrite
  rw [h]

end

/-! ### The registers of a log (R151, R175) -/

/-- Nothing of the substitution log is outstanding: its indexes agree and no entry is reserved. -/
abbrev State.calLogIdle (s : State) : Prop := s.fld CAL_LOGWR.IDX = s.fld CAL_LOGRD.IDX ∧ s.fld CAL_LOGSTAT.RESV = 0

/-- Nothing of the record log is outstanding. -/
abbrev State.recLogIdle (s : State) : Prop := s.fld TXN_RLOGWR.IDX = s.fld TXN_RLOGRD.IDX ∧ s.fld TXN_RLOGSTAT.RESV = 0

section
variable {s : State} {o : Sender} {cfg : Bool} (w : Word)

theorem exec_logRej (h : s.reaches o (if cfg then CAL_LOGCFG else CAL_LOGBASE) = true) :
    exec (.logRej o cfg w) s = .next (s.close (s.calLogWrite cfg w)) := by
  cases cfg with
  | false => exact congrArg s.finish (State.regCmd_reaches w h (by decide))
  | true => exact congrArg s.finish (State.regCmd_reaches w h (by decide))

theorem exec_rlogRej (h : s.reaches o (if cfg then TXN_RLOGCFG else TXN_RLOGBASE) = true) :
    exec (.rlogRej o cfg w) s = .next (s.close (s.rlogWrite cfg w)) := by
  cases cfg with
  | false => exact congrArg s.finish (State.regCmd_reaches w h (by decide))
  | true => exact congrArg s.finish (State.regCmd_reaches w h (by decide))

theorem State.calLogWrite_base (hidle : s.calLogIdle) :
    s.calLogWrite false w = s.setFld CAL_LOGBASE.ADDR (CAL_LOGBASE.ADDR.ext w) :=
  if_pos hidle

theorem State.calLogWrite_cfg (hidle : s.calLogIdle) : s.calLogWrite true w =
    (s.setFld CAL_LOGCFG.LOG2 (CAL_LOGCFG.LOG2.ext w)).setFld CAL_LOGCFG.EN (CAL_LOGCFG.EN.ext w) :=
  if_pos hidle

theorem State.calLogWrite_rejects (hbusy : ¬ s.calLogIdle) : s.calLogWrite cfg w = s.raise CAL_FLAG.LOG_REJ :=
  if_neg hbusy

theorem State.rlogWrite_base (hidle : s.recLogIdle) :
    s.rlogWrite false w = s.setFld TXN_RLOGBASE.ADDR (TXN_RLOGBASE.ADDR.ext w) :=
  if_pos hidle

theorem State.rlogWrite_cfg (hidle : s.recLogIdle) : s.rlogWrite true w =
    ((s.setFld TXN_RLOGCFG.LOG2 (TXN_RLOGCFG.LOG2.ext w)).setFld TXN_RLOGCFG.EN (TXN_RLOGCFG.EN.ext w)).setFld
      TXN_RLOGCFG.FULL (TXN_RLOGCFG.FULL.ext w) :=
  if_pos hidle

theorem State.rlogWrite_rejects (hbusy : ¬ s.recLogIdle) : s.rlogWrite cfg w = s.raise TXN_FLAG.RLOG_REJ :=
  if_neg hbusy

end

/-- Settles O36: an entry's way to its ring is read off its queue (`State.recordWrite_cons`,
`State.substLogWrite_cons`); a delivered write of a log register asks whether anything of the log is outstanding
(`State.calLogIdle`, `State.recLogIdle`). -/
theorem transactionAndSubstitutionLogsAreWritten : Obligations.TransactionAndSubstitutionLogsAreWritten := by
  refine ⟨?record, ?noRecord, ?entries, ?noEntries, ?calBase, ?calCfg, ?calBusy, ?recCfg, ?recBase, ?recBusy⟩
  case record => exact fun s r rest ha hq => State.finish_live ha (State.recordWrite_cons hq)
  case noRecord => exact fun s ha hq => State.finish_live ha (State.recordWrite_nil hq)
  case entries => exact fun s r rest ha hq => State.finish_live ha (State.substLogWrite_cons hq)
  case noEntries => exact fun s ha hq => State.finish_live ha (State.substLogWrite_nil hq)
  case calBase =>
    intro s o w h hidle
    rw [exec_logRej (cfg := false) w h, State.calLogWrite_base w hidle]
  case calCfg =>
    intro s o w h hidle
    rw [exec_logRej (cfg := true) w h, State.calLogWrite_cfg w hidle]
  case calBusy =>
    intro s o w cfg h hbusy
    rw [exec_logRej w h, State.calLogWrite_rejects w hbusy]
  case recCfg =>
    intro s o w h hidle
    rw [exec_rlogRej (cfg := true) w h, State.rlogWrite_cfg w hidle]
  case recBase =>
    intro s o w h hidle
    rw [exec_rlogRej (cfg := false) w h, State.rlogWrite_base w hidle]
  case recBusy =>
    intro s o w cfg h hbusy
    rw [exec_rlogRej w h, State.rlogWrite_rejects w hbusy]

end Sys2Proof.Machine

/-! Proofs about the life of a transaction (R159, R162 to R169): opening, rolling back and cancelling it, its arming, and
the trigger of a time mode. -/

namespace Sys2Proof.Machine

/-! ### Writes of a banked register (R159) -/

/-- A sender's write that reaches a banked register without guarded fields is delivered to its own copy. -/
theorem State.regCmd_banked {s : State} {o : Sender} {row : RegRow} {i : Nat} (w : Word)
    (h : s.reaches o row.reg = true) (hrow : regRow? (row.reg.at 0) = some (row, i, 0)) (hbank : row.reg.s1 = 2 ^ 24)
    (hplain : (row.fields.all fun f => f.acc != .rws && f.acc != .rwl) = true) :
    s.regCmd o row.reg 0 0 w = s.deliver o.origin row.reg (originNum o.origin) 0 w := by
  obtain ⟨hm, hi⟩ := (s.reaches_iff o row.reg 0).1 h
  have hnone : (row.fields.any fun f => f.acc == .rws) = false := by
    refine List.any_eq_false.2 fun f hf hrws => ?_
    have hfree := List.all_eq_true.1 hplain f hf
    simp [beq_iff_eq.1 hrws] at hfree
  unfold State.regCmd
  rw [State.sends_maySend hm]
  show (s.busWriteP o.origin (row.reg.at 0) w false).1 = _
  rw [s.busWriteP_direct o _ _ _ hrow hi (by rw [hnone, Bool.and_false]), if_pos hbank]
  exact s.directStore_plain _ _ _ _ _ _ hplain

/-! ### TXN_CMD (R159, R169) -/

section
variable {s : State} {o : Sender} (h : s.reaches o TXN_CMD = true)
include h

/-- A write of TXN_CMD acts on the sender's context. -/
theorem State.regCmd_txnCmd (w : Word) : s.regCmd o TXN_CMD 0 0 w =
    s.txnCmd (originNum o.origin) (wbit TXN_CMD.BEGIN w) (wbit TXN_CMD.ROLLBACK w) :=
  State.regCmd_banked (row := ⟨TXN_CMD, [TXN_CMD.BEGIN, TXN_CMD.ROLLBACK], 0⟩) (i := 0) w h (by decide) rfl (by decide)

theorem exec_txnBegin : exec (.txnBegin o) s = .next (s.close (s.txnCmd (originNum o.origin) true false)) := by
  have hbegin : wbit TXN_CMD.BEGIN (putFields 0 [(TXN_CMD.BEGIN, 1)]) = true := by decide
  have hroll : wbit TXN_CMD.ROLLBACK (putFields 0 [(TXN_CMD.BEGIN, 1)]) = false := by decide
  refine congrArg s.finish ((State.regCmd_txnCmd h _).trans ?_)
  rw [hbegin, hroll]

theorem exec_txnRollback : exec (.txnRollback o) s = .next (s.close (s.txnCmd (originNum o.origin) false true)) := by
  have hbegin : wbit TXN_CMD.BEGIN (putFields 0 [(TXN_CMD.ROLLBACK, 1)]) = false := by decide
  have hroll : wbit TXN_CMD.ROLLBACK (putFields 0 [(TXN_CMD.ROLLBACK, 1)]) = true := by decide
  refine congrArg s.finish ((State.regCmd_txnCmd h _).trans ?_)
  rw [hbegin, hroll]

end

section
variable {s : State} {n : Nat}

theorem State.txnCmd_opens (hopen : (s.ctx n).isOpen = false) (harm : (s.ctx n).arming = false) :
    s.txnCmd n true false = s.setCtx n { StageCtx.reset with isOpen := true } :=
  if_neg (by simp [hopen, harm])

theorem State.txnCmd_begin_rejects (hbusy : ((s.ctx n).isOpen || (s.ctx n).arming) = true) :
    s.txnCmd n true false = s.raise TXN_FLAG.CMD_SEQ :=
  if_pos hbusy

theorem State.txnCmd_drops (hopen : (s.ctx n).isOpen = true) :
    s.txnCmd n false true = (s.setCtx n StageCtx.reset).txnSync :=
  if_pos hopen

theorem State.txnCmd_rollback_rejects (hopen : (s.ctx n).isOpen = false) :
    s.txnCmd n false true = s.raise TXN_FLAG.CMD_SEQ :=
  if_neg (by simp [hopen])

end

/-! ### TXN_SLOTCMD (R169) -/

theorem slotCmd_plainAt : ∀ k : Fin 16, plainAt TXN_SLOTCMD k 0 = true := by decide

/-- TXN_SLOT_CANCEL is a write of TXN_SLOTCMD[k] with CANCEL 1. -/
theorem exec_txnSlotCancel {s : State} {o : Sender} {k : Fin 16} (h : s.reaches o TXN_SLOTCMD k = true) :
    exec (.txnSlotCancel o k) s = .next (s.close (s.txnCancel k)) := by
  have hcancel : wbit TXN_SLOTCMD.CANCEL (putFields 0 [(TXN_SLOTCMD.CANCEL, 1)]) = true := by decide
  have hdeliver : s.deliver o.origin TXN_SLOTCMD k 0 (putFields 0 [(TXN_SLOTCMD.CANCEL, 1)]) = s.txnCancel k :=
    if_pos (e := s) hcancel
  exact congrArg s.finish ((State.regCmd_reaches _ h (slotCmd_plainAt k)).trans hdeliver)

section
variable {s : State} {k : Nat}

theorem State.txnCancel_empty (h : s.slot? k = none) : s.txnCancel k = s := by
  unfold State.txnCancel
  rw [h]

variable {t : Slot} (h : s.slot? k = some t)
include h

theorem State.txnCancel_voting (hvote : t.voting = true) : s.txnCancel k = s := by
  unfold State.txnCancel
  rw [h]
  exact if_pos hvote

variable (hvote : t.voting = false)
include hvote

theorem State.txnCancel_preparing (hprep : t.prep = true) : s.txnCancel k = s.raise TXN_FLAG.CANCEL_REJ := by
  unfold State.txnCancel
  rw [h]
  exact (if_neg (by simp [hvote])).trans (if_pos hprep)

theorem State.txnCancel_aborts (hprep : t.prep = false) : s.txnCancel k = s.abortSlot k t 1 := by
  unfold State.txnCancel
  rw [h]
  exact (if_neg (by simp [hvote])).trans (if_neg (by simp [hprep]))

end

/-- Settles O33: TXN_CMD acts on the sender's own copy (`State.regCmd_banked`) by what its context holds
(`State.txnCmd_opens` and the lemmas after it), a cancel by what the slot holds (`State.txnCancel_aborts` and the lemmas
before it). -/
theorem transactionsOpenAndRollBack : Obligations.TransactionsOpenAndRollBack := by
  refine ⟨?opens, ?openTwice, ?drops, ?dropsNone, ?aborts, ?preparing, ?voting, ?empty⟩
  case opens =>
    intro s o h hopen harm
    rw [exec_txnBegin h, State.txnCmd_opens hopen harm]
  case openTwice =>
    intro s o h hbusy
    rw [exec_txnBegin h, State.txnCmd_begin_rejects hbusy]
  case drops =>
    intro s o h hopen
    rw [exec_txnRollback h, State.txnCmd_drops hopen]
  case dropsNone =>
    intro s o h hopen
    rw [exec_txnRollback h, State.txnCmd_rollback_rejects hopen]
  case aborts =>
    intro s o k t h hk hvote hprep
    rw [exec_txnSlotCancel h, State.txnCancel_aborts hk hvote hprep]
  case preparing =>
    intro s o k t h hk hvote hprep
    rw [exec_txnSlotCancel h, State.txnCancel_preparing hk hvote hprep]
  case voting =>
    intro s o k t h hk hvote
    rw [exec_txnSlotCancel h, State.txnCancel_voting hk hvote]
  case empty =>
    intro s o k h hk
    rw [exec_txnSlotCancel h, State.txnCancel_empty hk]

/-! ### The arm command (R162, Table 08-2) -/

/-- The issuer's bank after a write of TXN_ARM: MODE, GEN and DIST are stored. -/
def State.armStored (s : State) (n : Nat) (w : Word) : State :=
  ((s.setFld TXN_ARM.MODE (TXN_ARM.MODE.ext w) n).setFld TXN_ARM.GEN (TXN_ARM.GEN.ext w) n).setFld TXN_ARM.DIST
    (TXN_ARM.DIST.ext w) n

/-- The transaction that arming makes of the issuer's context, under the next sequence number. -/
def State.armSlot (s : State) (n : Nat) (w : Word) : Slot :=
  { seq := s.txn.nextSeq, mode := TXN_ARM.MODE.ext w, gen := TXN_ARM.GEN.ext w == 1, dist := TXN_ARM.DIST.ext w == 1,
    origin := n, writes := (s.ctx n).writes, target := s.reg TXN_TGT n, targetNs := s.fld TXN_TGTNS.NS n, line := none,
    nextSwath := false, prep := false, early := false, byEmpty := false, deferred := false, units := 0, logs := 0,
    issuer := true, voting := false, init := s.barId, iseq := s.txn.nextSeq, places := [], armDec := 0 }

/-- The transaction's mode is not allowed: it is reserved, or it is distributed and none of position, page mark and
network time. -/
def Slot.modeBarred (t : Slot) : Bool := 4 < t.mode || (t.dist && (t.mode == 0 || t.mode == 3))

/-- A mode in which a distributed transaction can be armed. -/
def Slot.distMode (t : Slot) : Bool := decide (t.mode = 1 ∨ t.mode = 2 ∨ t.mode = 4)

/-- A cause to abort that is known before the arming: a parity error of the store, or the transaction's doom. -/
def State.armDoom (s : State) (n : Nat) (parity : Bool) : Option Nat := if parity then some 4 else (s.ctx n).doomed

/-- Arming takes the next sequence number, empties the issuer's context and clears its result. -/
def State.armNumbered (s : State) (n : Nat) (arming : Bool) : State :=
  (((((s.txnUpd fun x => { x with nextSeq := (s.txn.nextSeq + 1) % 65536 }).setCtx n
    { StageCtx.reset with arming := arming }).txnSync).setFld TXN_RESULT.SEQ s.txn.nextSeq n).setFld TXN_RESULT.OUT
    0 n).setFld TXN_RESULT.CAUSE 0 n

/-- How the arming of `t` ends, after a cause to abort it (`bad`) that came before the arming checks. -/
def State.armEnd (s : State) (n : Nat) (t : Slot) (chips : List Nat) (bad : Option Nat) : State :=
  match bad with
  | some c => s.txnAbort n t.seq c
  | none =>
    if t.modeBarred then s.txnAbort n t.seq 5
    else if t.dist then s.dxStart t chips
    else if (s.armChecks t).2.1 ≠ 0 then (s.armChecks t).1.txnAbort n t.seq (s.armChecks t).2.1
    else (s.armChecks t).1.armDone (s.armChecks t).1.freeSlot (s.armChecks t).2.2

/-- The arming of an open transaction, the fields being stored: its context is left arming while an exchange is to run. -/
def State.armRun (s : State) (n : Nat) (t : Slot) (parity : Bool) : State :=
  (s.armNumbered n (t.dist && (s.armDoom n parity).isNone && t.distMode)).armEnd n t (s.ctx n).chips
    (s.armDoom n parity)

/-- A distributed transaction's mode is allowed when it is position, page mark or network time. -/
theorem Slot.dist_modeAllowed (t : Slot) (b : Bool) : (t.dist && b && t.distMode) = (t.dist && b && !t.modeBarred) := by
  unfold Slot.modeBarred Slot.distMode
  cases t.dist with
  | false => rfl
  | true =>
    have hmodes : (t.mode = 1 ∨ t.mode = 2 ∨ t.mode = 4) ↔ ¬ (4 < t.mode ∨ t.mode = 0 ∨ t.mode = 3) := by omega
    congr 1
    rw [Bool.eq_iff_iff]
    simpa using hmodes

theorem State.armRun_eq (s : State) (n : Nat) (t : Slot) (parity : Bool) : s.armRun n t parity =
    (s.armNumbered n (t.dist && (s.armDoom n parity).isNone && !t.modeBarred)).armEnd n t (s.ctx n).chips
      (s.armDoom n parity) := by
  unfold State.armRun
  rw [Slot.dist_modeAllowed]

/-- GO written as 1 leaves the fields that TXN_ARM stores. -/
theorem ext_ins_armGo (w : Word) : ∀ f ∈ [TXN_ARM.MODE, TXN_ARM.GEN, TXN_ARM.DIST],
    f.ext (TXN_ARM.GO.ins w 1) = f.ext w := by
  have happart : ∀ f ∈ [TXN_ARM.MODE, TXN_ARM.GEN, TXN_ARM.DIST],
      f.hi < 40 ∧ (TXN_ARM.GO.hi < f.lo ∨ f.hi < TXN_ARM.GO.lo) := by decide
  intro f hf
  obtain ⟨hhi, hdisjoint⟩ := happart f hf
  exact Fld.ext_ins_other _ _ _ _ (by decide) (by decide) hhi hdisjoint

section
variable (s : State) (n : Nat) (w : Word) (parity : Bool)

theorem State.armStored_go : s.armStored n (TXN_ARM.GO.ins w 1) = s.armStored n w := by
  unfold State.armStored
  rw [ext_ins_armGo w TXN_ARM.MODE (by simp), ext_ins_armGo w TXN_ARM.GEN (by simp),
    ext_ins_armGo w TXN_ARM.DIST (by simp)]

theorem State.armSlot_go : s.armSlot n (TXN_ARM.GO.ins w 1) = s.armSlot n w := by
  unfold State.armSlot
  rw [ext_ins_armGo w TXN_ARM.MODE (by simp), ext_ins_armGo w TXN_ARM.GEN (by simp),
    ext_ins_armGo w TXN_ARM.DIST (by simp)]

/-- A write of TXN_ARM stores the fields; with GO it asks for an open transaction, numbers it and ends its arming. -/
theorem State.txnArm_eq : s.txnArm n w parity =
    if TXN_ARM.GO.ext w = 0 then s.armStored n w
    else if !((s.armStored n w).ctx n).isOpen then (s.armStored n w).raise TXN_FLAG.CMD_SEQ
    else (s.armStored n w).armRun n ((s.armStored n w).armSlot n w) parity := rfl

theorem armGo_ne_zero : ¬ TXN_ARM.GO.ext (TXN_ARM.GO.ins w 1) = 0 := by
  rw [Fld.ext_ins_same _ _ _ (by decide) (by decide)]
  decide

theorem State.armStored_ctx : (s.armStored n w).ctx n = s.ctx n := by
  unfold State.armStored State.ctx
  rw [State.setFld_txn, State.setFld_txn, State.setFld_txn]

/-- Without an open transaction the fields are stored and the command is out of sequence. -/
theorem State.txnArm_rejects (hopen : (s.ctx n).isOpen = false) :
    s.txnArm n (TXN_ARM.GO.ins w 1) parity = (s.armStored n w).raise TXN_FLAG.CMD_SEQ := by
  have hclosed : (!((s.armStored n w).ctx n).isOpen) = true := by simp [State.armStored_ctx, hopen]
  rw [State.txnArm_eq, if_neg (armGo_ne_zero w), State.armStored_go, if_pos hclosed]

/-- An open transaction is numbered and then armed or aborted. -/
theorem State.txnArm_arms (hopen : (s.ctx n).isOpen = true) : s.txnArm n (TXN_ARM.GO.ins w 1) parity =
    (s.armStored n w).armRun n ((s.armStored n w).armSlot n w) parity := by
  have hstarted : ¬ (!((s.armStored n w).ctx n).isOpen) = true := by simp [State.armStored_ctx, hopen]
  rw [State.txnArm_eq, if_neg (armGo_ne_zero w), State.armStored_go, State.armSlot_go, if_neg hstarted]

end

/-- TXN_ARM that reaches its register is a write with GO 1, and with the parity error that the arming meets. -/
theorem exec_txnArm {s : State} {o : Sender} (w : Word) (parity : Bool) (h : s.reaches o TXN_ARM = true) :
    exec (.txnArm o w parity) s =
      .next (s.close (s.txnArm (originNum o.origin) (TXN_ARM.GO.ins w 1) parity)) := by
  obtain ⟨hm, hi⟩ := (s.reaches_iff o TXN_ARM 0).1 h
  exact congrArg s.finish ((State.sends_maySend hm _).trans (if_neg (by simp [hi])))

/-! ### The trigger of a time mode (R166, R230) -/

/-- Network time triggers nothing of the transaction: it votes, prepares, has its line or waits for a swath, is of another
mode, or its target is ahead. -/
abbrev State.untriggered (s : State) (t : Slot) : Bool :=
  t.voting || t.prep || t.line.isSome || t.nextSwath || t.mode != 4 || !s.timeReached t.target.toNat t.targetNs

section
variable {s : State} {k : Nat}

theorem State.txnTimeTrigger_empty (h : s.slot? k = none) : s.txnTimeTrigger k = s := by
  unfold State.txnTimeTrigger
  rw [h]

/-- Outside the scan interval a device in a job resolves a triggered transaction to line D + 1. -/
theorem State.trigger_resolves {t : Slot} (hquiet : s.quiet = false) (hscan : s.scanInterval = false)
    (hcal : calChange? t.seq t.writes = none) :
    s.trigger k t = s.setSlot k (some { t with line := some (lineMod (s.pos.nextDec + 1)) }) := by
  unfold State.trigger
  rw [if_neg (by simp [hquiet]), if_neg (by simp [hscan]), hcal]
  rfl

variable {t : Slot} (h : s.slot? k = some t)
include h

theorem State.txnTimeTrigger_untriggered (hnot : s.untriggered t = true) : s.txnTimeTrigger k = s := by
  unfold State.txnTimeTrigger
  rw [h]
  exact if_pos hnot

variable (hdue : s.untriggered t = false)
include hdue

theorem State.txnTimeTrigger_local (hdist : t.dist = false) : s.txnTimeTrigger k = s.trigger k t := by
  unfold State.txnTimeTrigger
  rw [h]
  exact (if_neg (Bool.eq_false_iff.1 hdue)).trans (if_neg (Bool.eq_false_iff.1 hdist))

theorem State.txnTimeTrigger_dist (hdist : t.dist = true) : s.txnTimeTrigger k = s.distTrigger k t := by
  unfold State.txnTimeTrigger
  rw [h]
  exact (if_neg (Bool.eq_false_iff.1 hdue)).trans (if_pos hdist)

end

/-- Settles O35: a write of TXN_ARM with GO 1 stores the fields, and then numbers an open transaction and ends its arming
(`State.txnArm_arms`, `State.txnArm_rejects`); a trigger is told by what the slot holds (`State.txnTimeTrigger_local`
and the lemmas beside it). -/
theorem armingNumbersAndChecksATransaction : Obligations.ArmingNumbersAndChecksATransaction := by
  refine ⟨?arms, ?rejects, ?triggers, ?exchanges, ?untriggered, ?empty, ?resolves⟩
  case arms =>
    intro s o w pe h hopen
    rw [exec_txnArm w pe h, State.txnArm_arms _ _ w pe hopen, State.armRun_eq]
    rfl
  case rejects =>
    intro s o w pe h hopen
    rw [exec_txnArm w pe h, State.txnArm_rejects _ _ w pe hopen]
    rfl
  case triggers => exact fun s k t ha h hdue hdist => State.finish_live ha (State.txnTimeTrigger_local h hdue hdist)
  case exchanges => exact fun s k t ha h hdue hdist => State.finish_live ha (State.txnTimeTrigger_dist h hdue hdist)
  case untriggered => exact fun s k t ha h hnot => State.finish_live ha (State.txnTimeTrigger_untriggered h hnot)
  case empty => exact fun s k ha h => State.finish_live ha (State.txnTimeTrigger_empty h)
  case resolves => exact fun s k t hquiet hscan hcal => State.trigger_resolves hquiet hscan hcal

end Sys2Proof.Machine

/-! Refutations about the inspection pipeline (R193, R204), each on a concrete state: publishing a frame does not make an
idle pipeline look for an input, and no reference row is written a second time. -/

namespace Sys2Proof.Machine

/-- Out of reset, the root clock locked, every rail and domain on, no block held. -/
def runningState : State :=
  ((((({ State.reset with sys := { State.reset.sys with held := false } } : State).setFld SYS_SUPSTAT.RAIL_OK 255).setFld
    SYS_PDSTAT.STATE 0xAAAAA).setReg SYS_BLKRST0 0).setReg SYS_BLKRST1 0).setFld SYS_CLKSTAT.ROOT_LOCK 1

/-! ### A frame published while its pipeline is idle (R187, R193) -/

/-- Port 7 enabled for frames of one line of 4 pixels, and pipeline 3 taking it in SINGLE mode. -/
def portOnPipe : State :=
  (((((runningState.setFld VIS_PORTCFG.EN 1 7).setFld VIS_PORTCFG.DT 0x2A 7).setFld VIS_PORTCFG.WIDTH 4 7).setFld
    VIS_PORTCFG.HEIGHT 1 7).setFld VIS_PIPECFG.EN 1 3).setFld VIS_PIPECFG.SRC_A 7 3

/-- The frame that a start on port 7 opens. -/
def openedFrame : VFrame := portOnPipe.newFrame 7 0 true false

/-- The same frame, its line received and processed and its end come. -/
def wholeFrame : VFrame := { openedFrame with rx := 1, done := 1, ended := true }

/-- The frame that comes next. -/
def nextFrame : VFrame := { openedFrame with fseq := 1 }

/-- Port 7 has a whole frame and is receiving the next one, and its pipeline serves no input. -/
def idlePipe : State :=
  (portOnPipe.setFld VIS_PORTSTAT.PSTATE 2 7).updVport 7 fun x => { x with frames := [wholeFrame, nextFrame] }

/-- PUBLISHED comes to `State.publish`. -/
theorem exec_published {s : State} (n : Fin 8) (ecc : List Nat) (lost : List (Nat × Nat)) (ha : s.awake = true) :
    exec (.published n ecc lost) s = .next (s.close (s.publish n ecc lost)) := State.finish_live ha rfl

/-- The model's publication leaves the pipeline idle: it has no step that looks for an input. -/
theorem idlePipe_published_idle :
    (idlePipe.close (idlePipe.publish (7 : Fin 8) [] [])).fld VIS_PIPESTAT.SERVE 3 = 0 := by decide +kernel

/-- Refutes O38: its clause for PUBLISHED ends with `State.serveIdle`, so that on `idlePipe` it has pipeline 3 serve the
frame that comes next (SERVE 1), where `State.publish` ends with the score of the frame and SERVE stays 0. -/
theorem not_cameraFramesAreReceivedAndPublished : ¬ Obligations.CameraFramesAreReceivedAndPublished := by
  unfold Obligations.CameraFramesAreReceivedAndPublished
  rintro ⟨-, -, -, -, -, -, -, -, -, -, -, -, -, -, -, -, -, -, -, -, -, -, -, -, -, -, -, -, -, -, -, -, -, -, hpub, -⟩
  have hserved := hpub idlePipe 7 wholeFrame [nextFrame] [] [] (by decide) (by decide) (by decide) rfl (by decide)
  rw [exec_published 7 [] [] (by decide)] at hserved
  have hserve := congrArg (·.fld VIS_PIPESTAT.SERVE 3) (Host.Outcome.next.inj hserved)
  rw [idlePipe_published_idle] at hserve
  exact absurd hserve (by decide +kernel)

/-! ### A reference row met again (R204, log entry 202) -/

/-- A row whose means are bytes takes no free value. -/
theorem foldl_refByte_bytes (c : Nat) (sums : List Nat) (h : ∀ x ∈ sums, 16 * x / c < 256) (p : State × List Byte) :
    (sums.foldl (fun a x => ((a.1.refByte (16 * x / c)).1, (a.1.refByte (16 * x / c)).2 :: a.2)) p).1 = p.1 := by
  induction sums generalizing p with
  | nil => rfl
  | cons x xs ih =>
    rw [List.foldl_cons, ih fun y hy => h y (by simp [hy])]
    unfold State.refByte
    rw [if_pos (h x (by simp))]

/-- A write to a memory that does not run yet sets NOT_READY and nothing else (R267). -/
theorem State.dramWrite_notReady {s : State} (h7 : s.pdOn 7 = true) (h4 : s.fld DRAM_STAT.STATE ≠ 4)
    (h5 : s.fld DRAM_STAT.STATE ≠ 5) (c a : Nat) (bytes : List Byte) :
    s.dramWrite c a bytes = (s.raise DRAM_FLAG.NOT_READY, false) := by
  have hgate : s.dramGate a bytes.length = .notReady := by
    unfold State.dramGate
    simp [h7, h4, h5]
  unfold State.dramWrite
  rw [hgate]
  rfl

/-- A web that has passed row 16 of a ring of 16 rows: row 0 was written, and row 16 now stands in its slot. -/
def pastRow : State :=
  ((((runningState.setFld VIS_SCCFG.EN 1).setFld VIS_SCCFG.BIN 4).setFld VIS_SCREF.LOG2 4).posUpd
    fun p => { p with fwd := 0x200000 }).scUpd fun c => { c with rows := [(0, 17)], newest := some 16 }

/-- The model does not write row 0 again: `State.refDone` knows it by the newest row too. -/
theorem pastRow_rewrite_ignored : exec (.refRowWrite 0) pastRow = .next (pastRow.close pastRow) :=
  State.finish_live_unchanged (if_pos (by decide))

/-- Refutes O39: its clause for REF_ROW_WRITE takes a row as not yet written where its slot holds another, so that on
`pastRow` it has row 0 written again and become the newest, where the model changes nothing. -/
theorem not_inspectionIsConfigured : ¬ Obligations.InspectionIsConfigured := by
  unfold Obligations.InspectionIsConfigured
  rintro ⟨-, -, -, -, -, -, -, -, -, -, -, -, -, -, -, -, hrow, -⟩
  have hzero : ∀ x ∈ SMap.range 0 pastRow.scaler.sums (65536 * 0) pastRow.scBins,
      16 * x / 2 ^ (pastRow.scBin + pastRow.scSum) < 256 := by
    rw [show pastRow.scaler.sums = [] from rfl, SMap.range_eq]
    simp
  have hwritten := hrow pastRow 0 (by decide) (by decide) (by decide) (by decide)
  dsimp only at hwritten
  rw [pastRow_rewrite_ignored, foldl_refByte_bytes _ _ hzero,
    State.dramWrite_notReady (by decide) (by decide) (by decide)] at hwritten
  have hnewest := congrArg (·.scaler.newest) (Host.Outcome.next.inj hwritten)
  exact absurd hnewest (by decide)

end Sys2Proof.Machine

/-! A refutation about beacons (R97, R223, R435), on a concrete state: the first beacon of a follower also settles the
start of a page that waited for it. -/

namespace Sys2Proof.Machine

/-- A job of one page. -/
def followJobDesc : JobDesc := ⟨1, 0, false, 0, 0, 32⟩

/-- Its page, which opens at the first line that can be decided (MARK = 0b01, R435) and has no start yet. -/
def followPage : JPage :=
  { ser := 1, jobSer := 1, job := followJobDesc, d := ⟨1, 0, true, false, 1, 0, 8, 0, 0⟩, ph := .waiting,
    start := none, known := 0, rev := false, y := 0, entry := 0, cspan := 0 }

/-- A follower of the bar's position that runs and has had no beacon, with the job in force. -/
def beforeBeacon : State :=
  (((runningState.setFld POS_CTL.SRC 2).setFld POS_STAT.STATE 1).setJobState 1).jqUpd fun q =>
    { q with job := some { ser := 1, d := followJobDesc, lastSeen := true, ports := [8] }, pages := [followPage],
             jobSer := 1, pageSer := 2 }

/-- The start of each page of the started jobs, where it is settled. -/
def State.pageStarts (s : State) : List (Option Nat) := s.jq.pages.map (·.start)

/-- The first beacon settles the page's start: `State.takeBeacon` plans the pages from the position it brings. -/
theorem beforeBeacon_starts_page : (beforeBeacon.takeBeacon 0 0 0 false 0 false).pageStarts = [some 1] := by
  decide

/-- Refutes O40: its clause for a follower's first beacon ends with `State.restartDecisions`, so that on `beforeBeacon`
the waiting page has no start yet, where the model goes on to `State.planPages` and starts it at line 1. -/
theorem not_barMessagesAreTakenAcknowledgedAndForwarded :
    ¬ Obligations.BarMessagesAreTakenAcknowledgedAndForwarded := by
  unfold Obligations.BarMessagesAreTakenAcknowledgedAndForwarded
  rintro ⟨-, -, -, -, -, -, -, -, -, -, hbeacon, -⟩
  have hstarts := congrArg State.pageStarts (hbeacon beforeBeacon 0 0 0 false 0 false)
  rw [beforeBeacon_starts_page] at hstarts
  exact absurd hstarts (by decide)

end Sys2Proof.Machine

/-! Proofs about the bar (R219, R222, R228, R232, R234 to R236): its map, its ports, its leader's beacons and its
bar-wide operations. -/

namespace Sys2Proof.Machine

/-! ### A MAP (R235, R236) -/

/-- A chip that takes part in the bar, with a MAP's leader, members and generation stored. -/
def State.mapStored (s : State) (e orig ids g : Nat) : State :=
  ((((((s.setFld BAR_PORTSTAT.UPSTREAM 1 e).setFld BAR_PORTSTAT.UPSTREAM 0 (1 - e)).setFld BAR_STAT.LEADER orig).updBar
    fun b => { b with mapSeen := true }).setFld BAR_STAT.MEMBERS ids).setFld BAR_STAT.MGEN g).raise BAR_FLAG.MAP_CHG

/-- Where a stored MAP moves the chip (Table 11-5). -/
def State.mapMoves (v : State) (ids : Nat) : State :=
  if v.bstate = 0 ∨ (v.bstate = 4 ∧ v.bar.rejoin = true) then v.sendJoin
  else if v.bstate = 2 ∧ ids.testBit v.barId = true then v.setBstate 3
  else if v.bstate = 3 ∧ ids.testBit v.barId = false ∧ v.bar.leaving = true then v.goAlone
  else v

section
variable {v : State} (ids : Nat)

theorem State.mapMoves_alone (h : v.bstate = 0) : v.mapMoves ids = v.sendJoin := if_pos (Or.inl h)

theorem State.mapMoves_joining (h : v.bstate = 2) :
    v.mapMoves ids = if ids.testBit v.barId then v.setBstate 3 else v := by
  simp [State.mapMoves, h]

theorem State.mapMoves_follow (h : v.bstate = 3) :
    v.mapMoves ids = if !ids.testBit v.barId && v.bar.leaving then v.goAlone else v := by
  simp [State.mapMoves, h]

theorem State.mapMoves_isolated (h : v.bstate = 4) : v.mapMoves ids = if v.bar.rejoin then v.sendJoin else v := by
  simp [State.mapMoves, h]

theorem State.mapMoves_stays (h0 : v.bstate ≠ 0) (h2 : v.bstate ≠ 2) (h3 : v.bstate ≠ 3) (h4 : v.bstate ≠ 4) :
    v.mapMoves ids = v := by
  simp [State.mapMoves, h0, h2, h3, h4]

end

/-- A chip that takes part in the bar stores a MAP and moves as it says: the map's registers do not tell EN. -/
theorem State.takeMap_enabled {s : State} (h : s.on BAR_CTL.EN = true) (e orig ids g : Nat) :
    s.takeMap e orig ids g = (s.mapStored e orig ids g).mapMoves ids := by
  have hother : ∀ i, BAR_CTL.at 0 ≠ BAR_PORTSTAT.at i := fun i => by
    rw [Reg.at, Reg.at]
    simp only [BAR_CTL, BAR_PORTSTAT]
    omega
  have hen : (((s.setFld BAR_PORTSTAT.UPSTREAM 1 e).setFld BAR_PORTSTAT.UPSTREAM 0 (1 - e)).setFld BAR_STAT.LEADER
      orig).on BAR_CTL.EN = true := by
    rw [← h]
    refine State.on_of_word ?_
    rw [State.word_setFld_other _ _ _ _ _ _ (by decide), State.word_setFld_other _ _ _ _ _ _ (hother _),
      State.word_setFld_other _ _ _ _ _ _ (hother _)]
  unfold State.takeMap
  refine (if_neg ?_).trans ?_
  · rw [Bool.not_eq_true, Bool.not_eq_false']
    exact hen
  · dsimp only
    split
    case h_1 hb => exact (State.mapMoves_alone ids hb).symm
    case h_2 hb => exact (State.mapMoves_joining ids hb).symm
    case h_3 hb => exact (State.mapMoves_follow ids hb).symm
    case h_4 hb => exact (State.mapMoves_isolated ids hb).symm
    case h_5 h0 h2 h3 h4 => exact (State.mapMoves_stays ids h0 h2 h3 h4).symm

/-! ### BAR_CTL (R236) -/

/-- Neither of two, as the model and the statements say it. -/
theorem not_and_not_iff {p q : Bool} : (!p && !q) = true ↔ p = false ∧ q = false := by simp

/-- Setting EN leaves the registers that tell the bar state, the ports and the role. -/
theorem State.setEn_word {s : State} (v : Nat) {a : Nat} (h : a ≠ BAR_CTL.at 0) :
    (s.setFld BAR_CTL.EN v).word a = s.word a := State.word_setFld_other _ _ _ _ _ _ h

@[simp] theorem State.setEn_bstate (s : State) (v : Nat) : (s.setFld BAR_CTL.EN v).bstate = s.bstate :=
  State.fld_of_word (State.setEn_word v (by decide))

/-- EN = 1 acts in ALONE with a port up. -/
theorem State.barEn_on (s : State) :
    s.barEn true =
      if s.bstate ≠ 0 ∨ (s.barUp 0 = false ∧ s.barUp 1 = false) then s.setFld BAR_CTL.EN 1
      else if s.on BAR_CFG.ROLE then (s.setFld BAR_CTL.EN 1).enterLead
      else if s.bar.mapSeen then (s.setFld BAR_CTL.EN 1).sendJoin
      else s.setFld BAR_CTL.EN 1 := by
  have hup : ∀ e : Fin 2, (s.setFld BAR_CTL.EN 1).barUp e = s.barUp e := fun e =>
    congrArg (· == 3) (State.fld_of_word (State.setEn_word 1 (by revert e; decide)))
  have hup0 : (s.setFld BAR_CTL.EN 1).barUp 0 = s.barUp 0 := hup 0
  have hup1 : (s.setFld BAR_CTL.EN 1).barUp 1 = s.barUp 1 := hup 1
  have hrole : (s.setFld BAR_CTL.EN 1).on BAR_CFG.ROLE = s.on BAR_CFG.ROLE :=
    State.on_of_word (State.setEn_word 1 (by decide))
  unfold State.barEn
  simp only [bit, Bool.not_true, Bool.false_eq_true, if_false, if_true, s.setEn_bstate, hup0, hup1, hrole]
  by_cases hb : s.bstate = 0
  case neg => rw [if_pos hb, if_pos (Or.inl hb)]
  case pos =>
    by_cases hdown : s.barUp 0 = false ∧ s.barUp 1 = false
    · rw [if_neg (not_not.2 hb), if_pos (not_and_not_iff.2 hdown), if_pos (Or.inr hdown)]
    · rw [if_neg (not_not.2 hb), if_neg (mt not_and_not_iff.1 hdown), if_neg (not_or.2 ⟨not_not.2 hb, hdown⟩)]
      rfl

/-- EN = 0 returns the chip to ALONE. -/
theorem State.barEn_off (s : State) :
    s.barEn false = if s.bstate = 0 then s.setFld BAR_CTL.EN 0 else (s.setFld BAR_CTL.EN 0).goAlone := by
  unfold State.barEn
  simp only [bit, Bool.not_false, Bool.false_eq_true, if_false, if_true, s.setEn_bstate]

/-- The commands of BAR_CTL. -/
theorem State.regCmd_barCtl {s : State} {o : Sender} (w : Word) (h : s.reaches o BAR_CTL = true) :
    s.regCmd o BAR_CTL 0 0 w = s.barCtlWrite w := State.regCmd_reaches w h (by decide)

/-- LEAVE is 1 whatever the word holds there. -/
theorem State.barCtlWrite_leave (s : State) (w : Word) :
    s.barCtlWrite (putFields w [(BAR_CTL.LEAVE, 1)]) =
      (s.barEn (BAR_CTL.EN.ext w == 1)).barLeave.when (BAR_CTL.REJOIN.ext w == 1) (·.rejoin) := by
  have hen : BAR_CTL.EN.ext (putFields w [(BAR_CTL.LEAVE, 1)]) = BAR_CTL.EN.ext w :=
    Fld.ext_ins_other _ _ _ _ (by decide) (by decide) (by decide) (by decide)
  have hleave : BAR_CTL.LEAVE.ext (putFields w [(BAR_CTL.LEAVE, 1)]) = 1 :=
    Fld.ext_ins_same _ _ _ (by decide) (by decide)
  have hrejoin : BAR_CTL.REJOIN.ext (putFields w [(BAR_CTL.LEAVE, 1)]) = BAR_CTL.REJOIN.ext w :=
    Fld.ext_ins_other _ _ _ _ (by decide) (by decide) (by decide) (by decide)
  unfold State.barCtlWrite wbit
  rw [hen, hleave, hrejoin]
  rfl

/-- REJOIN is 1 whatever the word holds there. -/
theorem State.barCtlWrite_rejoin (s : State) (w : Word) :
    s.barCtlWrite (putFields w [(BAR_CTL.REJOIN, 1)]) =
      ((s.barEn (BAR_CTL.EN.ext w == 1)).when (BAR_CTL.LEAVE.ext w == 1) (·.barLeave)).rejoin := by
  have hen : BAR_CTL.EN.ext (putFields w [(BAR_CTL.REJOIN, 1)]) = BAR_CTL.EN.ext w :=
    Fld.ext_ins_other _ _ _ _ (by decide) (by decide) (by decide) (by decide)
  have hleave : BAR_CTL.LEAVE.ext (putFields w [(BAR_CTL.REJOIN, 1)]) = BAR_CTL.LEAVE.ext w :=
    Fld.ext_ins_other _ _ _ _ (by decide) (by decide) (by decide) (by decide)
  have hrejoin : BAR_CTL.REJOIN.ext (putFields w [(BAR_CTL.REJOIN, 1)]) = 1 :=
    Fld.ext_ins_same _ _ _ (by decide) (by decide)
  unfold State.barCtlWrite wbit
  rw [hen, hleave, hrejoin]
  rfl

/-! ### Ports (R219, R232) -/

section
variable {s : State} {e x y n : Nat} {q : List (Nat × Nat)}

/-- A port in reset, off, up, or without both lanes locked is not aligned. -/
theorem State.barPortAlign_unchanged
    (h : (s.blkHeld (56 + e) || !s.pdOn 8 || s.barUp e || decide ((s.barLanes e).length < 2)) = true) :
    s.barPortAlign e x y q n = s := if_pos h

/-- A port that trains with both lanes locked, its lanes' offsets absorbed, its echoes sent. -/
def State.portAligned (s : State) (e x y : Nat) : State :=
  ((((((s.setFld BAR_LSTAT.SKEW x (2 * e)).setFld BAR_LSTAT.SKEW y (2 * e + 1)).setFld BAR_LSTAT.BSTATE 3
    (2 * e)).setFld BAR_LSTAT.BSTATE 3 (2 * e + 1)).updBarPort e fun _ => BarPort.reset).sendEchoes e)

section
variable (hheld : s.blkHeld (56 + e) = false) (hpd : s.pdOn 8 = true) (hup : s.barUp e = false)
  (hlanes : (s.barLanes e).length = 2)
include hheld hpd hup hlanes

theorem State.barPortAlign_due :
    ¬ (s.blkHeld (56 + e) || !s.pdOn 8 || s.barUp e || decide ((s.barLanes e).length < 2)) = true := by
  rw [hheld, hpd, hup, hlanes]
  decide

/-- An offset above 16 on a lane is an error of that lane and takes the port down. -/
theorem State.barPortAlign_skewed (hskew : 16 < x ∨ 16 < y) : s.barPortAlign e x y q n =
    ((s.when (decide (16 < x)) (·.raise BAR_LFLAG.SKEW_ERR (2 * e))).when (decide (16 < y))
      (·.raise BAR_LFLAG.SKEW_ERR (2 * e + 1))).barPortDown e := by
  unfold State.barPortAlign
  rw [if_neg (State.barPortAlign_due hheld hpd hup hlanes), if_pos hskew]

section
variable (hx : x ≤ 16) (hy : y ≤ 16)
include hx hy

/-- An aligned port measures until its exchanges are done. -/
theorem State.barPortAlign_measures (hq : q.length < 256) :
    s.barPortAlign e x y q n = (s.portAligned e x y).setFld BAR_PORTSTAT.LSTATE 2 e := by
  unfold State.barPortAlign
  rw [if_neg (State.barPortAlign_due hheld hpd hup hlanes), if_neg (by omega), if_pos hq]
  rfl

/-- An aligned port is up with the last of them, and a chip that leads from ALONE enters LEAD. -/
theorem State.barPortAlign_up (hq : 256 ≤ q.length) :
    s.barPortAlign e x y q n =
      let w := (((s.portAligned e x y).setFld BAR_PORTSTAT.LSTATE 3 e).setFld BAR_PORTSTAT.HOPDLY (hopDelay q)
        e).setFld BAR_PORTSTAT.NBR n e
      if w.bstate = 0 ∧ w.on BAR_CTL.EN ∧ w.on BAR_CFG.ROLE then w.enterLead else w := by
  unfold State.barPortAlign
  rw [if_neg (State.barPortAlign_due hheld hpd hup hlanes), if_neg (by omega), if_neg (by omega)]
  rfl

end
end
end

/-- Of 256 exchanges each counts. -/
theorem hopDelay_all {q : List (Nat × Nat)} (h : q.length = 256) :
    hopDelay q = ((q.map fun x => x.1 - x.2).foldl (· + ·) 0 + 256) / 512 := by
  unfold hopDelay
  rw [List.take_of_length_le (by omega)]

/-! ### Bar-wide operations (R234) -/

/-- What a member does with a GOP. -/
def State.gopAct (c : State) (op : BitVec 2) (l : BitVec 24) : State :=
  if c.barActive = false ∨ op = 3 then c
  else if op = 0 then c.updBar fun b => { b with snapLines := b.snapLines ++ [(l.toNat, false)] }
  else if op = 1 then c.snapshot
  else c.updBar fun b => { b with gopReset := true }

/-- A GOP is a message that a member acts on by its operation. -/
theorem State.gopMsg_eq (s : State) (e hseq orig hop : Nat) (op : BitVec 2) (l : BitVec 24) :
    s.gopMsg e hseq orig hop op.toNat l.toNat =
      s.barMsg e hseq ⟨8, orig, hop, [Word.of (op.toNat * 2 ^ 38 + l.toNat * 2 ^ 14)]⟩ (·.gopAct op l) := by
  refine congrArg (s.barMsg e hseq _) (funext fun c => ?_)
  have hop : op = 0 ∨ op = 1 ∨ op = 2 ∨ op = 3 := by revert op; decide
  unfold State.gopAct
  cases hactive : c.barActive
  case false => rfl
  case true => rcases hop with rfl | rfl | rfl | rfl <;> rfl

section
variable {s : State} {o : Sender} (h : s.reaches o BAR_GOP = true)
include h

/-- A write of BAR_GOP with GO = 1 starts its operation, or nothing while one runs. -/
theorem State.regCmd_gop {op : Nat} (hop : op < 3) :
    s.regCmd o BAR_GOP 0 0 (putFields 0 [(BAR_GOP.GO, 1), (BAR_GOP.OP, op)]) = s.gopStart op := by
  have hword : ∀ op < 3, wbit BAR_GOP.GO (putFields 0 [(BAR_GOP.GO, 1), (BAR_GOP.OP, op)]) = true ∧
      BAR_GOP.OP.ext (putFields 0 [(BAR_GOP.GO, 1), (BAR_GOP.OP, op)]) = op := by decide
  obtain ⟨hgo, hext⟩ := hword op hop
  refine (State.regCmd_reaches _ h (by decide)).trans ?_
  show (if s.on BAR_GOP.BUSY then s
    else if wbit BAR_GOP.GO _ then s.gopStart (BAR_GOP.OP.ext _) else s.store BAR_GOP 0 0 _) = _
  rw [if_pos hgo, hext]
  unfold State.gopStart
  split <;> rfl

theorem exec_snapshotAtLine : exec (.snapshotAtLine o) s = .next (s.close (s.gopStart 0)) :=
  congrArg s.finish (State.regCmd_gop h (by decide))

theorem exec_snapshotNow : exec (.snapshotNow o) s = .next (s.close (s.gopStart 1)) :=
  congrArg s.finish (State.regCmd_gop h (by decide))

theorem exec_barReset : exec (.barReset o) s = .next (s.close (s.gopStart 2)) :=
  congrArg s.finish (State.regCmd_gop h (by decide))

end

/-- While an operation runs none starts. -/
theorem State.gopStart_busy {s : State} (h : s.on BAR_GOP.BUSY = true) (op : Nat) : s.gopStart op = s := if_pos h

section
variable {s : State} (h : s.on BAR_GOP.BUSY = false)
include h

theorem State.gopStart_line : s.gopStart 0 =
    let u := s.setFld BAR_GOP.OP 0
    let m := lineMod (u.nextLine + u.commitLead)
    ((u.when u.barActive (·.flood 8 [Word.of (m * 2 ^ 14)])).setFld BAR_GOP.BUSY 1).updBar
      fun b => { b with snapLines := b.snapLines ++ [(m, true)] } := by
  unfold State.gopStart
  rw [if_neg (by rw [h]; decide)]
  simp only [if_true, Nat.zero_mul, Nat.zero_add]

theorem State.gopStart_now : s.gopStart 1 =
    let u := s.setFld BAR_GOP.OP 1
    (u.when u.barActive (·.flood 8 [Word.of (2 ^ 38)])).snapshot := by
  unfold State.gopStart
  rw [if_neg (by rw [h]; decide)]
  simp only [one_ne_zero, if_false, Nat.one_mul, Nat.zero_mul, Nat.add_zero]

theorem State.gopStart_reset : s.gopStart 2 =
    let u := s.setFld BAR_GOP.OP 2
    ((u.when u.barActive (·.flood 8 [Word.of (2 * 2 ^ 38)])).setFld BAR_GOP.BUSY 1).updBar
      fun b => { b with gopReset := true } := by
  unfold State.gopStart
  rw [if_neg (by rw [h]; decide)]
  simp only [OfNat.ofNat_ne_zero, if_false, Nat.zero_mul, Nat.add_zero]

end

/-- Settles O41: most messages are what they do by definition; a MAP is stored and then moves the chip
(`takeMap_enabled`), a write of BAR_CTL or BAR_GOP comes to its operation (`barCtlWrite_*`, `gopStart_*`), and a port is
aligned by its lanes, offsets and exchanges (`barPortAlign_*`). -/
theorem barMembershipAndOperations : Obligations.BarMembershipAndOperations := by
  refine ⟨?join, ?leave, ?breaks, ?map, ?takeMap, ?applyJoin, ?ctlEn, ?ctlLeave, ?ctlRejoin, ?enOn, ?enOff, ?leaves,
    ?rejoins, ?idDup, ?idDupOther, ?portUp, ?hopDelay, ?portMeasures, ?portSkewed, ?portUnchanged, ?portDown, ?beacon,
    ?keepalive, ?noBeacon, ?snapLine, ?snapNow, ?reset, ?busy, ?gop, ?resetApply, ?noReset, ?timeout, ?noTimeout⟩
  case join => exact fun s e hseq orig hop ha => State.finish_live ha rfl
  case leave => exact fun s e hseq orig hop ha => State.finish_live ha rfl
  case breaks => exact fun s e hseq orig hop w ha => State.finish_live ha rfl
  case map => exact fun s e hseq orig hop ids g ha => State.finish_live ha rfl
  case takeMap => exact fun s e orig ids g h => State.takeMap_enabled h e orig ids g
  case applyJoin => exact fun s id e hop => rfl
  case ctlEn => exact fun s o w h => congrArg s.finish (State.regCmd_barCtl w h)
  case ctlLeave =>
    exact fun s o w h => congrArg s.finish ((State.regCmd_barCtl _ h).trans (s.barCtlWrite_leave w))
  case ctlRejoin =>
    exact fun s o w h => congrArg s.finish ((State.regCmd_barCtl _ h).trans (s.barCtlWrite_rejoin w))
  case enOn => exact fun s => s.barEn_on
  case enOff => exact fun s => s.barEn_off
  case leaves => exact fun s => rfl
  case rejoins => exact fun s => rfl
  case idDup => exact fun s ha h => State.finish_live ha (if_pos h)
  case idDupOther => exact fun s h => State.finish_live_unchanged (if_neg h)
  case portUp =>
    exact fun s e x y q n ha hheld hpd hup hlanes hx hy hq =>
      State.finish_live ha (State.barPortAlign_up hheld hpd hup hlanes hx hy hq)
  case hopDelay => exact fun q h => hopDelay_all h
  case portMeasures =>
    exact fun s e x y q n ha hheld hpd hup hlanes hx hy hq =>
      State.finish_live ha (State.barPortAlign_measures hheld hpd hup hlanes hx hy hq)
  case portSkewed =>
    exact fun s e x y q n ha hheld hpd hup hlanes hskew =>
      State.finish_live ha (State.barPortAlign_skewed hheld hpd hup hlanes hskew)
  case portUnchanged => exact fun s e x y q n h => State.finish_live_unchanged (State.barPortAlign_unchanged h)
  case portDown =>
    intro s e h u v w x
    exact (if_neg (by omega)).trans (if_congr not_and_not_iff rfl rfl)
  case beacon => exact fun s age ha h => State.finish_live ha (if_neg (not_not.2 h))
  case keepalive => exact fun s age ha h => State.finish_live ha (if_neg (not_not.2 h))
  case noBeacon =>
    exact fun s age h => ⟨State.finish_live_unchanged (if_pos h), State.finish_live_unchanged (if_pos h)⟩
  case snapLine => exact fun s o h hfree => (exec_snapshotAtLine h).trans (by rw [State.gopStart_line hfree])
  case snapNow => exact fun s o h hfree => (exec_snapshotNow h).trans (by rw [State.gopStart_now hfree])
  case reset => exact fun s o h hfree => (exec_barReset h).trans (by rw [State.gopStart_reset hfree])
  case busy =>
    intro s o h hbusy
    rw [exec_snapshotAtLine h, exec_snapshotNow h, exec_barReset h]
    simp only [State.gopStart_busy hbusy, and_self]
  case gop => exact fun s e hseq orig hop op l ha => State.finish_live ha (s.gopMsg_eq e hseq.toNat orig hop op l)
  case resetApply => exact fun s ha h => State.finish_live ha (if_pos h)
  case noReset => exact fun s h => State.finish_live_unchanged (if_neg (by rw [h]; decide))
  case timeout =>
    intro s d ha h
    refine State.finish_live ha ?_
    unfold State.dxTimeout
    rw [h]
  case noTimeout =>
    intro s h
    refine State.finish_live_unchanged ?_
    unfold State.dxTimeout
    rw [h]

end Sys2Proof.Machine

/-! Proofs about network time and the MAC's frames (R238 to R241): the counter, TIME messages, launches and the link. -/

namespace Sys2Proof.Machine

/-! ### The counter (R238) -/

/-- A valid time of day lies below the counter's modulus. -/
theorem timeOf_lt {ns : Nat} (sec : Nat) (h : ns < 1000000000) : timeOf sec ns < 2 ^ 48 * secUnits := by
  unfold timeOf secUnits
  omega

/-- A valid time loaded is what the counter then holds. -/
theorem State.setTime_timeOf (s : State) {ns : Nat} (sec : Nat) (h : ns < 1000000000) :
    (s.setTime (timeOf sec ns)).net.time = timeOf sec ns := Nat.mod_eq_of_lt (timeOf_lt sec h)

/-- The seconds read as they were loaded, modulo their 48 bits. -/
theorem State.timeS_setTime (s : State) {ns : Nat} (sec : Nat) (h : ns < 1000000000) :
    (s.setTime (timeOf sec ns)).timeS = sec % 2 ^ 48 := by
  unfold State.timeS
  rw [s.setTime_timeOf sec h]
  unfold timeOf secUnits
  omega

/-- The nanoseconds read as they were loaded. -/
theorem State.timeNs_setTime (s : State) {ns : Nat} (sec : Nat) (h : ns < 1000000000) :
    (s.setTime (timeOf sec ns)).timeNs = ns := by
  unfold State.timeNs
  rw [s.setTime_timeOf sec h]
  unfold timeOf secUnits
  omega

/-- TIME_S_READ answers the low bits of the seconds and latches the rest. -/
theorem exec_timeSRead {s : State} {o : Sender} (h : s.reaches o ETH_TIME_S = true) :
    exec (.timeSRead o) s = .next (s.close (s.timeSRead.1.emit (.regData 0 s.timeSRead.2))) :=
  congrArg s.finish (State.regRead_special h (by decide) (by decide) rfl)

/-- TIME_S_WRITE that reaches ETH_TIME_S. -/
theorem exec_timeSWrite {s : State} {o : Sender} (w : Word) (h : s.reaches o ETH_TIME_S = true) :
    exec (.timeSWrite o w) s = .next (s.close (s.timeSWrite w)) :=
  congrArg s.finish (State.regCmd_reaches w h (by decide))

/-- TIME_NS_WRITE that reaches ETH_TIME_NS. -/
theorem exec_timeNsWrite {s : State} {o : Sender} (w : Word) (h : s.reaches o ETH_TIME_NS = true) :
    exec (.timeNsWrite o w) s = .next (s.close (s.timeNsWrite w)) :=
  congrArg s.finish (State.regCmd_reaches w h (by decide))

/-- TIME_STEP that reaches ETH_TSTEP. -/
theorem exec_timeStep {s : State} {o : Sender} (w : Word) (h : s.reaches o ETH_TSTEP = true) :
    exec (.timeStep o w) s = .next (s.close (s.timeStep w)) :=
  congrArg s.finish (State.regCmd_reaches w h (by decide))

/-! ### TIME messages (R239) -/

section
variable {s : State}

/-- The leader floods its time. -/
theorem State.timeSend_leader (h : s.bstate = 1) (age : Nat) : s.timeSend age = s.flood 13 (s.timeWords age) :=
  if_pos (beq_iff_eq.2 h)

/-- Another chip sends no time. -/
theorem State.timeSend_other (h : s.bstate ≠ 1) (age : Nat) : s.timeSend age = s :=
  if_neg (mt beq_iff_eq.1 h)

/-- The first TIME message is loaded alone. -/
theorem State.takeTime_first (h : s.bar.lastTime = none) (sec ns age : Nat) :
    s.takeTime sec ns age = (s.setTime (timeMod (timeOf sec ns + ageTime age))).updBar fun b =>
      { b with lastTime := some (timeMod (timeOf sec ns + ageTime age)) } := by
  unfold State.takeTime
  rw [h]

/-- A later one corrects the rate by the leader's interval over this chip's own, unless that is empty. -/
theorem State.takeTime_later {t0 : Nat} (h : s.bar.lastTime = some t0)
    (hown : timeMod (s.net.time + 2 ^ 48 * secUnits - t0) ≠ 0) (sec ns age : Nat) :
    s.takeTime sec ns age =
      ((s.setReg ETH_TADDEND (Word.of ((s.reg ETH_TADDEND).toNat *
        timeMod (timeMod (timeOf sec ns + ageTime age) + 2 ^ 48 * secUnits - t0) /
          timeMod (s.net.time + 2 ^ 48 * secUnits - t0)))).setTime
        (timeMod (timeOf sec ns + ageTime age))).updBar fun b =>
          { b with lastTime := some (timeMod (timeOf sec ns + ageTime age)) } := by
  unfold State.takeTime
  rw [h]
  simp only [if_neg hown]

/-! ### Frames of the MAC (R240) -/

/-- A frame whose time is past leaves at once, with LAUNCH_LATE. -/
theorem State.scheduledLaunch_late {sec ns : Nat} (hmac : s.macRuns = true) (hpast : s.timeReached sec ns = true)
    (f : List Byte) : s.scheduledLaunch sec ns f = (s.raise ETH_FLAG.LAUNCH_LATE).emit (.ethFrame f) := by
  unfold State.scheduledLaunch
  rw [hmac, if_neg (by decide), if_pos hpast]

/-- A frame whose time is to come is queued. -/
theorem State.scheduledLaunch_queued {sec ns : Nat} (hmac : s.macRuns = true) (hpast : s.timeReached sec ns = false)
    (f : List Byte) : s.scheduledLaunch sec ns f =
      { s with net := { s.net with txq := s.net.txq ++ [(timeOf sec ns, f)] } } := by
  unfold State.scheduledLaunch
  rw [hmac, if_neg (by decide), if_neg (by rw [hpast]; decide)]

section
variable (hmac : s.macRuns = false)
include hmac

/-- A MAC that does not run takes no frame. -/
theorem State.scheduledLaunch_stopped (sec ns : Nat) (f : List Byte) : s.scheduledLaunch sec ns f = s :=
  if_pos (by rw [hmac]; rfl)

theorem State.oneStepInsert_stopped (f : List Byte) : s.oneStepInsert f = s :=
  if_pos (by rw [hmac]; rfl)

end

/-- The frame that leaves is the stamped one with its check sequence. -/
theorem State.oneStepInsert_runs (hmac : s.macRuns = true) (f : List Byte) :
    s.oneStepInsert f =
      let stamp := bytesBE 6 s.timeS ++ bytesBE 4 s.timeNs
      let g := if s.on ETH_PTPCFG.UDP then putBytes (putBytes f 40 [0, 0]) 76 stamp else putBytes f 48 stamp
      s.emit (.ethFrame (g ++ fcs g)) :=
  if_neg (by rw [hmac]; decide)

/-! ### The link (R241) -/

/-- A change of the link is shown and flagged. -/
theorem State.linkChg_changes {up : Bool} (hpd : s.pdOn 9 = true) (hheld : s.blkHeld 69 = false)
    (h : s.on ETH_STAT.LINK ≠ up) :
    s.linkChg up = (s.setFld ETH_STAT.LINK (bit up)).raise ETH_FLAG.LINK_CHG :=
  if_pos (by rw [hpd, hheld, bne_iff_ne.2 h]; decide)

/-- Without a change, or with the MAC off or in reset, nothing happens. -/
theorem State.linkChg_unchanged {up : Bool}
    (h : s.pdOn 9 = false ∨ s.blkHeld 69 = true ∨ s.on ETH_STAT.LINK = up) : s.linkChg up = s := by
  refine if_neg ?_
  rcases h with hpd | hheld | hsame
  · simp [hpd]
  · simp [hheld]
  · simp [hsame]

end

/-- Settles O42: a register's command comes to the counter's own operation (`exec_time*`), a TIME message is taken by
whether one came before (`takeTime_*`), and a frame by whether the MAC runs and its time is past. -/
theorem networkTimeIsKeptAndUsed : Obligations.NetworkTimeIsKeptAndUsed := by
  refine ⟨?sRead, ?sWrite, ?nsWrite, ?load, ?step, ?send, ?silent, ?message, ?first, ?later, ?late, ?queued, ?stopped,
    ?launch, ?stamp, ?stampUdp, ?link, ?noLink⟩
  case sRead => exact fun s o h => exec_timeSRead h
  case sWrite => exact fun s o w h => exec_timeSWrite w h
  case nsWrite => exact fun s o w h => exec_timeNsWrite w h
  case load => exact fun s sec ns h => ⟨s.timeS_setTime sec h, s.timeNs_setTime sec h⟩
  case step => exact fun s o w h => exec_timeStep w h
  case send => exact fun s age ha h => State.finish_live ha (State.timeSend_leader h age)
  case silent => exact fun s age h => State.finish_live_unchanged (State.timeSend_other h age)
  case message => exact fun s e hseq orig hop w0 w1 w2 d ha => State.finish_live ha rfl
  case first => exact fun s sec ns age h => State.takeTime_first h sec ns age
  case later => exact fun s sec ns age t0 h hown => State.takeTime_later h hown sec ns age
  case late => exact fun s c n f ha hmac hpast => State.finish_live ha (State.scheduledLaunch_late hmac hpast f)
  case queued => exact fun s c n f ha hmac hpast => State.finish_live ha (State.scheduledLaunch_queued hmac hpast f)
  case stopped =>
    exact fun s c n f hmac => ⟨State.finish_live_unchanged (State.scheduledLaunch_stopped hmac _ _ f),
      State.finish_live_unchanged (State.oneStepInsert_stopped hmac f)⟩
  case launch =>
    intro s hmac u
    exact (State.launchFrames_eq hmac).trans (forIn'_emit (fun x : Nat × List Byte => Out.ethFrame x.2) _ u).symm
  case stamp =>
    intro s f ha hmac hudp
    refine State.finish_live ha ((State.oneStepInsert_runs hmac f).trans ?_)
    simp only [hudp, Bool.false_eq_true, if_false]
  case stampUdp =>
    intro s f ha hmac hudp
    refine State.finish_live ha ((State.oneStepInsert_runs hmac f).trans ?_)
    simp only [hudp, if_true]
  case link => exact fun s u ha hpd hheld h => State.finish_live ha (State.linkChg_changes hpd hheld h)
  case noLink => exact fun s u h => State.finish_live_unchanged (State.linkChg_unchanged h)

end Sys2Proof.Machine
